-- ==== Sys2Proof/Word.lean ====
section
/-! DEFINITION. The words and bytes of the RC-7 and their plainest arithmetic: a port word is 16 bits,
a payload or image byte 8 bits (R182), and quantities with a unit are natural numbers or integers. -/

namespace Sys2Proof

/-- One byte of a profile image or of a telegram payload. -/
abbrev Byte := BitVec 8

/-- One word of the record space or of a port transaction. -/
abbrev Word := BitVec 16

/-- Division rounded up, for a natural numerator. -/
def ceilDiv (a b : Nat) : Nat := (a + b - 1) / b

/-- A counter that stops at its stated upper limit (00_scope, Numbers and arithmetic). -/
def satSucc (limit n : Nat) : Nat := if n < limit then n + 1 else n

/-- A counter that wraps to 0 after its stated upper limit `modulus - 1`. -/
def wrapSucc (modulus n : Nat) : Nat := (n + 1) % modulus

/-- A Boolean as the number its flag bit holds (R182: set is 1). -/
def bitOf (b : Bool) : Nat := if b then 1 else 0

end Sys2Proof
end

