-- ==== Sys2Proof/Syntax.lean ====
section
/-! DEFINITION. The commands of the RC-7: one constructor of `Instr` per row of the table of operations
and events, with the operands the manual gives the row. The table gives no row bits, so a command is
data and has no encoding as a word. -/

namespace Sys2Proof

/-- The three master ports (chapter 9). -/
inductive Port where
  | u | l | c
  deriving DecidableEq, Repr

/-- The two cab desks, and the two cab control records with them (chapter 6). -/
inductive Desk where
  | u | l
  deriving DecidableEq, Repr

/-- The two bogies: the axle encoders and the pinion band brakes are named by them. -/
inductive Bogie where
  | upper | lower
  deriving DecidableEq, Repr

/-- The four passenger doors (5.1). -/
inductive DoorId where
  | a1 | a2 | b1 | b2
  deriving DecidableEq, Repr

/-- Why a received frame is dropped (R136). -/
inductive DropCause where
  | lengthError | crcError | noise
  deriving DecidableEq, Repr

/-- What a telegram carries beside its kind: the four flags (bit 3 is UPLINK, bits 2 to 0 the reserved
flags, 11.6), the address byte and the payload bytes in order. The length of a delivered telegram is
the number of its payload bytes. -/
structure Envelope where
  flags : BitVec 4
  addr : Byte
  payload : List Byte
  deriving DecidableEq, Repr

/-- A telegram that passed its check, as the VRL hands it to the TGH (R138). -/
structure Telegram where
  kind : BitVec 4
  env : Envelope
  deriving DecidableEq, Repr

/-- The commands: one constructor per row of the table. A port transaction carries the port it came
on and its fields as words; a telegram command carries the telegram's envelope, and stands for the
delivery of a telegram of that kind; an edge carries what its capture unit measures, a time in µs. -/
inductive Instr where
  | powerOnReset (strap : Bool)
  | encoderEdge (e : Bogie) (phaseA phaseB : Bool)
  | tooth
  | regimeTimerExpiry
  | markerRead (ident : BitVec 12) (check : BitVec 4)
  | collectionTimeout
  | oduSample
  | standstillTimerExpiry
  | positionRestore (p : Port) (arg1 arg2 : Word)
  | lpsTimerExpiry
  | profileOpen (p : Port) (version length : Word)
  | profileClose (p : Port) (version : Word)
  | profileAbort (p : Port)
  | profileActivate (p : Port) (version : Word)
  | stagingWindowWrite (p : Port) (words : List Word)
  | supervisionCycle
  | shunt (p : Port)
  | full (p : Port)
  | acknowledge (p : Port)
  | brakeReset (p : Port)
  | pressureGateEnd
  | deadTimeExpiry
  | frictionProveExpiry
  | pinionProveExpiry (b : Bogie)
  | appliedSwitchChange (b : Bogie) (applied : Bool)
  | effortFeedbackPeriod (period high : Nat)
  | feedbackTimeout
  | loopSenseOpen
  | loopSenseClose
  | holdDelayExpiry
  | stallTimerExpiry
  | lkSet (d : DoorId)
  | lkCleared (d : DoorId)
  | opSet (d : DoorId)
  | opCleared (d : DoorId)
  | edActive (d : DoorId) (active : Bool)
  | pbPressed (d : DoorId) (pressed : Bool)
  | tOpenExpiry (d : DoorId)
  | dwellExpiry (d : DoorId)
  | tWarnExpiry (d : DoorId)
  | tCloseExpiry (d : DoorId)
  | stopIntervalExpiry (d : DoorId)
  | tRevExpiry (d : DoorId)
  | isolateDoor (p : Port) (door setting : Word)
  | doorRelease (p : Port) (side : Word)
  | doorClose (p : Port) (side : Word)
  | cabControlWrite (p : Port) (words : List Word)
  | freshnessExpiry (d : Desk)
  | orphanExpiry
  | activate (p : Port)
  | deactivate (p : Port)
  | forceDeactivate (p : Port)
  | ownSlotEvent
  | transmissionEnd
  | slotWrap
  | missedBeaconTest
  | frameDropped (cause : DropCause)
  | telegramNotAdmitted (t : Telegram)
  | beacon (e : Envelope)
  | authority (e : Envelope)
  | revoke (e : Envelope)
  | restrictSet (e : Envelope)
  | restrictClear (e : Envelope)
  | emergencyCall (e : Envelope)
  | callCancel (e : Envelope)
  | profileOpenTelegram (e : Envelope)
  | profileBlock (e : Envelope)
  | profileCloseTelegram (e : Envelope)
  | profileActivateTelegram (e : Envelope)
  | text (e : Envelope)
  | textWaitExpiry
  | popText (p : Port)
  | sendText (p : Port)
  | setPointer (p : Port) (addr : Word)
  | read (p : Port) (count : Word)
  | write (p : Port) (words : List Word)
  | readStatus (p : Port)
  | clearNotices (p : Port) (mask : Word)
  | setEnables (p : Port) (mask : Word)
  | transactionFramingError (p : Port) (bytes : List Byte)
  | unknownRequest (p : Port) (code arg1 arg2 : Word)
  | parameterWrite (p : Port) (words : List Word)
  | freeze (p : Port)
  | carRestart (p : Port)
  | markerEdgeCapture (level : Bool) (time : Nat)
  | comparatorEdge (time : Nat)
  | receiveBitClockEvent
  | transmitBitClockEvent
  | pressureSensorPulse
  deriving DecidableEq, Repr

end Sys2Proof
end

