-- ==== Sys2Proof/Config.lean ====
section
/-! DEFINITION. What is fixed for one part: the fixed times of the manual, and the free values. A free
value is an opaque constant without a body: nothing in Lean can evaluate it, so a claim about the model
holds whatever it is. -/

namespace Sys2Proof.Config

/-- The sample period of the ODU, the LPS timer and the SSU cycle: 50 ms, in µs (1.3, R27, 3.3). -/
def tick50 : Nat := 50000

/-- The pressure gate of R68: 100 ms, in µs. -/
def gateTime : Nat := 100000

/-- The regime timer of R2: 2 s, in µs. -/
def regimeTime : Nat := 2000000

/-- The burst gap of R3, in µs. -/
def burstGap : Nat := 1000

/-- The collection timeout of R3, in µs. -/
def collectionTime : Nat := 2000

/-- The stall timer of R82: 5 s, in µs. -/
def stallTime : Nat := 5000000

/-- The stop interval of a reversal (chapter 5): 100 ms, in µs. -/
def stopTime : Nat := 100000

/-- The time without a rising edge after which the effort feedback is invalid (R76), in µs. -/
def feedbackTime : Nat := 1100

/-- The fixed PWM period of the electric brake and traction outputs (R75), in µs. -/
def pwmPeriod : Nat := 1000

/-- The greatest position of the line in µm (R10). -/
def maxUm : Nat := 12000000000

/-- FREE VALUE (log entry 3). The order in which timers that fall due at the same microsecond are
taken: the manual says that either order may occur. Applied to the time and to the timer's number, it
gives the key the timer is sorted by. -/
opaque tieKey : Nat → Nat → Nat

/-- FREE VALUE (log entry 9). The kind code of a window piece that lies above the line end, where no
segment holds it; the manual states no kind there. Applied to the position of its lower end. -/
opaque offLineKind : Nat → Fin 4

/-- FREE VALUE (log entry 9). 250 more than the gradient of such a piece. -/
opaque offLineGradient : Nat → Fin 501

/-- FREE VALUE (log entry 9). The ceiling of such a piece. -/
opaque offLineCeiling : Nat → Fin 1501

end Sys2Proof.Config
end

