-- ==== Sys2Proof/Machine/Params.lean ====
section
/-! DEFINITION. The parameter set: the 61 parameters of the table of section 10.1 in its order, each
with its range and its default, and the places of the parameter area (11.3). -/

namespace Sys2Proof.Machine

/-- The parameters of section 10.1, in the table's order. -/
inductive Param where
  /-- k_upper (R1). -/
  | kUpper
  /-- k_lower (R1). -/
  | kLower
  /-- p_rack (R2). -/
  | pRack
  /-- d_ant (R18). -/
  | dAnt
  /-- short_min (R3). -/
  | shortMin
  /-- short_max (R3). -/
  | shortMax
  /-- long_min (R3). -/
  | longMin
  /-- long_max (R3). -/
  | longMax
  /-- e_axle (R9). -/
  | eAxle
  /-- e_slip (R9). -/
  | eSlip
  /-- e_tooth (R9). -/
  | eTooth
  /-- U_max (R10). -/
  | uMax
  /-- tol_dis (R11). -/
  | tolDis
  /-- T_still (R16). -/
  | tStill
  /-- L_car (R48). -/
  | lCar
  /-- L_ahead (R49). -/
  | lAhead
  /-- A_rack (R50). -/
  | aRack
  /-- A_adh (R50). -/
  | aAdh
  /-- T_b (R53). -/
  | tB
  /-- M_sb (R54). -/
  | mSb
  /-- M_eb (R54). -/
  | mEb
  /-- V_shunt (R48). -/
  | vShunt
  /-- V_rloss (R48). -/
  | vRloss
  /-- V_rentry (R48). -/
  | vRentry
  /-- P_hold (R67). -/
  | pHold
  /-- P_fs (R67). -/
  | pFs
  /-- P_em (R67). -/
  | pEm
  /-- band (R69). -/
  | band
  /-- T_dead (R70). -/
  | tDead
  /-- T_fprove (R71). -/
  | tFprove
  /-- T_pprove (R73). -/
  | tPprove
  /-- T_hold (R81). -/
  | tHold
  /-- H (R83). -/
  | hFactor
  /-- R_max (R86). -/
  | rMax
  /-- T_open (R94). -/
  | tOpen
  /-- T_warn (R96). -/
  | tWarn
  /-- T_close (R97). -/
  | tClose
  /-- T_rev (R98). -/
  | tRev
  /-- T_dwell (R95). -/
  | tDwell
  /-- auto_open (R93). -/
  | autoOpen
  /-- T_pwm (R91). -/
  | tPwm
  /-- D_open (R90). -/
  | dOpen
  /-- D_close (R90). -/
  | dClose
  /-- T_fresh (R113). -/
  | tFresh
  /-- T_orphan (R121). -/
  | tOrphan
  /-- T_bit (R125). -/
  | tBit
  /-- W_mark_hi (R126). -/
  | wMarkHi
  /-- W_mark_lo (R126). -/
  | wMarkLo
  /-- W_space_hi (R126). -/
  | wSpaceHi
  /-- W_space_lo (R126). -/
  | wSpaceLo
  /-- mark_lo (R131). -/
  | markLo
  /-- mark_hi (R131). -/
  | markHi
  /-- space_lo (R131). -/
  | spaceLo
  /-- space_hi (R131). -/
  | spaceHi
  /-- N_coast (R140). -/
  | nCoast
  /-- car address (R127). -/
  | carAddress
  /-- N_loss (R153). -/
  | nLoss
  /-- N_stop (R153). -/
  | nStop
  /-- N_shadow (R153). -/
  | nShadow
  /-- Q_trig (R158). -/
  | qTrig
  /-- T_text (R158). -/
  | tText
  deriving DecidableEq, Repr

/-- The parameter's number n, counted from 0 (11.3). -/
def Param.idx : Param → Fin 61
  | .kUpper => 0
  | .kLower => 1
  | .pRack => 2
  | .dAnt => 3
  | .shortMin => 4
  | .shortMax => 5
  | .longMin => 6
  | .longMax => 7
  | .eAxle => 8
  | .eSlip => 9
  | .eTooth => 10
  | .uMax => 11
  | .tolDis => 12
  | .tStill => 13
  | .lCar => 14
  | .lAhead => 15
  | .aRack => 16
  | .aAdh => 17
  | .tB => 18
  | .mSb => 19
  | .mEb => 20
  | .vShunt => 21
  | .vRloss => 22
  | .vRentry => 23
  | .pHold => 24
  | .pFs => 25
  | .pEm => 26
  | .band => 27
  | .tDead => 28
  | .tFprove => 29
  | .tPprove => 30
  | .tHold => 31
  | .hFactor => 32
  | .rMax => 33
  | .tOpen => 34
  | .tWarn => 35
  | .tClose => 36
  | .tRev => 37
  | .tDwell => 38
  | .autoOpen => 39
  | .tPwm => 40
  | .dOpen => 41
  | .dClose => 42
  | .tFresh => 43
  | .tOrphan => 44
  | .tBit => 45
  | .wMarkHi => 46
  | .wMarkLo => 47
  | .wSpaceHi => 48
  | .wSpaceLo => 49
  | .markLo => 50
  | .markHi => 51
  | .spaceLo => 52
  | .spaceHi => 53
  | .nCoast => 54
  | .carAddress => 55
  | .nLoss => 56
  | .nStop => 57
  | .nShadow => 58
  | .qTrig => 59
  | .tText => 60

/-- The least value of the range of section 10.1. The car address is held as 0 (unset) to 12: a written 0 is
stored as 0 without a clamped flag (R174). -/
def Param.least : Param → Nat
  | .kUpper => 500
  | .kLower => 500
  | .pRack => 50000
  | .dAnt => 0
  | .shortMin => 10
  | .shortMax => 10
  | .longMin => 10
  | .longMax => 10
  | .eAxle => 1
  | .eSlip => 1
  | .eTooth => 1
  | .uMax => 50
  | .tolDis => 10
  | .tStill => 200
  | .lCar => 60
  | .lAhead => 500
  | .aRack => 20
  | .aAdh => 20
  | .tB => 0
  | .mSb => 0
  | .mEb => 0
  | .vShunt => 10
  | .vRloss => 10
  | .vRentry => 10
  | .pHold => 50
  | .pFs => 100
  | .pEm => 100
  | .band => 5
  | .tDead => 20
  | .tFprove => 500
  | .tPprove => 200
  | .tHold => 0
  | .hFactor => 0
  | .rMax => 1
  | .tOpen => 1000
  | .tWarn => 500
  | .tClose => 1000
  | .tRev => 500
  | .tDwell => 0
  | .autoOpen => 0
  | .tPwm => 20
  | .dOpen => 20
  | .dClose => 20
  | .tFresh => 100
  | .tOrphan => 1000
  | .tBit => 380
  | .wMarkHi => 100
  | .wMarkLo => 100
  | .wSpaceHi => 100
  | .wSpaceLo => 100
  | .markLo => 50
  | .markHi => 50
  | .spaceLo => 50
  | .spaceHi => 50
  | .nCoast => 1
  | .carAddress => 0
  | .nLoss => 1
  | .nStop => 2
  | .nShadow => 2
  | .qTrig => 1
  | .tText => 100

/-- The greatest value of the range of section 10.1. -/
def Param.greatest : Param → Nat
  | .kUpper => 20000
  | .kLower => 20000
  | .pRack => 200000
  | .dAnt => 300
  | .shortMin => 1000
  | .shortMax => 1000
  | .longMin => 1000
  | .longMax => 1000
  | .eAxle => 100
  | .eSlip => 200
  | .eTooth => 20
  | .uMax => 2000
  | .tolDis => 300
  | .tStill => 3000
  | .lCar => 400
  | .lAhead => 4000
  | .aRack => 400
  | .aAdh => 400
  | .tB => 100
  | .mSb => 200
  | .mEb => 400
  | .vShunt => 500
  | .vRloss => 1500
  | .vRentry => 1500
  | .pHold => 600
  | .pFs => 800
  | .pEm => 1000
  | .band => 100
  | .tDead => 200
  | .tFprove => 5000
  | .tPprove => 3000
  | .tHold => 3000
  | .hFactor => 100
  | .rMax => 20
  | .tOpen => 10000
  | .tWarn => 5000
  | .tClose => 10000
  | .tRev => 5000
  | .tDwell => 60000
  | .autoOpen => 1
  | .tPwm => 200
  | .dOpen => 100
  | .dClose => 100
  | .tFresh => 1000
  | .tOrphan => 60000
  | .tBit => 460
  | .wMarkHi => 500
  | .wMarkLo => 500
  | .wSpaceHi => 500
  | .wSpaceLo => 500
  | .markLo => 1000
  | .markHi => 1000
  | .spaceLo => 1000
  | .spaceHi => 1000
  | .nCoast => 15
  | .carAddress => 12
  | .nLoss => 60
  | .nStop => 120
  | .nShadow => 240
  | .qTrig => 8
  | .tText => 10000

/-- The default of section 10.1, taken at power-on reset (R173). -/
def Param.default : Param → Nat
  | .kUpper => 2400
  | .kLower => 2400
  | .pRack => 100000
  | .dAnt => 40
  | .shortMin => 40
  | .shortMax => 80
  | .longMin => 120
  | .longMax => 200
  | .eAxle => 20
  | .eSlip => 80
  | .eTooth => 5
  | .uMax => 500
  | .tolDis => 60
  | .tStill => 1000
  | .lCar => 160
  | .lAhead => 4000
  | .aRack => 270
  | .aAdh => 90
  | .tB => 15
  | .mSb => 56
  | .mEb => 111
  | .vShunt => 139
  | .vRloss => 167
  | .vRentry => 250
  | .pHold => 180
  | .pFs => 380
  | .pEm => 450
  | .band => 15
  | .tDead => 60
  | .tFprove => 1500
  | .tPprove => 800
  | .tHold => 500
  | .hFactor => 80
  | .rMax => 3
  | .tOpen => 4000
  | .tWarn => 2000
  | .tClose => 5000
  | .tRev => 1500
  | .tDwell => 0
  | .autoOpen => 0
  | .tPwm => 50
  | .dOpen => 70
  | .dClose => 60
  | .tFresh => 300
  | .tOrphan => 5000
  | .tBit => 417
  | .wMarkHi => 333
  | .wMarkLo => 333
  | .wSpaceHi => 200
  | .wSpaceLo => 200
  | .markLo => 290
  | .markHi => 380
  | .spaceLo => 170
  | .spaceHi => 230
  | .nCoast => 3
  | .carAddress => 0
  | .nLoss => 6
  | .nStop => 24
  | .nShadow => 60
  | .qTrig => 1
  | .tText => 2000

/-- Every parameter, in the table's order. -/
def Param.all : List Param :=
  [.kUpper, .kLower, .pRack, .dAnt, .shortMin, .shortMax, .longMin, .longMax, .eAxle, .eSlip,
    .eTooth, .uMax, .tolDis, .tStill, .lCar, .lAhead, .aRack, .aAdh, .tB, .mSb] ++
  [.mEb, .vShunt, .vRloss, .vRentry, .pHold, .pFs, .pEm, .band, .tDead, .tFprove, .tPprove,
    .tHold, .hFactor, .rMax, .tOpen, .tWarn, .tClose, .tRev, .tDwell, .autoOpen, .tPwm] ++
  [.dOpen, .dClose, .tFresh, .tOrphan, .tBit, .wMarkHi, .wMarkLo, .wSpaceHi, .wSpaceLo,
    .markLo, .markHi, .spaceLo, .spaceHi, .nCoast, .carAddress, .nLoss, .nStop, .nShadow,
    .qTrig, .tText]

/-- The parameter set after power-on reset: every parameter at its default (R173, R181). -/
def Param.defaults : Vector Nat 61 := Vector.ofFn fun i => ((Param.all.map Param.default).getD i.val 0)

/-- The parameter a word of the parameter area belongs to, and whether it is the high word of a field
of two words: each parameter takes one word, except p_rack, which takes two (11.3). The word is
counted from the area's first word. -/
def Param.ofWord (w : Nat) : Option (Param × Bool) :=
  if w < 2 then (Param.all[w]?).map fun p => (p, false)
  else if w = 2 then some (.pRack, true)
  else if w = 3 then some (.pRack, false)
  else (Param.all[w - 1]?).map fun p => (p, false)

/-- A value brought to the nearest limit of its range (R174). -/
def Param.clamp (p : Param) (v : Nat) : Nat :=
  if v < p.least then p.least else if p.greatest < v then p.greatest else v

/-- R174: the clamped flag is set when the value lies outside the range. -/
def Param.isClamped (p : Param) (v : Nat) : Bool := v < p.least || p.greatest < v

end Sys2Proof.Machine
end

