-- ==== Sys2Proof/Machine/State.lean ====
section
/-! DEFINITION. The state of the RC-7 as plain data: one structure per block of 00_scope, each holding
the records and the input and output levels the block owns, the part's own clock, and the queue of
commands that are waiting. Fields that the manual derives from others at every moment (the exposed
position bounds, the loop driver, the interrupt lines, the sounder, the traction gate) are functions of
this data in the files after it. -/

namespace Sys2Proof.Machine

/-- A running timer is the µs of the part's clock at which it expires; `none` is a stopped timer. -/
abbrev Timer := Option Nat

/-- A profile bank's bytes by address, in canonical form: addresses rise strictly and no listed byte
is 0, which is what an unlisted address reads as (log entry 5). -/
abbrev Memory := List Host.Cell

/-! ## Odometry Unit -/

/-- A direction of travel: UP is increasing position (00_scope). The selected direction is an
`Option Dir`, with `none` for NONE. -/
inductive Dir where
  | up | down
  deriving DecidableEq, Repr

/-- The health of a distance source (chapter 1). -/
inductive Health where
  | ok | suspect | isolated
  deriving DecidableEq, Repr

/-- The causes of invalidity (1.3). -/
inductive Cause where
  | noFix | width | sourcesLost | markerConflict
  deriving DecidableEq, Repr

/-- The position state; the cause of invalidity is present in INVALID alone (1.3, 1.8). -/
inductive Position where
  | valid
  | restored
  | invalid (cause : Cause)
  deriving DecidableEq, Repr

/-- The motion state (R16). -/
inductive Motion where
  | standstill | movingUp | movingDown
  deriving DecidableEq, Repr

/-- The regime (R6). -/
inductive Regime where
  | rack | adhesion
  deriving DecidableEq, Repr

/-- The marker reader's state (R3). -/
inductive ReaderState where
  | idle | collecting | discarding
  deriving DecidableEq, Repr

/-- What each distance source keeps: health with its two runs (R12), the sample and interval sums in µm,
the last 20 sample sums since the last clearing (R11), the last 4 since the last reset (R15), newest
first, and the leaving sum in counts or teeth (R16). -/
structure Source where
  health : Health
  sampleSum : Int
  intervalSum : Int
  window : List Int
  last4 : List Int
  inTol : Nat
  suspectRun : Nat
  leaving : Int
  deriving DecidableEq, Repr

/-- An axle encoder: its phase inputs, the direction of its latest count, and its illegal transitions
as a count, as the tally of this sample and as the tallies of the last 20 samples (R1, R14). -/
structure Encoder where
  src : Source
  phaseA : Bool
  phaseB : Bool
  latest : Option Dir
  illegalCount : Nat
  illegalTally : Nat
  illegalHist : List Nat
  deriving DecidableEq, Repr

/-- The rack tooth sensor: beside its source, the undirected tally in µm since the last interval
update (R2, R9), that of this sample, and those of the last 4 samples (R15). -/
structure ToothSensor where
  src : Source
  undirInterval : Nat
  undirSample : Nat
  undir4 : List Nat
  deriving DecidableEq, Repr

/-- The marker reader: its state, the held bits in order of arrival, the level noted at the last
capture, the times of the last rising and falling edges, and the collection timeout (R3). -/
structure Reader where
  state : ReaderState
  bits : List Bool
  level : Option Bool
  lastRise : Option Nat
  lastFall : Option Nat
  timeout : Timer
  deriving DecidableEq, Repr

/-- The used sources recorded at a sample expiry (R7). -/
structure Used where
  upper : Bool
  lower : Bool
  tooth : Bool
  deriving DecidableEq, Repr

/-- The Odometry Unit: the motion record of 1.8 and what lies behind it. `lo` and `hi` are the
internal bounds in µm; `distHalf` is the distance since the last marker in halves of a µm (a midpoint
may move by half a µm); `midSum` and `mid4` are twice the midpoint changes of R16 in this sample and in
the last 4; `rollback` is the internal sum of R17 in µm. -/
structure Odu where
  pos : Position
  lo : Nat
  hi : Nat
  speed : Nat
  overrange : Bool
  motion : Motion
  regime : Regime
  slip : Bool
  lastMarker : Option Nat
  distHalf : Nat
  upper : Encoder
  lower : Encoder
  tooth : ToothSensor
  lastCounted : Option Bogie
  used : Used
  midSum : Int
  mid4 : List Int
  unknownMarkers : Nat
  invalidReads : Nat
  overrun : Bool
  rollback : Nat
  reader : Reader
  sampleTimer : Nat
  regimeTimer : Timer
  standTimer : Timer
  deriving DecidableEq, Repr

/-! ## Line Profile Store -/

/-- A bank's role (R23). -/
inductive Role where
  | active | standby | none
  deriving DecidableEq, Repr

/-- A bank's state (R23). -/
inductive BankState where
  | empty | opened | closed | checked | failed
  deriving DecidableEq, Repr

/-- The check result of a bank: PASSED, the failures of R26 in the order of its table, and
MISSING_BLOCKS (R31). -/
inductive CheckResult where
  | passed | countLength | headerMismatch | firstStart | segmentOrder | lineEnd | shortSegment
  | fieldRange | flagBits | rackEntry | markerIdentity | markerDuplicate | markerOrder | crc
  | missingBlocks
  deriving DecidableEq, Repr

/-- The header fields a bank status record shows while the bank is CHECKED (2.2). -/
structure Header where
  lineId : Nat
  lineEnd : Nat
  nSegments : Nat
  nMarkers : Nat
  check : BitVec 32
  deriving DecidableEq, Repr

/-- One profile bank: role, state, the stored bytes, and the fields of its status record (2.2). -/
structure Bank where
  role : Role
  state : BankState
  image : Memory
  length : Option Nat
  version : Option Nat
  header : Option Header
  result : Option CheckResult
  deriving DecidableEq, Repr

/-- The two banks. -/
inductive BankId where
  | x | y
  deriving DecidableEq, Repr

/-- A writer of the standby bank, and a source of an activation (2.4, R23). -/
inductive Writer where
  | portC | radio
  deriving DecidableEq, Repr

/-- A held claim: its holder and what was declared at the open (2.4). -/
structure Claim where
  holder : Writer
  length : Nat
  version : Nat
  deriving DecidableEq, Repr

/-- The staging window's five words (R29). -/
structure Staging where
  offset : Word
  d0 : Word
  d1 : Word
  d2 : Word
  d3 : Word
  deriving DecidableEq, Repr

/-- The Line Profile Store: the banks, the claim (absent when the holder is NONE), the close check value
(absent from an open until the close, and kept when the claim is released: R28, R31; log entry 22), the
block-received map, the rejected-block count, the pending activation, the staging window, the running
check of a CLOSED bank, the scrub, and the 50 ms timer (chapter 2). -/
structure Lps where
  x : Bank
  y : Bank
  claim : Option Claim
  closeCheck : Option (BitVec 32)
  blockMap : BitVec 134
  rejected : Nat
  pendingAct : Option (Nat × Writer)
  staging : Staging
  checkPos : Nat
  checkCrc : BitVec 32
  scrubPos : Nat
  scrubCrc : BitVec 32
  passes : Nat
  timer : Nat
  deriving DecidableEq, Repr

/-! ## Speed Supervision Unit -/

/-- The supervision mode (3.1). -/
inductive Mode where
  | none | shunt | full
  deriving DecidableEq, Repr

/-- The supervision status (R56). -/
inductive Status where
  | normal | warning | service | emergency
  deriving DecidableEq, Repr

/-- The direction a restriction applies to (3.2). -/
inductive Applies where
  | both | up | down
  deriving DecidableEq, Repr

/-- One entry of the restriction list (3.2); `first` and `last` are its start and end in dm. -/
structure Restriction where
  ident : Nat
  first : Nat
  last : Nat
  speed : Nat
  applies : Applies
  deriving DecidableEq, Repr

/-- The kind of a segment (2.1). -/
inductive SegKind where
  | adhesion | rack | rackEntry | depot
  deriving DecidableEq, Repr

/-- One piece of the look-ahead window (R49). -/
structure Piece where
  near : Nat
  length : Nat
  kind : SegKind
  gradient : Int
  decel : Nat
  ceiling : Nat
  deriving DecidableEq, Repr

/-- The authority side (R59); absent is `none` of an `Option`. -/
inductive Side where
  | ahead | beyond
  deriving DecidableEq, Repr

/-- The three curve values, in cm²/s² (R55). -/
structure Curves where
  perm : Nat
  sb : Nat
  eb : Nat
  deriving DecidableEq, Repr

/-- The FULL prerequisites as shown: true is met (R42). -/
structure Prereqs where
  profile : Bool
  position : Bool
  authority : Bool
  deriving DecidableEq, Repr

/-- The Speed Supervision Unit: the supervision record of 3.5, the restriction list with its cap and
count, the steep-notice mark and the cycle timer. -/
structure Ssu where
  mode : Mode
  status : Status
  overrun : Bool
  warning : Bool
  prereqs : Option Prereqs
  dir : Option Dir
  front : Option Nat
  mrsp : Option Nat
  buildUp : Option Nat
  curves : Option Curves
  governing : Option (Int × Nat)
  window : List Piece
  horizon : Option Int
  truncated : Bool
  steep : Bool
  steepMark : Bool
  authSide : Option Side
  flushCount : Nat
  restrictions : List Restriction
  cap : Option Nat
  malformed : Nat
  timer : Nat
  deriving DecidableEq, Repr

/-! ## Brake Manager -/

/-- The brake levels (R64). -/
inductive Level where
  | none | hold
  | service (p : Nat)
  | fullService | emergency
  deriving DecidableEq, Repr

/-- The reason codes of the brake demand table, in the order of 11.3. -/
inductive Reason where
  | handle | handleEmergency | cabStale | serviceCurve | emergencyCurve | overrun | doorsNotClosed
  | doorInMotion | callService | linkStop | callEmergency | rollback | positionLost | loopOpen
  | standing | noDesk
  deriving DecidableEq, Repr

/-- The rows of the brake demand table, in the order of R63. -/
inductive RowId where
  | cab | supervision | doors | radio | odometry | loop | hold
  deriving DecidableEq, Repr

/-- One row: its level (with the percentage of SERVICE) and its reason, absent at NONE (R63). -/
structure Row where
  level : Level
  reason : Option Reason
  deriving DecidableEq, Repr

/-- The brake demand table (R63). -/
structure Rows where
  cab : Row
  supervision : Row
  doors : Row
  radio : Row
  odometry : Row
  loop : Row
  hold : Row
  deriving DecidableEq, Repr

/-- What set the emergency latch (R65). -/
inductive LatchCause where
  | row (r : RowId)
  | pinionApply
  | reset
  deriving DecidableEq, Repr

/-- The valve state (4.3). -/
inductive Valve where
  | apply | lap | release
  deriving DecidableEq, Repr

/-- A valve state other than LAP: the last open state and the waiting choice (R70). -/
inductive OpenValve where
  | apply | release
  deriving DecidableEq, Repr

/-- The pinion command (R72). -/
inductive PinionCmd where
  | applied | released
  deriving DecidableEq, Repr

/-- The kinds of PINION_FAULT (R73). -/
inductive PinionFault where
  | failApply | failRelease
  deriving DecidableEq, Repr

/-- One band brake: its applied switch, its proving timer and its fault (R73). -/
structure Band where
  applied : Bool
  prove : Timer
  fault : Option PinionFault
  deriving DecidableEq, Repr

/-- The departure state (4.7). -/
inductive Departure where
  | idle | pulling | stalled | released
  deriving DecidableEq, Repr

/-- A PWM output: the duty latched for the next period, the duty being driven, and the end of the
period in progress (R75, R78). -/
structure Pwm where
  latched : Nat
  driven : Nat
  next : Nat
  deriving DecidableEq, Repr

/-- What the finding "holding proven" is made from, beside the parameters (R74). -/
structure HoldInputs where
  regime : Regime
  command : PinionCmd
  upper : Bool
  lower : Bool
  measured : Option Nat
  deriving DecidableEq, Repr

/-- What the proving condition is made from, beside the parameters (R71). -/
structure ProveInputs where
  target : Nat
  loopForced : Bool
  sensorFault : Bool
  measured : Option Nat
  deriving DecidableEq, Repr

/-- The Brake Manager: the brake demand table and the brake record of 4.9. `energised` is the level of
both pinion release outputs, `senseOpen` the loop sense input, `proving` whether the proving condition
of R71 holds, `holdElapsed` whether T_hold has elapsed since the entry into STANDSTILL (R81). The model's
own `holdSeen` and `proveSeen` are what the two findings were last made from: R74 and R71 make them afresh
at a change of one of these, and not where a parameter is written (R173, log entry 23). -/
structure Brm where
  rows : Rows
  level : Level
  latch : Option LatchCause
  target : Nat
  measured : Option Nat
  sensorFault : Bool
  frictionFault : Bool
  pulses : Nat
  valve : Valve
  lastOpen : Option OpenValve
  waiting : Option OpenValve
  deadTimer : Timer
  proving : Bool
  proveTimer : Timer
  pinion : PinionCmd
  energised : Bool
  upper : Band
  lower : Band
  holding : Bool
  holdSeen : HoldInputs
  proveSeen : ProveInputs
  ebrake : Pwm
  traction : Pwm
  effort : Int
  effortValid : Bool
  feedbackTimer : Timer
  senseOpen : Bool
  loopForced : Bool
  departure : Departure
  required : Nat
  stallTimer : Timer
  holdElapsed : Bool
  holdTimer : Timer
  gateTimer : Nat
  deriving DecidableEq, Repr

/-! ## Door Controller -/

/-- The phase of a reversal (R98). -/
inductive Phase where
  | stop | drive
  deriving DecidableEq, Repr

/-- The fault reasons of a door (R100). -/
inductive DoorFault where
  | openTimeout | reversalLimit | lockLost | switchConflict
  deriving DecidableEq, Repr

/-- The door states; the phase and the fault reason are present in their state alone (5.2). -/
inductive DoorState where
  | locked | released | opening | opened | warning | closing
  | reversing (phase : Phase)
  | fault (reason : DoorFault)
  | isolated
  deriving DecidableEq, Repr

/-- Which of a door's timers runs (5.2). -/
inductive DoorTimer where
  | tOpen | dwell | tWarn | tClose | stopInterval | tRev
  deriving DecidableEq, Repr

/-- The direction of a door motor (5.1). -/
inductive MotorDir where
  | opens | closes
  deriving DecidableEq, Repr

/-- A door motor's PWM output: duty and direction as latched and as driven (R91). -/
structure Motor where
  latched : Nat
  driven : Nat
  latchedDir : MotorDir
  drivenDir : MotorDir
  next : Nat
  deriving DecidableEq, Repr

/-- One door record (5.2): `lk`, `op`, `ed` and `pb` are the inputs as last read. -/
structure Door where
  state : DoorState
  reversals : Nat
  timer : Option (DoorTimer × Nat)
  lk : Bool
  op : Bool
  ed : Bool
  pb : Bool
  motor : Motor
  deriving DecidableEq, Repr

/-- The two sides of the car. -/
inductive CarSide where
  | a | b
  deriving DecidableEq, Repr

/-- The grant conditions of a side release, in the order of R104. -/
inductive GrantCond where
  | standstill | holding | position | platform | holdDoors
  deriving DecidableEq, Repr

/-- The causes of a withdrawal (R106, R108). -/
inductive WithdrawCause where
  | cond (c : GrantCond)
  | close
  | desk
  deriving DecidableEq, Repr

/-- A side release record: GRANTED by a desk, or WITHDRAWN (5.7). -/
structure SideRelease where
  granted : Option Desk
  cause : Option WithdrawCause
  refused : Option GrantCond
  deriving DecidableEq, Repr

/-- The Door Controller: the door records, the side release records and the doors-proven-closed
summary (chapter 5). -/
structure Drc where
  a1 : Door
  a2 : Door
  b1 : Door
  b2 : Door
  sideA : SideRelease
  sideB : SideRelease
  summary : Bool
  deriving DecidableEq, Repr

/-! ## Desk Arbiter -/

/-- The brake handle (6.2). -/
inductive Handle where
  | percent (p : Nat)
  | emergency
  deriving DecidableEq, Repr

/-- The direction switch (6.1). -/
inductive DirSwitch where
  | forward | neutral | reverse
  deriving DecidableEq, Repr

/-- A cab control record; it is fresh while its freshness timer runs (6.2, R113). -/
structure CabRecord where
  traction : Nat
  handle : Handle
  switch : DirSwitch
  writes : Nat
  fresh : Timer
  deriving DecidableEq, Repr

/-- The Desk Arbiter: the desk record of 6.1 and the two cab control records. -/
structure Dka where
  active : Option Desk
  switch : Option DirSwitch
  selected : Option Dir
  running : Option Dir
  lock : Bool
  orphan : Timer
  cabU : CabRecord
  cabL : CabRecord
  deriving DecidableEq, Repr

/-! ## Valley Radio Line -/

/-- The sync state (7.5). -/
inductive Sync where
  | synced | coasting | unsynced
  deriving DecidableEq, Repr

/-- The transmitter state (7.2); the key is asserted in LEAD and SENDING. -/
inductive TxState where
  | idle | lead | sending
  deriving DecidableEq, Repr

/-- The receive state (7.4). -/
inductive RxState where
  | hunt | header | payload | check
  deriving DecidableEq, Repr

/-- The transmitter: its state, the current bit, the next bit holder, the bits the framer has still to
load, the bit clock events since the own-slot event, and the tone output with the start and the end of the
half-wave in progress (R126 to R128). -/
structure Transmitter where
  state : TxState
  current : Bool
  next : Option Bool
  stream : List Bool
  count : Nat
  tone : Bool
  halfStart : Nat
  halfEnd : Timer
  deriving DecidableEq, Repr

/-- The receiver: the half-periods counted toward the bit in progress, the last tone (true is mark),
the edge and decision times, the receive bit clock (stopped while the key is asserted), the run and the
carrier flag, the flag register with the number of bits it holds, and the telegram being assembled with
its CRC register and bit count (R130 to R136). -/
structure Receiver where
  state : RxState
  carrier : Bool
  run : Nat
  flagReg : BitVec 16
  flagLen : Nat
  lastTone : Option Bool
  lastEdge : Option Nat
  nMark : Nat
  nSpace : Nat
  nNoise : Nat
  lastDecision : Nat
  clock : Timer
  crc : BitVec 16
  bitCount : Nat
  header : BitVec 24
  payload : List Byte
  acc : Byte
  check : BitVec 16
  deriving DecidableEq, Repr

/-- The Valley Radio Line: the radio record of 7.6, the transmitter, the receiver and the transmit bit
clock. -/
structure Vrl where
  sync : Sync
  slot : Nat
  bit : Nat
  cycle : Nat
  missed : Nat
  resync : Nat
  mark : Bool
  tx : Transmitter
  rx : Receiver
  txTimer : Nat
  aborts : Nat
  lengthErrors : Nat
  crcErrors : Nat
  received : Nat
  transmitted : Nat
  deriving DecidableEq, Repr

/-! ## Telegram Handler -/

/-- The authority, while present (8.3). -/
structure Authority where
  issue : Nat
  dir : Dir
  limit : Nat
  stretchId : List Byte
  holdDoors : Bool
  deriving DecidableEq, Repr

/-- The severity of a call (8.4). -/
inductive Severity where
  | service | emergency
  deriving DecidableEq, Repr

/-- One emergency call (8.4); `first` and `last` are its start and end in dm. -/
structure Call where
  ident : Nat
  first : Nat
  last : Nat
  severity : Severity
  deriving DecidableEq, Repr

/-- The link state (R153). -/
inductive Link where
  | ok | lost | stop
  deriving DecidableEq, Repr

/-- The result codes of 11.2, in order (R167). -/
inductive ResultCode where
  | accepted | busy | notReady | moving | notActiveDesk | conditions | badArgument | full
  | bankBusy | notChecked | version | frozen | notPermitted
  deriving DecidableEq, Repr

/-- The radio profile record, once written (R151): the kind code, the result, and a block's offset. -/
structure RadioProfile where
  kind : Nat
  result : ResultCode
  offset : Option Nat
  deriving DecidableEq, Repr

/-- One entry of the received-text queue (8.8); the time it has waited is the clock less `arrival`. -/
structure TextEntry where
  payload : List Byte
  toCar : Bool
  arrival : Nat
  notified : Bool
  deriving DecidableEq, Repr

/-- The text-out window: a length word and six words of text (8.8). -/
structure TextOut where
  length : Word
  w0 : Word
  w1 : Word
  w2 : Word
  w3 : Word
  w4 : Word
  w5 : Word
  deriving DecidableEq, Repr

/-- The Telegram Handler (chapter 8): the authority record, the call list, the link record, the radio
profile record and the text queues. `beacon` is the line identity and version of the last beacon. -/
structure Tgh where
  authority : Option Authority
  lastIssue : Option Nat
  ignored : Nat
  calls : List Call
  wholeLine : Option Severity
  link : Link
  silent : Nat
  shadowUsed : Bool
  beacon : Option (Nat × Nat)
  outdated : Bool
  foreign : Nat
  formatErrors : Nat
  radioProfile : Option RadioProfile
  refusedProfile : Nat
  rxTexts : List TextEntry
  rxOverflow : Nat
  txTexts : List (List Byte)
  textOut : TextOut
  deriving DecidableEq, Repr

/-! ## Port Interface -/

/-- The notice kinds, in the order of the mask bits (9.5, 11.2). -/
inductive Notice where
  | supervision | brake | door | link | authorityChanged | textQueued | profile | position
  | requestDone | cabStale | departureStall | restriction
  deriving DecidableEq, Repr

/-- A subset of the notice kinds: bit k holds the kind of mask bit k (11.2). -/
abbrev NoticeSet := BitVec 12

/-- A placed request: its code and its two argument words (9). -/
structure Request where
  code : Word
  arg1 : Word
  arg2 : Word
  deriving DecidableEq, Repr

/-- What a result cell holds beside the sequence number (R167). -/
structure ResultCell where
  code : Word
  result : ResultCode
  detail : Option Word
  deriving DecidableEq, Repr

/-- A snapshot: the first word address of the record it holds, and the record's words (R164). -/
structure Snapshot where
  base : Nat
  words : List Word
  deriving DecidableEq, Repr

/-- What the PIF keeps for one port (chapter 9). `out` is what the last READ or READ_STATUS shifted
out on the port. -/
structure PortState where
  pointer : Nat
  snapshot : Option Snapshot
  request : Option Request
  result : Option ResultCell
  seq : Nat
  pending : NoticeSet
  enable : NoticeSet
  refused : Nat
  frameErrors : Nat
  out : List Word
  deriving DecidableEq, Repr

/-- The Port Interface: the three ports and the close-check record (9.3, R172). -/
structure Pif where
  u : PortState
  l : PortState
  c : PortState
  closeCheck : BitVec 32
  deriving DecidableEq, Repr

/-! ## Parameter Store -/

/-- The last freeze check: PASSED, or the failing check's order number and, for PRESSURE_ORDER,
whether its second part failed (R173, R176). -/
inductive FreezeCheck where
  | passed
  | failed (order : Nat) (secondPart : Bool)
  deriving DecidableEq, Repr

/-- The Parameter Store (chapter 10): the parameter set, the clamped flags (bit n for parameter n), the
freeze state, the last freeze check, the strap input and the strap latch. -/
structure Pst where
  params : Vector Nat 61
  clamped : BitVec 64
  frozen : Bool
  lastCheck : Option FreezeCheck
  strapPin : Bool
  strapLatch : Bool
  deriving DecidableEq, Repr

/-! ## The whole machine -/

/-- The state of the RC-7: its ten blocks, its clock in µs since the last power-on reset, and the
commands that are waiting, first in, first out. -/
structure State where
  odu : Odu
  lps : Lps
  ssu : Ssu
  brm : Brm
  drc : Drc
  dka : Dka
  vrl : Vrl
  tgh : Tgh
  pif : Pif
  pst : Pst
  now : Nat
  pending : List Instr
  deriving DecidableEq, Repr

/-- Faults: there is none. No rule of the manual stops the part: every command, whatever its operands
and whatever the state, has a next state. -/
inductive Fault where
  deriving DecidableEq, Repr

/-- Refusals. -/
inductive Refusal where
  /-- Raised by an arm of `exec` for a command without a meaning; no arm raises it. Safe: it stops. -/
  | notModelled (mnemonic : String)
  deriving DecidableEq, Repr

/-! ## Reset values -/

/-- A distance source after either reset (R22). -/
def Source.reset : Source :=
  { health := .ok, sampleSum := 0, intervalSum := 0, window := [], last4 := [], inTol := 0,
    suspectRun := 0, leaving := 0 }

/-- An axle encoder after power-on reset, with both phases low (log entry 6). -/
def Encoder.reset : Encoder :=
  { src := Source.reset, phaseA := false, phaseB := false, latest := none, illegalCount := 0,
    illegalTally := 0, illegalHist := [] }

/-- The tooth sensor after either reset (R22). -/
def ToothSensor.reset : ToothSensor :=
  { src := Source.reset, undirInterval := 0, undirSample := 0, undir4 := [] }

/-- The marker reader after either reset (R22). -/
def Reader.reset : Reader :=
  { state := .idle, bits := [], level := none, lastRise := none, lastFall := none, timeout := none }

/-- The ODU after power-on reset (R22). -/
def Odu.reset : Odu :=
  { pos := .invalid .noFix, lo := 0, hi := 0, speed := 0, overrange := false, motion := .standstill,
    regime := .adhesion, slip := false, lastMarker := none, distHalf := 0, upper := Encoder.reset,
    lower := Encoder.reset, tooth := ToothSensor.reset, lastCounted := none,
    used := { upper := false, lower := false, tooth := false }, midSum := 0, mid4 := [],
    unknownMarkers := 0, invalidReads := 0, overrun := false, rollback := 0, reader := Reader.reset,
    sampleTimer := Config.tick50, regimeTimer := none, standTimer := none }

/-- An EMPTY bank of the role given (R39). -/
def Bank.blank (r : Role) : Bank :=
  { role := r, state := .empty, image := [], length := none, version := none, header := none,
    result := none }

/-- The initial register value of the CRC-32 (R25). -/
def crc32Init : BitVec 32 := 0xFFFFFFFF#32

/-- The LPS after power-on reset (R39). -/
def Lps.reset : Lps :=
  { x := Bank.blank .standby, y := Bank.blank .none, claim := none, closeCheck := none, blockMap := 0,
    rejected := 0, pendingAct := none, staging := { offset := 0, d0 := 0, d1 := 0, d2 := 0, d3 := 0 }, checkPos := 0,
    checkCrc := crc32Init, scrubPos := 0, scrubCrc := crc32Init, passes := 0, timer := Config.tick50 }

/-- The SSU after power-on reset (R62). The build-up distance, to which R62 gives no value, is absent (log
entry 7). -/
def Ssu.reset : Ssu :=
  { mode := .none, status := .normal, overrun := false, warning := false, prereqs := none, dir := none,
    front := none, mrsp := none, buildUp := none, curves := none, governing := none, window := [],
    horizon := none, truncated := false, steep := false, steepMark := false, authSide := none,
    flushCount := 0, restrictions := [], cap := none, malformed := 0, timer := Config.tick50 }

/-- A row at NONE. -/
def Row.clear : Row := { level := .none, reason := none }

/-- The brake demand table after either reset with the loop sense closed and all doors proven closed
(R88). -/
def Rows.reset : Rows :=
  { cab := Row.clear, supervision := Row.clear, doors := Row.clear, radio := Row.clear,
    odometry := Row.clear, loop := Row.clear,
    hold := { level := .fullService, reason := some .noDesk } }

/-- A band brake after reset with its switch reporting applied (R88). -/
def Band.reset : Band := { applied := true, prove := none, fault := none }

/-- The BRM after power-on reset (R88). The electric brake duty is 0%, and 100% is latched for the first
PWM period after the reset; T_hold, 500 ms at its default, runs from the reset (R81). The required effort,
to which R88 gives no value, is 0 (log entry 7), and both PWM periods begin at the reset (log entry 19). -/
def Brm.reset : Brm :=
  { rows := Rows.reset, level := .emergency, latch := some .reset, target := 450, measured := none,
    sensorFault := false, frictionFault := false, pulses := 0, valve := .lap, lastOpen := none,
    waiting := none, deadTimer := none, proving := false, proveTimer := none, pinion := .applied,
    energised := false, upper := Band.reset, lower := Band.reset, holding := false,
    holdSeen :=
      { regime := .adhesion, command := .applied, upper := true, lower := true, measured := none }
    proveSeen := { target := 450, loopForced := false, sensorFault := false, measured := none }
    ebrake := { latched := 100, driven := 0, next := Config.pwmPeriod },
    traction := { latched := 0, driven := 0, next := Config.pwmPeriod },
    effort := 0, effortValid := false, feedbackTimer := none, senseOpen := false, loopForced := false,
    departure := .idle, required := 0, stallTimer := none, holdElapsed := false,
    holdTimer := some 500000, gateTimer := Config.gateTime }

/-- A door after power-on reset with LK set, OP clear, the edge and the button inactive (R110, log
entry 6); its motor's first period is T_pwm at its default of 50 µs. -/
def Door.reset : Door :=
  { state := .locked, reversals := 0, timer := none, lk := true, op := false, ed := false, pb := false,
    motor := { latched := 0, driven := 0, latchedDir := .closes, drivenDir := .closes, next := 50 } }

/-- A side release after power-on reset (R110). -/
def SideRelease.reset : SideRelease := { granted := none, cause := none, refused := none }

/-- The DRC after power-on reset (R110). -/
def Drc.reset : Drc :=
  { a1 := Door.reset, a2 := Door.reset, b1 := Door.reset, b2 := Door.reset,
    sideA := SideRelease.reset, sideB := SideRelease.reset, summary := true }

/-- A cab control record after power-on reset: 0%, 100%, NEUTRAL, stale (R124). -/
def CabRecord.reset : CabRecord :=
  { traction := 0, handle := .percent 100, switch := .neutral, writes := 0, fresh := none }

/-- The DKA after power-on reset (R124). -/
def Dka.reset : Dka :=
  { active := none, switch := none, selected := none, running := none, lock := false, orphan := none,
    cabU := CabRecord.reset, cabL := CabRecord.reset }

/-- The transmitter after either reset: IDLE, key released, tone output low (R141). -/
def Transmitter.reset : Transmitter :=
  { state := .idle, current := false, next := none, stream := [], count := 0, tone := false,
    halfStart := 0, halfEnd := none }

/-- The receiver after either reset, its bit clock next at `clock` (R141). -/
def Receiver.reset (now clock : Nat) : Receiver :=
  { state := .hunt, carrier := false, run := 0, flagReg := 0, flagLen := 0, lastTone := none,
    lastEdge := none, nMark := 0, nSpace := 0, nNoise := 0, lastDecision := now, clock := some clock,
    crc := 0xFFFF#16, bitCount := 0, header := 0, payload := [], acc := 0, check := 0 }

/-- The VRL after power-on reset; both bit clocks restart, T_bit being 417 µs at its default (R141). -/
def Vrl.reset : Vrl :=
  { sync := .unsynced, slot := 0, bit := 0, cycle := 0, missed := 0, resync := 0, mark := false,
    tx := Transmitter.reset, rx := Receiver.reset 0 417, txTimer := 417, aborts := 0, lengthErrors := 0,
    crcErrors := 0, received := 0, transmitted := 0 }

/-- The text-out window after power-on reset (R161). -/
def TextOut.reset : TextOut := { length := 0, w0 := 0, w1 := 0, w2 := 0, w3 := 0, w4 := 0, w5 := 0 }

/-- The TGH after power-on reset; the silent-cycle count is N_loss, 6 at its default (R161). -/
def Tgh.reset : Tgh :=
  { authority := none, lastIssue := none, ignored := 0, calls := [], wholeLine := none, link := .lost,
    silent := 6, shadowUsed := false, beacon := none, outdated := false, foreign := 0,
    formatErrors := 0, radioProfile := none, refusedProfile := 0, rxTexts := [], rxOverflow := 0,
    txTexts := [], textOut := TextOut.reset }

/-- A port after either reset (R172). -/
def PortState.reset : PortState :=
  { pointer := 0, snapshot := none, request := none, result := none, seq := 0, pending := 0, enable := 0,
    refused := 0, frameErrors := 0, out := [] }

/-- The PIF after either reset (R172). -/
def Pif.reset : Pif :=
  { u := PortState.reset, l := PortState.reset, c := PortState.reset, closeCheck := 0 }

/-- The PST after power-on reset with the strap input clear (R173, R181). -/
def Pst.reset : Pst :=
  { params := Param.defaults, clamped := 0, frozen := false, lastCheck := none, strapPin := false,
    strapLatch := false }

/-- The machine right after power-on reset (R178), with every input at rest (log entry 6) and no
command waiting. -/
def State.reset : State :=
  { odu := Odu.reset, lps := Lps.reset, ssu := Ssu.reset, brm := Brm.reset, drc := Drc.reset,
    dka := Dka.reset, vrl := Vrl.reset, tgh := Tgh.reset, pif := Pif.reset, pst := Pst.reset,
    now := 0, pending := [] }

end Sys2Proof.Machine
end

