-- ==== Sys2Proof/Machine/Ops.lean ====
section
/-! DEFINITION. The operations every block uses: reading a parameter, the clock with the outputs that
follow it, timers, raising a notice, and writing a result. -/

namespace Sys2Proof.Machine

/-- A parameter's value as it stands (R173). -/
def State.par (s : State) (p : Param) : Nat := s.pst.params.get p.idx

/-! ## The clock and the outputs that follow it -/

/-- The end of the period in progress at `now`, given the end of an earlier one. -/
def rollNext (next period now : Nat) : Nat :=
  if now < next then next else next + period * ((now - next) / period + 1)

/-- A PWM output brought to `now`: at the start of a period the latched duty is driven (R75, R78). -/
def Pwm.roll (now : Nat) (w : Pwm) : Pwm :=
  if now < w.next then w
  else { latched := w.latched, driven := w.latched, next := rollNext w.next Config.pwmPeriod now }

/-- A door motor brought to `now`: at the start of a period the latched duty and direction are driven
(R91). -/
def Motor.roll (period now : Nat) (m : Motor) : Motor :=
  if now < m.next then m
  else { latched := m.latched, driven := m.latched, latchedDir := m.latchedDir,
         drivenDir := m.latchedDir, next := rollNext m.next period now }

/-- The width of a half-wave: by its level and the current bit (R126). -/
def State.halfWidth (s : State) (high mark : Bool) : Nat :=
  match high, mark with
  | true, true => s.par .wMarkHi
  | false, true => s.par .wMarkLo
  | true, false => s.par .wSpaceHi
  | false, false => s.par .wSpaceLo

/-- The tone output brought to `now`: each half-wave runs to its end and the next takes its width from
the current bit (R126). The first argument bounds the number of half-waves. -/
def Transmitter.toneRoll (width : Bool → Bool → Nat) (now : Nat) : Nat → Transmitter → Transmitter
  | 0, t => t
  | n + 1, t =>
    match t.halfEnd with
    | none => t
    | some e =>
      if now < e then t
      else Transmitter.toneRoll width now n
        { t with tone := !t.tone, halfStart := e, halfEnd := some (e + width (!t.tone) t.current) }

/-- The tone output of a state brought to `now`. -/
def State.rollTone (s : State) (now : Nat) : Transmitter :=
  match s.vrl.tx.halfEnd with
  | none => s.vrl.tx
  | some e => Transmitter.toneRoll s.halfWidth now (now - e + 1) s.vrl.tx

/-- The clock brought forward to `t`, with the PWM outputs and the tone output; a clock already past `t`
stays (log entry 2). -/
def State.advanceTo (t : Nat) (s : State) : State :=
  if t ≤ s.now then s
  else
    { s with
      now := t
      brm := { s.brm with ebrake := s.brm.ebrake.roll t, traction := s.brm.traction.roll t }
      drc := { s.drc with
        a1 := { s.drc.a1 with motor := s.drc.a1.motor.roll (s.par .tPwm) t }
        a2 := { s.drc.a2 with motor := s.drc.a2.motor.roll (s.par .tPwm) t }
        b1 := { s.drc.b1 with motor := s.drc.b1.motor.roll (s.par .tPwm) t }
        b2 := { s.drc.b2 with motor := s.drc.b2.motor.roll (s.par .tPwm) t } }
      vrl := { s.vrl with tx := s.rollTone t } }

/-- The clock at the expiry of a timer: the event comes at the timer's time (log entry 2). -/
def State.atTimer (t : Timer) (s : State) : State :=
  match t with
  | none => s
  | some d => s.advanceTo d

/-- A timer of `ms` milliseconds started now. -/
def State.startMs (s : State) (ms : Nat) : Timer := some (s.now + ms * 1000)

/-- The whole milliseconds left on a timer (log entry 15). -/
def Timer.leftMs (t : Timer) (now : Nat) : Nat :=
  match t with
  | none => 0
  | some d => (d - now) / 1000

/-! ## Ports and notices -/

/-- What the PIF keeps for a port. -/
def State.port (s : State) : Port → PortState
  | .u => s.pif.u
  | .l => s.pif.l
  | .c => s.pif.c

/-- A port's part replaced. -/
def State.setPort (s : State) (p : Port) (q : PortState) : State :=
  match p with
  | .u => { s with pif := { s.pif with u := q } }
  | .l => { s with pif := { s.pif with l := q } }
  | .c => { s with pif := { s.pif with c := q } }

/-- The notice's bit in the mask (11.2). -/
def Notice.bit : Notice → NoticeSet
  | .supervision => 0x001#12
  | .brake => 0x002#12
  | .door => 0x004#12
  | .link => 0x008#12
  | .authorityChanged => 0x010#12
  | .textQueued => 0x020#12
  | .profile => 0x040#12
  | .position => 0x080#12
  | .requestDone => 0x100#12
  | .cabStale => 0x200#12
  | .departureStall => 0x400#12
  | .restriction => 0x800#12

/-- R169: the kind becomes pending on the port. -/
def PortState.raise (k : Notice) (q : PortState) : PortState :=
  { q with pending := q.pending ||| k.bit }

/-- R169: a notice raised on one port. -/
def State.raiseOn (p : Port) (k : Notice) (s : State) : State :=
  s.setPort p ((s.port p).raise k)

/-- R169: a notice raised on all three ports. -/
def State.raise (k : Notice) (s : State) : State :=
  { s with pif := { s.pif with u := s.pif.u.raise k, l := s.pif.l.raise k, c := s.pif.c.raise k } }

/-- A notice raised on all three ports if a condition holds. -/
def State.raiseIf (c : Bool) (k : Notice) (s : State) : State := if c then s.raise k else s

/-- R170: the interrupt line is asserted while at least one kind is both pending and enabled. -/
def PortState.interrupt (q : PortState) : Bool := (q.pending &&& q.enable) != 0

/-- The desk that speaks on a port (9). -/
def portDesk : Port → Option Desk
  | .u => some .u
  | .l => some .l
  | .c => none

/-- Whether a desk is active and the port is the active desk's port (R41, R58, R66, R104, R108, R118). -/
def State.isActivePort (s : State) (p : Port) : Bool :=
  s.dka.active.isSome && s.dka.active == portDesk p

/-- R167: a result written to a port's result cell, with the sequence number incremented and
REQUEST_DONE raised on that port alone; the request cell is then empty (R166). -/
def State.writeResult (p : Port) (code : Word) (r : ResultCode) (detail : Option Word) (s : State) :
    State :=
  s.setPort p
    (({ s.port p with
        request := none
        result := some { code := code, result := r, detail := detail }
        seq := wrapSucc 256 (s.port p).seq } : PortState).raise .requestDone)

/-- What an owner answers to a request: the state after it, the result, and the detail word (R167). -/
structure Answer where
  state : State
  result : ResultCode
  detail : Option Word

/-- A refusal: nothing changes but the result. -/
def State.refuse (s : State) (r : ResultCode) : Answer := { state := s, result := r, detail := none }

/-- An acceptance. -/
def State.accept (s : State) : Answer := { state := s, result := .accepted, detail := none }

/-! ## Small readings used by several blocks -/

/-- The motion state is STANDSTILL. -/
def State.still (s : State) : Bool := s.odu.motion == .standstill

/-- The exposed low bound in dm (R10). -/
def Odu.pLo (o : Odu) : Nat := o.lo / 100000

/-- The exposed high bound in dm (R10). -/
def Odu.pHi (o : Odu) : Nat := ceilDiv o.hi 100000

/-- The position state is VALID or RESTORED. -/
def Odu.located (o : Odu) : Bool := o.pos == .valid || o.pos == .restored

/-- The high end of the car's extent in dm (R48): the exposed high bound plus L_car. -/
def State.extentHi (s : State) : Nat := s.odu.pHi + s.par .lCar

/-- The cab control record of a desk. -/
def Dka.cab (k : Dka) : Desk → CabRecord
  | .u => k.cabU
  | .l => k.cabL

/-- The active desk's cab control record. -/
def Dka.activeCab (k : Dka) : Option CabRecord := k.active.map k.cab

/-- R113: a record is fresh while its timer runs. -/
def CabRecord.isFresh (c : CabRecord) : Bool := c.fresh.isSome

/-- R115: the traction demand supplied to the BRM. -/
def Dka.supplied (k : Dka) : Nat :=
  match k.activeCab with
  | none => 0
  | some c => if c.isFresh then c.traction else 0

end Sys2Proof.Machine
end

