-- ==== Sys2Proof/Machine/Memory.lean ====
section
/-! DEFINITION. The byte memory of a profile bank (2.1): a list of address and byte in one canonical
form. What an unlisted address reads as is 0 (log entry 5): a load stores every block of an image before
the image is read (R31), so no byte that nothing has written is ever part of a checked image. -/

namespace Sys2Proof.Machine

/-- What an unlisted address reads as. -/
def Memory.blankByte : Byte := 0

/-- The byte at an address. -/
def Memory.read : Memory → Nat → Byte
  | [], _ => Memory.blankByte
  | (k, v) :: t, a => if k = a then v else Memory.read t a

/-- The memory with one byte written, in canonical form. -/
def Memory.write : Memory → Nat → Byte → Memory
  | [], a, v => if v = Memory.blankByte then [] else [(a, v)]
  | (k, w) :: t, a, v =>
    if a < k then (if v = Memory.blankByte then (k, w) :: t else (a, v) :: (k, w) :: t)
    else if a = k then (if v = Memory.blankByte then t else (a, v) :: t)
    else (k, w) :: Memory.write t a v

/-- The canonical form: addresses rise strictly from one entry to the next, and no entry holds what an
unlisted address reads as. -/
def Memory.wf : Memory → Bool
  | [] => true
  | [(_, v)] => v != Memory.blankByte
  | (k, v) :: (k', v') :: t => v != Memory.blankByte && decide (k < k') && Memory.wf ((k', v') :: t)

/-- Bytes written at consecutive addresses from `a`. -/
def Memory.writeAll (m : Memory) (a : Nat) : List Byte → Memory
  | [] => m
  | b :: bs => Memory.writeAll (m.write a b) (a + 1) bs

/-- The bytes at addresses `a` to `a + n - 1`, in order. -/
def Memory.bytes (m : Memory) (a n : Nat) : List Byte :=
  (List.range n).map fun i => m.read (a + i)

end Sys2Proof.Machine
end

