-- ==== Sys2Proof/Machine/Profile.lean ====
section
/-! DEFINITION. The profile image (2.1, 11.5): its decoding, the CRC-32 of R25, the structural check of
R26, and the lookups of R24. -/

namespace Sys2Proof.Machine

/-- A number held high byte first (R182). -/
def beNat (bs : List Byte) : Nat := bs.foldl (fun n b => n * 256 + b.toNat) 0

/-- A 16-bit field in two's complement (R182). -/
def signed16 (n : Nat) : Int := if n < 32768 then (n : Int) else (n : Int) - 65536

/-- A segment of the profile (2.1), with the position at which it ends and whether it is the last. -/
structure Segment where
  start : Nat
  stop : Nat
  final : Bool
  gradient : Int
  ceiling : Nat
  kind : SegKind
  platA : Bool
  platB : Bool
  shadow : Bool
  deriving DecidableEq, Repr

/-- A marker record (2.1). -/
structure Marker where
  ident : Nat
  pos : Nat
  tol : Nat
  deriving DecidableEq, Repr

/-- A segment record as its eight bytes hold it (11.5): the kind and flags byte is kept whole. -/
structure RawSegment where
  start : Nat
  gradient : Int
  ceiling : Nat
  flags : Byte
  deriving DecidableEq, Repr

/-- The header of an image as its bytes hold it (11.5). -/
structure RawHeader where
  lineId : Nat
  version : Nat
  lineEnd : Nat
  nSegments : Nat
  nMarkers : Nat
  check : BitVec 32
  deriving DecidableEq, Repr

/-- A field of `n` bytes at an offset of the image. -/
def Memory.field (m : Memory) (a n : Nat) : Nat := beNat (m.bytes a n)

/-- The header's fields (11.5). -/
def rawHeader (m : Memory) : RawHeader :=
  { lineId := m.field 0 2, version := m.field 2 2, lineEnd := m.field 4 3, nSegments := m.field 7 1,
    nMarkers := m.field 8 1, check := BitVec.ofNat 32 (m.field 9 4) }

/-- Segment record i (11.5). -/
def rawSegment (m : Memory) (i : Nat) : RawSegment :=
  { start := m.field (13 + 8 * i) 3, gradient := signed16 (m.field (16 + 8 * i) 2),
    ceiling := m.field (18 + 8 * i) 2, flags := m.read (20 + 8 * i) }

/-- Marker record j of an image with n segments (11.5). -/
def rawMarker (m : Memory) (n j : Nat) : Marker :=
  { ident := m.field (13 + 8 * n + 6 * j) 2, pos := m.field (15 + 8 * n + 6 * j) 3,
    tol := m.field (18 + 8 * n + 6 * j) 1 }

/-- The segment records, in order. -/
def rawSegments (m : Memory) : List RawSegment :=
  (List.range (rawHeader m).nSegments).map (rawSegment m)

/-- The marker records, in order. -/
def rawMarkers (m : Memory) : List Marker :=
  (List.range (rawHeader m).nMarkers).map (rawMarker m (rawHeader m).nSegments)

/-- The kind of a segment by its code (11.5); codes 4 to 7 name none. -/
def SegKind.ofCode (n : Nat) : Option SegKind :=
  match n with
  | 0 => some .adhesion
  | 1 => some .rack
  | 2 => some .rackEntry
  | 3 => some .depot
  | _ => none

/-- The kind code of a segment record: bits 2 to 0 (11.5). -/
def RawSegment.kindCode (r : RawSegment) : Nat := r.flags.toNat % 8

/-- A segment record decoded, ending at `stop`. -/
def RawSegment.decode (r : RawSegment) (stop : Nat) (final : Bool) : Segment :=
  { start := r.start, stop := stop, final := final, gradient := r.gradient, ceiling := r.ceiling,
    kind := (SegKind.ofCode r.kindCode).getD .adhesion,
    platA := r.flags.getLsbD 3, platB := r.flags.getLsbD 4, shadow := r.flags.getLsbD 5 }

/-- The segments: each ends where the next begins, and the last at the line end (2.1). -/
def decodeSegments (lineEnd : Nat) : List RawSegment → List Segment
  | [] => []
  | [r] => [r.decode lineEnd true]
  | r :: r' :: t => r.decode r'.start false :: decodeSegments lineEnd (r' :: t)

/-! ## CRC-32 -/

/-- One bit of R25. -/
def crc32Bit (reg : BitVec 32) (b : Bool) : BitVec 32 :=
  if reg.msb != b then (reg <<< 1) ^^^ 0x04C11DB7#32 else reg <<< 1

/-- One byte of R25, most significant bit first. -/
def crc32Byte (reg : BitVec 32) (b : Byte) : BitVec 32 :=
  [7, 6, 5, 4, 3, 2, 1, 0].foldl (fun r i => crc32Bit r (b.getLsbD i)) reg

/-- The byte at address `a` of an image as R25 takes it: the check field's bytes 9 to 12 are zero. -/
def crcByteAt (m : Memory) (a : Nat) : Byte := if 9 ≤ a ∧ a ≤ 12 then 0 else m.read a

/-- The running CRC over bytes `a` to `a + n - 1` of an image (R25, R27, R37). -/
def crc32Run (m : Memory) (reg : BitVec 32) (a : Nat) : Nat → BitVec 32
  | 0 => reg
  | n + 1 => crc32Run m (crc32Byte reg (crcByteAt m a)) (a + 1) n

/-! ## The structural check -/

/-- Whether each start is greater than the start before it. -/
def startsRise : List RawSegment → Bool
  | r :: r' :: t => decide (r.start < r'.start) && startsRise (r' :: t)
  | _ => true

/-- Whether a segment is shorter than 10 dm, the last one ending at the line end. -/
def anyShort (lineEnd : Nat) : List RawSegment → Bool
  | [] => false
  | [r] => decide (lineEnd < r.start + 10)
  | r :: r' :: t => decide (r'.start < r.start + 10) || anyShort lineEnd (r' :: t)

/-- Whether a RACK_ENTRY segment has no RACK segment immediately before or after it; `before` says
whether the segment before the list's first is RACK. -/
def entryAlone (before : Bool) : List RawSegment → Bool
  | [] => false
  | [r] => r.kindCode == 2 && !before
  | r :: r' :: t =>
    (r.kindCode == 2 && !before && r'.kindCode != 1) || entryAlone (r.kindCode == 1) (r' :: t)

/-- Whether two marker records carry the same identity. -/
def markersRepeat : List Marker → Bool
  | [] => false
  | m :: t => (t.any fun m' => m'.ident == m.ident) || markersRepeat t

/-- Whether a marker's position is less than the one before it. -/
def markersFall : List Marker → Bool
  | m :: m' :: t => decide (m'.pos < m.pos) || markersFall (m' :: t)
  | _ => false

/-- R26: the first failure in the order of its table, or PASSED. `length` and `version` are those
declared at the open, `close` the check value of the close, and `crc` the result of R25. -/
def structuralCheck (m : Memory) (length version : Nat) (close : Option (BitVec 32))
    (crc : BitVec 32) : CheckResult :=
  let h := rawHeader m
  if h.nSegments < 1 ∨ 96 < h.nSegments ∨ 48 < h.nMarkers ∨
      13 + 8 * h.nSegments + 6 * h.nMarkers ≠ length then .countLength
  else
    let segs := rawSegments m
    let marks := rawMarkers m
    let lastStart := (segs.getLast?.map RawSegment.start).getD 0
    if h.version ≠ version ∨ some h.check ≠ close then .headerMismatch
    else if (segs.head?.map RawSegment.start).getD 0 ≠ 0 then .firstStart
    else if !startsRise segs then .segmentOrder
    else if 120000 < h.lineEnd ∨ h.lineEnd ≤ lastStart then .lineEnd
    else if anyShort h.lineEnd segs then .shortSegment
    else if (segs.any fun r => decide (r.gradient < -250) || decide (250 < r.gradient) ||
          decide (1500 < r.ceiling) || decide (3 < r.kindCode)) ||
        (marks.any fun k => decide (k.tol < 1) || decide (50 < k.tol)) then .fieldRange
    else if segs.any fun r => r.flags.getLsbD 6 || r.flags.getLsbD 7 then .flagBits
    else if entryAlone false segs then .rackEntry
    else if marks.any fun k => decide (4095 < k.ident) then .markerIdentity
    else if markersRepeat marks then .markerDuplicate
    else if markersFall marks || (marks.any fun k => decide (h.lineEnd < k.pos)) then .markerOrder
    else if h.check ≠ crc then .crc
    else .passed

/-! ## Banks and lookups -/

/-- A bank by its name. -/
def Lps.bank (l : Lps) : BankId → Bank
  | .x => l.x
  | .y => l.y

/-- A bank replaced. -/
def Lps.setBank (l : Lps) (i : BankId) (b : Bank) : Lps :=
  match i with
  | .x => { l with x := b }
  | .y => { l with y := b }

/-- The other bank. -/
def BankId.other : BankId → BankId
  | .x => .y
  | .y => .x

/-- The standby bank: exactly one bank has the role STANDBY (R23). -/
def Lps.standbyId (l : Lps) : BankId := if l.x.role = .standby then .x else .y

/-- The active bank, if there is one (R23). -/
def Lps.activeId (l : Lps) : Option BankId :=
  if l.x.role = .active then some .x else if l.y.role = .active then some .y else none

/-- The standby bank. -/
def Lps.standby (l : Lps) : Bank := l.bank l.standbyId

/-- The active bank. -/
def Lps.active (l : Lps) : Option Bank := l.activeId.map l.bank

/-- A profile as its lookups see it. -/
structure Profile where
  lineId : Nat
  version : Nat
  lineEnd : Nat
  segments : List Segment
  markers : List Marker
  deriving DecidableEq, Repr

/-- The profile of an image. -/
def decodeProfile (m : Memory) : Profile :=
  let h := rawHeader m
  { lineId := h.lineId, version := h.version, lineEnd := h.lineEnd,
    segments := decodeSegments h.lineEnd (rawSegments m), markers := rawMarkers m }

/-- R24: the active profile, or "no active profile". -/
def Lps.profile (l : Lps) : Option Profile := l.active.map fun b => decodeProfile b.image

/-- R24: the segment holds the position: its start is at or below it and the next start above it, and
the last segment includes the line end. -/
def Segment.holds (g : Segment) (x : Nat) : Bool :=
  decide (g.start ≤ x) && (decide (x < g.stop) || (g.final && decide (x = g.stop)))

/-- R24: the segment at a position. -/
def Profile.segmentAt (p : Profile) (x : Nat) : Option Segment :=
  p.segments.find? fun g => g.holds x

/-- R24: the segment meets the stretch [a, b]: its start is at or below b and its end above a, the end
of the last segment included. -/
def Segment.meets (g : Segment) (a b : Nat) : Bool :=
  decide (g.start ≤ b) && (decide (a < g.stop) || (g.final && decide (a = g.stop)))

/-- R24: the segments meeting the stretch [a, b], in ascending order of start. -/
def Profile.segmentsMeeting (p : Profile) (a b : Nat) : List Segment :=
  p.segments.filter fun g => g.meets a b

/-- R24: the marker record with an identity. -/
def Profile.marker (p : Profile) (ident : Nat) : Option Marker :=
  p.markers.find? fun k => k.ident == ident

/-- The segments of the active bank that meet the car's extent, or `none` with no bank active. -/
def State.extentSegments (s : State) (lo hi : Nat) : Option (List Segment) :=
  s.lps.profile.map fun p => p.segmentsMeeting lo hi

end Sys2Proof.Machine
end

