-- ==== Sys2Proof/Machine/Loading.lean ====
section
/-! DEFINITION. The Line Profile Store (chapter 2): the window flush and the profile-outdated comparison
that a change of the active bank brings about, the switch-over, the load, the check and the scrub. -/

namespace Sys2Proof.Machine

/-- R52: a flush empties the window, clears the steep-notice mark and counts. The curve values, the
status and the row of the last cycle stand. -/
def State.flush (s : State) : State :=
  { s with ssu := { s.ssu with window := [], horizon := none, steepMark := false,
                               flushCount := wrapSucc 65536 s.ssu.flushCount } }

/-- R143: what the profile-outdated flag is, with a beacon admitted since the last reset. -/
def State.isOutdated (s : State) (lineId version : Nat) : Bool :=
  match s.lps.profile with
  | none => true
  | some p => p.lineId != lineId || p.version != version

/-- R143: the comparison of the stored beacon pair with the active bank; each setting and clearing of
the flag raises PROFILE. -/
def State.compareOutdated (s : State) : State :=
  match s.tgh.beacon with
  | none => s
  | some (lineId, version) =>
    State.raiseIf (s.isOutdated lineId version != s.tgh.outdated) .profile
      { s with tgh := { s.tgh with outdated := s.isOutdated lineId version } }

/-- R35: the banks after a switch-over: the standby becomes ACTIVE and the other bank STANDBY, each
keeping its state; the pending activation is absent and the scrub is at the first byte. -/
def Lps.switchOver (l : Lps) : Lps :=
  let i := l.standbyId
  { (l.setBank i { l.bank i with role := .active }).setBank i.other
      { l.bank i.other with role := .standby } with
    pendingAct := none, scrubPos := 0, scrubCrc := crc32Init }

/-- R35: the switch-over with what the other blocks take from it. -/
def State.switchOver (s : State) : State :=
  ({ s with lps := s.lps.switchOver } : State).flush.compareOutdated.raise .profile

/-- R34, R36: an activation takes effect when the car stands or no desk is active. -/
def State.mayActivate (s : State) : Bool := s.still || s.dka.active.isNone

/-- R36: a pending activation takes effect at the first event after which it may. -/
def State.takePending (s : State) : State :=
  if s.lps.pendingAct.isSome && s.lps.standby.state == .checked && s.mayActivate then s.switchOver
  else s

/-! ## Loads -/

/-- The number of blocks of an image (2.1). -/
def blocksExpected (length : Nat) : Nat := ceilDiv length 8

/-- The blocks received: the number of map entries set (2.4). -/
def Lps.blocksReceived (l : Lps) : Nat := (List.range 134).countP fun i => l.blockMap.getLsbD i

/-- The standby bank emptied, with the claim released and the map cleared; the close check value, which
neither rule names, is kept (R32, R33; log entry 22). -/
def Lps.emptyStandby (l : Lps) : Lps :=
  { l.setBank l.standbyId (Bank.blank .standby) with
    claim := none, blockMap := 0, checkPos := 0, checkCrc := crc32Init }

/-- Whether the writer other than `w` holds the claim. -/
def Lps.otherHolds (l : Lps) (w : Writer) : Bool :=
  match l.claim with
  | none => false
  | some c => c.holder != w

/-- R28: the standby bank opened by a writer. -/
def Lps.opened (l : Lps) (w : Writer) (version length : Nat) : Lps :=
  { l.setBank l.standbyId
      { role := .standby, state := .opened, image := [], length := some length,
        version := some version, header := none, result := none } with
    claim := some { holder := w, length := length, version := version }, closeCheck := none
    blockMap := 0, pendingAct := none, checkPos := 0, checkCrc := crc32Init }

/-- R28: PROFILE_OPEN from either writer. -/
def State.openProfile (w : Writer) (version length : Nat) (s : State) : Answer :=
  if s.lps.otherHolds w then s.refuse .bankBusy
  else if length < 21 ∨ 1069 < length then s.refuse .badArgument
  else ({ s with lps := s.lps.opened w version length } : State).accept

/-- The rejected-block count incremented. -/
def Lps.reject (l : Lps) : Lps := { l with rejected := satSucc 255 l.rejected }

/-- R29, R30: a block's eight bytes stored at its offset, and its map entry set. -/
def Lps.store (l : Lps) (offset : Nat) (bytes : List Byte) : Lps :=
  let b := l.standby
  { l.setBank l.standbyId { b with image := b.image.writeAll (8 * offset) bytes } with
    blockMap := l.blockMap ||| (1#134 <<< offset) }

/-- R30: a block presented by the radio. -/
def State.radioBlock (offset : Nat) (bytes : List Byte) (s : State) : Answer :=
  match s.lps.claim with
  | none => ({ s with lps := s.lps.reject } : State).refuse .conditions
  | some c =>
    if c.holder = .portC then ({ s with lps := s.lps.reject } : State).refuse .bankBusy
    else if s.lps.standby.state ≠ .opened then ({ s with lps := s.lps.reject } : State).refuse .conditions
    else if blocksExpected c.length ≤ offset then
      ({ s with lps := s.lps.reject } : State).refuse .badArgument
    else ({ s with lps := s.lps.store offset bytes } : State).accept

/-- R29: port C may write the staging window while it holds the claim and the standby bank is OPEN. -/
def Lps.stagingOpen (l : Lps) : Bool :=
  match l.claim with
  | none => false
  | some c => c.holder == .portC && l.standby.state == .opened

/-- The eight bytes of the staging window's data words, high byte first (11.4). -/
def Staging.bytes (g : Staging) : List Byte :=
  [g.d0, g.d1, g.d2, g.d3].flatMap fun w => [w.extractLsb' 8 8, w.extractLsb' 0 8]

/-- R29: the staging window commits its block. -/
def Lps.commit (l : Lps) : Lps :=
  match l.claim with
  | none => l.reject
  | some c =>
    if l.staging.offset.toNat < blocksExpected c.length then
      l.store l.staging.offset.toNat l.staging.bytes
    else l.reject

/-- R31: an accepted close records its check value. The standby bank becomes CLOSED with every block
present, or FAILED with MISSING_BLOCKS and the claim released. -/
def Lps.closed (l : Lps) (c : Claim) (check : BitVec 32) : Lps :=
  let b := l.standby
  if l.blocksReceived = blocksExpected c.length then
    { l.setBank l.standbyId { b with state := .closed } with
      closeCheck := some check, checkPos := 0, checkCrc := crc32Init }
  else
    { l.setBank l.standbyId { b with state := .failed, result := some .missingBlocks } with
      claim := none, closeCheck := some check, blockMap := 0 }

/-- R31: PROFILE_CLOSE from either writer. -/
def State.closeProfile (w : Writer) (version : Nat) (check : BitVec 32) (s : State) : Answer :=
  match s.lps.claim with
  | none => s.refuse .conditions
  | some c =>
    if c.holder ≠ w then s.refuse .bankBusy
    else if s.lps.standby.state = .closed then s.refuse .conditions
    else if version ≠ c.version then s.refuse .version
    else
      (State.raiseIf (s.lps.blocksReceived != blocksExpected c.length) .profile
        { s with lps := s.lps.closed c check }).accept

/-- R32: PROFILE_ABORT from port C; the pending activation is cancelled (R36). -/
def State.abortProfile (s : State) : Answer :=
  if s.lps.otherHolds .portC then s.refuse .bankBusy
  else
    (State.raiseIf (s.lps.standby.state != .empty) .profile
      { s with lps := { s.lps.emptyStandby with pendingAct := none } }).accept

/-- R33: the radio load aborted, when RADIO holds the claim. -/
def State.abortRadioLoad (s : State) : State :=
  match s.lps.claim with
  | none => s
  | some c =>
    if c.holder = .radio then ({ s with lps := s.lps.emptyStandby } : State).raise .profile else s

/-- R34: PROFILE_ACTIVATE from either writer. -/
def State.activateProfile (w : Writer) (version : Nat) (s : State) : Answer :=
  if s.lps.standby.state ≠ .checked then s.refuse .notChecked
  else if s.lps.standby.version ≠ some version then s.refuse .version
  else if s.mayActivate then s.switchOver.accept
  else ({ s with lps := { s.lps with pendingAct := some (version, w) } } : State).accept

/-! ## The check and the scrub -/

/-- The bytes read at one expiry: 64, or the rest of the image if fewer remain (R27, R37). -/
def readNow (length pos : Nat) : Nat := min 64 (length - pos)

/-- R27: the check has read the last byte. The bank becomes CHECKED with its header's fields, or FAILED;
the claim is released and the map cleared, and the close check value stays. -/
def Lps.endCheck (l : Lps) (c : Claim) (crc : BitVec 32) : Lps :=
  let b := l.standby
  let r := structuralCheck b.image c.length c.version l.closeCheck crc
  let h := rawHeader b.image
  let b' : Bank :=
    if r = .passed then
      { b with state := .checked, result := some .passed
               header := some { lineId := h.lineId, lineEnd := h.lineEnd, nSegments := h.nSegments,
                                nMarkers := h.nMarkers, check := h.check } }
    else { b with state := .failed, result := some r }
  { l.setBank l.standbyId b' with
    claim := none, blockMap := 0, checkPos := 0, checkCrc := crc32Init }

/-- R27: one expiry of the 50 ms timer for a CLOSED bank. -/
def State.checkStep (s : State) : State :=
  match s.lps.claim with
  | none => s
  | some c =>
    if s.lps.standby.state ≠ .closed then s
    else
      let n := readNow c.length s.lps.checkPos
      let crc := crc32Run s.lps.standby.image s.lps.checkCrc s.lps.checkPos n
      if s.lps.checkPos + n < c.length then
        { s with lps := { s.lps with checkPos := s.lps.checkPos + n, checkCrc := crc } }
      else ({ s with lps := s.lps.endCheck c crc } : State).raise .profile

/-- R38: the active bank fails: FAILED with result CRC, role NONE, and the scrub stops. -/
def Lps.failActive (l : Lps) (i : BankId) : Lps :=
  { l.setBank i { l.bank i with role := .none, state := .failed, header := none, result := some .crc } with
    scrubPos := 0, scrubCrc := crc32Init }

/-- R37, R38: one expiry of the 50 ms timer for the active bank. -/
def State.scrubStep (s : State) : State :=
  match s.lps.activeId with
  | none => s
  | some i =>
    let b := s.lps.bank i
    let length := b.length.getD 0
    let n := readNow length s.lps.scrubPos
    let crc := crc32Run b.image s.lps.scrubCrc s.lps.scrubPos n
    if s.lps.scrubPos + n < length then
      { s with lps := { s.lps with scrubPos := s.lps.scrubPos + n, scrubCrc := crc } }
    else if b.header.map Header.check = some crc then
      { s with lps := { s.lps with scrubPos := 0, scrubCrc := crc32Init,
                                   passes := wrapSucc 65536 s.lps.passes } }
    else (({ s with lps := s.lps.failActive i } : State).flush.compareOutdated).raise .profile

end Sys2Proof.Machine
end

