-- ==== Sys2Proof/Machine/Brake.lean ====
section
/-! DEFINITION. The Brake Manager's shared operations (chapter 4): the demand table and the latch, the
effective level and what it is handed to, the valves, the pinion brakes, holding proven, pressure
proving, and the traction gate with the departure. -/

namespace Sys2Proof.Machine

/-! ## Levels and rows -/

/-- The rising order of the levels (R64): a greater number is a higher level. -/
def Level.rank : Level → Nat
  | .none => 0
  | .hold => 1
  | .service p => 2 + min p 99
  | .fullService => 102
  | .emergency => 103

/-- The higher of two levels; the first where they are equal. -/
def Level.max (a b : Level) : Level := if a.rank < b.rank then b else a

/-- A row of the table. -/
def Rows.get (r : Rows) : RowId → Row
  | .cab => r.cab
  | .supervision => r.supervision
  | .doors => r.doors
  | .radio => r.radio
  | .odometry => r.odometry
  | .loop => r.loop
  | .hold => r.hold

/-- A row of the table replaced. -/
def Rows.set (r : Rows) (i : RowId) (v : Row) : Rows :=
  match i with
  | .cab => { r with cab := v }
  | .supervision => { r with supervision := v }
  | .doors => { r with doors := v }
  | .radio => { r with radio := v }
  | .odometry => { r with odometry := v }
  | .loop => { r with loop := v }
  | .hold => { r with hold := v }

/-- The rows in the order of R63. -/
def RowId.all : List RowId := [.cab, .supervision, .doors, .radio, .odometry, .loop, .hold]

/-- The highest level among the seven rows (R64). -/
def Rows.highest (r : Rows) : Level :=
  RowId.all.foldl (fun m i => m.max (r.get i).level) .none

/-- A row at a level with a reason. -/
def Row.at (l : Level) (why : Reason) : Row := { level := l, reason := some why }

/-- Whether a row stands at EMERGENCY. -/
def Rows.anyEmergency (r : Rows) : Bool := RowId.all.any fun i => (r.get i).level == .emergency

/-- R65: the latch set, with its cause, unless it is set already; BRAKE is raised. The loop driver is
open while the latch is set (R80). -/
def State.setLatch (why : LatchCause) (s : State) : State :=
  if s.brm.latch.isSome then s
  else ({ s with brm := { s.brm with latch := some why } } : State).raise .brake

/-- R63, R65: a row written by its source. A row whose level becomes EMERGENCY sets the latch. -/
def State.writeRow (i : RowId) (v : Row) (s : State) : State :=
  if s.brm.rows.get i = v then s
  else
    let s' : State := { s with brm := { s.brm with rows := s.brm.rows.set i v } }
    if v.level = .emergency ∧ (s.brm.rows.get i).level ≠ .emergency then s'.setLatch (.row i) else s'

/-- R80: the loop driver is open while the latch is set. -/
def Brm.driverOpen (b : Brm) : Bool := b.latch.isSome

/-- R64: the effective level of the rows and the latch. -/
def Brm.effective (b : Brm) : Level := if b.latch.isSome then .emergency else b.rows.highest

/-- R64: the governing row, `none` standing for LATCH. -/
def Brm.governing (b : Brm) : Option RowId := RowId.all.find? fun i => (b.rows.get i).level == b.level

/-! ## The friction brake -/

/-- R76: the achieved electric brake percentage. -/
def Brm.achieved (b : Brm) : Nat := (-b.effort).toNat

/-- R67: the target pressure of a level, with the blend of the achieved percentage as it stands; a
target the subtraction would make negative is 0. -/
def State.targetFor (s : State) (l : Level) : Nat :=
  let blend := s.brm.achieved * s.par .pFs / 100
  match l with
  | .none => 0
  | .hold => s.par .pHold
  | .service p => p * s.par .pFs / 100 - blend
  | .fullService => s.par .pFs - blend
  | .emergency => s.par .pEm

/-- R69: the valve choice, absent while the loop-forced state stands or before the first gate end. -/
def State.valveChoice (s : State) : Option Valve :=
  if s.brm.loopForced then none
  else if s.brm.sensorFault then
    some (if Level.hold.rank ≤ s.brm.level.rank then .apply else .release)
  else
    match s.brm.measured with
    | none => none
    | some m =>
      if m + s.par .band < s.brm.target then some .apply
      else if s.brm.target + s.par .band < m then some .release
      else some .lap

/-- The valve state of an open choice. -/
def OpenValve.valve : OpenValve → Valve
  | .apply => .apply
  | .release => .release

/-- R70: the valves go to LAP; leaving APPLY or RELEASE records it as the last open state and starts
the dead time. A choice of LAP removes the waiting choice. -/
def State.toLap (s : State) : State :=
  match s.brm.valve with
  | .lap => { s with brm := { s.brm with waiting := none } }
  | .apply =>
    { s with brm := { s.brm with valve := .lap, lastOpen := some .apply, waiting := none,
                                 deadTimer := s.startMs (s.par .tDead) } }
  | .release =>
    { s with brm := { s.brm with valve := .lap, lastOpen := some .release, waiting := none,
                                 deadTimer := s.startMs (s.par .tDead) } }

/-- R70: an open choice taken at once. -/
def State.openValve (c : OpenValve) (s : State) : State :=
  { s with brm := { s.brm with valve := c.valve, waiting := none, deadTimer := none } }

/-- R70: a choice of APPLY or RELEASE. -/
def State.chooseOpen (c : OpenValve) (s : State) : State :=
  if s.brm.valve = c.valve then s
  else if s.brm.valve = .lap then
    if s.brm.lastOpen = none ∨ s.brm.lastOpen = some c ∨ s.brm.deadTimer = none then s.openValve c
    else { s with brm := { s.brm with waiting := some c } }
  else
    let s' := s.toLap
    { s' with brm := { s'.brm with waiting := some c } }

/-- R70: a valve choice taken. -/
def State.takeChoice (s : State) : State :=
  match s.valveChoice with
  | none => s
  | some .lap => s.toLap
  | some .apply => s.chooseOpen .apply
  | some .release => s.chooseOpen .release

/-- R67, R69: the target recomputed for the level as it stands, and then a valve choice. -/
def State.retarget (s : State) : State :=
  State.takeChoice { s with brm := { s.brm with target := s.targetFor s.brm.level } }

/-- R75: the electric brake duty of a level. -/
def ebrakeDuty : Level → Nat
  | .service p => p
  | .fullService => 100
  | .emergency => 100
  | .none => 0
  | .hold => 0

/-- R64: the effective level recomputed. A new level raises BRAKE and is handed to the friction brake
(R67, R69) and to the electric brake output (R75); the pinion command and the traction gate take it in
the same pass. -/
def State.refreshLevel (s : State) : State :=
  if s.brm.effective = s.brm.level then s
  else
    (({ s with brm := { s.brm with
          level := s.brm.effective
          ebrake := { s.brm.ebrake with latched := ebrakeDuty s.brm.effective } } } : State).raise
      .brake).retarget

/-- R71: the proving condition. -/
def State.provingCond (s : State) : Bool :=
  decide (s.par .pHold ≤ s.brm.target) && !s.brm.loopForced &&
    (s.brm.sensorFault ||
      match s.brm.measured with
      | none => false
      | some m => decide (m + s.par .band < s.brm.target))

/-- R71: what the proving condition reads. -/
def Brm.proveInputs (b : Brm) : ProveInputs :=
  { target := b.target, loopForced := b.loopForced, sensorFault := b.sensorFault, measured := b.measured }

/-- R71: the proving timer starts when the condition begins to hold and stops when it ceases. -/
def State.setProving (c : Bool) (s : State) : State :=
  { s with brm := { s.brm with
      proving := c
      proveTimer :=
        if c = s.brm.proving then s.brm.proveTimer
        else if c then s.startMs (s.par .tFprove)
        else none
      proveSeen := s.brm.proveInputs } }

/-- R68: the proving test at a gate end. -/
def State.testProving (s : State) : State := s.setProving s.provingCond

/-- R71: the condition tested where one of its inputs has changed since the last test. -/
def State.refreshProving (s : State) : State :=
  s.setProving (if s.brm.proveSeen = s.brm.proveInputs then s.brm.proving else s.provingCond)

/-! ## The pinion band brakes -/

/-- R72: the pinion command. -/
def State.pinionCommand (s : State) : PinionCmd :=
  if s.brm.level = .emergency ∨
      (Level.hold.rank ≤ s.brm.level.rank ∧ s.still ∧ s.odu.regime = .rack) ∨
      (s.brm.frictionFault ∧ s.odu.regime = .rack) ∨ s.dka.active = none then .applied
  else .released

/-- A band brake of a bogie. -/
def Brm.bandOf (b : Brm) : Bogie → Band
  | .upper => b.upper
  | .lower => b.lower

/-- A band brake replaced. -/
def Brm.setBand (b : Brm) (i : Bogie) (v : Band) : Brm :=
  match i with
  | .upper => { b with upper := v }
  | .lower => { b with lower := v }

/-- R73: the switch disagrees with the output driven: an energised output releases the brake. -/
def Band.disagrees (v : Band) (energised : Bool) : Bool := v.applied == energised

/-- R73: a band brake's timer and fault after its switch or its output has changed: the timer starts
afresh while they disagree, and where they agree it stops and a fault is cleared, which raises BRAKE. -/
def State.reprove (i : Bogie) (s : State) : State :=
  let v := s.brm.bandOf i
  if v.disagrees s.brm.energised then
    { s with brm := s.brm.setBand i { v with prove := s.startMs (s.par .tPprove) } }
  else
    State.raiseIf v.fault.isSome .brake
      { s with brm := s.brm.setBand i { v with prove := none, fault := none } }

/-- R72, R79: the command re-evaluated, and both release outputs driven from it; in the loop-forced
state they are de-energised whatever the command. A change of the output restarts both provings. -/
def State.refreshPinion (s : State) : State :=
  let cmd := s.pinionCommand
  let out := decide (cmd = .released) && !s.brm.loopForced
  let s' : State := { s with brm := { s.brm with pinion := cmd, energised := out } }
  if out = s.brm.energised then s' else (s'.reprove .upper).reprove .lower

/-- R74: holding proven. -/
def State.holdingNow (s : State) : Bool :=
  match s.odu.regime with
  | .rack => s.brm.pinion == .applied && s.brm.upper.applied && s.brm.lower.applied
  | .adhesion =>
    match s.brm.measured with
    | none => false
    | some m => decide (s.par .pHold ≤ m + s.par .band)

/-- R74: what the finding reads. -/
def State.holdInputs (s : State) : HoldInputs :=
  { regime := s.odu.regime, command := s.brm.pinion, upper := s.brm.upper.applied,
    lower := s.brm.lower.applied, measured := s.brm.measured }

/-- R74: the finding re-evaluated where the regime, the command, a switch or the measured pressure has
changed since it was last made. -/
def State.refreshHolding (s : State) : State :=
  { s with brm := { s.brm with
      holding := if s.brm.holdSeen = s.holdInputs then s.brm.holding else s.holdingNow
      holdSeen := s.holdInputs } }

/-! ## The traction gate and the departure -/

/-- The conditions of the traction gate, in the order of the table of R77. -/
inductive GateCond where
  | deskActive | direction | fresh | reversalLock | doorsClosed | latchClear | status | level | mode
  | noFailRelease
  deriving DecidableEq, Repr

/-- The conditions in order. -/
def GateCond.all : List GateCond :=
  [.deskActive, .direction, .fresh, .reversalLock, .doorsClosed, .latchClear, .status, .level, .mode,
   .noFailRelease]

/-- R77: a gate condition as it stands. -/
def State.gateHolds (s : State) : GateCond → Bool
  | .deskActive => s.dka.active.isSome
  | .direction => s.dka.selected.isSome
  | .fresh => (s.dka.activeCab.map CabRecord.isFresh).getD false
  | .reversalLock => !s.dka.lock
  | .doorsClosed => s.drc.summary
  | .latchClear => s.brm.latch.isNone
  | .status => s.ssu.status == .normal || s.ssu.status == .warning
  | .level =>
    s.brm.level == .none ||
      (s.brm.level == .hold && (s.brm.departure == .pulling || s.brm.departure == .stalled))
  | .mode => s.ssu.mode == .shunt || (s.ssu.mode == .full && s.tgh.authority.isSome)
  | .noFailRelease =>
    s.brm.upper.fault != some .failRelease && s.brm.lower.fault != some .failRelease

/-- R77: the first failing condition; the gate is open when there is none. -/
def State.gateFailure (s : State) : Option GateCond := GateCond.all.find? fun c => !s.gateHolds c

/-- R77: the gate is open. -/
def State.gateOpen (s : State) : Bool := s.gateFailure.isNone

/-- R82: every gate condition holds other than the effective-level condition. -/
def State.gateButLevel (s : State) : Bool :=
  GateCond.all.all fun c => c == .level || s.gateHolds c

/-- The gradient of a segment in a direction of travel. -/
def Segment.gradientIn (g : Segment) (d : Dir) : Int :=
  match d with
  | .up => g.gradient
  | .down => -g.gradient

/-- R83: the required effort in percent: the greatest gradient in the selected direction under the
position interval, 0 where there is none or it is below 0. -/
def State.requiredEffort (s : State) : Nat :=
  match s.dka.selected, s.lps.profile with
  | some d, some p =>
    if s.odu.located then
      let gs := (p.segmentsMeeting s.odu.pLo s.odu.pHi).map fun g => (g.gradientIn d).toNat
      ceilDiv (gs.foldl Nat.max 0 * s.par .hFactor) 250
    else 0
  | _, _ => 0

/-- R82: the conditions for a departure to begin. -/
def State.mayDepart (s : State) : Bool :=
  s.still && decide (0 < s.dka.supplied) && s.brm.level == .hold && s.gateButLevel

/-- R84: the conditions that abandon a departure. -/
def State.mustAbandon (s : State) : Bool :=
  s.dka.supplied == 0 || !s.gateButLevel || decide (Level.hold.rank < s.brm.level.rank)

/-- R83: the effort releases the hold. -/
def State.effortReached (s : State) : Bool :=
  s.brm.effortValid && decide ((s.brm.required : Int) ≤ s.brm.effort)

/-- R82 to R85: one re-evaluation of the departure state. The required effort of a departure that has ended
is kept until the next one (log entry 7); one that reaches RELEASED in motion is IDLE at the next
re-evaluation, in the same event (log entry 19). -/
def State.refreshDeparture (s : State) : State :=
  match s.brm.departure with
  | .idle =>
    if s.mayDepart then
      { s with brm := { s.brm with departure := .pulling, required := s.requiredEffort,
                                   stallTimer := some (s.now + Config.stallTime) } }
    else s
  | .pulling =>
    if s.mustAbandon then { s with brm := { s.brm with departure := .idle, stallTimer := none } }
    else if s.effortReached then
      { s with brm := { s.brm with departure := .released, stallTimer := none } }
    else s
  | .stalled =>
    if s.mustAbandon then { s with brm := { s.brm with departure := .idle, stallTimer := none } }
    else if s.effortReached then
      { s with brm := { s.brm with departure := .released, stallTimer := none } }
    else s
  | .released =>
    if !s.still || s.dka.supplied == 0 || !s.gateOpen then
      { s with brm := { s.brm with departure := .idle, stallTimer := none } }
    else s

/-- R78: the traction output follows the demand while the gate is open; when the gate is closed it is
driven to 0% at once, and a new period begins, but for an output that is at 0% already (log entry 19). -/
def State.refreshTraction (s : State) : State :=
  if s.gateOpen then
    { s with brm := { s.brm with traction := { s.brm.traction with latched := s.dka.supplied } } }
  else if s.brm.traction.latched = 0 ∧ s.brm.traction.driven = 0 then s
  else
    { s with brm := { s.brm with
        traction := { latched := 0, driven := 0, next := s.now + Config.pwmPeriod } } }

/-! ## The rows the BRM writes itself -/

/-- R81: the HOLD row. -/
def State.holdRow (s : State) : Row :=
  if s.dka.active = none then Row.at .fullService .noDesk
  else if s.still ∧ s.brm.holdElapsed ∧ s.brm.departure ≠ .released then Row.at .hold .standing
  else Row.clear

/-- The rollback distance shown, in dm, saturating at 255 (R17). -/
def Odu.rollbackDm (o : Odu) : Nat := min 255 (ceilDiv o.rollback 100000)

/-- R86: the ODOMETRY row. -/
def State.odometryRow (s : State) : Row :=
  if s.still then Row.clear
  else if s.par .rMax < s.odu.rollbackDm then Row.at .emergency .rollback
  else if s.ssu.mode = .full ∧ !s.odu.located then Row.at .emergency .positionLost
  else Row.clear

/-- R79: the LOOP row. -/
def State.loopRow (s : State) : Row :=
  if s.brm.senseOpen then Row.at .emergency .loopOpen else Row.clear

end Sys2Proof.Machine
end

