-- ==== Sys2Proof/Machine/Doors.lean ====
section
/-! DEFINITION. The Door Controller's shared operations (chapter 5): the motors, the entries into the
door states, the proven-closed test, and the side releases with their grant conditions. -/

namespace Sys2Proof.Machine

/-! ## Doors, sides and motors -/

/-- The side of a door (5.1). -/
def doorSide : DoorId → CarSide
  | .a1 => .a
  | .a2 => .a
  | .b1 => .b
  | .b2 => .b

/-- A door record. -/
def Drc.door (k : Drc) : DoorId → Door
  | .a1 => k.a1
  | .a2 => k.a2
  | .b1 => k.b1
  | .b2 => k.b2

/-- A door record replaced. -/
def Drc.setDoor (k : Drc) (i : DoorId) (d : Door) : Drc :=
  match i with
  | .a1 => { k with a1 := d }
  | .a2 => { k with a2 := d }
  | .b1 => { k with b1 := d }
  | .b2 => { k with b2 := d }

/-- A side release record. -/
def Drc.side (k : Drc) : CarSide → SideRelease
  | .a => k.sideA
  | .b => k.sideB

/-- A side release record replaced. -/
def Drc.setSide (k : Drc) (i : CarSide) (r : SideRelease) : Drc :=
  match i with
  | .a => { k with sideA := r }
  | .b => { k with sideB := r }

/-- The doors of a side, the upper one first. -/
def sideDoors : CarSide → List DoorId
  | .a => [.a1, .a2]
  | .b => [.b1, .b2]

/-- The four doors. -/
def allDoors : List DoorId := [.a1, .a2, .b1, .b2]

/-- A door of a state. -/
def State.door (s : State) (i : DoorId) : Door := s.drc.door i

/-- A door of a state replaced. -/
def State.setDoor (i : DoorId) (d : Door) (s : State) : State := { s with drc := s.drc.setDoor i d }

/-- Whether the release of a door's side is granted. -/
def State.isGranted (s : State) (i : CarSide) : Bool := (s.drc.side i).granted.isSome

/-- R91: a duty of 0% takes effect at once, and a new period begins, with the latched direction. -/
def Motor.off (period now : Nat) (m : Motor) : Motor :=
  if m.latched = 0 ∧ m.driven = 0 then m
  else { m with latched := 0, driven := 0, drivenDir := m.latchedDir, next := now + period }

/-- R91: a duty and a direction latched for the next period. -/
def Motor.drive (duty : Nat) (dir : MotorDir) (m : Motor) : Motor :=
  { m with latched := duty, latchedDir := dir }

/-! ## Entries into the door states -/

/-- A door timer started from its full value. -/
def State.doorTimer (s : State) (k : DoorTimer) (ms : Nat) : Option (DoorTimer × Nat) :=
  some (k, s.now + ms * 1000)

/-- A door at rest in a state that runs no timer and drives no motor (R90). -/
def State.doorAtRest (s : State) (st : DoorState) (d : Door) : Door :=
  { d with state := st, timer := none, motor := d.motor.off (s.par .tPwm) s.now }

/-- R94: a door entering OPENING. -/
def State.doorOpening (s : State) (d : Door) : Door :=
  { d with state := .opening, timer := s.doorTimer .tOpen (s.par .tOpen),
           motor := d.motor.drive (s.par .dOpen) .opens }

/-- R95: the dwell timer, run while the release is granted and T_dwell is not 0. -/
def State.dwellTimer (s : State) (i : DoorId) : Option (DoorTimer × Nat) :=
  if s.isGranted (doorSide i) ∧ s.par .tDwell ≠ 0 then s.doorTimer .dwell (s.par .tDwell) else none

/-- R95: a door entering OPEN. -/
def State.doorOpen (s : State) (i : DoorId) (d : Door) : Door :=
  { s.doorAtRest .opened d with timer := s.dwellTimer i }

/-- R96: a door entering WARNING. -/
def State.doorWarning (s : State) (d : Door) : Door :=
  { s.doorAtRest .warning d with timer := s.doorTimer .tWarn (s.par .tWarn) }

/-- R98: a door entering REVERSING, in phase STOP. -/
def State.doorReversing (s : State) (d : Door) : Door :=
  { s.doorAtRest (.reversing .stop) d with timer := some (.stopInterval, s.now + Config.stopTime) }

/-- R98: phase DRIVE of a reversal. -/
def State.doorDriving (s : State) (d : Door) : Door :=
  { d with state := .reversing .drive, timer := s.doorTimer .tRev (s.par .tRev),
           motor := d.motor.drive (s.par .dOpen) .opens }

/-- R97, R98: a door locking; while its side's release is granted it is RELEASED by the same change, so that
the LOCKED it passes through re-evaluates no summary and raises no DOOR (DESIGN CHOICE, log entry 20). -/
def State.doorLocks (s : State) (i : DoorId) (d : Door) : Door :=
  { s.doorAtRest (if s.isGranted (doorSide i) then .released else .locked) d with reversals := 0 }

/-- R100: a door entering FAULT. -/
def State.doorFault (i : DoorId) (why : DoorFault) (s : State) : State :=
  (s.setDoor i (s.doorAtRest (.fault why) (s.door i))).raise .door

/-- R97, R99: a reversal that counts, or the fourth one, which is a fault. -/
def State.countedReversal (i : DoorId) (s : State) : State :=
  if (s.door i).reversals < 3 then
    s.setDoor i { s.doorReversing (s.door i) with reversals := (s.door i).reversals + 1 }
  else s.doorFault i .reversalLimit

/-- R97: a door entering CLOSING, with the levels of ED and LK read at the entry. -/
def State.startClosing (i : DoorId) (s : State) : State :=
  let d := s.door i
  let c : Door := { d with state := .closing, timer := s.doorTimer .tClose (s.par .tClose),
                           motor := d.motor.drive (s.par .dClose) .closes }
  if d.ed then (s.setDoor i c).countedReversal i
  else if d.lk ∧ d.op then s.doorFault i .switchConflict
  else if d.lk then s.setDoor i (s.doorLocks i c)
  else s.setDoor i c

/-- Whether the switch-conflict test applies in a state: not in FAULT nor in ISOLATED (R100). -/
def DoorState.tested : DoorState → Bool
  | .fault _ => false
  | .isolated => false
  | _ => true

/-- R107: where a withdrawal moves a door of its side. -/
def State.doorWithdrawn (s : State) (d : Door) : Door :=
  match d.state with
  | .released => s.doorAtRest .locked d
  | .opening => s.doorWarning d
  | .opened => s.doorWarning d
  | .reversing _ => s.doorWarning d
  | .warning => d
  | .closing => d
  | .locked => d
  | .fault _ => d
  | .isolated => d

/-- R92, R93: where the grant moves a door of its side: LOCKED passes to RELEASED, and on to OPENING
where auto_open is ON. -/
def State.doorGranted (s : State) (d : Door) : Door :=
  if d.state = .locked then
    if s.par .autoOpen = 1 then s.doorOpening d else s.doorAtRest .released d
  else d

/-- A change made to both doors of a side. -/
def State.moveSide (i : CarSide) (f : Door → Door) (s : State) : State :=
  match i with
  | .a => { s with drc := { s.drc with a1 := f s.drc.a1, a2 := f s.drc.a2 } }
  | .b => { s with drc := { s.drc with b1 := f s.drc.b1, b2 := f s.drc.b2 } }

/-! ## Proven closed -/

/-- R102: a door is proven closed. -/
def Door.proven (d : Door) : Bool :=
  d.state == .locked || (d.state == .isolated && d.lk && !d.op)

/-- R102: the doors-proven-closed summary as the door records stand. -/
def Drc.allProven (k : Drc) : Bool := k.a1.proven && k.a2.proven && k.b1.proven && k.b2.proven

/-- R102: the summary re-evaluated; each change raises DOOR. -/
def State.refreshDoors (s : State) : State :=
  State.raiseIf (s.drc.allProven != s.drc.summary) .door
    { s with drc := { s.drc with summary := s.drc.allProven } }

/-- R103: the DOORS row. -/
def State.doorsRow (s : State) : Row :=
  if s.drc.summary then Row.clear
  else if s.still then Row.at .hold .doorsNotClosed
  else Row.at .emergency .doorInMotion

/-- R90: the sounder counts a door in WARNING or CLOSING. -/
def Door.sounds (d : Door) : Bool := d.state == .warning || d.state == .closing

/-- R90: the warning sounder output. -/
def Drc.sounder (k : Drc) : Bool := k.a1.sounds || k.a2.sounds || k.b1.sounds || k.b2.sounds

/-! ## Side releases -/

/-- Whether a segment carries the platform flag of a side. -/
def Segment.platform (g : Segment) : CarSide → Bool
  | .a => g.platA
  | .b => g.platB

/-- R105: the extent test for a side. -/
def State.extentServed (s : State) (i : CarSide) : Bool :=
  match s.lps.profile with
  | none => false
  | some p =>
    let gs := p.segmentsMeeting s.odu.pLo s.extentHi
    !gs.isEmpty && decide (s.extentHi ≤ p.lineEnd) &&
      (gs.all (fun g => g.platform i) ||
        (s.ssu.mode == .shunt && gs.all fun g => g.kind == .depot))

/-- The grant conditions in the order of R104. -/
def GrantCond.all : List GrantCond := [.standstill, .holding, .position, .platform, .holdDoors]

/-- R104: a grant condition as it stands. -/
def State.grantHolds (s : State) (i : CarSide) : GrantCond → Bool
  | .standstill => s.still
  | .holding => s.brm.holding && decide (Level.hold.rank ≤ s.brm.level.rank)
  | .position => s.odu.located
  | .platform => s.extentServed i
  | .holdDoors =>
    s.ssu.mode == .shunt ||
      match s.tgh.authority with
      | none => true
      | some a => !a.holdDoors

/-- R104, R106: the first grant condition that fails. -/
def State.grantFailure (s : State) (i : CarSide) : Option GrantCond :=
  GrantCond.all.find? fun c => !s.grantHolds i c

/-- R106, R107: a withdrawal. -/
def State.withdraw (i : CarSide) (why : WithdrawCause) (s : State) : State :=
  (({ s with drc := s.drc.setSide i { s.drc.side i with granted := none, cause := some why } } :
    State).moveSide i s.doorWithdrawn).raise .door

/-- A withdrawal of a side that is GRANTED. -/
def State.withdrawIfGranted (i : CarSide) (why : WithdrawCause) (s : State) : State :=
  if s.isGranted i then s.withdraw i why else s

/-- R106: the grant conditions of a GRANTED side re-tested. It is made on what an event leaves, and not on
values that the event passes through, such as the position between the two changes of a marker read (DESIGN
CHOICE, log entry 4). -/
def State.retest (i : CarSide) (s : State) : State :=
  match s.grantFailure i with
  | none => s
  | some c => s.withdrawIfGranted i (.cond c)

/-- R104: a grant. The doors of the side in LOCKED are moved under the new grant. -/
def State.grant (i : CarSide) (desk : Desk) (s : State) : State :=
  (({ s with drc := s.drc.setSide i { s.drc.side i with granted := some desk } } :
    State).moveSide i s.doorGranted).raise .door

end Sys2Proof.Machine
end

