-- ==== Sys2Proof/Machine/Desk.lean ====
section
/-! DEFINITION. The Desk Arbiter's readings (chapter 6): the selected direction, the CAB row, and the
orphan timer. -/

namespace Sys2Proof.Machine

/-- R111: the direction a desk's switch position selects. -/
def deskDir : Desk → DirSwitch → Option Dir
  | .u, .forward => some .up
  | .u, .neutral => none
  | .u, .reverse => some .down
  | .l, .forward => some .down
  | .l, .neutral => none
  | .l, .reverse => some .up

/-- R111: the direction the desk record's switch selects, whatever the reversal lock. -/
def Dka.switchDir (k : Dka) : Option Dir :=
  match k.active, k.switch with
  | some d, some w => deskDir d w
  | _, _ => none

/-- R111: the selected direction as derived: NONE with no desk active or with the reversal lock set. -/
def Dka.derived (k : Dka) : Option Dir := if k.lock then none else k.switchDir

/-- R111: the selected direction derived afresh. -/
def Dka.derive (k : Dka) : Dka := { k with selected := k.derived }

/-- R114: the CAB row. -/
def Dka.cabRow (k : Dka) : Row :=
  match k.activeCab with
  | none => Row.clear
  | some c =>
    match c.handle with
    | .emergency => Row.at .emergency .handleEmergency
    | .percent p =>
      if !c.isFresh then Row.at .fullService .cabStale
      else if p = 0 then Row.clear
      else if 100 ≤ p then Row.at .fullService .handle
      else Row.at (.service p) .handle

/-- R121: whether the orphan timer runs: the active desk's record is stale and the car stands. -/
def State.isOrphan (s : State) : Bool :=
  s.still &&
    match s.dka.activeCab with
    | none => false
    | some c => !c.isFresh

/-- R121: the orphan timer, started from its full value when both conditions come to hold and stopped
when either ceases. -/
def State.refreshOrphan (s : State) : State :=
  if s.isOrphan then
    if s.dka.orphan.isSome then s
    else { s with dka := { s.dka with orphan := s.startMs (s.par .tOrphan) } }
  else { s with dka := { s.dka with orphan := none } }

/-- A cab control record replaced. -/
def Dka.setCab (k : Dka) (d : Desk) (c : CabRecord) : Dka :=
  match d with
  | .u => { k with cabU := c }
  | .l => { k with cabL := c }

end Sys2Proof.Machine
end

