-- ==== Sys2Proof/Machine/Supervision.lean ====
section
/-! DEFINITION. The Speed Supervision Unit (chapter 3): the modes, the restriction list, and one
supervision cycle from the travel direction to the overrun test. -/

namespace Sys2Proof.Machine

/-! ## Modes -/

/-- R40, R41: a change of mode flushes the window and raises SUPERVISION; the mode NONE also clears the
warning indication. The prerequisites are absent until a cycle in FULL evaluates them (R42). Every other
field, MRSP and the conservative front after a change to NONE among them, stands until the next cycle, as
R40 and R43 say, although the record table of 3.5 calls these two absent in NONE (log entry 14). -/
def State.setMode (m : Mode) (s : State) : State :=
  State.raise .supervision
    (State.flush
      { s with ssu := { s.ssu with
          mode := m, prereqs := none, warning := s.ssu.warning && decide (m ≠ .none) } })

/-- R41: a request for a mode. -/
def State.requestMode (p : Port) (m : Mode) (s : State) : Answer :=
  if !s.isActivePort p then s.refuse .notActiveDesk
  else if !s.still then s.refuse .moving
  else if s.ssu.mode = m then s.accept
  else (s.setMode m).accept

/-! ## The restriction list -/

/-- Whether a restriction applies in a direction (3.2). -/
def Applies.appliesTo (a : Applies) (d : Dir) : Bool :=
  match a, d with
  | .both, _ => true
  | .up, .up => true
  | .up, .down => false
  | .down, .up => false
  | .down, .down => true

/-- The order of the list: by start, and by identity where the starts are equal (3.2). -/
def Restriction.before (a b : Restriction) : Bool :=
  decide (a.first < b.first) || (a.first == b.first && decide (a.ident < b.ident))

/-- R44: an entry inserted at its place. -/
def insertRestriction (r : Restriction) : List Restriction → List Restriction
  | [] => [r]
  | x :: t => if r.before x then r :: x :: t else x :: insertRestriction r t

/-- The list without the entry of an identity. -/
def withoutIdent (ident : Nat) (l : List Restriction) : List Restriction :=
  l.filter fun x => x.ident != ident

/-- R44: the tests that make a set malformed; the applies-to is absent when it is none of the three. -/
def malformedSet (ident first last speed : Nat) (applies : Option Applies) : Bool :=
  ident == 0 || !decide (first < last) || decide (120000 < last) || decide (1500 < speed) ||
    applies.isNone

/-- R45: the cap after an overflow. -/
def capAfter (cap : Option Nat) (speed : Nat) : Option Nat :=
  match cap with
  | none => some speed
  | some c => some (min c speed)

/-- A change of the list or of the cap flushes the window and raises RESTRICTION (R44 to R46). -/
def State.changeRestrictions (l : List Restriction) (cap : Option Nat) (s : State) : State :=
  State.raise .restriction
    (State.flush { s with ssu := { s.ssu with restrictions := l, cap := cap } })

/-- R44, R45: a set operation. -/
def State.restrictionSet (ident first last speed : Nat) (applies : Option Applies) (s : State) :
    State :=
  match applies with
  | none => { s with ssu := { s.ssu with malformed := satSucc 255 s.ssu.malformed } }
  | some a =>
    if malformedSet ident first last speed (some a) then
      { s with ssu := { s.ssu with malformed := satSucc 255 s.ssu.malformed } }
    else
      let r : Restriction :=
        { ident := ident, first := first, last := last, speed := speed, applies := a }
      let l := s.ssu.restrictions
      if l.contains r then s
      else if (l.any fun x => x.ident == ident) || decide (l.length < 12) then
        s.changeRestrictions (insertRestriction r (withoutIdent ident l)) s.ssu.cap
      else if capAfter s.ssu.cap speed = s.ssu.cap then s.raise .restriction
      else s.changeRestrictions l (capAfter s.ssu.cap speed)

/-- R46: a clear operation; identity 0 is clear-all. -/
def State.restrictionClear (ident : Nat) (s : State) : State :=
  let l := s.ssu.restrictions
  if ident = 0 then
    if l = [] ∧ s.ssu.cap = none then s else s.changeRestrictions [] none
  else if l.any fun x => x.ident == ident then
    s.changeRestrictions (withoutIdent ident l) s.ssu.cap
  else s

/-! ## The inputs of a cycle -/

/-- R47: the travel direction. -/
def State.travelDir (s : State) : Option Dir :=
  match s.dka.selected with
  | some d => some d
  | none =>
    match s.odu.motion with
    | .standstill => none
    | .movingUp => some .up
    | .movingDown => some .down

/-- R42: the three prerequisites as they stand. -/
def State.prereqsNow (s : State) : Prereqs :=
  { profile := s.lps.profile.isSome
    position := s.odu.located
    authority :=
      match s.tgh.authority with
      | none => false
      | some a => s.dka.selected.isNone || s.dka.selected == some a.dir }

/-- All prerequisites met. -/
def Prereqs.met (q : Prereqs) : Bool := q.profile && q.position && q.authority

/-- R48: the conservative front. -/
def State.frontFor (s : State) (d : Option Dir) : Option Nat :=
  d.map fun d =>
    match d with
    | .up => s.extentHi
    | .down => s.odu.pLo

/-- Whether a restriction's stretch meets the extent (R48). -/
def Restriction.meets (r : Restriction) (lo hi : Nat) : Bool :=
  decide (r.first ≤ hi) && decide (lo ≤ r.last)

/-- R48: a restriction counts toward MRSP in D; with D NONE every one does. -/
def Restriction.counts (r : Restriction) (d : Option Dir) : Bool :=
  match d with
  | none => true
  | some d => r.applies.appliesTo d

/-- R48: MRSP with a profile active and the position VALID or RESTORED: the least of the terms that
apply, or 1,500 cm/s with none. -/
def State.mrspOnLine (s : State) (p : Profile) (d : Option Dir) : Nat :=
  let gs := p.segmentsMeeting s.odu.pLo s.extentHi
  let rs := s.ssu.restrictions.filter fun r => r.meets s.odu.pLo s.extentHi && r.counts d
  let terms :=
    gs.map Segment.ceiling ++ rs.map Restriction.speed ++ s.ssu.cap.toList ++
      (if s.tgh.link = .ok then [] else [s.par .vRloss]) ++
      (if s.ssu.mode = .shunt then [s.par .vShunt] else []) ++
      (if gs.any fun g => g.kind == .rackEntry then [s.par .vRentry] else [])
  terms.foldl min 1500

/-! ## The look-ahead window -/

/-- R50: the deceleration of a piece of a kind and gradient in a direction. -/
def pieceDecel (aRack aAdh : Nat) (kind : SegKind) (gradient : Int) (d : Dir) : Nat :=
  let base : Int :=
    match kind with
    | .rack => aRack
    | .rackEntry => aRack
    | .adhesion => aAdh
    | .depot => aAdh
  let gt : Int :=
    match d with
    | .up => gradient
    | .down => -gradient
  let a : Int :=
    if 0 ≤ gt then base + gt * 900 / 1000 else base - (ceilDiv (gt.natAbs * 981) 1000 : Nat)
  if a < 10 then 0 else a.toNat

/-- R49: the distance ahead of a position. -/
def distAhead (front : Nat) (d : Dir) (x : Nat) : Int :=
  match d with
  | .up => (x : Int) - front
  | .down => (front : Int) - x

/-- A distance inserted in rising order; a distance already there makes one boundary with it. -/
def insertCut (x : Int) : List Int → List Int
  | [] => [x]
  | y :: t => if x < y then x :: y :: t else if x = y then y :: t else y :: insertCut x t

/-- R49: the cuts, those strictly between the front and the horizon, in rising order. -/
def sortedCuts (horizon : Int) (xs : List Int) : List Int :=
  (xs.filter fun x => decide (0 < x) && decide (x < horizon)).foldr insertCut []

/-- Consecutive boundaries, in pairs. -/
def spans : Int → List Int → List (Int × Int)
  | _, [] => []
  | a, b :: t => (a, b) :: spans b t

/-- A kind by the free value of its code. -/
def SegKind.ofFin (n : Fin 4) : SegKind := (SegKind.ofCode n.val).getD .adhesion

/-- The kind, gradient and ceiling of the segment that holds a piece, by the piece's lower end. Above
the line end no segment holds it and they are free values (log entry 9). A piece of the DOWN direction that
begins above the line end and reaches down into the last segment, or just to the line end, is taken whole
as a piece of the last segment, for its lower end is held by it (log entry 9). -/
def Profile.pieceSegment (p : Profile) (x : Nat) : SegKind × Int × Nat :=
  match p.segmentAt x with
  | some g => (g.kind, g.gradient, g.ceiling)
  | none =>
    (SegKind.ofFin (Config.offLineKind x), ((Config.offLineGradient x).val : Int) - 250,
      (Config.offLineCeiling x).val)

/-- The position of a distance ahead. -/
def posAhead (front : Nat) (d : Dir) (x : Int) : Nat :=
  match d with
  | .up => ((front : Int) + x).toNat
  | .down => ((front : Int) - x).toNat

/-- R49: one piece, from the near to the far distance. -/
def State.piece (s : State) (p : Profile) (front : Nat) (d : Dir) (near far : Int) : Piece :=
  let lower := posAhead front d (match d with | .up => near | .down => far)
  let upper := posAhead front d (match d with | .up => far | .down => near)
  let g := p.pieceSegment lower
  let rs := s.ssu.restrictions.filter fun r =>
    r.applies.appliesTo d && decide (r.first ≤ lower) && decide (upper ≤ r.last)
  { near := near.toNat, length := (far - near).toNat, kind := g.1, gradient := g.2.1,
    decel := pieceDecel (s.par .aRack) (s.par .aAdh) g.1 g.2.1 d,
    ceiling := (rs.map Restriction.speed ++
      (if g.1 = .rackEntry then [s.par .vRentry] else [])).foldl min g.2.2 }

/-- R49, R53: the authority limit that the window and the targets take, in FULL with its direction
equal to D. -/
def State.limitAhead (s : State) (d : Dir) : Option Nat :=
  match s.tgh.authority with
  | none => none
  | some a => if s.ssu.mode = .full ∧ a.dir = d then some a.limit else none

/-- The window as built: its pieces, its horizon and the truncated flag. -/
structure Built where
  pieces : List Piece
  horizon : Option Int
  truncated : Bool
  deriving DecidableEq, Repr

/-- R49: the distance ahead of the horizon before truncation. -/
def horizonAhead (lAhead lineEnd front : Nat) (d : Dir) : Int :=
  min (lAhead : Int) (match d with
    | .up => distAhead front d lineEnd
    | .down => distAhead front d 0)

/-- R49: the window built from the front in D. -/
def State.build (s : State) (p : Profile) (front : Nat) (d : Dir) : Built :=
  let h := horizonAhead (s.par .lAhead) p.lineEnd front d
  if h ≤ 0 then { pieces := [], horizon := some h, truncated := false }
  else
    let rs := s.ssu.restrictions.filter fun r => r.applies.appliesTo d
    let xs := p.segments.map Segment.start ++ rs.map Restriction.first ++ rs.map Restriction.last ++
      (s.limitAhead d).toList
    let all := spans 0 (sortedCuts h (xs.map (distAhead front d)) ++ [h])
    let kept := all.take 16
    let far := (kept.getLast?.map Prod.snd).getD h
    { pieces := kept.map fun b => s.piece p front d b.1 b.2, horizon := some far,
      truncated := decide (far < h) }

/-! ## Targets and curves -/

/-- A target: its distance ahead and its speed (R53). -/
abbrev Target := Int × Nat

/-- R53: the targets of a window. -/
def State.targets (s : State) (b : Built) (mrsp front : Nat) (d : Dir) : List Target :=
  ((b.pieces.filter fun q => decide (q.ceiling < mrsp)).map fun q => ((q.near : Int), q.ceiling)) ++
    (match s.limitAhead d, b.horizon with
      | some l, some h => if distAhead front d l ≤ h then [(distAhead front d l, 0)] else []
      | some l, none => [(distAhead front d l, 0)]
      | none, _ => []) ++
    (match b.horizon with
      | none => []
      | some h => [(h, 0)])

/-- The length in dm of a piece inside the span [a, b] (R54). -/
def Piece.inside (q : Piece) (a b : Int) : Nat :=
  (min ((q.near : Int) + q.length) b - max (q.near : Int) a).toNat

/-- R54: the allowance of a target. -/
def allowance (pieces : List Piece) (buildUp : Nat) (t : Target) : Nat :=
  if t.1 ≤ buildUp then 0
  else (pieces.map fun q => 2 * q.decel * (10 * q.inside buildUp t.1)).sum

/-- R54: the squared speed of a target with a margin. -/
def targetValue (pieces : List Piece) (buildUp margin : Nat) (t : Target) : Nat :=
  (t.2 + margin) ^ 2 + allowance pieces buildUp t

/-- R55: one curve value: the least of the MRSP term and the target values. -/
def curveValue (pieces : List Piece) (buildUp mrsp margin : Nat) (ts : List Target) : Nat :=
  (ts.map (targetValue pieces buildUp margin)).foldl min ((mrsp + margin) ^ 2)

/-- R55: of two targets the one whose S_p is less, the nearer where they are equal: the one with the lesser
distance ahead, which of two passed targets is the one further behind (log entry 14). -/
def closerTarget (pieces : List Piece) (buildUp : Nat) (a b : Target) : Target :=
  let x := targetValue pieces buildUp 0 a
  let y := targetValue pieces buildUp 0 b
  if y < x ∨ (y = x ∧ b.1 < a.1) then b else a

/-- R55: the governing target, absent when MRSP² alone gives S_perm. -/
def governingTarget (pieces : List Piece) (buildUp mrsp : Nat) (ts : List Target) : Option Target :=
  match ts with
  | [] => none
  | t :: r =>
    let g := r.foldl (closerTarget pieces buildUp) t
    if mrsp ^ 2 < targetValue pieces buildUp 0 g then none else some g

/-! ## Status and rows -/

/-- The order NORMAL, WARNING, SERVICE, EMERGENCY (R57). -/
def Status.rank : Status → Nat
  | .normal => 0
  | .warning => 1
  | .service => 2
  | .emergency => 3

/-- R56: the status. -/
def statusFor (v : Nat) (c : Curves) (before : Status) : Status :=
  if c.eb < v ^ 2 then .emergency
  else if c.sb < v ^ 2 ∨ (before = .service ∧ c.perm < v ^ 2) then .service
  else if c.perm < v ^ 2 then .warning
  else .normal

/-- R56, R60: the SUPERVISION row of the status of the last cycle and the OVERRUN flag. -/
def State.supervisionRow (s : State) : Row :=
  if s.ssu.overrun then Row.at .emergency .overrun
  else
    match s.ssu.status with
    | .normal => Row.clear
    | .warning => Row.clear
    | .service => Row.at .fullService .serviceCurve
    | .emergency => Row.at .emergency .emergencyCurve

/-- R59: the side of the end of authority on which the front lies. -/
def sideOf (front limit : Nat) (d : Dir) : Side :=
  match d with
  | .up => if limit < front then .beyond else .ahead
  | .down => if front < limit then .beyond else .ahead

/-! ## The cycle -/

/-- R47: the travel direction set; a change flushes the window and makes the authority side absent
(R59). -/
def State.setTravelDir (s : State) : State :=
  if s.travelDir = s.ssu.dir then s
  else State.flush { s with ssu := { s.ssu with dir := s.travelDir, authSide := none } }

/-- What one cycle computes before the status (R48 to R55). -/
structure Computed where
  prereqs : Option Prereqs
  front : Option Nat
  mrsp : Nat
  buildUp : Nat
  built : Built
  curves : Curves
  governing : Option Target
  deriving DecidableEq, Repr

/-- A window that is not built. -/
def Built.empty : Built := { pieces := [], horizon := none, truncated := false }

/-- R53 to R55: the curves of a window with its targets. -/
def State.curvesOf (s : State) (b : Built) (buildUp mrsp : Nat) (ts : List Target) : Curves :=
  { perm := curveValue b.pieces buildUp mrsp 0 ts
    sb := curveValue b.pieces buildUp mrsp (s.par .mSb) ts
    eb := curveValue b.pieces buildUp mrsp (s.par .mEb) ts }

/-- R49, R53 to R55: the window, the targets and the curves of a MRSP, with a profile to build from or
without one. -/
def State.computeFrom (s : State) (pre : Option Prereqs) (prof : Option Profile) (mrsp : Nat) :
    Computed :=
  let front := s.frontFor s.ssu.dir
  let buildUp := ceilDiv (s.odu.speed * s.par .tB) 100
  match prof, s.ssu.dir, front with
  | some p, some d, some f =>
    let b := s.build p f d
    let ts := s.targets b mrsp f d
    { prereqs := pre, front := front, mrsp := mrsp, buildUp := buildUp, built := b,
      curves := s.curvesOf b buildUp mrsp ts, governing := governingTarget b.pieces buildUp mrsp ts }
  | _, _, _ =>
    { prereqs := pre, front := front, mrsp := mrsp, buildUp := buildUp, built := Built.empty,
      curves := s.curvesOf Built.empty buildUp mrsp [], governing := none }

/-- R55: a cycle in FULL with a prerequisite missing: MRSP is 0 and one target stands at the front. -/
def State.computeMissing (s : State) (pre : Prereqs) : Computed :=
  { prereqs := some pre, front := s.frontFor s.ssu.dir, mrsp := 0,
    buildUp := ceilDiv (s.odu.speed * s.par .tB) 100, built := Built.empty,
    curves := s.curvesOf Built.empty 0 0 [(0, 0)], governing := some (0, 0) }

/-- R48 to R55: the computation of a cycle in SHUNT or FULL. -/
def State.compute (s : State) : Computed :=
  if s.ssu.mode = .full then
    if s.prereqsNow.met then
      match s.lps.profile with
      | some p => s.computeFrom (some s.prereqsNow) (some p) (s.mrspOnLine p s.ssu.dir)
      | none => s.computeMissing s.prereqsNow
    else s.computeMissing s.prereqsNow
  else
    match s.lps.profile with
    | some p =>
      if s.odu.located then s.computeFrom none (some p) (s.mrspOnLine p s.ssu.dir)
      else s.computeFrom none none (s.par .vShunt)
    | none => s.computeFrom none none (s.par .vShunt)

/-- R48 to R57: the record after the computation, with the status and the warning indication; a change
of status raises SUPERVISION. v is the speed field (R47), also at STANDSTILL, where the counts of a car that
has not left it may make it other than 0, which is the v² that R56 states there (log entry 14). -/
def State.takeComputed (c : Computed) (s : State) : State :=
  let st := statusFor s.odu.speed c.curves s.ssu.status
  State.raiseIf (st != s.ssu.status) .supervision
    { s with ssu := { s.ssu with
        status := st
        warning := s.ssu.warning || decide (s.ssu.status.rank < st.rank)
        prereqs := c.prereqs, front := c.front, mrsp := some c.mrsp, buildUp := some c.buildUp,
        curves := some c.curves, governing := c.governing, window := c.built.pieces,
        horizon := c.built.horizon, truncated := c.built.truncated,
        steep := c.built.pieces.any fun q => q.decel == 0 } }

/-- R51: the steep notice. -/
def State.steepNotice (s : State) : State :=
  if s.ssu.steep && !s.ssu.steepMark then
    State.raise .supervision { s with ssu := { s.ssu with steepMark := true } }
  else s

/-- R59: the new authority side, absent where the conditions do not hold. -/
def State.newSide (s : State) : Option Side :=
  match s.ssu.dir, s.tgh.authority, s.frontFor s.ssu.dir with
  | some d, some a, some f =>
    if s.ssu.mode = .full ∧ s.prereqsNow.met ∧ a.dir = d then some (sideOf f a.limit d) else none
  | _, _, _ => none

/-- R59: the overrun test. -/
def State.overrunTest (s : State) : State :=
  let side := s.newSide
  let s' : State := { s with ssu := { s.ssu with authSide := side } }
  if s.ssu.authSide = some .ahead ∧ side = some .beyond ∧ !s.still then
    State.raise .supervision { s' with ssu := { s'.ssu with overrun := true, warning := true } }
  else s'

/-- R43: a cycle in NONE. -/
def State.cycleNone (s : State) : State :=
  State.raiseIf (s.ssu.status != .normal) .supervision
    { s with ssu := { s.ssu with
        status := .normal, prereqs := none, front := none, mrsp := none, buildUp := none,
        curves := none, governing := none, window := [], horizon := none, truncated := false,
        steep := false, authSide := none } }

/-- R43, R47 to R59: one supervision cycle, but for the SUPERVISION row, which is written as the event
settles. -/
def State.cycle (s : State) : State :=
  if s.ssu.mode = .none then s.cycleNone
  else
    let s₁ := s.setTravelDir
    ((s₁.takeComputed s₁.compute).steepNotice).overrunTest

/-- R58: ACKNOWLEDGE. -/
def State.acknowledge (p : Port) (s : State) : Answer :=
  if !s.isActivePort p then s.refuse .notActiveDesk
  else if s.ssu.overrun && !s.still then s.refuse .moving
  else
    (State.raiseIf s.ssu.overrun .supervision
      { s with ssu := { s.ssu with warning := false, overrun := false } }).accept

end Sys2Proof.Machine
end

