-- ==== Sys2Proof/Machine/Settle.lean ====
section
/-! DEFINITION. What every event hands on: a change that one block makes is taken at once by the blocks
that read it (R36, R64, R77, R81, R86, R102, R103, R106, R114, R121, R150). One pass lets each reader
take the state as it stands; passes follow until nothing more changes (log entry 4). -/

namespace Sys2Proof.Machine

/-- R150: a call meets the extent; with the position INVALID every call does. -/
def State.callMeets (s : State) (c : Call) : Bool :=
  !s.odu.located || (decide (c.first ≤ s.extentHi) && decide (s.odu.pLo ≤ c.last))

/-- R150: whether a call of a severity meets the extent, the whole-line call included. -/
def State.called (s : State) (v : Severity) : Bool :=
  s.tgh.wholeLine == some v || s.tgh.calls.any fun c => c.severity == v && s.callMeets c

/-- R150: the RADIO row. -/
def State.radioRow (s : State) : Row :=
  if s.called .emergency then Row.at .emergency .callEmergency
  else if s.called .service then Row.at .fullService .callService
  else if s.tgh.link = .stop then Row.at .fullService .linkStop
  else Row.clear

/-- R63: every row written by its source, in the order of the table (log entry 4). -/
def State.writeRows (s : State) : State :=
  ((((((s.writeRow .cab s.dka.cabRow).writeRow .supervision s.supervisionRow).writeRow .doors
    s.doorsRow).writeRow .radio s.radioRow).writeRow .odometry s.odometryRow).writeRow .loop
    s.loopRow).writeRow .hold s.holdRow

/-- The readers of one pass: the pending activation, the side releases and the doors, the orphan timer, the
rows, and then the brake manager from the effective level to pressure proving. -/
def State.readersPass (s : State) : State :=
  ((((((((((s.takePending).retest .a).retest .b).refreshDoors).refreshOrphan).writeRows).refreshLevel
    ).refreshPinion).refreshHolding).refreshProving)

/-- One pass: the readers, and then the departure. -/
def State.settlePass (s : State) : State := s.readersPass.refreshDeparture

/-- Passes until the given number is spent; a settled state does not change in a pass. -/
def State.settle : Nat → State → State
  | 0, s => s
  | n + 1, s => State.settle n s.settlePass

/-- The number of passes of one event: more than the longest chain of readers (log entry 4). -/
def settlePasses : Nat := 6

/-- The end of an event: what it leaves, and no value it passed through (log entry 4), is handed on, the
readers once more after the last look at the departure, and then the traction output is driven as the gate
stands (R78). -/
def State.finish (s : State) : State := (s.settle settlePasses).readersPass.refreshTraction

/-! ## The motion state and its readers -/

/-- The direction of a motion state. -/
def Motion.dir : Motion → Option Dir
  | .standstill => none
  | .movingUp => some .up
  | .movingDown => some .down

/-- R16, R17, R81, R123: the motion state leaves STANDSTILL: the rollback distance is 0, the running
direction is fixed, and the hold delay is not counted while the car moves. -/
def State.leaveStandstill (m : Motion) (s : State) : State :=
  { s with
    odu := { s.odu with motion := m, rollback := 0 }
    dka := { s.dka with running := s.dka.selected.or m.dir }
    brm := { s.brm with holdTimer := none, holdElapsed := false } }

/-- R16: the leaving sums cleared. -/
def Odu.clearLeaving (o : Odu) : Odu :=
  { o with
    upper := { o.upper with src := { o.upper.src with leaving := 0 } }
    lower := { o.lower with src := { o.lower.src with leaving := 0 } }
    tooth := { o.tooth with src := { o.tooth.src with leaving := 0 } } }

/-- R81: the hold delay counted from the entry into STANDSTILL; with T_hold at 0 it has elapsed at
once. -/
def State.startHold (s : State) : State :=
  if s.par .tHold = 0 then { s with brm := { s.brm with holdTimer := none, holdElapsed := true } }
  else { s with brm := { s.brm with holdTimer := s.startMs (s.par .tHold), holdElapsed := false } }

/-- R16, R81, R123: the motion state becomes STANDSTILL: the reversal lock is cleared, the running
direction absent, the selected direction derived afresh, and T_hold counted from here. -/
def State.enterStandstill (s : State) : State :=
  State.startHold
    { s with
      odu := { s.odu.clearLeaving with motion := .standstill }
      dka := ({ s.dka with lock := false, running := none } : Dka).derive }

end Sys2Proof.Machine
end

