-- ==== Sys2Proof/Machine/Odometry.lean ====
section
/-! DEFINITION. The Odometry Unit (chapter 1): counts and teeth, the marker reader, the position
interval, source health, speed and motion, markers and the restoring of the position. -/

namespace Sys2Proof.Machine

/-! ## Sources -/

/-- The three distance sources. -/
inductive SourceId where
  | upper | lower | tooth
  deriving DecidableEq, Repr

/-- Every source. -/
def SourceId.all : List SourceId := [.upper, .lower, .tooth]

/-- What a source keeps. -/
def Odu.src (o : Odu) : SourceId → Source
  | .upper => o.upper.src
  | .lower => o.lower.src
  | .tooth => o.tooth.src

/-- What a source keeps, replaced. -/
def Odu.setSrc (o : Odu) (i : SourceId) (v : Source) : Odu :=
  match i with
  | .upper => { o with upper := { o.upper with src := v } }
  | .lower => { o with lower := { o.lower with src := v } }
  | .tooth => { o with tooth := { o.tooth with src := v } }

/-- A change made to all three sources. -/
def Odu.eachSrc (f : Source → Source) (o : Odu) : Odu :=
  { o with upper := { o.upper with src := f o.upper.src }
           lower := { o.lower with src := f o.lower.src }
           tooth := { o.tooth with src := f o.tooth.src } }

/-- A source is non-isolated when its health is OK or SUSPECT (chapter 1). -/
def Source.usable (v : Source) : Bool := v.health != .isolated

/-- The axle encoder of a bogie as a source. -/
def bogieSource : Bogie → SourceId
  | .upper => .upper
  | .lower => .lower

/-- An encoder. -/
def Odu.encoder (o : Odu) : Bogie → Encoder
  | .upper => o.upper
  | .lower => o.lower

/-- An encoder replaced. -/
def Odu.setEncoder (o : Odu) (i : Bogie) (v : Encoder) : Odu :=
  match i with
  | .upper => { o with upper := v }
  | .lower => { o with lower := v }

/-- The sign of a direction. -/
def Dir.sign : Dir → Int
  | .up => 1
  | .down => -1

/-! ## Counts and teeth -/

/-- R1: the place of a phase pair in the sequence that is followed while travelling UP. -/
def phaseIndex (a b : Bool) : Nat :=
  match a, b with
  | false, false => 0
  | true, false => 1
  | true, true => 2
  | false, true => 3

/-- What an edge of an encoder is (R1). -/
inductive PhaseStep where
  | unchanged
  | count (d : Dir)
  | illegal
  deriving DecidableEq, Repr

/-- R1: one step in the sequence's order counts UP, one in the reverse order DOWN, and both phases
changing together is an illegal transition. -/
def phaseStep (a b a' b' : Bool) : PhaseStep :=
  match (phaseIndex a' b' + 4 - phaseIndex a b) % 4 with
  | 0 => .unchanged
  | 1 => .count .up
  | 2 => .illegal
  | _ => .count .down

/-- R1: µm per count of an encoder. -/
def State.kOf (s : State) : Bogie → Nat
  | .upper => s.par .kUpper
  | .lower => s.par .kLower

/-- A distance added to both sums of a source. -/
def Source.travel (d : Int) (v : Source) : Source :=
  { v with sampleSum := v.sampleSum + d, intervalSum := v.intervalSum + d }

/-- R16: the standstill timer restarted. -/
def State.restartStand (s : State) : State :=
  { s with odu := { s.odu with standTimer := s.startMs (s.par .tStill) } }

/-- R16: the motion state a leaving sum of an encoder causes. -/
def leavesAt (sum limit : Int) : Option Motion :=
  if limit ≤ sum then some .movingUp else if sum ≤ -limit then some .movingDown else none

/-- R16: in STANDSTILL a source's leaving sum grows, and the car leaves STANDSTILL when it reaches the
limit. -/
def State.addLeaving (i : SourceId) (d limit : Int) (s : State) : State :=
  if !s.still then s
  else
    let v := s.odu.src i
    let s' : State := { s with odu := s.odu.setSrc i { v with leaving := v.leaving + d } }
    match leavesAt (v.leaving + d) limit with
    | none => s'
    | some m => s'.leaveStandstill m

/-- R1: one count of an encoder. -/
def State.count (i : Bogie) (d : Dir) (s : State) : State :=
  let e := s.odu.encoder i
  let o := s.odu.setEncoder i
    { e with src := e.src.travel (d.sign * s.kOf i), latest := some d }
  let s' : State := { s with odu := { o with lastCounted := some i } }
  if e.src.usable then (s'.restartStand).addLeaving (bogieSource i) d.sign 8 else s'

/-- R1: an illegal transition of an encoder. -/
def State.illegal (i : Bogie) (s : State) : State :=
  let e := s.odu.encoder i
  let e' : Encoder :=
    { e with illegalCount := satSucc 255 e.illegalCount, illegalTally := e.illegalTally + 1 }
  { s with odu := s.odu.setEncoder i e' }

/-- R1: the phases of an encoder after an edge. -/
def State.setPhases (i : Bogie) (a b : Bool) (s : State) : State :=
  { s with odu := s.odu.setEncoder i { s.odu.encoder i with phaseA := a, phaseB := b } }

/-- R1: an edge of an encoder's phases. -/
def State.encoderStep (i : Bogie) (a b : Bool) (s : State) : State :=
  match phaseStep (s.odu.encoder i).phaseA (s.odu.encoder i).phaseB a b with
  | .unchanged => s
  | .count d => (s.setPhases i a b).count i d
  | .illegal => (s.setPhases i a b).illegal i

/-- R2: the latest count of an encoder that is considered. -/
def Encoder.considered (e : Encoder) : Option Dir := if e.src.usable then e.latest else none

/-- R2: the direction of a tooth; `none` is an undirected tooth. -/
def State.toothDir (s : State) : Option Dir :=
  match s.odu.upper.considered, s.odu.lower.considered with
  | some u, some l =>
    if u = l then some u
    else if s.odu.lastCounted = some .upper then some u
    else some l
  | some u, none => some u
  | none, some l => some l
  | none, none => s.dka.selected

/-- R2: the tooth's distance taken: into the sums, or into the undirected tally. -/
def State.toothTravel (s : State) : State :=
  let t := s.odu.tooth
  match s.toothDir with
  | some d =>
    { s with odu := { s.odu with tooth := { t with src := t.src.travel (d.sign * s.par .pRack) } } }
  | none =>
    { s with odu := { s.odu with tooth := { t with
        undirInterval := t.undirInterval + s.par .pRack
        undirSample := t.undirSample + s.par .pRack } } }

/-- R2, R16: what a tooth of a non-isolated sensor does to the motion: an undirected tooth causes
MOVING_DOWN. -/
def State.toothMotion (s : State) : State :=
  if s.odu.tooth.src.usable then
    (s.restartStand).addLeaving .tooth ((s.toothDir.map Dir.sign).getD (-1)) 1
  else s

/-- R2: one tooth. -/
def State.takeTooth (s : State) : State :=
  State.toothMotion (State.toothTravel
    { s with odu := { s.odu with regimeTimer := some (s.now + Config.regimeTime) } })

/-! ## The position -/

/-- R10: every change of the position state raises POSITION. -/
def State.setPosition (p : Position) (s : State) : State :=
  if s.odu.pos = p then s else State.raise .position { s with odu := { s.odu with pos := p } }

/-- A bound clamped to the line (R10). -/
def clampUm (x : Int) : Nat := min x.toNat Config.maxUm

/-- R10: the bounds set, clamped, and the width tested. -/
def State.setBounds (lo hi : Int) (s : State) : State :=
  let s' : State := { s with odu := { s.odu with lo := clampUm lo, hi := clampUm hi } }
  if s'.odu.located ∧ s'.odu.pLo + s.par .uMax < s'.odu.pHi then s'.setPosition (.invalid .width)
  else s'

/-- R6: the regime as the records give it. -/
def State.chooseRegime (s : State) : Regime :=
  match s.lps.profile with
  | some p =>
    if s.odu.located then
      match p.segmentAt ((s.odu.pLo + s.odu.pHi) / 2) with
      | some g => if g.kind = .rack ∨ g.kind = .rackEntry then .rack else .adhesion
      | none => .adhesion
    else if s.odu.regimeTimer.isSome then .rack else .adhesion
  | none => if s.odu.regimeTimer.isSome then .rack else .adhesion

/-- R6, R11: the regime set; a change clears the health history. -/
def State.setRegime (s : State) : State :=
  let r := s.chooseRegime
  if r = s.odu.regime then s
  else { s with odu := ({ s.odu with regime := r } : Odu).eachSrc fun v => { v with window := [] } }

/-- R7: the used sources by the regime and the health as they stand. -/
def Odu.choose (o : Odu) : Used :=
  if o.regime = .rack ∧ o.tooth.src.health = .ok then
    { upper := false, lower := false, tooth := true }
  else { upper := o.upper.src.usable, lower := o.lower.src.usable, tooth := false }

/-- The used sources as a list. -/
def Used.list (u : Used) : List SourceId :=
  (if u.upper then [.upper] else []) ++ (if u.lower then [.lower] else []) ++
    (if u.tooth then [.tooth] else [])

/-- R9: the error rate of a source in ‰. -/
def State.errRate (s : State) (i : SourceId) : Nat :=
  match i with
  | .tooth => s.par .eTooth
  | .upper => if s.odu.slip then s.par .eSlip else s.par .eAxle
  | .lower => if s.odu.slip then s.par .eSlip else s.par .eAxle

/-- R9: the error of a sum. -/
def sumError (sum : Int) (rate : Nat) : Nat := ceilDiv (sum.natAbs * rate) 1000

/-- R9: the low move and the high move of a source. -/
def State.moves (s : State) (i : SourceId) : Int × Int :=
  let sum := (s.odu.src i).intervalSum
  (sum - sumError sum (s.errRate i), sum + sumError sum (s.errRate i))

/-- R9: what the used sources add to the two bounds: the least of the low moves and the greatest of the
high moves. -/
def boundMoves : List (Int × Int) → Int × Int
  | [] => (0, 0)
  | m :: t => t.foldl (fun a b => (min a.1 b.1, max a.2 b.2)) m

/-- R9: the widening by the undirected tally, when the tooth sensor is a used source. -/
def State.undirMove (s : State) (u : Used) : Nat :=
  if u.tooth then s.odu.tooth.undirInterval + ceilDiv (s.odu.tooth.undirInterval * s.par .eTooth) 1000
  else 0

/-- R9: the interval sums and the undirected tally cleared. -/
def Odu.clearInterval (o : Odu) : Odu :=
  let o' := o.eachSrc fun v => { v with intervalSum := 0 }
  { o' with tooth := { o'.tooth with undirInterval := 0 } }

/-- R9, R10, R16, R17: one interval update with the used sources given. The midpoint change, twice over,
is added to the sums of R16 and R17. -/
def State.updateInterval (u : Used) (s : State) : State :=
  let m := boundMoves (u.list.map s.moves)
  let w := s.undirMove u
  let twice := m.1 + m.2
  State.setBounds ((s.odu.lo : Int) + m.1 - w) ((s.odu.hi : Int) + m.2 + w)
    { s with odu := { s.odu.clearInterval with
        midSum := s.odu.midSum + twice, distHalf := s.odu.distHalf + twice.natAbs } }

/-! ## Source health -/

/-- A history with a new value, newest first, of at most `n` values. -/
def pushHist {α : Type} (n : Nat) (x : α) (l : List α) : List α := (x :: l).take n

/-- R11, R15: the sample sums of this expiry joined to the histories. -/
def Odu.pushSamples (o : Odu) : Odu :=
  let o' := o.eachSrc fun v =>
    { v with window := pushHist 20 v.sampleSum v.window, last4 := pushHist 4 v.sampleSum v.last4 }
  { o' with
    upper := { o'.upper with illegalHist := pushHist 20 o.upper.illegalTally o.upper.illegalHist }
    lower := { o'.lower with illegalHist := pushHist 20 o.lower.illegalTally o.lower.illegalHist }
    tooth := { o'.tooth with undir4 := pushHist 4 o.tooth.undirSample o.tooth.undir4 } }

/-- R12: a source's window distance. -/
def Source.distance (v : Source) : Int := v.window.sum

/-- The history holds 20 samples since it was last cleared (R11). -/
def Source.fullWindow (v : Source) : Bool := decide (20 ≤ v.window.length)

/-- R11: a window's disagreement tolerance. -/
def State.tolerance (s : State) (reference : Int) : Nat :=
  max (ceilDiv (reference.natAbs * s.par .tolDis) 1000) (s.par .pRack)

/-- The median of three. -/
def median3 (a b c : Int) : Int := max (min a b) (min (max a b) c)

/-- R12: a source judged against the median. -/
def Source.judge (median : Int) (tol : Nat) (v : Source) : Source :=
  let inside := decide ((v.distance - median).natAbs ≤ tol)
  match v.health with
  | .ok => if inside then v else { v with health := .suspect, inTol := 0, suspectRun := 1 }
  | .suspect =>
    let run := if inside then v.inTol + 1 else 0
    if 20 ≤ run then { v with health := .ok, inTol := run, suspectRun := v.suspectRun + 1 }
    else if 60 ≤ v.suspectRun + 1 then
      { v with health := .isolated, inTol := run, suspectRun := v.suspectRun + 1 }
    else { v with inTol := run, suspectRun := v.suspectRun + 1 }
  | .isolated => v

/-- How many sources are ISOLATED. -/
def Odu.isolated (o : Odu) : Nat := (SourceId.all.filter fun i => !(o.src i).usable).length

/-- R13: the flag is cleared when an axle encoder becomes ISOLATED. -/
def Odu.clearSlipIfIsolated (before o : Odu) : Odu :=
  if (before.upper.src.usable && !o.upper.src.usable) ||
      (before.lower.src.usable && !o.lower.src.usable) then { o with slip := false }
  else o

/-- A change of health: each source newly ISOLATED raises POSITION (R12, R14). -/
def State.setHealth (o : Odu) (s : State) : State :=
  State.raiseIf (decide (s.odu.isolated < o.isolated)) .position
    { s with odu := s.odu.clearSlipIfIsolated o }

/-- R12: the median check. -/
def State.medianCheck (s : State) : State :=
  if s.odu.regime = .rack ∧ s.odu.isolated = 0 ∧ s.odu.upper.src.fullWindow then
    let m := median3 s.odu.upper.src.distance s.odu.lower.src.distance s.odu.tooth.src.distance
    s.setHealth (s.odu.eachSrc (Source.judge m (s.tolerance m)))
  else s

/-- R13: the pair check. -/
def State.pairCheck (s : State) : State :=
  let u := s.odu.upper.src
  let l := s.odu.lower.src
  if u.usable ∧ l.usable ∧ u.fullWindow then
    let tol := s.tolerance (max (u.distance.natAbs : Int) l.distance.natAbs)
    { s with odu := { s.odu with slip := decide (tol < (u.distance - l.distance).natAbs) } }
  else s

/-- R14: an encoder whose illegal tallies sum to more than 16 becomes ISOLATED. -/
def Encoder.illegalCheck (e : Encoder) : Encoder :=
  if 16 < e.illegalHist.sum then { e with src := { e.src with health := .isolated } } else e

/-- R14: the check of both encoders. -/
def State.illegalCheck (s : State) : State :=
  s.setHealth { s.odu with upper := s.odu.upper.illegalCheck, lower := s.odu.lower.illegalCheck }

/-- R8: the test for loss of the distance sources fails. -/
def Odu.sourcesLost (o : Odu) : Bool :=
  !o.upper.src.usable && !o.lower.src.usable && !(o.regime == .rack && o.tooth.src.health == .ok)

/-- R8: a failure makes the position INVALID, unless it was INVALID already. -/
def State.sourceTest (s : State) : State :=
  if s.odu.sourcesLost ∧ s.odu.located then s.setPosition (.invalid .sourcesLost) else s

/-! ## Speed, motion and rollback -/

/-- The used sources, or the non-isolated sources if none is used (R15, R17). -/
def Odu.measuring (o : Odu) : List SourceId :=
  if o.used.list = [] then SourceId.all.filter fun i => (o.src i).usable else o.used.list

/-- R15: a source's magnitude over the last 4 samples. -/
def Odu.magnitude (o : Odu) (i : SourceId) : Nat :=
  match i with
  | .tooth => o.tooth.src.last4.sum.natAbs + o.tooth.undir4.sum
  | .upper => o.upper.src.last4.sum.natAbs
  | .lower => o.lower.src.last4.sum.natAbs

/-- R15: the greatest candidate speed. -/
def Odu.candidate (o : Odu) : Nat :=
  (o.measuring.map fun i => ceilDiv (o.magnitude i) 2000).foldl max 0

/-- R15: the speed and the OVERRANGE flag. -/
def Odu.setSpeed (o : Odu) : Odu :=
  if o.isolated = 3 then { o with speed := 1500, overrange := true }
  else if 1500 < o.candidate then { o with speed := 1500, overrange := true }
  else { o with speed := o.candidate, overrange := false }

/-- R16: the midpoint change of this sample joined to the last four, and the direction by their sum
while the car is not at STANDSTILL. -/
def Odu.setMotion (o : Odu) : Odu :=
  let mids := pushHist 4 o.midSum o.mid4
  let m :=
    if o.motion = .standstill then o.motion
    else if 0 < mids.sum then .movingUp
    else if mids.sum < 0 then .movingDown
    else o.motion
  { o with mid4 := mids, midSum := 0, motion := m }

/-- R17: how far a sum points against the selected direction. -/
def against (d : Dir) (sum : Int) : Nat :=
  match d with
  | .up => (-sum).toNat
  | .down => sum.toNat

/-- R17: the rollback distance. -/
def State.addRollback (s : State) : State :=
  match s.dka.selected with
  | none => s
  | some d =>
    if s.still then s
    else
      { s with odu := { s.odu with rollback := s.odu.rollback +
          (s.odu.measuring.map fun i => against d (s.odu.src i).sampleSum).foldl max 0 } }

/-- The sample sums and the tallies of this sample cleared (1.3). -/
def Odu.clearSample (o : Odu) : Odu :=
  let o' := o.eachSrc fun v => { v with sampleSum := 0 }
  { o' with upper := { o'.upper with illegalTally := 0 }, lower := { o'.lower with illegalTally := 0 }
            tooth := { o'.tooth with undirSample := 0 } }

/-- R6 to R10: the regime, the used sources, which are recorded, and the interval update. -/
def State.samplePosition (s : State) : State :=
  let s₁ := s.setRegime
  let u := s₁.odu.choose
  State.updateInterval u { s₁ with odu := { s₁.odu with used := u } }

/-- R8, R11 to R14: the health checks. The manual states no order of them within one expiry: the model runs
the median check, the pair check and then the illegal-transition test, so that an encoder which the last
isolates still takes part in the first two (log entry 8). -/
def State.sampleHealth (s : State) : State :=
  ((((({ s with odu := s.odu.pushSamples } : State).medianCheck).pairCheck).illegalCheck).sourceTest)

/-- R15 to R17: speed, motion direction and rollback distance, and the sums of this sample cleared. -/
def State.sampleMotion (s : State) : State :=
  let s₁ := State.addRollback { s with odu := s.odu.setSpeed.setMotion }
  { s₁ with odu := s₁.odu.clearSample }

/-- 1.3: one sample expiry, in the order it states. The update and the test of R8 may each change what R106
reads; the re-test takes what the expiry leaves (log entry 4). -/
def State.sample (s : State) : State := s.samplePosition.sampleHealth.sampleMotion

/-! ## The marker reader -/

/-- R3: a read is invalid: the held bits are discarded and the reader enters the state given. -/
def State.invalidRead (next : ReaderState) (s : State) : State :=
  { s with odu := { s.odu with
      invalidReads := satSucc 65535 s.odu.invalidReads
      reader := { s.odu.reader with state := next, bits := [] } } }

/-- The number a run of bits holds, most significant first. -/
def bitsNat (bs : List Bool) : Nat := bs.foldl (fun n b => 2 * n + bitOf b) 0

/-- R5: the check of an identity: the sum of its three groups modulo 16. -/
def markerCheck (ident : Nat) : Nat := (ident / 256 + ident / 16 % 16 + ident % 16) % 16

/-- R18: the marker interval in µm. -/
def State.markerInterval (s : State) (k : Marker) : Int × Int :=
  let m : Int := (k.pos : Int) - s.par .dAnt
  ((m - k.tol) * 100000, (m + k.tol) * 100000)

/-- R19, R20: an accepted read: the interval given, VALID, the identity, and the distance 0; R10 then
clamps and checks the width. -/
def State.acceptMarker (ident : Nat) (iv : Int × Int) (s : State) : State :=
  State.setBounds iv.1 iv.2
    (State.setPosition .valid { s with odu := { s.odu with lastMarker := some ident, distHalf := 0 } })

/-- R18 to R20: a marker found in the list. -/
def State.useMarker (k : Marker) (s : State) : State :=
  let iv := s.markerInterval k
  let lo : Int := s.odu.lo
  let hi : Int := s.odu.hi
  let t : Int := k.tol * 100000
  if s.odu.pos = .valid then
    if iv.1 ≤ hi ∧ lo ≤ iv.2 then s.acceptMarker k.ident (max lo iv.1, min hi iv.2)
    else if iv.1 ≤ hi + t ∧ lo - t ≤ iv.2 then s.acceptMarker k.ident iv
    else s.setPosition (.invalid .markerConflict)
  else s.acceptMarker k.ident iv

/-- R18: a read that passed its check: the interval is brought up to date, and then the identity is
looked up. The position state, p_lo and p_hi may so change twice in one event: by the update, which may leave
INVALID by WIDTH, and by the acceptance or the conflict. DESIGN CHOICE (log entry 4): R106 does not say whether
the values between the two withdraw a GRANTED side; the readers, its re-test among them, take only what the
event leaves. -/
def State.lookupMarker (ident : Nat) (s : State) : State :=
  let s₁ := s.updateInterval s.odu.choose
  match s₁.lps.profile with
  | none => s₁
  | some p =>
    match p.marker ident with
    | none => { s₁ with odu := { s₁.odu with unknownMarkers := satSucc 65535 s₁.odu.unknownMarkers } }
    | some k => s₁.useMarker k

/-- R5: the read completes with an identity and a check; the reader enters DISCARDING. -/
def State.completeRead (ident check : Nat) (s : State) : State :=
  if markerCheck ident = check then
    State.lookupMarker ident
      { s with odu := { s.odu with
          overrun := false, reader := { s.odu.reader with state := .discarding, bits := [] } } }
  else s.invalidRead .discarding

/-- R3: the bit of a pulse width, if it has one. A width that lies in both windows, as CONFIG allows before
the freeze has checked them (R176), is a 0: the model takes the short window first (log entry 8). -/
def State.pulseBit (s : State) (w : Nat) : Option Bool :=
  if s.par .shortMin ≤ w ∧ w ≤ s.par .shortMax then some false
  else if s.par .longMin ≤ w ∧ w ≤ s.par .longMax then some true
  else none

/-- R3: a rising edge comes more than the burst gap after the last falling edge; with no falling edge
captured yet it does. -/
def Reader.beyondGap (r : Reader) (time : Nat) : Bool :=
  match r.lastFall with
  | none => true
  | some f => decide (f + Config.burstGap < time)

/-- The reader after a capture: the level noted, and the edge's time. -/
def Reader.noteEdge (level : Bool) (time : Nat) (r : Reader) : Reader :=
  if level then { r with level := some true, lastRise := some time }
  else { r with level := some false, lastFall := some time }

/-- R3: a falling edge in COLLECTING appends a bit, or makes the read invalid; the 16th bit completes
it. `r` is the reader before the edge. -/
def State.appendBit (r : Reader) (time : Nat) (s : State) : State :=
  match s.pulseBit (time - r.lastRise.getD time) with
  | none => s.invalidRead .discarding
  | some b =>
    let bits := r.bits ++ [b]
    let s' : State := { s with odu := { s.odu with reader := { s.odu.reader with bits := bits } } }
    if bits.length < 16 then s' else s'.completeRead (bitsNat (bits.take 12)) (bitsNat (bits.drop 12))

/-- The state with the reader in COLLECTING and no bits held. -/
def State.startBurst (s : State) : State :=
  { s with odu := { s.odu with reader := { s.odu.reader with state := .collecting, bits := [] } } }

/-- R3, R4: what an edge does, by the reader's state before it. In COLLECTING a rising edge that repeats
the level noted before it is an invalid read by R3, also where it comes after the burst gap, when R4 would
have it begin a new burst: the model tests the equal levels first (log entry 8). -/
def State.readerEdge (r : Reader) (level : Bool) (time : Nat) (s : State) : State :=
  match r.state with
  | .idle => if level then s.startBurst else s
  | .collecting =>
    if r.level = some level then s.invalidRead .discarding
    else if level then
      if r.beyondGap time then
        State.startBurst { s with odu := { s.odu with overrun := true } }
      else s
    else s.appendBit r time
  | .discarding => if level && r.beyondGap time then s.startBurst else s

/-- R3: the collection timeout runs while the reader is COLLECTING or DISCARDING, and every edge captured
there restarts it. -/
def State.restartCollection (time : Nat) (s : State) : State :=
  { s with odu := { s.odu with reader := { s.odu.reader with
      timeout := if s.odu.reader.state = .idle then none else some (time + Config.collectionTime) } } }

/-- R3 to R5: one capture of the marker input. -/
def State.capture (level : Bool) (time : Nat) (s : State) : State :=
  let r := s.odu.reader
  State.restartCollection time
    (State.readerEdge r level time
      { s with odu := { s.odu with reader := r.noteEdge level time } })

/-- R3: the collection timeout expires. -/
def State.endCollection (s : State) : State :=
  let s₁ := if s.odu.reader.state = .collecting then s.invalidRead .idle else s
  { s₁ with odu := { s₁.odu with
      reader := { s₁.odu.reader with state := .idle, bits := [], timeout := none } } }

/-! ## Restoring the position -/

/-- R21: the position of a POSITION_RESTORE (11.2). -/
def restorePosition (arg1 arg2 : Word) : Nat := arg1.toNat + 65536 * bitOf (arg2.getLsbD 15)

/-- R21: the uncertainty of a POSITION_RESTORE (11.2), held to floor(U_max / 2). -/
def State.restoreUncertainty (s : State) (arg2 : Word) : Nat :=
  min (arg2.extractLsb' 0 15).toNat (s.par .uMax / 2)

/-- R21: an accepted restore: the state is RESTORED, and R10 clamps the bounds. -/
def State.restored (pos unc : Nat) (s : State) : State :=
  State.setBounds (((pos : Int) - unc) * 100000) (((pos : Int) + unc) * 100000)
    (State.setPosition .restored { s with odu := s.odu.clearInterval })

/-- R21: POSITION_RESTORE. -/
def State.restorePos (arg1 arg2 : Word) (s : State) : Answer :=
  if !s.still then s.refuse .moving
  else if s.dka.active.isSome then s.refuse .busy
  else if 120000 < restorePosition arg1 arg2 then s.refuse .badArgument
  else (s.restored (restorePosition arg1 arg2) (s.restoreUncertainty arg2)).accept

end Sys2Proof.Machine
end

