-- ==== Sys2Proof/Machine/Operands.lean ====
section
/-! DEFINITION. The coding of values (R182): words, bytes and the codes of every enumerated field, and
the coding of request arguments (11.2). -/

namespace Sys2Proof.Machine

/-! ## Words and bytes -/

/-- A number as a word. -/
def wordOf (n : Nat) : Word := BitVec.ofNat 16 n

/-- A signed number as a word, in two's complement (R182). -/
def signedWord (i : Int) : Word := BitVec.ofInt 16 i

/-- A field of two words, the high word first (R182). -/
def twoWords (n : Nat) : List Word := [wordOf (n / 65536), wordOf n]

/-- The bytes of a field of `k` bytes, high byte first (R182). -/
def bytesOf : Nat → Nat → List Byte
  | 0, _ => []
  | k + 1, n => BitVec.ofNat 8 (n / 256 ^ k) :: bytesOf k n

/-- Two bytes as a word, the first the high byte (R182). -/
def byteWord (hi lo : Byte) : Word := hi ++ lo

/-- The bytes of a word, high byte first. -/
def wordBytes (w : Word) : List Byte := [w.extractLsb' 8 8, w.extractLsb' 0 8]

/-! ## Request arguments (11.2) -/

/-- A side argument: 0 A, 1 B. -/
def argSide (w : Word) : Option CarSide :=
  if w = 0#16 then some .a else if w = 1#16 then some .b else none

/-- A door argument: 0 A1, 1 A2, 2 B1, 3 B2. -/
def argDoor (w : Word) : Option DoorId :=
  if w = 0#16 then some .a1 else if w = 1#16 then some .a2 else if w = 2#16 then some .b1
  else if w = 3#16 then some .b2 else none

/-- A setting argument: 0 OFF, 1 ON. -/
def argSetting (w : Word) : Option Bool :=
  if w = 0#16 then some false else if w = 1#16 then some true else none

/-! ## Codes of the motion record -/

/-- VALID, RESTORED, INVALID. -/
def Position.code : Position → Nat
  | .valid => 0
  | .restored => 1
  | .invalid _ => 2

/-- NO_FIX, WIDTH, SOURCES_LOST, MARKER_CONFLICT. -/
def Cause.code : Cause → Nat
  | .noFix => 0
  | .width => 1
  | .sourcesLost => 2
  | .markerConflict => 3

/-- The cause of invalidity, absent unless INVALID. -/
def Position.cause : Position → Option Cause
  | .invalid c => some c
  | .valid => none
  | .restored => none

/-- STANDSTILL, MOVING_UP, MOVING_DOWN. -/
def Motion.code : Motion → Nat
  | .standstill => 0
  | .movingUp => 1
  | .movingDown => 2

/-- RACK, ADHESION. -/
def Regime.code : Regime → Nat
  | .rack => 0
  | .adhesion => 1

/-- OK, SUSPECT, ISOLATED. -/
def Health.code : Health → Nat
  | .ok => 0
  | .suspect => 1
  | .isolated => 2

/-! ## Codes of directions and desks -/

/-- UP, DOWN. -/
def Dir.code : Dir → Nat
  | .up => 0
  | .down => 1

/-- UP, DOWN, NONE. -/
def dirCode : Option Dir → Nat
  | some d => d.code
  | none => 2

/-- A granting desk: U, L. -/
def deskCode : Desk → Nat
  | .u => 0
  | .l => 1

/-- The active desk: NONE, U, L. -/
def activeCode : Option Desk → Nat
  | none => 0
  | some .u => 1
  | some .l => 2

/-- FORWARD, NEUTRAL, REVERSE. -/
def DirSwitch.code : DirSwitch → Nat
  | .forward => 0
  | .neutral => 1
  | .reverse => 2

/-- The direction switch a word names; any other code is NEUTRAL (R112). -/
def DirSwitch.ofWord (w : Word) : DirSwitch :=
  if w = 0#16 then .forward else if w = 2#16 then .reverse else .neutral

/-- The brake handle's code: 255 is EMERGENCY (11.4). -/
def Handle.code : Handle → Nat
  | .percent p => p
  | .emergency => 255

/-- The brake handle a word names: above 100 and not EMERGENCY is 100% (R112). -/
def Handle.ofWord (w : Word) : Handle :=
  if w = 255#16 then .emergency else .percent (min 100 w.toNat)

/-! ## Codes of the profile store -/

/-- ACTIVE, STANDBY, NONE. -/
def Role.code : Role → Nat
  | .active => 0
  | .standby => 1
  | .none => 2

/-- EMPTY, OPEN, CLOSED, CHECKED, FAILED. -/
def BankState.code : BankState → Nat
  | .empty => 0
  | .opened => 1
  | .closed => 2
  | .checked => 3
  | .failed => 4

/-- PASSED 0, the failures of R26 1 to 13, MISSING_BLOCKS 14 (11.3). -/
def CheckResult.code : CheckResult → Nat
  | .passed => 0
  | .countLength => 1
  | .headerMismatch => 2
  | .firstStart => 3
  | .segmentOrder => 4
  | .lineEnd => 5
  | .shortSegment => 6
  | .fieldRange => 7
  | .flagBits => 8
  | .rackEntry => 9
  | .markerIdentity => 10
  | .markerDuplicate => 11
  | .markerOrder => 12
  | .crc => 13
  | .missingBlocks => 14

/-- The claim holder: NONE, PORT_C, RADIO. -/
def holderCode : Option Writer → Nat
  | none => 0
  | some .portC => 1
  | some .radio => 2

/-- The source of a pending activation: PORT_C 0, RADIO 1. DESIGN CHOICE: no record table lists its values, which
2.2 names in its text in this order; the claim holder's table, with NONE before them, would give 1 and 2 (log
entry 17). -/
def Writer.code : Writer → Nat
  | .portC => 0
  | .radio => 1

/-! ## Codes of supervision -/

/-- NONE, SHUNT, FULL. -/
def Mode.code : Mode → Nat
  | .none => 0
  | .shunt => 1
  | .full => 2

/-- NORMAL, WARNING, SERVICE, EMERGENCY. -/
def Status.code (x : Status) : Nat := x.rank

/-- A prerequisite: met, missing. -/
def metCode (b : Bool) : Nat := if b then 0 else 1

/-- BOTH, UP, DOWN. -/
def Applies.code : Applies → Nat
  | .both => 0
  | .up => 1
  | .down => 2

/-- The applies-to a byte names, if it names one (11.6). -/
def Applies.ofCode (n : Nat) : Option Applies :=
  if n = 0 then some .both else if n = 1 then some .up else if n = 2 then some .down else none

/-- ADHESION, RACK, RACK_ENTRY, DEPOT. -/
def SegKind.code : SegKind → Nat
  | .adhesion => 0
  | .rack => 1
  | .rackEntry => 2
  | .depot => 3

/-- AHEAD, BEYOND. -/
def Side.code : Side → Nat
  | .ahead => 0
  | .beyond => 1

/-! ## Codes of the brake manager -/

/-- NONE, HOLD, SERVICE, FULL_SERVICE, EMERGENCY. -/
def Level.code : Level → Nat
  | .none => 0
  | .hold => 1
  | .service _ => 2
  | .fullService => 3
  | .emergency => 4

/-- The percentage, present with SERVICE. -/
def Level.percent : Level → Option Nat
  | .service p => some p
  | .none => Option.none
  | .hold => Option.none
  | .fullService => Option.none
  | .emergency => Option.none

/-- The reason codes of 11.3. -/
def Reason.code : Reason → Nat
  | .handle => 0
  | .handleEmergency => 1
  | .cabStale => 2
  | .serviceCurve => 3
  | .emergencyCurve => 4
  | .overrun => 5
  | .doorsNotClosed => 6
  | .doorInMotion => 7
  | .callService => 8
  | .linkStop => 9
  | .callEmergency => 10
  | .rollback => 11
  | .positionLost => 12
  | .loopOpen => 13
  | .standing => 14
  | .noDesk => 15

/-- The rows in the order of R63. -/
def RowId.code : RowId → Nat
  | .cab => 0
  | .supervision => 1
  | .doors => 2
  | .radio => 3
  | .odometry => 4
  | .loop => 5
  | .hold => 6

/-- The governing row; `none` is LATCH, 7 (11.3). -/
def governingCode : Option RowId → Nat
  | some r => r.code
  | none => 7

/-- The latch cause: the rows, PINION_APPLY 7, RESET 8 (11.3). -/
def LatchCause.code : LatchCause → Nat
  | .row r => r.code
  | .pinionApply => 7
  | .reset => 8

/-- APPLY, LAP, RELEASE. -/
def Valve.code : Valve → Nat
  | .apply => 0
  | .lap => 1
  | .release => 2

/-- The waiting choice: APPLY, RELEASE. -/
def OpenValve.code : OpenValve → Nat
  | .apply => 0
  | .release => 1

/-- APPLIED, RELEASED. -/
def PinionCmd.code : PinionCmd → Nat
  | .applied => 0
  | .released => 1

/-- FAIL_APPLY, FAIL_RELEASE. -/
def PinionFault.code : PinionFault → Nat
  | .failApply => 0
  | .failRelease => 1

/-- The rows of the table of R77, 0 to 9 (11.3). -/
def GateCond.code : GateCond → Nat
  | .deskActive => 0
  | .direction => 1
  | .fresh => 2
  | .reversalLock => 3
  | .doorsClosed => 4
  | .latchClear => 5
  | .status => 6
  | .level => 7
  | .mode => 8
  | .noFailRelease => 9

/-- IDLE, PULLING, STALLED, RELEASED. -/
def Departure.code : Departure → Nat
  | .idle => 0
  | .pulling => 1
  | .stalled => 2
  | .released => 3

/-! ## Codes of the doors -/

/-- A1, A2, B1, B2. -/
def doorCode : DoorId → Nat
  | .a1 => 0
  | .a2 => 1
  | .b1 => 2
  | .b2 => 3

/-- A, B. -/
def CarSide.code : CarSide → Nat
  | .a => 0
  | .b => 1

/-- LOCKED, RELEASED, OPENING, OPEN, WARNING, CLOSING, REVERSING, FAULT, ISOLATED. -/
def DoorState.code : DoorState → Nat
  | .locked => 0
  | .released => 1
  | .opening => 2
  | .opened => 3
  | .warning => 4
  | .closing => 5
  | .reversing _ => 6
  | .fault _ => 7
  | .isolated => 8

/-- STOP, DRIVE, present in REVERSING. -/
def DoorState.phaseCode : DoorState → Option Nat
  | .reversing .stop => some 0
  | .reversing .drive => some 1
  | _ => none

/-- OPEN_TIMEOUT, REVERSAL_LIMIT, LOCK_LOST, SWITCH_CONFLICT, present in FAULT. -/
def DoorState.faultCode : DoorState → Option Nat
  | .fault .openTimeout => some 0
  | .fault .reversalLimit => some 1
  | .fault .lockLost => some 2
  | .fault .switchConflict => some 3
  | _ => none

/-- T_open, dwell, T_warn, T_close, stop interval, T_rev. -/
def DoorTimer.code : DoorTimer → Nat
  | .tOpen => 0
  | .dwell => 1
  | .tWarn => 2
  | .tClose => 3
  | .stopInterval => 4
  | .tRev => 5

/-- OPEN, CLOSE. -/
def MotorDir.code : MotorDir → Nat
  | .opens => 0
  | .closes => 1

/-- The grant conditions in the order of the table of R104 (log entry 17). -/
def GrantCond.code : GrantCond → Nat
  | .standstill => 0
  | .holding => 1
  | .position => 2
  | .platform => 3
  | .holdDoors => 4

/-- The withdrawal causes in the order of the table of R106 (log entry 17). -/
def WithdrawCause.code : WithdrawCause → Nat
  | .cond c => c.code
  | .close => 5
  | .desk => 6

/-! ## Codes of the radio and the telegrams -/

/-- SYNCED, COASTING, UNSYNCED. -/
def Sync.code : Sync → Nat
  | .synced => 0
  | .coasting => 1
  | .unsynced => 2

/-- IDLE, LEAD, SENDING. -/
def TxState.code : TxState → Nat
  | .idle => 0
  | .lead => 1
  | .sending => 2

/-- HUNT, HEADER, PAYLOAD, CHECK. -/
def RxState.code : RxState → Nat
  | .hunt => 0
  | .header => 1
  | .payload => 2
  | .check => 3

/-- OK, LOST, STOP. -/
def Link.code : Link → Nat
  | .ok => 0
  | .lost => 1
  | .stop => 2

/-- SERVICE, EMERGENCY. -/
def Severity.code : Severity → Nat
  | .service => 0
  | .emergency => 1

/-- The severity a byte names, if it names one (11.6). -/
def Severity.ofCode (n : Nat) : Option Severity :=
  if n = 0 then some .service else if n = 1 then some .emergency else none

/-- The addressing of a text: TO_CAR, TO_ALL. -/
def addressingCode (toCar : Bool) : Nat := if toCar then 0 else 1

/-- The result codes of 11.2. -/
def ResultCode.code : ResultCode → Nat
  | .accepted => 0
  | .busy => 1
  | .notReady => 2
  | .moving => 3
  | .notActiveDesk => 4
  | .conditions => 5
  | .badArgument => 6
  | .full => 7
  | .bankBusy => 8
  | .notChecked => 9
  | .version => 10
  | .frozen => 11
  | .notPermitted => 12

end Sys2Proof.Machine
end

