-- ==== Sys2Proof/Machine/Telegrams.lean ====
section
/-! DEFINITION. The Telegram Handler (chapter 8): admission, the link, the authority, the calls, the
profile telegrams, the text queues, and the telegram of the own slot. -/

namespace Sys2Proof.Machine

/-! ## Admission -/

/-- The kinds of telegram, by the codes of 11.6. -/
inductive TelegramKind where
  | beacon | authority | revoke | restrictSet | restrictClear | emergencyCall | callCancel
  | profileOpen | profileBlock | profileClose | profileActivate | text | positionReport
  deriving DecidableEq, Repr

/-- The kind a code names; 0, 14 and 15 name none (11.6). -/
def TelegramKind.ofCode (c : BitVec 4) : Option TelegramKind :=
  match c.toNat with
  | 1 => some .beacon
  | 2 => some .authority
  | 3 => some .revoke
  | 4 => some .restrictSet
  | 5 => some .restrictClear
  | 6 => some .emergencyCall
  | 7 => some .callCancel
  | 8 => some .profileOpen
  | 9 => some .profileBlock
  | 10 => some .profileClose
  | 11 => some .profileActivate
  | 12 => some .text
  | 13 => some .positionReport
  | _ => none

/-- The code of a kind (11.6). -/
def TelegramKind.code : TelegramKind → BitVec 4
  | .beacon => 1#4
  | .authority => 2#4
  | .revoke => 3#4
  | .restrictSet => 4#4
  | .restrictClear => 5#4
  | .emergencyCall => 6#4
  | .callCancel => 7#4
  | .profileOpen => 8#4
  | .profileBlock => 9#4
  | .profileClose => 10#4
  | .profileActivate => 11#4
  | .text => 12#4
  | .positionReport => 13#4

/-- Whether a kind may be addressed to all cars (the table of 8.1). -/
def TelegramKind.takesAll : TelegramKind → Bool
  | .beacon => true
  | .restrictSet => true
  | .restrictClear => true
  | .emergencyCall => true
  | .callCancel => true
  | .text => true
  | _ => false

/-- Whether a kind may be addressed to one car (the table of 8.1). -/
def TelegramKind.takesCar : TelegramKind → Bool
  | .beacon => false
  | .positionReport => false
  | _ => true

/-- Whether a payload length is the one of the kind (the table of 8.1). -/
def TelegramKind.takesLength (k : TelegramKind) (n : Nat) : Bool :=
  match k with
  | .beacon => n == 4
  | .authority => n == 11
  | .revoke => n == 1
  | .restrictSet => n == 10
  | .restrictClear => n == 1
  | .emergencyCall => n == 8
  | .callCancel => n == 1
  | .profileOpen => n == 4
  | .profileBlock => n == 9
  | .profileClose => n == 6
  | .profileActivate => n == 2
  | .text => decide (n ≤ 12)
  | .positionReport => n == 12

/-- What becomes of a delivered telegram (R142). -/
inductive Fate where
  | discarded | foreign | formatError
  | admitted (k : TelegramKind)
  deriving DecidableEq, Repr

/-- The UPLINK flag (11.6). -/
def isUplink (e : Envelope) : Bool := e.flags.getLsbD 3

/-- Whether a reserved flag is set (11.6). -/
def hasReserved (e : Envelope) : Bool := e.flags.extractLsb' 0 3 != 0#3

/-- Whether the envelope is addressed to this car. -/
def State.isMine (s : State) (e : Envelope) : Bool := e.addr.toNat == s.par .carAddress

/-- R142: whether the table of 8.1 accepts the address and the length for the kind. -/
def State.fits (s : State) (k : TelegramKind) (e : Envelope) : Bool :=
  (if e.addr = 0 then k.takesAll else k.takesCar && s.isMine e) && k.takesLength e.payload.length

/-- R142: the admission tests, in order. -/
def State.fate (s : State) (t : Telegram) : Fate :=
  if !s.pst.frozen then .discarded
  else if isUplink t.env then .foreign
  else if t.env.addr ≠ 0 ∧ !s.isMine t.env then .foreign
  else if hasReserved t.env then .formatError
  else
    match TelegramKind.ofCode t.kind with
    | none => .formatError
    | some k =>
      if k = .positionReport then .formatError
      else if s.fits k t.env then .admitted k
      else .formatError

/-- R142: the format-error count incremented. -/
def State.formatError (s : State) : State :=
  { s with tgh := { s.tgh with formatErrors := satSucc 65535 s.tgh.formatErrors } }

/-- R142: the foreign count incremented. -/
def State.foreignTelegram (s : State) : State :=
  { s with tgh := { s.tgh with foreign := satSucc 65535 s.tgh.foreign } }

/-! ## The link -/

/-- R153: the shadow allowance applies. -/
def State.inShadow (s : State) : Bool :=
  s.odu.located &&
    match s.extentSegments s.odu.pLo s.extentHi with
    | none => false
    | some gs => gs.any fun g => g.shadow

/-- R153: the link state of the silent-cycle count. -/
def State.linkFor (s : State) (shadow : Bool) : Link :=
  if (if shadow then s.par .nShadow else s.par .nStop) ≤ s.tgh.silent then .stop
  else if s.par .nLoss ≤ s.tgh.silent then .lost
  else .ok

/-- R154: the link state set. A change raises LINK, and leaving OK aborts a radio load. -/
def State.setLink (l : Link) (s : State) : State :=
  if s.tgh.link = l then s
  else
    let s₁ := State.raise .link { s with tgh := { s.tgh with link := l } }
    if s.tgh.link = .ok then s₁.abortRadioLoad else s₁

/-- R153: the link evaluated. -/
def State.evaluateLink (s : State) : State :=
  let shadow := s.inShadow
  State.setLink (s.linkFor shadow) { s with tgh := { s.tgh with shadowUsed := shadow } }

/-- R152: a valid telegram. -/
def State.hearValley (s : State) : State :=
  State.evaluateLink { s with tgh := { s.tgh with silent := 0 } }

/-- R152: a cycle that has passed. -/
def State.silentCycle (s : State) : State :=
  State.evaluateLink { s with tgh := { s.tgh with silent := satSucc 255 s.tgh.silent } }

/-! ## What each kind does -/

/-- A field of `n` bytes of a payload, at an offset, high byte first (R182). -/
def payloadField (bs : List Byte) (a n : Nat) : Nat := beNat ((bs.drop a).take n)

/-- R143: an admitted BEACON. -/
def State.takeBeacon (bs : List Byte) (s : State) : State :=
  State.compareOutdated
    { s with tgh := { s.tgh with beacon := some (payloadField bs 0 2, payloadField bs 2 2) } }

/-- R146: a change of the authority record handed on. -/
def State.changeAuthority (a : Option Authority) (s : State) : State :=
  State.raise .authorityChanged
    (State.flush { s with
      tgh := { s.tgh with authority := a }
      ssu := { s.ssu with authSide := none } })

/-- The ignored-authority count incremented. -/
def State.ignoreAuthority (s : State) : State :=
  { s with tgh := { s.tgh with ignored := satSucc 255 s.tgh.ignored } }

/-- R144: whether issue j is accepted over the present record: newer, from 1 to 127 modulo 256. -/
def issueNewer (i j : Nat) : Bool :=
  decide (1 ≤ (j + 256 - i) % 256) && decide ((j + 256 - i) % 256 ≤ 127)

/-- R144: the direction a direction byte names, by its bits 1 to 0 (11.6). -/
def authorityDir (b : Nat) : Option Dir :=
  match b % 4 with
  | 0 => some .up
  | 1 => some .down
  | _ => none

/-- R144: an AUTHORITY accepted. -/
def State.acceptAuthority (a : Authority) (s : State) : State :=
  State.changeAuthority (some a) { s with tgh := { s.tgh with lastIssue := some a.issue } }

/-- R144: an admitted AUTHORITY. -/
def State.takeAuthority (bs : List Byte) (s : State) : State :=
  let issue := payloadField bs 0 1
  let dirByte := payloadField bs 1 1
  let limit := payloadField bs 2 3
  match authorityDir dirByte with
  | none => s.formatError
  | some d =>
    if 120000 < limit then s.formatError
    else
      let a : Authority :=
        { issue := issue, dir := d, limit := limit, stretchId := (bs.drop 5).take 6,
          holdDoors := decide (128 ≤ dirByte) }
      match s.tgh.authority with
      | none => s.acceptAuthority a
      | some old => if issueNewer old.issue issue then s.acceptAuthority a else s.ignoreAuthority

/-- R145: an admitted REVOKE. -/
def State.takeRevoke (bs : List Byte) (s : State) : State :=
  match s.tgh.authority with
  | none => s.ignoreAuthority
  | some a =>
    if a.issue = payloadField bs 0 1 then s.changeAuthority none else s.ignoreAuthority

/-- R147: an admitted RESTRICT_SET, presented with the fields as sent. -/
def State.takeRestrictSet (bs : List Byte) (s : State) : State :=
  s.restrictionSet (payloadField bs 0 1) (payloadField bs 1 3) (payloadField bs 4 3)
    (payloadField bs 7 2) (Applies.ofCode (payloadField bs 9 1))

/-- R147: an admitted RESTRICT_CLEAR. -/
def State.takeRestrictClear (bs : List Byte) (s : State) : State :=
  s.restrictionClear (payloadField bs 0 1)

/-- The higher of two severities, EMERGENCY being the higher (R148). -/
def Severity.max (a b : Severity) : Severity := if a = .emergency then .emergency else b

/-- R148, R149: the call list and the whole-line call set; a change raises LINK. -/
def State.setCalls (l : List Call) (w : Option Severity) (s : State) : State :=
  if l = s.tgh.calls ∧ w = s.tgh.wholeLine then s
  else State.raise .link { s with tgh := { s.tgh with calls := l, wholeLine := w } }

/-- R148: the call of an identity replaced, keeping its place. -/
def replaceCall (c : Call) (l : List Call) : List Call :=
  l.map fun x => if x.ident = c.ident then c else x

/-- R148: the whole-line call after an overflow. -/
def wholeLineAfter (w : Option Severity) (v : Severity) : Severity :=
  match w with
  | none => v
  | some x => x.max v

/-- R148: a call taken into the list, or into the whole-line call. -/
def State.takeCall (c : Call) (s : State) : State :=
  if s.tgh.calls.any fun x => x.ident == c.ident then
    s.setCalls (replaceCall c s.tgh.calls) s.tgh.wholeLine
  else if s.tgh.calls.length < 4 then s.setCalls (s.tgh.calls ++ [c]) s.tgh.wholeLine
  else s.setCalls s.tgh.calls (some (wholeLineAfter s.tgh.wholeLine c.severity))

/-- R148: an admitted EMERGENCY_CALL. -/
def State.takeEmergencyCall (bs : List Byte) (s : State) : State :=
  let ident := payloadField bs 0 1
  let first := payloadField bs 1 3
  let last := payloadField bs 4 3
  match Severity.ofCode (payloadField bs 7 1) with
  | none => s.formatError
  | some v =>
    if ident = 0 ∨ 120000 < last ∨ last < first then s.formatError
    else s.takeCall { ident := ident, first := first, last := last, severity := v }

/-- R149: an admitted CALL_CANCEL. -/
def State.takeCallCancel (bs : List Byte) (s : State) : State :=
  let ident := payloadField bs 0 1
  if ident = 0 then s.setCalls [] none
  else s.setCalls (s.tgh.calls.filter fun x => x.ident != ident) s.tgh.wholeLine

/-- R151: what the LPS answered to a profile telegram, written into the radio profile record. A telegram that
is no block leaves the record's offset absent (DESIGN CHOICE, log entry 22). -/
def State.recordProfile (k : TelegramKind) (offset : Option Nat) (a : Answer) : State :=
  { a.state with tgh := { a.state.tgh with
      radioProfile := some { kind := k.code.toNat, result := a.result, offset := offset }
      refusedProfile :=
        if a.result = .accepted then a.state.tgh.refusedProfile
        else satSucc 255 a.state.tgh.refusedProfile } }

/-- R151, R28: an admitted PROFILE_OPEN. -/
def State.takeProfileOpen (bs : List Byte) (s : State) : State :=
  State.recordProfile .profileOpen none
    (s.openProfile .radio (payloadField bs 0 2) (payloadField bs 2 2))

/-- R151, R30: an admitted PROFILE_BLOCK. -/
def State.takeProfileBlock (bs : List Byte) (s : State) : State :=
  State.recordProfile .profileBlock (some (payloadField bs 0 1))
    (s.radioBlock (payloadField bs 0 1) (bs.drop 1))

/-- R151, R31: an admitted PROFILE_CLOSE. -/
def State.takeProfileClose (bs : List Byte) (s : State) : State :=
  State.recordProfile .profileClose none
    (s.closeProfile .radio (payloadField bs 0 2) (BitVec.ofNat 32 (payloadField bs 2 4)))

/-- R151, R34: an admitted PROFILE_ACTIVATE. -/
def State.takeProfileActivate (bs : List Byte) (s : State) : State :=
  State.recordProfile .profileActivate none (s.activateProfile .radio (payloadField bs 0 2))

/-! ## The text queues -/

/-- R158: TEXT_QUEUED raised on port C, with every entry then in the queue marked. -/
def State.notifyTexts (s : State) : State :=
  State.raiseOn .c .textQueued
    { s with tgh := { s.tgh with rxTexts := s.tgh.rxTexts.map fun x => { x with notified := true } } }

/-- R157, R158: an admitted TEXT. -/
def State.takeText (e : Envelope) (s : State) : State :=
  if s.tgh.rxTexts.length < 8 then
    let q := s.tgh.rxTexts ++
      [{ payload := e.payload, toCar := decide (e.addr ≠ 0), arrival := s.now, notified := false }]
    let s₁ : State := { s with tgh := { s.tgh with rxTexts := q } }
    if s.par .qTrig ≤ q.length then s₁.notifyTexts else s₁
  else { s with tgh := { s.tgh with rxOverflow := satSucc 255 s.tgh.rxOverflow } }

/-- R158: when the head of the queue will have waited T_text, if the waiting-time case then applies. -/
def State.textDue (s : State) : Timer :=
  match s.tgh.rxTexts with
  | [] => none
  | h :: _ =>
    if h.notified || decide (s.par .qTrig ≤ s.tgh.rxTexts.length) then none
    else some (h.arrival + s.par .tText * 1000)

/-- R158: the waiting-time case tested. -/
def State.testWaiting (s : State) : State :=
  match s.textDue with
  | none => s
  | some d => if d ≤ s.now then s.notifyTexts else s

/-- R159: POP_TEXT. -/
def State.popHead (s : State) : Answer :=
  match s.tgh.rxTexts with
  | [] => s.refuse .conditions
  | _ :: t => (State.testWaiting { s with tgh := { s.tgh with rxTexts := t } }).accept

/-- The twelve bytes of the text-out window (11.4). -/
def TextOut.bytes (w : TextOut) : List Byte :=
  [w.w0, w.w1, w.w2, w.w3, w.w4, w.w5].flatMap wordBytes

/-- R160: SEND_TEXT. -/
def State.queueText (s : State) : Answer :=
  if 12 < s.tgh.textOut.length.toNat then s.refuse .badArgument
  else if s.tgh.txTexts.length < 4 then
    ({ s with tgh := { s.tgh with
        txTexts := s.tgh.txTexts ++ [s.tgh.textOut.bytes.take s.tgh.textOut.length.toNat] } } :
      State).accept
  else s.refuse .full

/-! ## Taking a telegram -/

/-- R142 to R157: what an admitted telegram of a kind does. -/
def State.actOn (k : TelegramKind) (e : Envelope) (s : State) : State :=
  match k with
  | .beacon => s.takeBeacon e.payload
  | .authority => s.takeAuthority e.payload
  | .revoke => s.takeRevoke e.payload
  | .restrictSet => s.takeRestrictSet e.payload
  | .restrictClear => s.takeRestrictClear e.payload
  | .emergencyCall => s.takeEmergencyCall e.payload
  | .callCancel => s.takeCallCancel e.payload
  | .profileOpen => s.takeProfileOpen e.payload
  | .profileBlock => s.takeProfileBlock e.payload
  | .profileClose => s.takeProfileClose e.payload
  | .profileActivate => s.takeProfileActivate e.payload
  | .text => s.takeText e
  | .positionReport => s

/-- R142: an admitted telegram is valid when it is a BEACON or is addressed to the car. -/
def isValidTelegram (k : TelegramKind) (e : Envelope) : Bool := k == .beacon || e.addr != 0

/-- R142: a delivered telegram taken whole. -/
def State.takeTelegram (t : Telegram) (s : State) : State :=
  match s.fate t with
  | .discarded => s
  | .foreign => s.foreignTelegram
  | .formatError => s.formatError
  | .admitted k => State.actOn k t.env (if isValidTelegram k t.env then s.hearValley else s)

/-! ## The own slot -/

/-- The version of the active bank's profile. -/
def Lps.activeVersion (l : Lps) : Option Nat := l.profile.map Profile.version

/-- R156: the payload of a position report (11.6). -/
def State.reportPayload (s : State) : List Byte :=
  bytesOf 3 s.odu.pLo ++ bytesOf 3 s.odu.pHi ++
    bytesOf 2 (16384 * s.odu.pos.code + 4096 * s.odu.motion.code + 2048 * bitOf s.ssu.overrun +
      s.odu.speed) ++
    bytesOf 1 (64 * s.ssu.mode.code + 16 * s.ssu.status.code + 4 * dirCode s.dka.selected +
      s.tgh.link.code) ++
    bytesOf 1 (128 * bitOf s.brm.latch.isSome + 64 * bitOf s.drc.summary +
      32 * bitOf s.ssu.cap.isSome + 16 * bitOf s.vrl.rx.carrier + 8 * bitOf s.tgh.lastIssue.isSome +
      4 * bitOf s.lps.activeVersion.isSome) ++
    bytesOf 1 (s.tgh.lastIssue.getD 0) ++ bytesOf 1 (s.lps.activeVersion.getD 0)

/-- R155: the telegram handed over at an own slot, with the transmit-text queue after the hand-over. -/
def State.slotTelegram (s : State) : TelegramKind × List Byte × List (List Byte) :=
  match decide (s.vrl.cycle = 3), s.tgh.txTexts with
  | true, t :: rest => (.text, t, rest)
  | _, q => (.positionReport, s.reportPayload, q)

end Sys2Proof.Machine
end

