-- ==== Sys2Proof/Machine/Clock.lean ====
section
/-! DEFINITION. The part's clock when no command waits: timers that have fallen due put their expiries into
the queue, one at a time, and with none due the clock moves on by one µs (log entries 1 to 3). -/

namespace Sys2Proof.Machine

/-- The expiry of a door's running timer. -/
def doorExpiryCommand (i : DoorId) : DoorTimer → Instr
  | .tOpen => .tOpenExpiry i
  | .dwell => .dwellExpiry i
  | .tWarn => .tWarnExpiry i
  | .tClose => .tCloseExpiry i
  | .stopInterval => .stopIntervalExpiry i
  | .tRev => .tRevExpiry i

/-- The timer of a door, with its expiry. -/
def State.doorTimerOf (s : State) (i : DoorId) : Timer × Instr :=
  match (s.door i).timer with
  | none => (none, .tOpenExpiry i)
  | some (k, t) => (some t, doorExpiryCommand i k)

/-- Every timer of the part, with the command of its expiry. -/
def State.timers (s : State) : List (Timer × Instr) :=
  [(some s.odu.sampleTimer, .oduSample), (some s.lps.timer, .lpsTimerExpiry),
    (some s.ssu.timer, .supervisionCycle), (some s.brm.gateTimer, .pressureGateEnd),
    (s.odu.regimeTimer, .regimeTimerExpiry), (s.odu.standTimer, .standstillTimerExpiry),
    (s.odu.reader.timeout, .collectionTimeout), (s.brm.deadTimer, .deadTimeExpiry),
    (s.brm.proveTimer, .frictionProveExpiry), (s.brm.upper.prove, .pinionProveExpiry .upper),
    (s.brm.lower.prove, .pinionProveExpiry .lower), (s.brm.feedbackTimer, .feedbackTimeout),
    (s.brm.holdTimer, .holdDelayExpiry), (s.brm.stallTimer, .stallTimerExpiry)] ++
  allDoors.map s.doorTimerOf ++
  [(s.dka.cabU.fresh, .freshnessExpiry .u), (s.dka.cabL.fresh, .freshnessExpiry .l),
    (s.dka.orphan, .orphanExpiry), (some s.vrl.txTimer, .transmitBitClockEvent),
    (s.vrl.rx.clock, .receiveBitClockEvent), (s.textDue, .textWaitExpiry)]

/-- A timer that has fallen due: its time, the free key of its place among equals, and its command. -/
structure Due where
  time : Nat
  key : Nat
  command : Instr
  deriving DecidableEq, Repr

/-- The timers of a list that have fallen due at `now`; `k` numbers the list's first timer. -/
def dueFrom (now : Nat) : Nat → List (Timer × Instr) → List Due
  | _, [] => []
  | k, (none, _) :: t => dueFrom now (k + 1) t
  | k, (some d, c) :: t =>
    if d ≤ now then { time := d, key := Config.tieKey d k, command := c } :: dueFrom now (k + 1) t
    else dueFrom now (k + 1) t

/-- By time, and by the free key where the times are equal. -/
def Due.before (a b : Due) : Bool :=
  decide (a.time < b.time) || (a.time == b.time && decide (a.key < b.key))

/-- A due timer inserted at its place. -/
def insertDue (x : Due) : List Due → List Due
  | [] => [x]
  | y :: t => if y.before x then y :: insertDue x t else x :: y :: t

/-- The expiries that have fallen due, in the order in which they are taken. -/
def State.dueCommands (s : State) : List Instr :=
  ((dueFrom s.now 0 s.timers).foldr insertDue []).map Due.command

/-- The first of the expiries that have fallen due put into the queue. -/
def State.queueDue (s : State) : State := { s with pending := s.pending ++ s.dueCommands.take 1 }

/-- What a step does with no command waiting: an expiry that has fallen due is queued; with none due, one
µs passes first. -/
def State.tick (s : State) : State :=
  if s.dueCommands = [] then (s.advanceTo (s.now + 1)).queueDue else s.queueDue

end Sys2Proof.Machine
end

