-- ==== Sys2Proof/Machine/Cab.lean ====
section
/-! DEFINITION. The Desk Arbiter's events (chapter 6): writes to the cab control records, activation,
and deactivation by each of its means. -/

namespace Sys2Proof.Machine

/-! ## Writes -/

/-- R112: the words of a cab control record that one transaction wrote. -/
structure CabWords where
  demand : Option Word
  handle : Option Word
  switch : Option Word
  deriving DecidableEq, Repr

/-- R112, R113: the record after a write; its freshness timer is restarted. -/
def State.writtenCab (s : State) (w : CabWords) (c : CabRecord) : CabRecord :=
  { traction := (w.demand.map fun x => min 100 x.toNat).getD c.traction
    handle := (w.handle.map Handle.ofWord).getD c.handle
    switch := (w.switch.map DirSwitch.ofWord).getD c.switch
    writes := wrapSucc 65536 c.writes
    fresh := s.startMs (s.par .tFresh) }

/-- R123: the desk record after a change of the active desk's switch while the car moves. -/
def Dka.switchMoving (k : Dka) (d : Desk) (w : DirSwitch) : Dka :=
  match deskDir d w with
  | none => { k with switch := some w, selected := none }
  | some x =>
    if k.running = some x then
      { k with switch := some w, selected := if k.lock then none else some x }
    else { k with switch := some w, lock := true, selected := none }

/-- R122: whether a change of the selected direction reverses it. -/
def reverses (a b : Option Dir) : Bool :=
  match a, b with
  | some x, some y => x != y
  | _, _ => false

/-- R122: a switch taken at STANDSTILL. A reversal is handed on as two changes, first to NONE. -/
def State.switchStanding (w : DirSwitch) (s : State) : State :=
  let k : Dka := { s.dka with switch := some w }
  if reverses s.dka.selected k.derived then
    let s₁ := State.finish { s with dka := { k with selected := none } }
    { s₁ with dka := s₁.dka.derive }
  else { s with dka := k.derive }

/-- R111, R122, R123: the desk record's switch after a write to the active desk's record. -/
def State.takeSwitch (d : Desk) (w : DirSwitch) (s : State) : State :=
  if s.dka.switch = some w then s
  else if s.still then s.switchStanding w
  else { s with dka := s.dka.switchMoving d w }

/-- R112: a write to a cab control record taken whole. -/
def State.takeCab (d : Desk) (w : CabWords) (s : State) : State :=
  let c := s.writtenCab w (s.dka.cab d)
  let s₁ : State := { s with dka := s.dka.setCab d c }
  if s.dka.active = some d then s₁.takeSwitch d c.switch else s₁

/-- R113: the freshness timer of a record expires. -/
def State.goStale (d : Desk) (s : State) : State :=
  State.raiseIf (s.dka.active == some d) .cabStale
    { s with dka := s.dka.setCab d { s.dka.cab d with fresh := none } }

/-! ## Activation and deactivation -/

/-- R117: a desk becomes active. -/
def State.activateDesk (d : Desk) (s : State) : State :=
  State.setMode .shunt
    (State.raiseIf (!(s.dka.cab d).isFresh) .cabStale
      { s with dka := { s.dka with
          active := some d, switch := some .neutral, selected := none, running := none,
          lock := false } })

/-- R116: ACTIVATE. -/
def State.requestActivate (d : Desk) (s : State) : Answer :=
  if !s.pst.frozen then s.refuse .notReady
  else if s.dka.active.isSome then s.refuse .busy
  else if !s.still then s.refuse .moving
  else (s.activateDesk d).accept

/-- R120: a deactivation, by any of the three means. -/
def State.deactivateDesk (s : State) : State :=
  State.setMode .none
    (State.withdrawIfGranted .b .desk (State.withdrawIfGranted .a .desk
      { s with dka := { s.dka with
          active := none, switch := none, selected := none, orphan := none } }))

/-- R118: DEACTIVATE. -/
def State.requestDeactivate (p : Port) (s : State) : Answer :=
  if !s.isActivePort p then s.refuse .notActiveDesk
  else if !s.still then s.refuse .moving
  else s.deactivateDesk.accept

/-- R119: FORCE_DEACTIVATE. -/
def State.requestForce (s : State) : Answer :=
  if s.dka.active.isNone then s.refuse .conditions
  else if !s.still then s.refuse .moving
  else s.deactivateDesk.accept

/-- R121: the orphan timer expires. -/
def State.orphaned (s : State) : State := s.deactivateDesk.raise .cabStale

end Sys2Proof.Machine
end

