-- ==== Sys2Proof/Machine/Radio.lean ====
section
/-! DEFINITION. The Valley Radio Line (chapter 7): the slot counters, the transmitter, the receiver from
half-periods to telegrams, and beacon sync. -/

namespace Sys2Proof.Machine

/-! ## Bits and check values -/

/-- R137: one bit of the CRC-16. -/
def crc16Bit (reg : BitVec 16) (b : Bool) : BitVec 16 :=
  if reg.msb != b then (reg <<< 1) ^^^ 0x1021#16 else reg <<< 1

/-- R137: the CRC-16 of a run of bits. -/
def crc16 (bs : List Bool) : BitVec 16 := bs.foldl crc16Bit 0xFFFF#16

/-- The bits of a field of `n` bits, most significant first (R127). -/
def fieldBits (n v : Nat) : List Bool := (List.range n).map fun i => v.testBit (n - 1 - i)

/-- R127: the header, length and payload bits of a telegram. -/
def bodyBits (t : Telegram) : List Bool :=
  fieldBits 4 t.kind.toNat ++ fieldBits 4 t.env.flags.toNat ++ fieldBits 8 t.env.addr.toNat ++
    fieldBits 8 t.env.payload.length ++ t.env.payload.flatMap fun b => fieldBits 8 b.toNat

/-- R127: the bits of a framed telegram: preamble, flag, header, length, payload and CRC-16. -/
def frameBits (t : Telegram) : List Bool :=
  fieldBits 16 0xAAAA ++ fieldBits 16 0xB4C3 ++ bodyBits t ++ fieldBits 16 (crc16 (bodyBits t)).toNat

/-! ## The slot counters -/

/-- R125: one advance of the counters. -/
def Vrl.advance (v : Vrl) : Vrl :=
  if v.bit < 191 then { v with bit := v.bit + 1 }
  else if v.slot < 15 then { v with bit := 0, slot := v.slot + 1 }
  else { v with bit := 0, slot := 0, cycle := (v.cycle + 1) % 4 }

/-- The counters advanced `n` times. -/
def Vrl.advanceBy : Nat → Vrl → Vrl
  | 0, v => v
  | n + 1, v => Vrl.advanceBy n v.advance

/-- R125: the transmit bit clock: the event's time, and the next event T_bit later. -/
def State.txClock (s : State) : State :=
  let s₁ := s.atTimer (some s.vrl.txTimer)
  { s₁ with vrl := { s₁.vrl with txTimer := s.vrl.txTimer + s.par .tBit } }

/-! ## The transmitter -/

/-- R128: the key output. -/
def Transmitter.keyed (t : Transmitter) : Bool := t.state != .idle

/-- R130: whether a telegram is being received. -/
def Receiver.inTelegram (r : Receiver) : Bool := r.state != .hunt

/-- R130: the receiver gated off as the key is asserted. -/
def Receiver.gate (r : Receiver) : Receiver :=
  { r with state := .hunt, carrier := false, run := 0, flagReg := 0, flagLen := 0, lastTone := none,
           lastEdge := none, nMark := 0, nSpace := 0, nNoise := 0, clock := none }

/-- R130: the receiver starting afresh as the key is released, which counts as its last decision (log entry
21). -/
def Receiver.restart (r : Receiver) (now tBit : Nat) : Receiver :=
  { r with lastEdge := none, nMark := 0, nSpace := 0, nNoise := 0, lastDecision := now,
           clock := some (now + tBit) }

/-- R128: the end of a transmission. -/
def State.endTransmission (s : State) : State :=
  { s with vrl := { s.vrl with
      tx := { s.vrl.tx with state := .idle, next := none, stream := [], tone := false, halfEnd := none }
      rx := s.vrl.rx.restart s.now (s.par .tBit)
      transmitted := wrapSucc 65536 s.vrl.transmitted } }

/-- R126: the end of the half-wave in progress as a bit becomes current. The half-wave is not cut, but one
that begins at the same µs takes the new bit's width. -/
def State.halfEndWith (s : State) (mark : Bool) : Timer :=
  if s.vrl.tx.halfStart = s.now ∧ s.vrl.tx.halfEnd.isSome then
    some (s.now + s.halfWidth s.vrl.tx.tone mark)
  else s.vrl.tx.halfEnd

/-- R126 to R128: what a transmit bit clock event does to a transmission. -/
def State.shiftTx (s : State) : State :=
  let t := s.vrl.tx
  if !t.keyed then s
  else
    match t.next with
    | none => s.endTransmission
    | some b =>
      let t' : Transmitter :=
        { t with current := b, next := t.stream.head?, stream := t.stream.tail, count := t.count + 1,
                 state := if t.count + 1 < 8 then .lead else .sending, halfEnd := s.halfEndWith b }
      { s with vrl := { s.vrl with tx := t' } }

/-- R128: whether the own-slot event finds the conditions for a transmission. -/
def State.mayTransmit (s : State) : Bool :=
  s.vrl.sync != .unsynced && s.pst.frozen && !s.pst.strapLatch && !s.vrl.tx.keyed

/-- R127, R155: the telegram framed for the own slot. -/
def State.ownTelegram (s : State) : Telegram :=
  { kind := s.slotTelegram.1.code
    env := { flags := 8#4, addr := BitVec.ofNat 8 (s.par .carAddress), payload := s.slotTelegram.2.1 } }

/-- R128, R130: a transmission begins. -/
def State.startTransmission (s : State) : State :=
  let frame := frameBits s.ownTelegram
  { s with
    tgh := { s.tgh with txTexts := s.slotTelegram.2.2 }
    vrl := { s.vrl with
      tx := { state := .lead, current := true, next := some true,
              stream := List.replicate 6 true ++ frame, count := 0, tone := true,
              halfStart := s.now, halfEnd := some (s.now + s.par .wMarkHi) }
      rx := s.vrl.rx.gate
      aborts := if s.vrl.rx.inTelegram then satSucc 65535 s.vrl.aborts else s.vrl.aborts } }

/-- R128: the own-slot test. -/
def State.ownSlot (s : State) : State := if s.mayTransmit then s.startTransmission else s

/-- R140: the sync state set; a change raises LINK. -/
def State.setSync (y : Sync) (s : State) : State :=
  if s.vrl.sync = y then s else State.raise .link { s with vrl := { s.vrl with sync := y } }

/-- R140: the sync state after a missed beacon. -/
def syncAfterMiss (nCoast missed : Nat) (y : Sync) : Sync :=
  if y = .unsynced then .unsynced else if missed ≤ nCoast then .coasting else .unsynced

/-- R140: the missed-beacon test. -/
def State.missedTest (s : State) : State :=
  if s.vrl.mark then s
  else
    State.setSync (syncAfterMiss (s.par .nCoast) (satSucc 255 s.vrl.missed) s.vrl.sync)
      { s with vrl := { s.vrl with missed := satSucc 255 s.vrl.missed } }

/-- R140, R152: the event at which the slot counter becomes 0 by counting. -/
def State.slotZero (s : State) : State :=
  State.silentCycle { s with vrl := { s.vrl with mark := false } }

/-- What the counters' place brings at a transmit bit clock event (R128, R140, R152). -/
def State.slotEvents (s : State) : State :=
  if s.vrl.bit ≠ 0 then s
  else
    let s₁ := if s.vrl.slot = 0 then s.slotZero else if s.vrl.slot = 1 then s.missedTest else s
    if s.vrl.slot = s.par .carAddress ∧ s.par .carAddress ≠ 0 then s₁.ownSlot else s₁

/-- A transmit bit clock event that brings the counters to where they stand. -/
def State.arrive (s : State) : State := s.shiftTx.slotEvents

/-- R125: one transmit bit clock event. -/
def State.txEvent (s : State) : State :=
  let s₁ := s.txClock
  State.arrive { s₁ with vrl := s₁.vrl.advance }

/-- A transmit bit clock event that arrives at bit 0 of a slot (log entry 11). -/
def State.txEventAt (slot cycle : Nat) (s : State) : State :=
  let s₁ := s.txClock
  State.arrive { s₁ with vrl := { s₁.vrl with bit := 0, slot := slot, cycle := cycle } }

/-- The bit clock events left until the end of the transmission. -/
def Transmitter.eventsLeft (t : Transmitter) : Nat := t.stream.length + bitOf t.next.isSome + 1

/-- R128: the event that ends the transmission in progress (log entry 11). -/
def State.txLastEvent (s : State) : State :=
  let s₁ := s.txClock
  State.slotEvents (State.endTransmission
    { s₁ with vrl := s₁.vrl.advanceBy s.vrl.tx.eventsLeft })

/-! ## Beacon sync -/

/-- R139: the offset of a beacon, in −1,536 to +1,535 bit periods. -/
def beaconOffset (slot bit : Nat) : Int :=
  ((192 * (slot : Int) + bit) - 112 + 1536) % 3072 - 1536

/-- R139: a valid beacon. -/
def isBeacon (t : Telegram) : Bool :=
  TelegramKind.ofCode t.kind == some .beacon && t.env.addr == 0 && t.env.payload.length == 4

/-- R139: a valid beacon taken for sync. -/
def State.takeSync (s : State) : State :=
  let d := beaconOffset s.vrl.slot s.vrl.bit
  State.setSync .synced
    { s with vrl := { s.vrl with
        slot := 0, bit := 112, missed := 0, mark := true, txTimer := s.now + s.par .tBit
        cycle := if 8 ≤ s.vrl.slot then (s.vrl.cycle + 1) % 4 else s.vrl.cycle
        resync :=
          if s.vrl.sync ≠ .unsynced ∧ (d < -2 ∨ 2 < d) then satSucc 255 s.vrl.resync
          else s.vrl.resync } }

/-- R138, R139: a telegram that passed its check: counted, examined for sync, and taken by the TGH; the
receiver is in HUNT with its flag register empty (R136). -/
def State.deliver (t : Telegram) (s : State) : State :=
  let s₁ : State := { s with vrl := { s.vrl with
    received := wrapSucc 65536 s.vrl.received
    rx := { s.vrl.rx with state := .hunt, flagReg := 0, flagLen := 0 } } }
  State.takeTelegram t (if isBeacon t && s.pst.frozen then s₁.takeSync else s₁)

/-! ## The receiver -/

/-- The receiver back in HUNT with its flag register empty: R136 says so for CHECK; for a length error and a
noise bit in a telegram it is the model's (DESIGN CHOICE, log entry 21). -/
def Receiver.hunt (r : Receiver) : Receiver := { r with state := .hunt, flagReg := 0, flagLen := 0 }

/-- R134 to R136: a noise bit. -/
def State.noiseBit (s : State) : State :=
  { s with vrl := { s.vrl with
      aborts := if s.vrl.rx.inTelegram then satSucc 65535 s.vrl.aborts else s.vrl.aborts
      rx := { s.vrl.rx.hunt with run := 0, carrier := false } } }

/-- R135: a bit in HUNT. A flag found empties the register, too (DESIGN CHOICE, log entry 21). -/
def Receiver.huntBit (b : Bool) (r : Receiver) : Receiver :=
  let reg := (r.flagReg <<< 1) ||| (BitVec.ofBool b).setWidth 16
  let len := min 16 (r.flagLen + 1)
  if len = 16 ∧ reg = 0xB4C3#16 then
    { r with state := .header, flagReg := 0, flagLen := 0, crc := 0xFFFF#16, bitCount := 0, header := 0,
             payload := [], acc := 0, check := 0 }
  else { r with flagReg := reg, flagLen := len }

/-- The length field of a header. -/
def headerLength (h : BitVec 24) : Nat := (h.extractLsb' 0 8).toNat

/-- R136: a bit in HEADER. A length error leaves the flag register empty (DESIGN CHOICE, log entry 21). -/
def State.headerBit (b : Bool) (s : State) : State :=
  let r := s.vrl.rx
  let h := (r.header <<< 1) ||| (BitVec.ofBool b).setWidth 24
  let r' : Receiver := { r with header := h, crc := crc16Bit r.crc b, bitCount := r.bitCount + 1 }
  if r.bitCount + 1 < 24 then { s with vrl := { s.vrl with rx := r' } }
  else if 12 < headerLength h then
    { s with vrl := { s.vrl with rx := r'.hunt, lengthErrors := satSucc 65535 s.vrl.lengthErrors } }
  else if headerLength h = 0 then
    { s with vrl := { s.vrl with rx := { r' with state := .check, bitCount := 0 } } }
  else { s with vrl := { s.vrl with rx := { r' with state := .payload, bitCount := 0 } } }

/-- R136: a bit in PAYLOAD. -/
def Receiver.payloadBit (b : Bool) (r : Receiver) : Receiver :=
  let acc := (r.acc <<< 1) ||| (BitVec.ofBool b).setWidth 8
  let r₁ : Receiver := { r with acc := acc, crc := crc16Bit r.crc b, bitCount := r.bitCount + 1 }
  let r₂ : Receiver :=
    if (r.bitCount + 1) % 8 = 0 then { r₁ with payload := r.payload ++ [acc], acc := 0 } else r₁
  if r.bitCount + 1 < 8 * headerLength r.header then r₂
  else { r₂ with state := .check, bitCount := 0 }

/-- R138: the telegram assembled. -/
def Receiver.telegram (r : Receiver) : Telegram :=
  { kind := r.header.extractLsb' 20 4
    env := { flags := r.header.extractLsb' 16 4, addr := r.header.extractLsb' 8 8,
             payload := r.payload } }

/-- R136: a bit in CHECK. -/
def State.checkBit (b : Bool) (s : State) : State :=
  let r := s.vrl.rx
  let c := (r.check <<< 1) ||| (BitVec.ofBool b).setWidth 16
  let r' : Receiver := { r with check := c, bitCount := r.bitCount + 1 }
  if r.bitCount + 1 < 16 then { s with vrl := { s.vrl with rx := r' } }
  else if c = r.crc then State.deliver r.telegram { s with vrl := { s.vrl with rx := r'.hunt } }
  else { s with vrl := { s.vrl with rx := r'.hunt, crcErrors := satSucc 65535 s.vrl.crcErrors } }

/-- R134: the run and the carrier flag at a bit that is not noise. -/
def Receiver.countRun (r : Receiver) : Receiver :=
  { r with run := satSucc 255 r.run, carrier := r.carrier || decide (6 ≤ satSucc 255 r.run) }

/-- R134 to R136: a decided bit; `none` is a noise bit. -/
def State.takeBit (b : Option Bool) (s : State) : State :=
  match b with
  | none => s.noiseBit
  | some b =>
    let s₁ : State := { s with vrl := { s.vrl with rx := s.vrl.rx.countRun } }
    match s₁.vrl.rx.state with
    | .hunt => { s₁ with vrl := { s₁.vrl with rx := s₁.vrl.rx.huntBit b } }
    | .header => s₁.headerBit b
    | .payload => { s₁ with vrl := { s₁.vrl with rx := s₁.vrl.rx.payloadBit b } }
    | .check => s₁.checkBit b

/-- R132: the bit of the half-periods counted. -/
def Receiver.decided (r : Receiver) : Option Bool :=
  if r.nSpace < r.nMark ∧ r.nNoise < r.nMark then some true
  else if r.nMark < r.nSpace ∧ r.nNoise < r.nSpace then some false
  else none

/-- R132: a decision at a time. -/
def State.decideBit (time : Nat) (s : State) : State :=
  State.takeBit s.vrl.rx.decided
    { s with vrl := { s.vrl with
        rx := { s.vrl.rx with nMark := 0, nSpace := 0, nNoise := 0, lastDecision := time } } }

/-- The class of a half-period (R131). -/
inductive Tone where
  | mark | space | noise
  deriving DecidableEq, Repr

/-- R131: the class of a width. -/
def State.classify (s : State) (w : Nat) : Tone :=
  if s.par .markLo ≤ w ∧ w ≤ s.par .markHi then .mark
  else if s.par .spaceLo ≤ w ∧ w ≤ s.par .spaceHi then .space
  else .noise

/-- R131: a half-period counted. -/
def Receiver.countTone (t : Tone) (r : Receiver) : Receiver :=
  match t with
  | .mark => { r with nMark := r.nMark + 1 }
  | .space => { r with nSpace := r.nSpace + 1 }
  | .noise => { r with nNoise := r.nNoise + 1 }

/-- R133: the bit in progress settled before the clock is re-phased at the start of a new tone. -/
def State.settleBit (start : Nat) (s : State) : State :=
  if s.par .tBit / 2 ≤ start - s.vrl.rx.lastDecision then s.decideBit s.now
  else { s with vrl := { s.vrl with rx := { s.vrl.rx with nMark := 0, nSpace := 0, nNoise := 0 } } }

/-- R133: the receive bit clock re-phased. -/
def State.rephase (start : Nat) (tone : Bool) (s : State) : State :=
  let s₁ := s.settleBit start
  { s₁ with vrl := { s₁.vrl with
      rx := { s₁.vrl.rx with lastTone := some tone, clock := some (start + s.par .tBit) } } }

/-- R131, R133: a half-period that ends: it re-phases the clock where its tone is new, and is counted. -/
def State.halfPeriod (start : Nat) (tone : Tone) (s : State) : State :=
  let s₁ :=
    match tone with
    | .mark => if s.vrl.rx.lastTone = some true then s else s.rephase start true
    | .space => if s.vrl.rx.lastTone = some false then s else s.rephase start false
    | .noise => s
  { s₁ with vrl := { s₁.vrl with rx := s₁.vrl.rx.countTone tone } }

/-- R130, R131: an edge of the comparator input; while the key is asserted it is ignored. -/
def State.comparator (time : Nat) (s : State) : State :=
  if s.vrl.tx.keyed then s
  else
    let s₁ : State := { s with vrl := { s.vrl with rx := { s.vrl.rx with lastEdge := some time } } }
    match s.vrl.rx.lastEdge with
    | none => s₁
    | some e => s₁.halfPeriod e (s.classify (time - e))

/-- R132: one event of the receive bit clock; it makes none while the key is asserted. -/
def State.rxEvent (s : State) : State :=
  match s.vrl.rx.clock with
  | none => s
  | some d =>
    let s₁ := s.advanceTo d
    State.decideBit d
      { s₁ with vrl := { s₁.vrl with rx := { s₁.vrl.rx with clock := some (d + s.par .tBit) } } }

/-- R136: a frame dropped by a receiver that is not gated off (R130, log entry 11). -/
def State.dropFrame (c : DropCause) (s : State) : State :=
  match c with
  | .lengthError =>
    { s with vrl := { s.vrl with
        rx := s.vrl.rx.hunt, lengthErrors := satSucc 65535 s.vrl.lengthErrors } }
  | .crcError =>
    { s with vrl := { s.vrl with rx := s.vrl.rx.hunt, crcErrors := satSucc 65535 s.vrl.crcErrors } }
  | .noise =>
    { s with vrl := { s.vrl with
        rx := { s.vrl.rx.hunt with run := 0, carrier := false }
        aborts := satSucc 65535 s.vrl.aborts } }

end Sys2Proof.Machine
end

