-- ==== Sys2Proof/Machine/Flags.lean ====
section
/-! DEFINITION. Flags words and presence words (R182): bit 0 holds the first flag in table order, set is
1; bit k of a presence word is set while the k-th field that may be absent is present. -/

namespace Sys2Proof.Machine

/-- R182: flags packed into a word, the first at bit 0. -/
def packBits (bs : List Bool) : Nat := bs.foldr (fun b n => bitOf b + 2 * n) 0

/-- R182: a flags word. -/
def flagsWord (bs : List Bool) : Word := wordOf (packBits bs)

/-- The flags of the motion record (11.4). -/
def Odu.flags (o : Odu) : Word := flagsWord [o.overrange, o.slip, o.overrun]

/-- The flags of the desk record (11.3). -/
def Dka.flags (k : Dka) : Word := flagsWord [k.lock, !k.cabU.isFresh, !k.cabL.isFresh]

/-- The flags of the supervision record (11.3). -/
def Ssu.flags (u : Ssu) : Word := flagsWord [u.overrun, u.warning, u.truncated, u.steep]

/-- The flags of the brake record, in the order of the table of 4.9. A switch that reports applied, the open
gate, the open sense input and the open driver are each 1; order and polarity are log entry 17's. -/
def State.brakeFlags (s : State) : Word :=
  flagsWord [s.brm.latch.isSome, s.brm.sensorFault, s.brm.frictionFault, s.brm.upper.applied,
    s.brm.lower.applied, s.brm.holding, s.brm.effortValid, s.gateOpen, s.brm.senseOpen,
    s.brm.driverOpen, s.brm.loopForced]

/-- The inputs of a door record (11.3). -/
def Door.inputs (d : Door) : Word := flagsWord [d.lk, d.op, d.ed, d.pb]

/-- The flags of the interlock record (11.3). -/
def Drc.flags (k : Drc) : Word := flagsWord [k.summary, k.sounder]

/-- The set of doors not proven closed (11.3). -/
def Drc.openDoors (k : Drc) : Word :=
  flagsWord [!k.a1.proven, !k.a2.proven, !k.b1.proven, !k.b2.proven]

/-- The flags of the radio record (11.3). -/
def State.radioFlags (s : State) : Word :=
  flagsWord [s.vrl.tx.state != .idle, s.vrl.rx.carrier, s.pst.strapLatch]

/-- The flags of the link record (11.3). -/
def Tgh.linkFlags (t : Tgh) : Word := flagsWord [t.shadowUsed, t.outdated]

/-- The flags of the authority record (11.3). -/
def Tgh.authorityFlags (t : Tgh) : Word :=
  flagsWord [t.authority.isSome, (t.authority.map Authority.holdDoors).getD false]

end Sys2Proof.Machine
end

