-- ==== Sys2Proof/Machine/Records.lean ====
section
/-! DEFINITION. The record space (11.3, 11.4): every record's address, length and words. An absent field
reads 0, and the presence word says which fields are there (R182, log entry 17). -/

namespace Sys2Proof.Machine

/-! ## The record map -/

/-- The records of the map. -/
inductive RecordId where
  | motion | source | desk
  | cab (d : Desk)
  | supervision | curve | restrictionSummary
  | piece (k : Nat)
  | restriction (k : Nat)
  | row (r : RowId)
  | brake | brakeOutput
  | door (i : DoorId)
  | side (i : CarSide)
  | interlock
  | bank (b : BankId)
  | claim | blockMap | activation | staging | closeCheck | radio | link | authority | radioProfile
  | call (k : Nat)
  | wholeLine | rxText | txText | textOut | parameterStatus
  | parameters (k : Nat)
  deriving DecidableEq, Repr

/-- A record's place: its first word address and its length in words. -/
structure Place where
  record : RecordId
  base : Nat
  words : Nat
  deriving DecidableEq, Repr

/-- The record map of 11.3. -/
def recordMap : List Place :=
  [⟨.motion, 0x000, 14⟩, ⟨.source, 0x010, 7⟩, ⟨.desk, 0x018, 8⟩, ⟨.cab .u, 0x020, 5⟩,
    ⟨.cab .l, 0x028, 5⟩, ⟨.supervision, 0x030, 14⟩, ⟨.curve, 0x040, 14⟩,
    ⟨.restrictionSummary, 0x050, 4⟩] ++
  ((List.range 16).map fun k => ⟨.piece k, 0x060 + 8 * k, 6⟩) ++
  ((List.range 12).map fun k => ⟨.restriction k, 0x0E0 + 8 * k, 7⟩) ++
  (RowId.all.map fun r => ⟨.row r, 0x140 + 4 * r.code, 4⟩) ++
  [⟨.brake, 0x160, 13⟩, ⟨.brakeOutput, 0x170, 9⟩] ++
  (allDoors.map fun i => ⟨.door i, 0x180 + 16 * doorCode i, 12⟩) ++
  [⟨.side .a, 0x1C0, 6⟩, ⟨.side .b, 0x1C8, 6⟩, ⟨.interlock, 0x1D0, 5⟩, ⟨.bank .x, 0x200, 13⟩,
    ⟨.bank .y, 0x210, 13⟩, ⟨.claim, 0x220, 9⟩, ⟨.blockMap, 0x230, 9⟩, ⟨.activation, 0x240, 5⟩,
    ⟨.staging, 0x248, 5⟩, ⟨.closeCheck, 0x250, 2⟩, ⟨.radio, 0x280, 14⟩, ⟨.link, 0x290, 8⟩,
    ⟨.authority, 0x2A0, 11⟩, ⟨.radioProfile, 0x2B0, 5⟩] ++
  ((List.range 4).map fun k => ⟨.call k, 0x2C0 + 8 * k, 7⟩) ++
  [⟨.wholeLine, 0x2E0, 2⟩, ⟨.rxText, 0x300, 13⟩, ⟨.txText, 0x310, 1⟩, ⟨.textOut, 0x318, 7⟩,
    ⟨.parameterStatus, 0x400, 8⟩, ⟨.parameters 0, 0x410, 16⟩, ⟨.parameters 1, 0x420, 16⟩,
    ⟨.parameters 2, 0x430, 16⟩, ⟨.parameters 3, 0x440, 14⟩]

/-- The record a word address belongs to; other addresses are unmapped. -/
def placeOf (addr : Nat) : Option Place :=
  recordMap.find? fun r => decide (r.base ≤ addr) && decide (addr < r.base + r.words)

/-- The record whose first word is at an address (R163). -/
def placeAt (addr : Nat) : Option Place := recordMap.find? fun r => r.base == addr

/-! ## Words of fields -/

/-- A field that may be absent. -/
def optWord (x : Option Nat) : Word := wordOf (x.getD 0)

/-- A field of two words that may be absent. -/
def optTwo (x : Option Nat) : List Word := twoWords (x.getD 0)

/-- One bit of a root, from the place `n - 1` down: the greatest root whose square is at most `x`. -/
def rootFrom : Nat → Nat → Nat → Nat
  | 0, _, r => r
  | n + 1, x, r => rootFrom n x (if (r + 2 ^ n) ^ 2 ≤ x then r + 2 ^ n else r)

/-- R55: the root rounded down of a squared speed. -/
def rootDown (x : Nat) : Nat := rootFrom 16 x 0

/-- Bytes of a text or a section identity as words, the first byte the high one; missing bytes read 0. -/
def bytesToWords (n : Nat) (bs : List Byte) : List Word :=
  (List.range n).map fun i => byteWord (bs.getD (2 * i) 0) (bs.getD (2 * i + 1) 0)

/-! ## The motion, desk and supervision records -/

/-- The motion record (11.4). -/
def Odu.motionWords (o : Odu) : List Word :=
  [flagsWord [o.pos.cause.isSome, o.lastMarker.isSome], wordOf o.pos.code,
    optWord (o.pos.cause.map Cause.code)] ++ twoWords o.pLo ++ twoWords o.pHi ++
  [wordOf o.speed, o.flags, wordOf o.motion.code, wordOf o.regime.code, optWord o.lastMarker,
    wordOf (min 65535 (o.distHalf / 200000)), wordOf o.rollbackDm]

/-- The source record (11.4). -/
def Odu.sourceWords (o : Odu) : List Word :=
  [wordOf o.upper.src.health.code, wordOf o.lower.src.health.code, wordOf o.tooth.src.health.code,
    wordOf o.upper.illegalCount, wordOf o.lower.illegalCount, wordOf o.unknownMarkers,
    wordOf o.invalidReads]

/-- The desk record. -/
def State.deskWords (s : State) : List Word :=
  [flagsWord [s.dka.switch.isSome, s.dka.running.isSome, s.dka.orphan.isSome],
    wordOf (activeCode s.dka.active), optWord (s.dka.switch.map DirSwitch.code),
    wordOf (dirCode s.dka.selected), optWord (s.dka.running.map Dir.code), s.dka.flags,
    wordOf (Timer.leftMs s.dka.orphan s.now), wordOf s.dka.supplied]

/-- A cab control record (11.4). -/
def State.cabWords (s : State) (c : CabRecord) : List Word :=
  [wordOf c.traction, wordOf c.handle.code, wordOf c.switch.code, wordOf c.writes,
    wordOf (32768 * bitOf c.isFresh + Timer.leftMs c.fresh s.now)]

/-- The supervision record. -/
def Ssu.words (u : Ssu) : List Word :=
  [flagsWord [u.prereqs.isSome, u.prereqs.isSome, u.prereqs.isSome, u.front.isSome, u.mrsp.isSome,
      u.buildUp.isSome, u.authSide.isSome], wordOf u.mode.code, wordOf u.status.code, u.flags,
    optWord (u.prereqs.map fun q => metCode q.profile),
    optWord (u.prereqs.map fun q => metCode q.position),
    optWord (u.prereqs.map fun q => metCode q.authority), wordOf (dirCode u.dir)] ++
  optTwo u.front ++
  [optWord u.mrsp, optWord u.buildUp, optWord (u.authSide.map Side.code), wordOf u.flushCount]

/-- The curve record. A distance ahead is shown in two's complement, a horizon distance below 0 as well as
that of the governing target, and one below -32,768 dm modulo 65,536; the presence word has a bit for each
curve value and each speed, and two for the governing target (log entry 17). -/
def Ssu.curveWords (u : Ssu) : List Word :=
  let c := u.curves
  [flagsWord (List.replicate 6 c.isSome ++
      [u.governing.isSome, u.governing.isSome, u.horizon.isSome])] ++
  optTwo (c.map Curves.perm) ++ optTwo (c.map Curves.sb) ++ optTwo (c.map Curves.eb) ++
  [optWord (c.map fun x => rootDown x.perm), optWord (c.map fun x => rootDown x.sb),
    optWord (c.map fun x => rootDown x.eb), signedWord ((u.governing.map Prod.fst).getD 0),
    optWord (u.governing.map Prod.snd), wordOf u.window.length, signedWord (u.horizon.getD 0)]

/-- The restriction summary. -/
def Ssu.summaryWords (u : Ssu) : List Word :=
  [flagsWord [u.cap.isSome], wordOf u.restrictions.length, optWord u.cap, wordOf u.malformed]

/-- A window piece; beyond the present count every word reads 0. -/
def pieceWords : Option Piece → List Word
  | none => List.replicate 6 0
  | some q => [wordOf q.near, wordOf q.length, wordOf q.kind.code, signedWord q.gradient,
      wordOf q.decel, wordOf q.ceiling]

/-- A restriction entry; beyond the present count every word reads 0. -/
def restrictionWords : Option Restriction → List Word
  | none => List.replicate 7 0
  | some r => [wordOf r.ident] ++ twoWords r.first ++ twoWords r.last ++
      [wordOf r.speed, wordOf r.applies.code]

/-! ## The brake records -/

/-- A brake row. -/
def Row.words (r : Row) : List Word :=
  [flagsWord [r.level.percent.isSome, r.reason.isSome], wordOf r.level.code, optWord r.level.percent,
    optWord (r.reason.map Reason.code)]

/-- The brake record. -/
def State.brakeWords (s : State) : List Word :=
  let b := s.brm
  [flagsWord [b.level.percent.isSome, b.latch.isSome, b.measured.isSome, b.waiting.isSome,
      b.upper.fault.isSome, b.lower.fault.isSome], wordOf b.level.code, optWord b.level.percent,
    wordOf (governingCode b.governing), optWord (b.latch.map LatchCause.code), wordOf b.target,
    optWord b.measured, wordOf b.valve.code, optWord (b.waiting.map OpenValve.code),
    wordOf b.pinion.code, optWord (b.upper.fault.map PinionFault.code),
    optWord (b.lower.fault.map PinionFault.code), s.brakeFlags]

/-- The brake output record; the duties are those being driven. -/
def State.brakeOutputWords (s : State) : List Word :=
  let b := s.brm
  [flagsWord [s.gateFailure.isSome], wordOf b.ebrake.driven, wordOf b.traction.driven,
    signedWord b.effort, wordOf b.achieved, optWord (s.gateFailure.map GateCond.code),
    wordOf b.departure.code, wordOf b.required, wordOf (Timer.leftMs b.stallTimer s.now)]

/-! ## The door records -/

/-- A door record. -/
def State.doorWords (s : State) (i : DoorId) : List Word :=
  let d := s.drc.door i
  [flagsWord [d.state.phaseCode.isSome, d.state.faultCode.isSome, d.timer.isSome, d.timer.isSome],
    wordOf (doorCode i), wordOf (doorSide i).code, wordOf d.state.code, wordOf d.reversals,
    optWord d.state.phaseCode, optWord d.state.faultCode, optWord (d.timer.map fun t => t.1.code),
    wordOf (Timer.leftMs (d.timer.map Prod.snd) s.now), d.inputs, wordOf d.motor.driven,
    wordOf d.motor.drivenDir.code]

/-- A side release record. -/
def SideRelease.words (r : SideRelease) (i : CarSide) : List Word :=
  [flagsWord [r.granted.isSome, r.cause.isSome, r.refused.isSome], wordOf i.code,
    wordOf (if r.granted.isSome then 0 else 1), optWord (r.granted.map deskCode),
    optWord (r.cause.map WithdrawCause.code), optWord (r.refused.map GrantCond.code)]

/-- The interlock record. -/
def State.interlockWords (s : State) : List Word :=
  let r := s.brm.rows.doors
  [flagsWord [r.reason.isSome], s.drc.flags, s.drc.openDoors, wordOf r.level.code,
    optWord (r.reason.map Reason.code)]

/-! ## The profile records -/

/-- A bank status record. -/
def Bank.words (b : Bank) : List Word :=
  let h := b.header
  [flagsWord ([b.length.isSome, b.version.isSome] ++ List.replicate 5 h.isSome ++ [b.result.isSome]),
    wordOf b.role.code, wordOf b.state.code, optWord b.length, optWord b.version,
    optWord (h.map Header.lineId)] ++ optTwo (h.map Header.lineEnd) ++
  [optWord (h.map Header.nSegments), optWord (h.map Header.nMarkers)] ++
  optTwo (h.map fun x => x.check.toNat) ++ [optWord (b.result.map CheckResult.code)]

/-- The claim record. -/
def Lps.claimWords (l : Lps) : List Word :=
  let c := l.claim
  [flagsWord [c.isSome, c.isSome, c.isSome, l.closeCheck.isSome], wordOf (holderCode (c.map Claim.holder)),
    optWord (c.map Claim.length), optWord (c.map Claim.version),
    optWord (c.map fun x => blocksExpected x.length), wordOf l.blocksReceived] ++
  optTwo (l.closeCheck.map BitVec.toNat) ++ [wordOf l.rejected]

/-- The block-received map: entry k at bit k mod 16 of word floor(k / 16). -/
def Lps.mapWords (l : Lps) : List Word :=
  (List.range 9).map fun i => l.blockMap.extractLsb' (16 * i) 16

/-- The activation and scrub record. -/
def Lps.activationWords (l : Lps) : List Word :=
  [flagsWord [l.pendingAct.isSome, l.pendingAct.isSome], optWord (l.pendingAct.map Prod.fst),
    optWord (l.pendingAct.map fun a => a.2.code), wordOf l.scrubPos, wordOf l.passes]

/-- The staging window (11.4). -/
def Staging.words (g : Staging) : List Word := [g.offset, g.d0, g.d1, g.d2, g.d3]

/-! ## The radio and telegram records -/

/-- The radio record. -/
def State.radioWords (s : State) : List Word :=
  let v := s.vrl
  [wordOf v.sync.code, wordOf v.slot, wordOf v.bit, wordOf v.cycle, wordOf v.missed, wordOf v.resync,
    wordOf v.tx.state.code, wordOf v.rx.state.code, s.radioFlags, wordOf v.aborts,
    wordOf v.lengthErrors, wordOf v.crcErrors, wordOf v.received, wordOf v.transmitted]

/-- The link record. -/
def Tgh.linkWords (t : Tgh) : List Word :=
  [flagsWord [t.beacon.isSome, t.beacon.isSome], wordOf t.link.code, wordOf t.silent, t.linkFlags,
    optWord (t.beacon.map Prod.fst), optWord (t.beacon.map Prod.snd), wordOf t.foreign,
    wordOf t.formatErrors]

/-- The authority record; its hold-doors flag is absent with the authority (8.3). -/
def Tgh.authorityWords (t : Tgh) : List Word :=
  let a := t.authority
  [flagsWord (List.replicate 5 a.isSome ++ [t.lastIssue.isSome]), t.authorityFlags,
    optWord (a.map Authority.issue), optWord (a.map fun x => x.dir.code)] ++
  optTwo (a.map Authority.limit) ++ bytesToWords 3 ((a.map Authority.stretchId).getD []) ++
  [optWord t.lastIssue, wordOf t.ignored]

/-- The radio profile record. -/
def Tgh.radioProfileWords (t : Tgh) : List Word :=
  let r := t.radioProfile
  [flagsWord [r.isSome, r.isSome, (r.bind RadioProfile.offset).isSome],
    optWord (r.map RadioProfile.kind), optWord (r.map fun x => x.result.code),
    optWord (r.bind RadioProfile.offset), wordOf t.refusedProfile]

/-- A call record; beyond the present count every word reads 0. That a held call sets four presence bits, for
its identity, start, end and severity, is log entry 17's choice. -/
def callWords : Option Call → List Word
  | none => List.replicate 7 0
  | some c => [flagsWord [true, true, true, true], wordOf c.ident] ++ twoWords c.first ++
      twoWords c.last ++ [wordOf c.severity.code]

/-- The whole-line call. -/
def wholeLineWords (w : Option Severity) : List Word :=
  [flagsWord [w.isSome], optWord (w.map Severity.code)]

/-- The received-text record; the five fields of the head entry are absent with no entry (8.8). The waiting
time is in whole ms, rounded down (log entry 15). -/
def State.rxTextWords (s : State) : List Word :=
  let h := s.tgh.rxTexts.head?
  [flagsWord (List.replicate 5 h.isSome), wordOf s.tgh.rxTexts.length, wordOf s.tgh.rxOverflow,
    optWord (h.map fun x => x.payload.length), optWord (h.map fun x => addressingCode x.toCar),
    optWord (h.map fun x => min 65535 ((s.now - x.arrival) / 1000)),
    flagsWord [(h.map TextEntry.notified).getD false]] ++
  bytesToWords 6 ((h.map TextEntry.payload).getD [])

/-- The text-out window (11.4). -/
def TextOut.words (w : TextOut) : List Word := [w.length, w.w0, w.w1, w.w2, w.w3, w.w4, w.w5]

/-! ## The parameter records -/

/-- The last freeze check (11.3). -/
def FreezeCheck.code : FreezeCheck → Nat
  | .passed => 0
  | .failed n second => n + 256 * bitOf second

/-- The parameter status record. -/
def Pst.statusWords (t : Pst) : List Word :=
  [flagsWord [t.lastCheck.isSome], wordOf (bitOf t.frozen), optWord (t.lastCheck.map FreezeCheck.code),
    flagsWord [t.strapLatch]] ++
  (List.range 4).map fun i => t.clamped.extractLsb' (16 * i) 16

/-- A word of the parameter area, counted from its first word. -/
def Pst.areaWord (t : Pst) (i : Nat) : Word :=
  match Param.ofWord i with
  | none => 0
  | some (p, true) => wordOf (t.params.get p.idx / 65536)
  | some (p, false) => wordOf (t.params.get p.idx)

/-! ## The words of a record -/

/-- The words of a record as its owner left them. -/
def State.recordWords (s : State) : RecordId → List Word
  | .motion => s.odu.motionWords
  | .source => s.odu.sourceWords
  | .desk => s.deskWords
  | .cab d => s.cabWords (s.dka.cab d)
  | .supervision => s.ssu.words
  | .curve => s.ssu.curveWords
  | .restrictionSummary => s.ssu.summaryWords
  | .piece k => pieceWords s.ssu.window[k]?
  | .restriction k => restrictionWords s.ssu.restrictions[k]?
  | .row r => (s.brm.rows.get r).words
  | .brake => s.brakeWords
  | .brakeOutput => s.brakeOutputWords
  | .door i => s.doorWords i
  | .side i => (s.drc.side i).words i
  | .interlock => s.interlockWords
  | .bank b => (s.lps.bank b).words
  | .claim => s.lps.claimWords
  | .blockMap => s.lps.mapWords
  | .activation => s.lps.activationWords
  | .staging => s.lps.staging.words
  | .closeCheck => twoWords s.pif.closeCheck.toNat
  | .radio => s.radioWords
  | .link => s.tgh.linkWords
  | .authority => s.tgh.authorityWords
  | .radioProfile => s.tgh.radioProfileWords
  | .call k => callWords s.tgh.calls[k]?
  | .wholeLine => wholeLineWords s.tgh.wholeLine
  | .rxText => s.rxTextWords
  | .txText => [wordOf s.tgh.txTexts.length]
  | .textOut => s.tgh.textOut.words
  | .parameterStatus => s.pst.statusWords
  | .parameters k => (List.range (if k = 3 then 14 else 16)).map fun i => s.pst.areaWord (16 * k + i)

/-- The live value of a word address; an unmapped word reads 0 (R164). -/
def State.liveWord (s : State) (addr : Nat) : Word :=
  match placeOf addr with
  | none => 0
  | some r => (s.recordWords r.record).getD (addr - r.base) 0

end Sys2Proof.Machine
end

