-- ==== Sys2Proof/Machine/Start.lean ====
section
/-! DEFINITION. The freeze and its cross-checks (10.2), and the values every block takes at a power-on
reset and at a car restart (R22, R39, R62, R88, R110, R124, R141, R161, R172, R181). -/

namespace Sys2Proof.Machine

/-! ## Freeze -/

/-- R176: two windows overlap. -/
def overlap (a b c d : Nat) : Bool := decide (a ≤ d) && decide (c ≤ b)

/-- R176: the first cross-check that fails: its order number, and whether it is the second part of
PRESSURE_ORDER. -/
def State.freezeFailure (s : State) : Option (Nat × Bool) :=
  if s.par .mEb ≤ s.par .mSb then some (1, false)
  else if s.par .pFs < s.par .pHold then some (2, false)
  else if s.par .pEm < s.par .pFs then some (2, true)
  else if s.par .pHold ≤ 2 * s.par .band then some (3, false)
  else if s.par .markHi < s.par .markLo ∨ s.par .spaceHi < s.par .spaceLo ∨
      overlap (s.par .markLo) (s.par .markHi) (s.par .spaceLo) (s.par .spaceHi) then some (4, false)
  else if s.par .shortMax < s.par .shortMin ∨ s.par .longMax < s.par .longMin ∨
      overlap (s.par .shortMin) (s.par .shortMax) (s.par .longMin) (s.par .longMax) then some (5, false)
  else if s.par .carAddress = 0 then some (6, false)
  else none

/-- R175: FREEZE; a failing check's order number is the detail word (11.2). -/
def State.requestFreeze (s : State) : Answer :=
  if s.pst.frozen then s.refuse .frozen
  else
    match s.freezeFailure with
    | some (n, second) =>
      { state := { s with pst := { s.pst with lastCheck := some (.failed n second) } }
        result := .conditions, detail := some (wordOf n) }
    | none =>
      ({ s with pst := { s.pst with frozen := true, lastCheck := some .passed } } : State).accept

/-! ## The blocks at a reset -/

/-- R22: an encoder at a car restart. -/
def Encoder.restarted (e : Encoder) : Encoder :=
  { Encoder.reset with phaseA := e.phaseA, phaseB := e.phaseB, illegalCount := e.illegalCount }

/-- R22: the ODU at a car restart. -/
def Odu.restarted (o : Odu) (now : Nat) : Odu :=
  { Odu.reset with
    pos := o.pos, lo := o.lo, hi := o.hi, lastMarker := o.lastMarker, distHalf := o.distHalf,
    upper := o.upper.restarted, lower := o.lower.restarted, unknownMarkers := o.unknownMarkers,
    invalidReads := o.invalidReads, sampleTimer := now + Config.tick50 }

/-- R39: a bank at a car restart: an OPEN or CLOSED one becomes EMPTY. -/
def Bank.restarted (b : Bank) : Bank :=
  if b.state = .opened ∨ b.state = .closed then Bank.blank b.role else b

/-- R39: the LPS at a car restart. -/
def Lps.restarted (l : Lps) (now : Nat) : Lps :=
  { Lps.reset with
    x := l.x.restarted, y := l.y.restarted, rejected := l.rejected, passes := l.passes,
    timer := now + Config.tick50 }

/-- R62: the SSU at a car restart, which flushes the window. -/
def Ssu.restarted (u : Ssu) (now : Nat) : Ssu :=
  { Ssu.reset with
    flushCount := wrapSucc 65536 u.flushCount, malformed := u.malformed,
    timer := now + Config.tick50 }

/-- R110: a door's state derived from its inputs as they stand at the reset. -/
def Door.derived (d : Door) : DoorState :=
  if d.lk && !d.op then .locked
  else if d.lk && d.op then .fault .switchConflict
  else .fault .lockLost

/-- R110: a door at a reset; an ISOLATED one stays so. -/
def Door.restarted (d : Door) (period now : Nat) : Door :=
  { d with
    state := if d.state = .isolated then .isolated else d.derived
    reversals := 0, timer := none, motor := d.motor.off period now }

/-- R110: a side release at a car restart. -/
def SideRelease.restarted (r : SideRelease) : SideRelease := { r with granted := none }

/-- R110: the DRC at a reset. -/
def Drc.restarted (k : Drc) (period now : Nat) : Drc :=
  let k' : Drc :=
    { a1 := k.a1.restarted period now, a2 := k.a2.restarted period now,
      b1 := k.b1.restarted period now, b2 := k.b2.restarted period now,
      sideA := k.sideA.restarted, sideB := k.sideB.restarted, summary := k.summary }
  { k' with summary := k'.allProven }

/-- R124: the DKA at a car restart. -/
def Dka.restarted (k : Dka) : Dka :=
  { Dka.reset with cabU := { k.cabU with fresh := none }, cabL := { k.cabL with fresh := none } }

/-- R141: the VRL at a car restart. -/
def Vrl.restarted (v : Vrl) (now tBit : Nat) : Vrl :=
  { Vrl.reset with
    resync := v.resync, aborts := v.aborts, lengthErrors := v.lengthErrors, crcErrors := v.crcErrors,
    received := v.received, transmitted := v.transmitted, rx := Receiver.reset now (now + tBit),
    txTimer := now + tBit }

/-- R161: the TGH at a car restart. -/
def Tgh.restarted (t : Tgh) (nLoss : Nat) : Tgh :=
  { Tgh.reset with
    ignored := t.ignored, silent := nLoss, foreign := t.foreign, formatErrors := t.formatErrors,
    refusedProfile := t.refusedProfile, rxOverflow := t.rxOverflow, textOut := t.textOut }

/-- R88: a band brake at a reset, its output de-energised. -/
def Band.restarted (v : Band) (now ms : Nat) : Band :=
  { applied := v.applied, prove := if v.applied then none else some (now + ms * 1000), fault := none }

/-- R88: the brake demand table at a reset, with the doors and the loop sense as they stand. -/
def Rows.restarted (doorsProven senseOpen : Bool) : Rows :=
  { Rows.reset with
    doors := if doorsProven then Row.clear else Row.at .hold .doorsNotClosed
    loop := if senseOpen then Row.at .emergency .loopOpen else Row.clear }

/-- R88: the BRM at either reset, from the doors, its inputs and the parameters as they stand. Both PWM
periods begin afresh at the reset, so the 100% of the electric brake is driven 1,000 µs after it (log entry
19); the required effort is 0 (log entry 7). -/
def State.restartedBrm (s : State) (doorsProven : Bool) : Brm :=
  { Brm.reset with
    rows := Rows.restarted doorsProven s.brm.senseOpen
    target := s.par .pEm
    holdSeen := { Brm.reset.holdSeen with upper := s.brm.upper.applied, lower := s.brm.lower.applied }
    proveSeen := { Brm.reset.proveSeen with target := s.par .pEm }
    upper := s.brm.upper.restarted s.now (s.par .tPprove)
    lower := s.brm.lower.restarted s.now (s.par .tPprove)
    ebrake := { latched := 100, driven := 0, next := s.now + Config.pwmPeriod }
    traction := { latched := 0, driven := 0, next := s.now + Config.pwmPeriod }
    senseOpen := s.brm.senseOpen
    holdElapsed := decide (s.par .tHold = 0)
    holdTimer := if s.par .tHold = 0 then none else s.startMs (s.par .tHold)
    gateTimer := s.now + Config.gateTime }

/-! ## Power-on reset -/

/-- The inputs of a door as the reset finds them. -/
def Door.powerOn (d : Door) : Door :=
  { Door.reset with lk := d.lk, op := d.op, ed := d.ed, pb := d.pb }

/-- R110: the DRC at power-on reset. -/
def Drc.powerOn (k : Drc) : Drc :=
  Drc.restarted
    { Drc.reset with
      a1 := k.a1.powerOn, a2 := k.a2.powerOn, b1 := k.b1.powerOn, b2 := k.b2.powerOn } 50 0

/-- An encoder at power-on reset, with its phases as they stand. -/
def Encoder.powerOn (e : Encoder) : Encoder :=
  { Encoder.reset with phaseA := e.phaseA, phaseB := e.phaseB }

/-- R178: the state after a power-on reset that finds the inputs of `s` and the strap given; the waiting
commands stand. The clock starts from 0. -/
def State.poweredOn (strap : Bool) (s : State) : State :=
  let base : State :=
    { State.reset with
      odu := { Odu.reset with upper := s.odu.upper.powerOn, lower := s.odu.lower.powerOn }
      brm := { Brm.reset with
        senseOpen := s.brm.senseOpen
        upper := { Band.reset with applied := s.brm.upper.applied }
        lower := { Band.reset with applied := s.brm.lower.applied } }
      drc := s.drc.powerOn
      pst := { Pst.reset with strapPin := strap, strapLatch := strap }
      pending := s.pending }
  { base with brm := base.restartedBrm base.drc.summary }

/-! ## Car restart -/

/-- R180: every block at its car-restart values, the PIF with its sets and its snapshot buffers empty (R172,
log entry 16). -/
def State.restartBlocks (s : State) : State :=
  let drc := s.drc.restarted (s.par .tPwm) s.now
  { s with
    pif := Pif.reset
    odu := s.odu.restarted s.now
    lps := s.lps.restarted s.now
    ssu := s.ssu.restarted s.now
    brm := s.restartedBrm drc.summary
    drc := drc
    dka := s.dka.restarted
    vrl := s.vrl.restarted s.now (s.par .tBit)
    tgh := s.tgh.restarted (s.par .nLoss) }

/-- Whether the restart changes what the SUPERVISION notice tells (R61). -/
def Ssu.restartTells (u : Ssu) : Bool :=
  u.status != .normal || u.overrun || u.mode != .none

/-- Whether a door is in FAULT. -/
def Door.faulty (d : Door) : Bool :=
  match d.state with
  | .fault _ => true
  | _ => false

/-- Whether the restart brings a door into FAULT, from whatever state (R100), or changes the summary
(R109). -/
def Drc.restartTells (before k : Drc) : Bool :=
  before.summary != k.summary || allDoors.any fun i => (k.door i).faulty

/-- Whether the restart empties a bank or clears the profile-outdated flag (R39, R143). -/
def State.profileTells (s : State) : Bool :=
  s.tgh.outdated ||
    [s.lps.x, s.lps.y].any fun b => b.state == .opened || b.state == .closed

/-- R180: an accepted car restart, with the notices of the restarting blocks (log entry 16). It sets the
latch, which raises BRAKE (R65). -/
def State.restart (s : State) : State :=
  let r := s.restartBlocks
  State.raiseIf (Drc.restartTells s.drc r.drc) .door
    (State.raise .brake
      (State.raiseIf (!s.ssu.restrictions.isEmpty || s.ssu.cap.isSome) .restriction
        (State.raiseIf s.ssu.restartTells .supervision
          (State.raiseIf s.profileTells .profile r))))

/-- R179: CAR_RESTART. -/
def State.requestRestart (s : State) : Answer :=
  if !s.still then s.refuse .moving
  else if s.dka.active.isSome then s.refuse .busy
  else s.restart.accept

end Sys2Proof.Machine
end

