-- ==== Sys2Proof/Machine/Ports.lean ====
section
/-! DEFINITION. The Port Interface (chapter 9, 11.2): the pointer and the snapshot, reads, writes with
their masks and owners, requests with their results, notices and framing errors. -/

namespace Sys2Proof.Machine

/-! ## The pointer and the snapshot -/

/-- The number of word addresses. -/
def recordSpace : Nat := 4096

/-- R164: the snapshot taken at a word address, if it is the first word of a record. -/
def State.snapshotAt (s : State) (addr : Nat) : Option Snapshot :=
  (placeAt addr).map fun r => { base := r.base, words := s.recordWords r.record }

/-- R163: the pointer loaded; a load onto any word but a record's first empties the buffer. -/
def State.loadPointer (p : Port) (addr : Nat) (s : State) : State :=
  s.setPort p { s.port p with
    pointer := addr % recordSpace, snapshot := s.snapshotAt (addr % recordSpace) }

/-- R163: the pointer incremented, by a word of a WRITE as by one of a READ: onto the first word of a record
it takes a snapshot (log entry 13). -/
def State.stepPointer (p : Port) (s : State) : State :=
  let a := ((s.port p).pointer + 1) % recordSpace
  s.setPort p { s.port p with pointer := a, snapshot := (s.snapshotAt a).or (s.port p).snapshot }

/-- R164: the word at the pointer, from the buffer while the buffer holds its record. -/
def State.pointerWord (s : State) (p : Port) : Word :=
  let a := (s.port p).pointer
  match placeOf a, (s.port p).snapshot with
  | some r, some n => if r.base = n.base then n.words.getD (a - r.base) 0 else s.liveWord a
  | _, _ => s.liveWord a

/-- R163, R164: words shifted out, each with the pointer moved on. -/
def State.readOut (p : Port) : Nat → State → List Word × State
  | 0, s => ([], s)
  | n + 1, s =>
    let r := State.readOut p n (s.stepPointer p)
    (s.pointerWord p :: r.1, r.2)

/-- What a transaction shifted out. -/
def State.shiftOut (p : Port) (ws : List Word) (s : State) : State :=
  s.setPort p { s.port p with out := ws }

/-- R163, R164: a READ of `n` words. -/
def State.readWords (p : Port) (n : Nat) (s : State) : State :=
  State.shiftOut p (s.readOut p n).1 (s.readOut p n).2

/-- R162: a framing error. -/
def State.framingError (p : Port) (s : State) : State :=
  s.setPort p { s.port p with frameErrors := satSucc 255 (s.port p).frameErrors }

/-! ## Writing -/

/-- 9.3, 11.4: whether a port's mask admits a word of a record; every mask is all bits or none. -/
def State.admits (s : State) (p : Port) (r : RecordId) (offset : Nat) : Bool :=
  match p, r with
  | .u, .cab .u => decide (offset < 3)
  | .l, .cab .l => decide (offset < 3)
  | .c, .staging => s.lps.stagingOpen
  | .c, .closeCheck => s.lps.stagingOpen
  | .c, .textOut => true
  | .c, .parameters _ => !s.pst.frozen
  | _, _ => false

/-- R165: whether the word at an address is kept. -/
def State.keeps (s : State) (p : Port) (addr : Nat) : Bool :=
  match placeOf addr with
  | none => false
  | some r => s.admits p r.record (addr - r.base)

/-- A word kept for its owner, with its address. -/
abbrev Kept := Nat × Word

/-- R165: the words of a WRITE taken in turn: each is kept or dropped, and moves the pointer on. -/
def State.takeWords (p : Port) : List Word → State → List Kept × State
  | [], s => ([], s)
  | w :: ws, s =>
    let a := (s.port p).pointer
    if s.keeps p a then
      let r := State.takeWords p ws (s.stepPointer p)
      ((a, w) :: r.1, r.2)
    else
      State.takeWords p ws
        ((s.setPort p { s.port p with refused := satSucc 255 (s.port p).refused }).stepPointer p)

/-- The word kept for an address: the last one written there, where a WRITE runs round the record space and
reaches it more than once (DESIGN CHOICE, log entry 13). -/
def keptAt (ks : List Kept) (addr : Nat) : Option Word :=
  (ks.reverse.find? fun k => k.1 == addr).map Prod.snd

/-- A word as kept, or as held. -/
def keptOr (ks : List Kept) (addr : Nat) (w : Word) : Word := (keptAt ks addr).getD w

/-- Whether a word of a stretch of addresses was kept. -/
def anyKept (ks : List Kept) (base words : Nat) : Bool :=
  ks.any fun k => decide (base ≤ k.1) && decide (k.1 < base + words)

/-- R112: a cab control record handed the words kept for it. -/
def State.handCab (d : Desk) (base : Nat) (ks : List Kept) (s : State) : State :=
  if anyKept ks base 3 then
    State.finish (s.takeCab d
      { demand := keptAt ks base, handle := keptAt ks (base + 1), switch := keptAt ks (base + 2) })
  else s

/-- R29: the staging window handed the words kept for it; the fourth data word commits the block. -/
def State.handStaging (ks : List Kept) (s : State) : State :=
  let g := s.lps.staging
  let l : Lps := { s.lps with staging :=
    { offset := keptOr ks 0x248 g.offset, d0 := keptOr ks 0x249 g.d0, d1 := keptOr ks 0x24A g.d1,
      d2 := keptOr ks 0x24B g.d2, d3 := keptOr ks 0x24C g.d3 } }
  { s with lps := if (keptAt ks 0x24C).isSome then l.commit else l }

/-- 9.3: the close-check record handed the words kept for it. -/
def State.handCloseCheck (ks : List Kept) (s : State) : State :=
  let c := s.pif.closeCheck
  let v : BitVec 32 := keptOr ks 0x250 (c.extractLsb' 16 16) ++ keptOr ks 0x251 (c.extractLsb' 0 16)
  { s with pif := { s.pif with closeCheck := v } }

/-- 8.8: the text-out window handed the words kept for it. -/
def State.handTextOut (ks : List Kept) (s : State) : State :=
  let w := s.tgh.textOut
  { s with tgh := { s.tgh with textOut :=
      { length := keptOr ks 0x318 w.length, w0 := keptOr ks 0x319 w.w0, w1 := keptOr ks 0x31A w.w1,
        w2 := keptOr ks 0x31B w.w2, w3 := keptOr ks 0x31C w.w3, w4 := keptOr ks 0x31D w.w4,
        w5 := keptOr ks 0x31E w.w5 } } }

/-- The word address of a word of the parameter area, counted from its first word (11.3). -/
def areaAddr (i : Nat) : Nat := 0x410 + i

/-- R174: a parameter given a value, clamped to its range, with its clamped flag decided afresh. -/
def Pst.setParam (t : Pst) (p : Param) (v : Nat) : Pst :=
  { t with
    params := t.params.set p.idx (p.clamp v)
    clamped :=
      if p.isClamped v then t.clamped ||| (1#64 <<< p.idx.val)
      else t.clamped &&& ~~~(1#64 <<< p.idx.val) }

/-- The first word of a parameter in the area, counted from the area's first word (11.3). -/
def Param.firstWord (p : Param) : Nat := if p.idx.val < 3 then p.idx.val else p.idx.val + 1

/-- R174: a parameter handed the words kept for it; a field of two words is composed from both. -/
def Pst.handParam (ks : List Kept) (t : Pst) (p : Param) : Pst :=
  let a := areaAddr p.firstWord
  if p = .pRack then
    if anyKept ks a 2 then
      let v := t.params.get p.idx
      t.setParam p ((keptOr ks a (wordOf (v / 65536))).toNat * 65536 +
        (keptOr ks (a + 1) (wordOf v)).toNat)
    else t
  else
    match keptAt ks a with
    | none => t
    | some w => t.setParam p w.toNat

/-- R174: the parameter area handed the words kept for it. -/
def State.handParams (ks : List Kept) (s : State) : State :=
  { s with pst := Param.all.foldl (Pst.handParam ks) s.pst }

/-- R165: the kept words handed to the owner of each record they belong to. -/
def State.handOver (p : Port) (ks : List Kept) (s : State) : State :=
  match p with
  | .u => s.handCab .u 0x020 ks
  | .l => s.handCab .l 0x028 ks
  | .c =>
    let s₁ := if anyKept ks 0x248 5 then s.handStaging ks else s
    let s₂ := if anyKept ks 0x250 2 then s₁.handCloseCheck ks else s₁
    let s₃ := if anyKept ks 0x318 7 then s₂.handTextOut ks else s₂
    if anyKept ks 0x410 62 then s₃.handParams ks else s₃

/-- R165: the complete words of a WRITE. -/
def State.writeWords (p : Port) (ws : List Word) (s : State) : State :=
  let r := s.takeWords p ws
  r.2.handOver p r.1

/-- R162, R165: a WRITE transaction; one with no word is a framing error. -/
def State.writeTransaction (p : Port) (ws : List Word) (s : State) : State :=
  match ws with
  | [] => s.framingError p
  | w :: t => s.writeWords p (w :: t)

/-- R162, R163: a READ transaction with the count its field carries. -/
def State.readTransaction (p : Port) (count : Word) (s : State) : State :=
  if count = 0 ∨ 256 < count.toNat then s.framingError p else s.readWords p count.toNat

/-! ## Status and notices -/

/-- R171: the status words (11.2). -/
def PortState.statusWords (q : PortState) : List Word :=
  [q.pending.setWidth 16, q.enable.setWidth 16, 0,
    wordOf (256 * ((q.result.map fun c => c.code.toNat % 256).getD 0) +
      (q.result.map fun c => c.result.code).getD 0),
    ((q.result.bind ResultCell.detail).getD 0),
    wordOf (32768 * bitOf q.result.isSome + q.seq), wordOf (256 * q.refused + q.frameErrors)]

/-- R171: READ_STATUS. -/
def State.statusOut (p : Port) (s : State) : State := s.shiftOut p (s.port p).statusWords

/-- R170: CLEAR_NOTICES. -/
def State.clearMask (p : Port) (mask : Word) (s : State) : State :=
  s.setPort p { s.port p with pending := (s.port p).pending &&& ~~~(mask.setWidth 12) }

/-- R170: SET_ENABLES. -/
def State.enableMask (p : Port) (mask : Word) (s : State) : State :=
  s.setPort p { s.port p with enable := mask.setWidth 12 }

/-! ## Requests -/

/-- The requests of 9.4. -/
inductive ReqKind where
  | activate | deactivate | forceDeactivate | shunt | full | acknowledge | brakeReset | doorRelease
  | doorClose | isolateDoor | positionRestore | profileOpen | profileClose | profileAbort
  | profileActivate | sendText | popText | freeze | carRestart
  deriving DecidableEq, Repr

/-- The request code (11.2). -/
def ReqKind.code : ReqKind → Word
  | .activate => 1#16
  | .deactivate => 2#16
  | .forceDeactivate => 3#16
  | .shunt => 4#16
  | .full => 5#16
  | .acknowledge => 6#16
  | .brakeReset => 7#16
  | .doorRelease => 8#16
  | .doorClose => 9#16
  | .isolateDoor => 10#16
  | .positionRestore => 11#16
  | .profileOpen => 12#16
  | .profileClose => 13#16
  | .profileAbort => 14#16
  | .profileActivate => 15#16
  | .sendText => 16#16
  | .popText => 17#16
  | .freeze => 18#16
  | .carRestart => 19#16

/-- The request a code names; code 0 and codes from 20 up name none (11.2). -/
def ReqKind.ofCode (c : Word) : Option ReqKind :=
  match c.toNat with
  | 1 => some .activate
  | 2 => some .deactivate
  | 3 => some .forceDeactivate
  | 4 => some .shunt
  | 5 => some .full
  | 6 => some .acknowledge
  | 7 => some .brakeReset
  | 8 => some .doorRelease
  | 9 => some .doorClose
  | 10 => some .isolateDoor
  | 11 => some .positionRestore
  | 12 => some .profileOpen
  | 13 => some .profileClose
  | 14 => some .profileAbort
  | 15 => some .profileActivate
  | 16 => some .sendText
  | 17 => some .popText
  | 18 => some .freeze
  | 19 => some .carRestart
  | _ => none

/-- 9.4: whether the request is made by the desks' ports; the others are port C's. -/
def ReqKind.fromDesk : ReqKind → Bool
  | .activate => true
  | .deactivate => true
  | .shunt => true
  | .full => true
  | .acknowledge => true
  | .brakeReset => true
  | .doorRelease => true
  | .doorClose => true
  | _ => false

/-- R166: the request is listed for the port in the table of 9.4. -/
def ReqKind.permits (k : ReqKind) (p : Port) : Bool := k.fromDesk == (portDesk p).isSome

/-- An accepted answer with what it changed handed on; a refusal changes nothing more. -/
def Answer.finished (a : Answer) : Answer :=
  if a.result = .accepted then { a with state := a.state.finish } else a

/-- R66: BRAKE_RESET. -/
def State.requestBrakeReset (p : Port) (s : State) : Answer :=
  if !s.isActivePort p then s.refuse .notActiveDesk
  else if !s.still then s.refuse .moving
  else if s.brm.rows.anyEmergency || s.brm.senseOpen || s.brm.upper.fault == some .failApply ||
      s.brm.lower.fault == some .failApply then s.refuse .conditions
  else if s.brm.latch.isNone then s.accept
  else
    (State.raise .brake
      { s with brm := { s.brm with latch := none, loopForced := false } }).accept

/-- R104: DOOR_RELEASE. -/
def State.requestRelease (p : Port) (side : Word) (s : State) : Answer :=
  if !s.isActivePort p then s.refuse .notActiveDesk
  else
    match argSide side, portDesk p with
    | some i, some d =>
      match s.grantFailure i with
      | some c =>
        ({ s with drc := s.drc.setSide i { s.drc.side i with refused := some c } } : State).refuse
          .conditions
      | none => if s.isGranted i then s.accept else (s.grant i d).accept
    | _, _ => s.refuse .badArgument

/-- R108: DOOR_CLOSE. -/
def State.requestClose (p : Port) (side : Word) (s : State) : Answer :=
  if !s.isActivePort p then s.refuse .notActiveDesk
  else
    match argSide side with
    | none => s.refuse .badArgument
    | some i => (s.withdrawIfGranted i .close).accept

/-- R101: a door isolated. -/
def State.isolate (i : DoorId) (s : State) : State :=
  s.setDoor i { s.doorAtRest .isolated (s.door i) with reversals := 0 }

/-- R101: a door returned to service. -/
def State.toService (i : DoorId) (s : State) : State :=
  let d := s.door i
  if d.lk && !d.op then
    s.setDoor i (s.doorAtRest (if s.isGranted (doorSide i) then .released else .locked) d)
  else s.doorFault i (if d.lk && d.op then .switchConflict else .lockLost)

/-- R101: whether a door may be isolated: it is in LOCKED or in FAULT. -/
def DoorState.isolable : DoorState → Bool
  | .locked => true
  | .fault _ => true
  | _ => false

/-- R101: ISOLATE_DOOR. -/
def State.requestIsolate (door setting : Word) (s : State) : Answer :=
  match argDoor door, argSetting setting with
  | some i, some on =>
    if !s.still then s.refuse .moving
    else if on then
      if (s.door i).state.isolable then ((s.isolate i).raise .door).accept else s.refuse .conditions
    else if (s.door i).state = .isolated then ((s.toService i).raise .door).accept
    else s.refuse .conditions
  | _, _ => s.refuse .badArgument

/-- R168: PROFILE_CLOSE from port C, with the check value of the close-check record. -/
def State.requestProfileClose (version : Word) (s : State) : Answer :=
  s.closeProfile .portC version.toNat s.pif.closeCheck

/-- An answer for the desk that speaks on a port. -/
def State.forDesk (p : Port) (f : Desk → Answer) (s : State) : Answer :=
  match portDesk p with
  | some d => f d
  | none => s.refuse .notPermitted

/-- R166: what the owner of a request answers. -/
def State.answer (k : ReqKind) (p : Port) (arg1 arg2 : Word) (s : State) : Answer :=
  match k with
  | .activate => (s.forDesk p fun d => s.requestActivate d).finished
  | .deactivate => (s.requestDeactivate p).finished
  | .forceDeactivate => s.requestForce.finished
  | .shunt => (s.requestMode p .shunt).finished
  | .full => (s.requestMode p .full).finished
  | .acknowledge => (s.acknowledge p).finished
  | .brakeReset => (s.requestBrakeReset p).finished
  | .doorRelease => (s.requestRelease p arg1).finished
  | .doorClose => (s.requestClose p arg1).finished
  | .isolateDoor => (s.requestIsolate arg1 arg2).finished
  | .positionRestore => (s.restorePos arg1 arg2).finished
  | .profileOpen => s.openProfile .portC arg1.toNat arg2.toNat
  | .profileClose => s.requestProfileClose arg1
  | .profileAbort => s.abortProfile
  | .profileActivate => (s.activateProfile .portC arg1.toNat).finished
  | .sendText => s.queueText
  | .popText => s.popHead
  | .freeze => s.requestFreeze
  | .carRestart => s.requestRestart

/-- R166: a request placed in the port's request cell. -/
def State.place (p : Port) (k : ReqKind) (arg1 arg2 : Word) (s : State) : State :=
  s.setPort p { s.port p with request := some { code := k.code, arg1 := arg1, arg2 := arg2 } }

/-- R166, R167: a request that the port is listed for is placed and taken by its owner; another is
refused NOT_PERMITTED. -/
def State.serve (k : ReqKind) (p : Port) (arg1 arg2 : Word) (s : State) : State :=
  if k.permits p then
    let a := (s.place p k arg1 arg2).answer k p arg1 arg2
    a.state.writeResult p k.code a.result a.detail
  else s.writeResult p k.code .notPermitted none

/-- R166: a REQUEST transaction by its code; a code that names no request is refused BAD_ARGUMENT. -/
def State.request (p : Port) (code arg1 arg2 : Word) (s : State) : State :=
  match ReqKind.ofCode code with
  | some k => s.serve k p arg1 arg2
  | none => s.writeResult p code .badArgument none

/-! ## Transactions as they are shifted -/

/-- The complete words of a run of bytes, high byte first. -/
def wordsOf : List Byte → List Word
  | hi :: lo :: t => byteWord hi lo :: wordsOf t
  | [_] => []
  | [] => []

/-- R162: a READ whose master shifts `bytes` after the command byte: a count out of range is an error,
and one cut short leaves the pointer advanced by the words fully shifted out (log entry 13). -/
def State.rawRead (p : Port) (bytes : List Byte) (s : State) : State :=
  match wordsOf bytes with
  | [] => s.framingError p
  | count :: _ =>
    let shifted := (bytes.length - 2) / 2
    if count = 0 ∨ 256 < count.toNat then s.framingError p
    else if count.toNat ≤ shifted then s.readWords p count.toNat
    else (s.readWords p shifted).framingError p

/-- R162: a WRITE whose master shifts `bytes` after the command byte: a last partial word is discarded
and counted, and the complete words are taken. -/
def State.rawWrite (p : Port) (bytes : List Byte) (s : State) : State :=
  if bytes = [] then s.framingError p
  else
    let t := if wordsOf bytes = [] then s else s.writeWords p (wordsOf bytes)
    if bytes.length % 2 = 1 then t.framingError p else t

/-- R162: a transaction taken from the bytes its master shifts in, the command byte first. Bytes after
the fields of a complete transaction are ignored. READ_STATUS is complete with its command byte (log entry
13). -/
def State.rawTransaction (p : Port) (bytes : List Byte) (s : State) : State :=
  match bytes with
  | [] => s.framingError p
  | c :: t =>
    match c.toNat, wordsOf t with
    | 1, a :: _ => s.loadPointer p a.toNat
    | 2, _ => s.rawRead p t
    | 3, _ => s.rawWrite p t
    | 4, code :: arg1 :: arg2 :: _ => s.request p code arg1 arg2
    | 5, _ => s.statusOut p
    | 6, m :: _ => s.clearMask p m
    | 7, m :: _ => s.enableMask p m
    | _, _ => s.framingError p

end Sys2Proof.Machine
end

