-- ==== Sys2Proof/Machine/MotionCommands.lean ====
section
/-! DEFINITION. The commands of chapter 1: encoder edges and teeth, the marker reader, the sample, and
the restoring of the position. An expiry whose timer is not running has no effect (log entry 2). -/

namespace Sys2Proof.Machine

/-- What a command answers. -/
abbrev Out := Host.Outcome State Fault Refusal

/-- ENCODER_EDGE (R1): an edge that changes no phase is none. -/
def execEncoderEdge (e : Bogie) (phaseA phaseB : Bool) (s : State) : Out :=
  if phaseStep (s.odu.encoder e).phaseA (s.odu.encoder e).phaseB phaseA phaseB = .unchanged then
    .next s
  else .next (s.encoderStep e phaseA phaseB).finish

/-- TOOTH (R2). -/
def execTooth (s : State) : Out := .next s.takeTooth.finish

/-- REGIME_TIMER_EXPIRY (R2): the timer stops; the regime is chosen at the next sample (R6). -/
def execRegimeTimerExpiry (s : State) : Out :=
  match s.odu.regimeTimer with
  | none => .next s
  | some d =>
    let s₁ := s.advanceTo d
    .next { s₁ with odu := { s₁.odu with regimeTimer := none } }

/-- The falling edge that completes a read, taken now with the bits the burst has held (log entry 12). -/
def State.markerRead (ident : BitVec 12) (check : BitVec 4) (s : State) : State :=
  State.restartCollection s.now
    (State.completeRead ident.toNat check.toNat
      { s with odu := { s.odu with reader := s.odu.reader.noteEdge false s.now } })

/-- MARKER_READ (R5, R18 to R20). -/
def execMarkerRead (ident : BitVec 12) (check : BitVec 4) (s : State) : Out :=
  .next (s.markerRead ident check).finish

/-- COLLECTION_TIMEOUT (R3). -/
def execCollectionTimeout (s : State) : Out :=
  match s.odu.reader.timeout with
  | none => .next s
  | some d => .next (s.advanceTo d).endCollection

/-- The sample timer's next expiry (1.3). -/
def State.sampleClock (s : State) : State :=
  let s₁ := s.advanceTo s.odu.sampleTimer
  { s₁ with odu := { s₁.odu with sampleTimer := s.odu.sampleTimer + Config.tick50 } }

/-- ODU_SAMPLE (R6 to R17). -/
def execOduSample (s : State) : Out := .next s.sampleClock.sample.finish

/-- R16: the standstill timer's expiry; a car that stands already only has its leaving sums cleared. -/
def State.standExpiry (s : State) : State :=
  if s.still then { s with odu := s.odu.clearLeaving } else s.enterStandstill

/-- STANDSTILL_TIMER_EXPIRY (R16). -/
def execStandstillTimerExpiry (s : State) : Out :=
  match s.odu.standTimer with
  | none => .next s
  | some d =>
    let s₁ := s.advanceTo d
    .next (State.standExpiry { s₁ with odu := { s₁.odu with standTimer := none } }).finish

/-- POSITION_RESTORE (R21). -/
def execPositionRestore (p : Port) (arg1 arg2 : Word) (s : State) : Out :=
  .next (s.serve .positionRestore p arg1 arg2)

/-- MARKER_EDGE_CAPTURE (R3 to R5). -/
def execMarkerEdgeCapture (level : Bool) (time : Nat) (s : State) : Out :=
  .next ((s.advanceTo time).capture level time).finish

end Sys2Proof.Machine
end

