-- ==== Sys2Proof/Machine/BrakeCommands.lean ====
section
/-! DEFINITION. The commands of chapter 4: BRAKE_RESET, the pressure gate, the valves' dead time, the
provings, the effort feedback, the emergency loop, and the hold and departure timers. -/

namespace Sys2Proof.Machine

/-- BRAKE_RESET (R66). -/
def execBrakeReset (p : Port) (s : State) : Out := .next (s.serve .brakeReset p 0 0)

/-- R68: the measured pressure of a pulse count, or none outside 90 to 510. -/
def pressureOf (n : Nat) : Option Nat :=
  if 90 ≤ n ∧ n ≤ 510 then some (min 1000 ((n - 100) * 5 / 2)) else none

/-- R68: the gate timer's next expiry. -/
def State.gateClock (s : State) : State :=
  let s₁ := s.advanceTo s.brm.gateTimer
  { s₁ with brm := { s₁.brm with gateTimer := s.brm.gateTimer + Config.gateTime } }

/-- R68: the measurement of the gate; BRAKE is raised as SENSOR_FAULT is set or cleared. -/
def State.measure (s : State) : State :=
  let m := pressureOf s.brm.pulses
  State.raiseIf (m.isNone != s.brm.sensorFault) .brake
    { s with brm := { s.brm with measured := m, sensorFault := m.isNone, pulses := 0 } }

/-- R71: whether the gate end clears FRICTION_FAULT. -/
def State.provedAtGate (s : State) : Bool :=
  decide (s.par .pHold ≤ s.brm.target) &&
    match s.brm.measured with
    | none => false
    | some m => decide (s.brm.target ≤ m + s.par .band)

/-- R71: FRICTION_FAULT cleared at the gate end. -/
def State.clearFriction (s : State) : State :=
  if s.brm.frictionFault && s.provedAtGate then
    State.raise .brake { s with brm := { s.brm with frictionFault := false } }
  else s

/-- PRESSURE_GATE_END (R67 to R69, R71): the target and the valve choice, and the proving test. -/
def execPressureGateEnd (s : State) : Out :=
  .next s.gateClock.measure.retarget.clearFriction.testProving.finish

/-- R70: the dead time has passed: the waiting choice is taken. -/
def State.takeWaiting (s : State) : State :=
  match s.brm.waiting with
  | none => s
  | some c => if s.brm.loopForced then s else s.openValve c

/-- DEAD_TIME_EXPIRY (R70). -/
def execDeadTimeExpiry (s : State) : Out :=
  match s.brm.deadTimer with
  | none => .next s
  | some d =>
    let s₁ := s.advanceTo d
    .next (State.takeWaiting { s₁ with brm := { s₁.brm with deadTimer := none } })

/-- FRICTION_PROVE_EXPIRY (R71). -/
def execFrictionProveExpiry (s : State) : Out :=
  match s.brm.proveTimer with
  | none => .next s
  | some d =>
    let s₁ := s.advanceTo d
    .next (State.finish (State.raise .brake
      { s₁ with brm := { s₁.brm with proveTimer := none, frictionFault := true } }))

/-- R73: the fault of the output driven. -/
def pinionFault (energised : Bool) : PinionFault := if energised then .failRelease else .failApply

/-- R73: a PINION_FAULT raised; FAIL_APPLY sets the latch. -/
def State.pinionFails (b : Bogie) (s : State) : State :=
  let v : Band :=
    { s.brm.bandOf b with prove := none, fault := some (pinionFault s.brm.energised) }
  let s₁ := State.raise .brake { s with brm := s.brm.setBand b v }
  if s.brm.energised then s₁ else s₁.setLatch .pinionApply

/-- PINION_PROVE_EXPIRY (R73). -/
def execPinionProveExpiry (b : Bogie) (s : State) : Out :=
  match (s.brm.bandOf b).prove with
  | none => .next s
  | some d => .next ((s.advanceTo d).pinionFails b).finish

/-- R73: an applied switch as read. -/
def State.setApplied (b : Bogie) (applied : Bool) (s : State) : State :=
  { s with brm := s.brm.setBand b { s.brm.bandOf b with applied := applied } }

/-- APPLIED_SWITCH_CHANGE (R73, R74): a switch that reads as before has not changed. -/
def execAppliedSwitchChange (b : Bogie) (applied : Bool) (s : State) : Out :=
  if (s.brm.bandOf b).applied = applied then .next s
  else .next ((s.setApplied b applied).reprove b).finish

/-- R76: the effort of a period, or none outside 900 to 1,100 µs. -/
def effortOf (period high : Nat) : Option Int :=
  if 900 ≤ period ∧ period ≤ 1100 then
    some (max (-100) (min 100 (((high * 1000 / period : Nat) - 500 : Int).tdiv 5)))
  else none

/-- R76: a period of the effort feedback taken. -/
def State.takeEffort (e : Option Int) (s : State) : State :=
  { s with brm := { s.brm with
      effort := e.getD 0, effortValid := e.isSome
      feedbackTimer := some (s.now + Config.feedbackTime) } }

/-- EFFORT_FEEDBACK_PERIOD (R76): the rising edge that ends a period comes now. -/
def execEffortFeedbackPeriod (period high : Nat) (s : State) : Out :=
  .next (s.takeEffort (effortOf period high)).finish

/-- FEEDBACK_TIMEOUT (R76). -/
def execFeedbackTimeout (s : State) : Out :=
  match s.brm.feedbackTimer with
  | none => .next s
  | some d =>
    let s₁ := s.advanceTo d
    .next (State.finish
      { s₁ with brm := { s₁.brm with effort := 0, effortValid := false, feedbackTimer := none } })

/-- R79: the sense input opens: the loop-forced state, with the valves in LAP. -/
def State.openLoop (s : State) : State :=
  State.raise .brake
    (State.toLap { s with brm := { s.brm with senseOpen := true, loopForced := true } })

/-- LOOP_SENSE_OPEN (R79, R80): an input that is open already has not opened. -/
def execLoopSenseOpen (s : State) : Out :=
  if s.brm.senseOpen then .next s else .next s.openLoop.finish

/-- LOOP_SENSE_CLOSE (R79): an input that is closed already has not closed. -/
def execLoopSenseClose (s : State) : Out :=
  if s.brm.senseOpen then
    .next (State.finish (State.raise .brake { s with brm := { s.brm with senseOpen := false } }))
  else .next s

/-- HOLD_DELAY_EXPIRY (R81). -/
def execHoldDelayExpiry (s : State) : Out :=
  match s.brm.holdTimer with
  | none => .next s
  | some d =>
    let s₁ := s.advanceTo d
    .next (State.finish { s₁ with brm := { s₁.brm with holdTimer := none, holdElapsed := true } })

/-- R84: the stall of a departure. -/
def State.stall (s : State) : State :=
  if s.brm.departure = .pulling then
    State.raise .departureStall { s with brm := { s.brm with departure := .stalled } }
  else s

/-- STALL_TIMER_EXPIRY (R84). -/
def execStallTimerExpiry (s : State) : Out :=
  match s.brm.stallTimer with
  | none => .next s
  | some d =>
    let s₁ := s.advanceTo d
    .next (State.finish (State.stall { s₁ with brm := { s₁.brm with stallTimer := none } }))

/-- PRESSURE_SENSOR_PULSE (R68). -/
def execPressureSensorPulse (s : State) : Out :=
  .next { s with brm := { s.brm with pulses := s.brm.pulses + 1 } }

end Sys2Proof.Machine
end

