-- ==== Sys2Proof/Machine/DeskCommands.lean ====
section
/-! DEFINITION. The commands of chapter 6: writes to the cab control records, their freshness, the orphan
timer, and the requests that activate and deactivate a desk. -/

namespace Sys2Proof.Machine

/-- CAB_CONTROL_WRITE (R112): a WRITE at the port's pointer, which stands at a cab control record. -/
def execCabControlWrite (p : Port) (words : List Word) (s : State) : Out :=
  .next (s.writeTransaction p words)

/-- FRESHNESS_EXPIRY (R113). -/
def execFreshnessExpiry (d : Desk) (s : State) : Out :=
  match (s.dka.cab d).fresh with
  | none => .next s
  | some t => .next ((s.advanceTo t).goStale d).finish

/-- ORPHAN_EXPIRY (R120, R121). -/
def execOrphanExpiry (s : State) : Out :=
  match s.dka.orphan with
  | none => .next s
  | some t => .next (s.advanceTo t).orphaned.finish

/-- ACTIVATE (R116, R117). -/
def execActivate (p : Port) (s : State) : Out := .next (s.serve .activate p 0 0)

/-- DEACTIVATE (R118, R120). -/
def execDeactivate (p : Port) (s : State) : Out := .next (s.serve .deactivate p 0 0)

/-- FORCE_DEACTIVATE (R119, R120). -/
def execForceDeactivate (p : Port) (s : State) : Out := .next (s.serve .forceDeactivate p 0 0)

end Sys2Proof.Machine
end

