-- ==== Sys2Proof/Machine/DoorCommands.lean ====
section
/-! DEFINITION. The commands of chapter 5: the events of a door's inputs, its timers, and the requests on
doors and sides. -/

namespace Sys2Proof.Machine

/-! ## Inputs -/

/-- R89, R97, R98: LK set. -/
def State.lkSet (i : DoorId) (s : State) : State :=
  let d : Door := { s.door i with lk := true }
  let s₁ := s.setDoor i d
  if d.state.tested && d.op then s₁.doorFault i .switchConflict
  else
    match d.state with
    | .closing => s₁.setDoor i (s₁.doorLocks i d)
    | .reversing .stop => s₁.setDoor i (s₁.doorLocks i d)
    | _ => s₁

/-- R92, R93: LK cleared. -/
def State.lkCleared (i : DoorId) (s : State) : State :=
  let d : Door := { s.door i with lk := false }
  let s₁ := s.setDoor i d
  match d.state with
  | .locked => s₁.doorFault i .lockLost
  | .released => s₁.doorFault i .lockLost
  | _ => s₁

/-- R89, R94, R98: OP set. -/
def State.opSet (i : DoorId) (s : State) : State :=
  let d : Door := { s.door i with op := true }
  let s₁ := s.setDoor i d
  if d.state.tested && d.lk then s₁.doorFault i .switchConflict
  else
    match d.state with
    | .opening => s₁.setDoor i (s₁.doorOpen i d)
    | .reversing _ => s₁.setDoor i (s₁.doorWarning d)
    | _ => s₁

/-- R89: OP cleared: the level as read. -/
def State.opCleared (i : DoorId) (s : State) : State := s.setDoor i { s.door i with op := false }

/-- R89, R97: the level of the edge; its becoming active reverses a closing door. -/
def State.edLevel (i : DoorId) (active : Bool) (s : State) : State :=
  let s₁ := s.setDoor i { s.door i with ed := active }
  if active && (s.door i).state == .closing then s₁.countedReversal i else s₁

/-- R93, R95 to R97: a press of the button, in the state the door is in. -/
def State.pressed (i : DoorId) (s : State) : State :=
  let d := s.door i
  match d.state with
  | .released => s.setDoor i (s.doorOpening d)
  | .opened =>
    if d.timer.isSome then s.setDoor i { d with timer := s.doorTimer .dwell (s.par .tDwell) } else s
  | .warning => if s.isGranted (doorSide i) then s.setDoor i (s.doorOpen i d) else s
  | .closing => if s.isGranted (doorSide i) then s.setDoor i (s.doorReversing d) else s
  | _ => s

/-- R89: the level of the button; its release has no effect. -/
def State.pbLevel (i : DoorId) (pressed : Bool) (s : State) : State :=
  let s₁ := s.setDoor i { s.door i with pb := pressed }
  if pressed then s₁.pressed i else s₁

/-- LK_SET. -/
def execLkSet (d : DoorId) (s : State) : Out := .next (s.lkSet d).finish

/-- LK_CLEARED. -/
def execLkCleared (d : DoorId) (s : State) : Out := .next (s.lkCleared d).finish

/-- OP_SET. -/
def execOpSet (d : DoorId) (s : State) : Out := .next (s.opSet d).finish

/-- OP_CLEARED. -/
def execOpCleared (d : DoorId) (s : State) : Out := .next (s.opCleared d).finish

/-- ED_ACTIVE: the edge's new level (log entry 6). -/
def execEdActive (d : DoorId) (active : Bool) (s : State) : Out := .next (s.edLevel d active).finish

/-- PB_PRESSED: the button's new level (log entry 6). -/
def execPbPressed (d : DoorId) (pressed : Bool) (s : State) : Out :=
  .next (s.pbLevel d pressed).finish

/-! ## Timers -/

/-- The expiry of a door's timer of a kind, which does `f` at its time; without that timer running it
has no effect (log entry 2). -/
def State.doorExpiry (i : DoorId) (k : DoorTimer) (f : State → State) (s : State) : State :=
  match (s.door i).timer with
  | none => s
  | some (k', t) => if k' = k then (f (s.advanceTo t)).finish else s

/-- T_OPEN_EXPIRY (R94). -/
def execTOpenExpiry (d : DoorId) (s : State) : Out :=
  .next (s.doorExpiry d .tOpen fun x => x.doorFault d .openTimeout)

/-- DWELL_EXPIRY (R95). -/
def execDwellExpiry (d : DoorId) (s : State) : Out :=
  .next (s.doorExpiry d .dwell fun x => x.setDoor d (x.doorWarning (x.door d)))

/-- T_WARN_EXPIRY (R96, R97). -/
def execTWarnExpiry (d : DoorId) (s : State) : Out :=
  .next (s.doorExpiry d .tWarn fun x => x.startClosing d)

/-- T_CLOSE_EXPIRY (R97, R99). -/
def execTCloseExpiry (d : DoorId) (s : State) : Out :=
  .next (s.doorExpiry d .tClose fun x => x.countedReversal d)

/-- STOP_INTERVAL_EXPIRY (R98). -/
def execStopIntervalExpiry (d : DoorId) (s : State) : Out :=
  .next (s.doorExpiry d .stopInterval fun x => x.setDoor d (x.doorDriving (x.door d)))

/-- T_REV_EXPIRY (R98). -/
def execTRevExpiry (d : DoorId) (s : State) : Out :=
  .next (s.doorExpiry d .tRev fun x => x.setDoor d (x.doorWarning (x.door d)))

/-! ## Requests -/

/-- ISOLATE_DOOR (R101). -/
def execIsolateDoor (p : Port) (door setting : Word) (s : State) : Out :=
  .next (s.serve .isolateDoor p door setting)

/-- DOOR_RELEASE (R104, R105). -/
def execDoorRelease (p : Port) (side : Word) (s : State) : Out :=
  .next (s.serve .doorRelease p side 0)

/-- DOOR_CLOSE (R108). -/
def execDoorClose (p : Port) (side : Word) (s : State) : Out := .next (s.serve .doorClose p side 0)

end Sys2Proof.Machine
end

