-- ==== Sys2Proof/Machine/PortCommands.lean ====
section
/-! DEFINITION. The commands of chapter 9: the port transactions and the requests that name nothing. -/

namespace Sys2Proof.Machine

/-- SET_POINTER (R163). -/
def execSetPointer (p : Port) (addr : Word) (s : State) : Out := .next (s.loadPointer p addr.toNat)

/-- READ (R162 to R164). -/
def execRead (p : Port) (count : Word) (s : State) : Out := .next (s.readTransaction p count)

/-- WRITE (R162, R165). -/
def execWrite (p : Port) (words : List Word) (s : State) : Out := .next (s.writeTransaction p words)

/-- READ_STATUS (R171). -/
def execReadStatus (p : Port) (s : State) : Out := .next (s.statusOut p)

/-- CLEAR_NOTICES (R170). -/
def execClearNotices (p : Port) (mask : Word) (s : State) : Out := .next (s.clearMask p mask)

/-- SET_ENABLES (R170). -/
def execSetEnables (p : Port) (mask : Word) (s : State) : Out := .next (s.enableMask p mask)

/-- TRANSACTION_FRAMING_ERROR (R162): the transaction as its bytes were shifted in. -/
def execTransactionFramingError (p : Port) (bytes : List Byte) (s : State) : Out :=
  .next (s.rawTransaction p bytes)

/-- UNKNOWN_REQUEST (R166). -/
def execUnknownRequest (p : Port) (code arg1 arg2 : Word) (s : State) : Out :=
  .next (s.request p code arg1 arg2)

end Sys2Proof.Machine
end

