-- ==== Sys2Proof/Machine/ProfileCommands.lean ====
section
/-! DEFINITION. The commands of chapter 2: the LPS timer, the requests of port C on the standby bank, and
writes to the staging window. -/

namespace Sys2Proof.Machine

/-- The LPS timer's next expiry. -/
def State.lpsClock (s : State) : State :=
  let s₁ := s.advanceTo s.lps.timer
  { s₁ with lps := { s₁.lps with timer := s.lps.timer + Config.tick50 } }

/-- LPS_TIMER_EXPIRY (R25 to R27, R37, R38). -/
def execLpsTimerExpiry (s : State) : Out := .next s.lpsClock.checkStep.scrubStep.finish

/-- PROFILE_OPEN from a port (R28). -/
def execProfileOpen (p : Port) (version length : Word) (s : State) : Out :=
  .next (s.serve .profileOpen p version length)

/-- PROFILE_CLOSE from a port (R31, R168). -/
def execProfileClose (p : Port) (version : Word) (s : State) : Out :=
  .next (s.serve .profileClose p version 0)

/-- PROFILE_ABORT from a port (R32). -/
def execProfileAbort (p : Port) (s : State) : Out := .next (s.serve .profileAbort p 0 0)

/-- PROFILE_ACTIVATE from a port (R34). -/
def execProfileActivate (p : Port) (version : Word) (s : State) : Out :=
  .next (s.serve .profileActivate p version 0)

/-- STAGING_WINDOW_WRITE (R29): a WRITE at the port's pointer, which stands at the staging window. -/
def execStagingWindowWrite (p : Port) (words : List Word) (s : State) : Out :=
  .next (s.writeTransaction p words)

end Sys2Proof.Machine
end

