-- ==== Sys2Proof/Machine/RadioCommands.lean ====
section
/-! DEFINITION. The commands of chapter 7: the transmit bit clock and what its events bring, the receiver,
and the dropping of a frame. -/

namespace Sys2Proof.Machine

/-- OWN_SLOT_EVENT (R127, R128, R155): the transmit bit clock reaches bit 0 of the own slot; a car
without an address has none (log entry 11). -/
def execOwnSlotEvent (s : State) : Out :=
  if s.par .carAddress = 0 then .next s
  else .next (s.txEventAt (s.par .carAddress) s.vrl.cycle).finish

/-- TRANSMISSION_END (R128, R130): without a transmission in progress it has no effect. -/
def execTransmissionEnd (s : State) : Out :=
  if s.vrl.tx.keyed then .next s.txLastEvent.finish else .next s

/-- SLOT_WRAP (R125, R140, R152): the slot counter becomes 0 by counting. -/
def execSlotWrap (s : State) : Out := .next (s.txEventAt 0 ((s.vrl.cycle + 1) % 4)).finish

/-- MISSED_BEACON_TEST (R140): the slot counter passes from 0 to 1. -/
def execMissedBeaconTest (s : State) : Out := .next (s.txEventAt 1 s.vrl.cycle).finish

/-- FRAME_DROPPED (R136): while the key is asserted no frame is being received (R130). -/
def execFrameDropped (cause : DropCause) (s : State) : Out :=
  if s.vrl.tx.keyed then .next s else .next (s.dropFrame cause)

/-- COMPARATOR_EDGE (R130 to R133). -/
def execComparatorEdge (time : Nat) (s : State) : Out :=
  .next ((s.advanceTo time).comparator time).finish

/-- RECEIVE_BIT_CLOCK_EVENT (R132, R134 to R138). -/
def execReceiveBitClockEvent (s : State) : Out := .next s.rxEvent.finish

/-- TRANSMIT_BIT_CLOCK_EVENT (R125 to R128, R140). -/
def execTransmitBitClockEvent (s : State) : Out := .next s.txEvent.finish

end Sys2Proof.Machine
end

