-- ==== Sys2Proof/Machine/StartCommands.lean ====
section
/-! DEFINITION. The commands of chapter 10: the power-on reset, parameter writes, FREEZE and
CAR_RESTART. -/

namespace Sys2Proof.Machine

/-- POWER_ON_RESET (R178): the inputs stand as they do, and the strap input as given. -/
def execPowerOnReset (strap : Bool) (s : State) : Out := .next (s.poweredOn strap)

/-- PARAMETER_WRITE (R174): a WRITE at port C's pointer, which stands in the parameter area. -/
def execParameterWrite (p : Port) (words : List Word) (s : State) : Out :=
  .next (s.writeTransaction p words)

/-- FREEZE (R175 to R177). -/
def execFreeze (p : Port) (s : State) : Out := .next (s.serve .freeze p 0 0)

/-- CAR_RESTART (R179, R180). -/
def execCarRestart (p : Port) (s : State) : Out := .next (s.serve .carRestart p 0 0)

end Sys2Proof.Machine
end

