-- ==== Sys2Proof/Machine/SupervisionCommands.lean ====
section
/-! DEFINITION. The commands of chapter 3: the supervision cycle, the mode requests and ACKNOWLEDGE. -/

namespace Sys2Proof.Machine

/-- The cycle timer's next expiry (3.3). -/
def State.cycleClock (s : State) : State :=
  let s₁ := s.advanceTo s.ssu.timer
  { s₁ with ssu := { s₁.ssu with timer := s.ssu.timer + Config.tick50 } }

/-- SUPERVISION_CYCLE (R42, R43, R47 to R59). -/
def execSupervisionCycle (s : State) : Out := .next s.cycleClock.cycle.finish

/-- SHUNT (R41). -/
def execShunt (p : Port) (s : State) : Out := .next (s.serve .shunt p 0 0)

/-- FULL (R41). -/
def execFull (p : Port) (s : State) : Out := .next (s.serve .full p 0 0)

/-- ACKNOWLEDGE (R58). -/
def execAcknowledge (p : Port) (s : State) : Out := .next (s.serve .acknowledge p 0 0)

end Sys2Proof.Machine
end

