-- ==== Sys2Proof/Machine/TelegramCommands.lean ====
section
/-! DEFINITION. The commands of chapter 8: the delivery of a telegram of each kind, and the text queues.
A telegram command carries the telegram's envelope, and passes the admission tests like any delivery
(R138, R142); while the key is asserted the receiver is deaf, and none is delivered (R130, R139, log
entry 11). -/

namespace Sys2Proof.Machine

/-- A telegram delivered, with what it changed handed on; a keyed car receives none (R130). -/
def State.receive (t : Telegram) (s : State) : State :=
  if s.vrl.tx.keyed then s else (s.deliver t).finish

/-- A telegram of a kind. -/
def telegramOf (k : TelegramKind) (e : Envelope) : Telegram := { kind := k.code, env := e }

/-- TELEGRAM_NOT_ADMITTED (R142). -/
def execTelegramNotAdmitted (t : Telegram) (s : State) : Out := .next (s.receive t)

/-- BEACON (R139, R143). -/
def execBeacon (e : Envelope) (s : State) : Out := .next (s.receive (telegramOf .beacon e))

/-- AUTHORITY (R144, R146). -/
def execAuthority (e : Envelope) (s : State) : Out := .next (s.receive (telegramOf .authority e))

/-- REVOKE (R145, R146). -/
def execRevoke (e : Envelope) (s : State) : Out := .next (s.receive (telegramOf .revoke e))

/-- RESTRICT_SET (R147, R44, R45). -/
def execRestrictSet (e : Envelope) (s : State) : Out := .next (s.receive (telegramOf .restrictSet e))

/-- RESTRICT_CLEAR (R147, R46). -/
def execRestrictClear (e : Envelope) (s : State) : Out :=
  .next (s.receive (telegramOf .restrictClear e))

/-- EMERGENCY_CALL (R148, R150). -/
def execEmergencyCall (e : Envelope) (s : State) : Out :=
  .next (s.receive (telegramOf .emergencyCall e))

/-- CALL_CANCEL (R149, R150). -/
def execCallCancel (e : Envelope) (s : State) : Out := .next (s.receive (telegramOf .callCancel e))

/-- PROFILE_OPEN from the radio (R151, R28). -/
def execProfileOpenTelegram (e : Envelope) (s : State) : Out :=
  .next (s.receive (telegramOf .profileOpen e))

/-- PROFILE_BLOCK (R151, R30). -/
def execProfileBlock (e : Envelope) (s : State) : Out := .next (s.receive (telegramOf .profileBlock e))

/-- PROFILE_CLOSE from the radio (R151, R31). -/
def execProfileCloseTelegram (e : Envelope) (s : State) : Out :=
  .next (s.receive (telegramOf .profileClose e))

/-- PROFILE_ACTIVATE from the radio (R151, R34). -/
def execProfileActivateTelegram (e : Envelope) (s : State) : Out :=
  .next (s.receive (telegramOf .profileActivate e))

/-- TEXT (R157, R158). -/
def execText (e : Envelope) (s : State) : Out := .next (s.receive (telegramOf .text e))

/-- TEXT_WAIT_EXPIRY (R158). -/
def execTextWaitExpiry (s : State) : Out :=
  match s.textDue with
  | none => .next s
  | some d => .next (s.advanceTo d).notifyTexts

/-- POP_TEXT (R159). -/
def execPopText (p : Port) (s : State) : Out := .next (s.serve .popText p 0 0)

/-- SEND_TEXT (R160). -/
def execSendText (p : Port) (s : State) : Out := .next (s.serve .sendText p 0 0)

end Sys2Proof.Machine
end

