-- ==== Sys2Proof/Machine/Dispatch.lean ====
section
/-! DEFINITION. One arm per command. -/

namespace Sys2Proof.Machine

def exec (i : Instr) (s : State) : Host.Outcome State Fault Refusal :=
  match i with
  | .powerOnReset strap => Sys2Proof.Machine.execPowerOnReset strap s
  | .encoderEdge e phaseA phaseB => Sys2Proof.Machine.execEncoderEdge e phaseA phaseB s
  | .tooth => Sys2Proof.Machine.execTooth s
  | .regimeTimerExpiry => Sys2Proof.Machine.execRegimeTimerExpiry s
  | .markerRead ident check => Sys2Proof.Machine.execMarkerRead ident check s
  | .collectionTimeout => Sys2Proof.Machine.execCollectionTimeout s
  | .oduSample => Sys2Proof.Machine.execOduSample s
  | .standstillTimerExpiry => Sys2Proof.Machine.execStandstillTimerExpiry s
  | .positionRestore p arg1 arg2 => Sys2Proof.Machine.execPositionRestore p arg1 arg2 s
  | .lpsTimerExpiry => Sys2Proof.Machine.execLpsTimerExpiry s
  | .profileOpen p version length => Sys2Proof.Machine.execProfileOpen p version length s
  | .profileClose p version => Sys2Proof.Machine.execProfileClose p version s
  | .profileAbort p => Sys2Proof.Machine.execProfileAbort p s
  | .profileActivate p version => Sys2Proof.Machine.execProfileActivate p version s
  | .stagingWindowWrite p words => Sys2Proof.Machine.execStagingWindowWrite p words s
  | .supervisionCycle => Sys2Proof.Machine.execSupervisionCycle s
  | .shunt p => Sys2Proof.Machine.execShunt p s
  | .full p => Sys2Proof.Machine.execFull p s
  | .acknowledge p => Sys2Proof.Machine.execAcknowledge p s
  | .brakeReset p => Sys2Proof.Machine.execBrakeReset p s
  | .pressureGateEnd => Sys2Proof.Machine.execPressureGateEnd s
  | .deadTimeExpiry => Sys2Proof.Machine.execDeadTimeExpiry s
  | .frictionProveExpiry => Sys2Proof.Machine.execFrictionProveExpiry s
  | .pinionProveExpiry b => Sys2Proof.Machine.execPinionProveExpiry b s
  | .appliedSwitchChange b applied => Sys2Proof.Machine.execAppliedSwitchChange b applied s
  | .effortFeedbackPeriod period high => Sys2Proof.Machine.execEffortFeedbackPeriod period high s
  | .feedbackTimeout => Sys2Proof.Machine.execFeedbackTimeout s
  | .loopSenseOpen => Sys2Proof.Machine.execLoopSenseOpen s
  | .loopSenseClose => Sys2Proof.Machine.execLoopSenseClose s
  | .holdDelayExpiry => Sys2Proof.Machine.execHoldDelayExpiry s
  | .stallTimerExpiry => Sys2Proof.Machine.execStallTimerExpiry s
  | .lkSet d => Sys2Proof.Machine.execLkSet d s
  | .lkCleared d => Sys2Proof.Machine.execLkCleared d s
  | .opSet d => Sys2Proof.Machine.execOpSet d s
  | .opCleared d => Sys2Proof.Machine.execOpCleared d s
  | .edActive d active => Sys2Proof.Machine.execEdActive d active s
  | .pbPressed d pressed => Sys2Proof.Machine.execPbPressed d pressed s
  | .tOpenExpiry d => Sys2Proof.Machine.execTOpenExpiry d s
  | .dwellExpiry d => Sys2Proof.Machine.execDwellExpiry d s
  | .tWarnExpiry d => Sys2Proof.Machine.execTWarnExpiry d s
  | .tCloseExpiry d => Sys2Proof.Machine.execTCloseExpiry d s
  | .stopIntervalExpiry d => Sys2Proof.Machine.execStopIntervalExpiry d s
  | .tRevExpiry d => Sys2Proof.Machine.execTRevExpiry d s
  | .isolateDoor p door setting => Sys2Proof.Machine.execIsolateDoor p door setting s
  | .doorRelease p side => Sys2Proof.Machine.execDoorRelease p side s
  | .doorClose p side => Sys2Proof.Machine.execDoorClose p side s
  | .cabControlWrite p words => Sys2Proof.Machine.execCabControlWrite p words s
  | .freshnessExpiry d => Sys2Proof.Machine.execFreshnessExpiry d s
  | .orphanExpiry => Sys2Proof.Machine.execOrphanExpiry s
  | .activate p => Sys2Proof.Machine.execActivate p s
  | .deactivate p => Sys2Proof.Machine.execDeactivate p s
  | .forceDeactivate p => Sys2Proof.Machine.execForceDeactivate p s
  | .ownSlotEvent => Sys2Proof.Machine.execOwnSlotEvent s
  | .transmissionEnd => Sys2Proof.Machine.execTransmissionEnd s
  | .slotWrap => Sys2Proof.Machine.execSlotWrap s
  | .missedBeaconTest => Sys2Proof.Machine.execMissedBeaconTest s
  | .frameDropped cause => Sys2Proof.Machine.execFrameDropped cause s
  | .telegramNotAdmitted t => Sys2Proof.Machine.execTelegramNotAdmitted t s
  | .beacon e => Sys2Proof.Machine.execBeacon e s
  | .authority e => Sys2Proof.Machine.execAuthority e s
  | .revoke e => Sys2Proof.Machine.execRevoke e s
  | .restrictSet e => Sys2Proof.Machine.execRestrictSet e s
  | .restrictClear e => Sys2Proof.Machine.execRestrictClear e s
  | .emergencyCall e => Sys2Proof.Machine.execEmergencyCall e s
  | .callCancel e => Sys2Proof.Machine.execCallCancel e s
  | .profileOpenTelegram e => Sys2Proof.Machine.execProfileOpenTelegram e s
  | .profileBlock e => Sys2Proof.Machine.execProfileBlock e s
  | .profileCloseTelegram e => Sys2Proof.Machine.execProfileCloseTelegram e s
  | .profileActivateTelegram e => Sys2Proof.Machine.execProfileActivateTelegram e s
  | .text e => Sys2Proof.Machine.execText e s
  | .textWaitExpiry => Sys2Proof.Machine.execTextWaitExpiry s
  | .popText p => Sys2Proof.Machine.execPopText p s
  | .sendText p => Sys2Proof.Machine.execSendText p s
  | .setPointer p addr => Sys2Proof.Machine.execSetPointer p addr s
  | .read p count => Sys2Proof.Machine.execRead p count s
  | .write p words => Sys2Proof.Machine.execWrite p words s
  | .readStatus p => Sys2Proof.Machine.execReadStatus p s
  | .clearNotices p mask => Sys2Proof.Machine.execClearNotices p mask s
  | .setEnables p mask => Sys2Proof.Machine.execSetEnables p mask s
  | .transactionFramingError p bytes => Sys2Proof.Machine.execTransactionFramingError p bytes s
  | .unknownRequest p code arg1 arg2 => Sys2Proof.Machine.execUnknownRequest p code arg1 arg2 s
  | .parameterWrite p words => Sys2Proof.Machine.execParameterWrite p words s
  | .freeze p => Sys2Proof.Machine.execFreeze p s
  | .carRestart p => Sys2Proof.Machine.execCarRestart p s
  | .markerEdgeCapture level time => Sys2Proof.Machine.execMarkerEdgeCapture level time s
  | .comparatorEdge time => Sys2Proof.Machine.execComparatorEdge time s
  | .receiveBitClockEvent => Sys2Proof.Machine.execReceiveBitClockEvent s
  | .transmitBitClockEvent => Sys2Proof.Machine.execTransmitBitClockEvent s
  | .pressureSensorPulse => Sys2Proof.Machine.execPressureSensorPulse s

end Sys2Proof.Machine
end

