-- ==== Sys2Proof/Safety.lean ====
section
/-! DEFINITION. The terms in which claims about the RC-7 are made: the conditions of the readers and what one
pass of them does, rule by rule (`Reads`, `Departs`, `Drives`), what the end of an event may change at all
(`HandedOn`), how it leaves the readers (`Settled`), what the words of a WRITE leave (`wordFor`,
`wrote`), and the invariants of a sound state. -/

namespace Sys2Proof.Machine

/-! ## The motion of the interval -/

/-- R10: a bound within the line, in µm. -/
def withinLine (x : Int) : Nat := min x.toNat 12000000000

/-- R10: bounds in µm whose exposed bounds, rounded outwards to dm, lie more than U_max apart. -/
def State.tooWide (s : State) (lo hi : Nat) : Bool :=
  decide (lo / 100000 + s.par .uMax < (hi + 99999) / 100000)

/-- R9: the low and the high move of a sum of travel with an error rate in ‰, the error rounded up. -/
def lowHigh (sum : Int) (rate : Nat) : Int × Int :=
  let err : Nat := (sum.natAbs * rate + 999) / 1000
  (sum - err, sum + err)

/-- R7, R9: the moves of the two bounds by an interval update in a regime. In RACK with the tooth sensor OK
they are its moves, widened both ways by the undirected tally with its error; otherwise the least low move
and the greatest high move of the axle encoders that are not ISOLATED; and none without such a source. -/
def State.movesIn (s : State) (r : Regime) : Int × Int :=
  let th := s.odu.tooth
  let e := if s.odu.slip then s.par .eSlip else s.par .eAxle
  let up := lowHigh s.odu.upper.src.intervalSum e
  let lo := lowHigh s.odu.lower.src.intervalSum e
  if r = .rack ∧ th.src.health = .ok then
    let m := lowHigh th.src.intervalSum (s.par .eTooth)
    let w : Nat := th.undirInterval + (th.undirInterval * s.par .eTooth + 999) / 1000
    (m.1 - w, m.2 + w)
  else if s.odu.upper.src.health ≠ .isolated ∧ s.odu.lower.src.health ≠ .isolated then
    (min up.1 lo.1, max up.2 lo.2)
  else if s.odu.upper.src.health ≠ .isolated then up
  else if s.odu.lower.src.health ≠ .isolated then lo
  else (0, 0)

/-! ## The conditions of the readers, written out -/

/-- A notice is pending on all three ports (R169). -/
def State.Has (s : State) (k : Notice) : Prop := ∀ p, k.bit &&& (s.port p).pending = k.bit

/-- R115: the traction demand supplied: that of the active desk's record while it is fresh. -/
def State.demand (s : State) : Nat :=
  match s.dka.active with
  | none => 0
  | some d => if (s.dka.cab d).fresh = none then 0 else (s.dka.cab d).traction

/-- R105: the extent test of a side: with an active bank, every segment that meets the extent carries the
side's platform flag, or in SHUNT every one is of kind DEPOT; there is one, and the extent does not reach above
the line end. -/
def State.serves (s : State) (i : CarSide) : Bool :=
  let top := s.odu.pHi + s.par .lCar
  match s.lps.profile with
  | none => false
  | some p =>
    let here := p.segments.filter fun g =>
      decide (g.start ≤ top ∧ (s.odu.pLo < g.stop ∨ (g.final = true ∧ s.odu.pLo = g.stop)))
    let flag (g : Segment) : Bool := match i with
      | .a => g.platA
      | .b => g.platB
    decide (here ≠ [] ∧ top ≤ p.lineEnd) &&
      (here.all flag || (decide (s.ssu.mode = .shunt) && here.all fun g => decide (g.kind = .depot)))

/-- R104: the grant conditions of a side, in their order, each as it stands. -/
def State.grantTable (s : State) (i : CarSide) : List (GrantCond × Bool) :=
  [(.standstill, decide (s.odu.motion = .standstill)),
    (.holding, s.brm.holding && decide (s.brm.level ≠ .none)),
    (.position, decide (s.odu.pos = .valid ∨ s.odu.pos = .restored)),
    (.platform, s.serves i),
    (.holdDoors, decide (s.ssu.mode = .shunt) || match s.tgh.authority with
      | none => true
      | some a => !a.holdDoors)]

/-- R104, R106: the first grant condition that fails. -/
def State.firstFailing (s : State) (i : CarSide) : Option GrantCond :=
  ((s.grantTable i).find? fun x => !x.2).map Prod.fst

/-- R107: where a withdrawal of its side moves a door. -/
def State.relocks (s : State) (d : Door) : Door :=
  let off := d.motor.off (s.par .tPwm) s.now
  let warns : Door :=
    { d with state := .warning, timer := some (.tWarn, s.now + s.par .tWarn * 1000), motor := off }
  match d.state with
  | .released => { d with state := .locked, timer := none, motor := off }
  | .opening => warns
  | .opened => warns
  | .reversing _ => warns
  | _ => d

/-- R102: a door is proven closed in LOCKED, or in ISOLATED with LK set and OP clear. -/
def Door.shut (d : Door) : Prop := d.state = .locked ∨ (d.state = .isolated ∧ d.lk = true ∧ d.op = false)

/-- R77: the conditions of the traction gate other than that of the effective level. -/
structure State.GateButLevel (s : State) : Prop where
  fresh : ∃ d, s.dka.active = some d ∧ (s.dka.cab d).fresh ≠ none
  direction : s.dka.selected ≠ none
  lock : s.dka.lock = false
  doors : s.drc.summary = true
  latch : s.brm.latch = none
  status : s.ssu.status = .normal ∨ s.ssu.status = .warning
  mode : s.ssu.mode = .shunt ∨ (s.ssu.mode = .full ∧ s.tgh.authority ≠ none)
  faults : s.brm.upper.fault ≠ some .failRelease ∧ s.brm.lower.fault ≠ some .failRelease

/-- R77: the traction gate, condition by condition. -/
structure State.Gate (s : State) : Prop where
  others : s.GateButLevel
  level : s.brm.level = .none ∨
    (s.brm.level = .hold ∧ (s.brm.departure = .pulling ∨ s.brm.departure = .stalled))

/-- The rows that follow from what their writers hold: CAB (R114), SUPERVISION (R56, R60), DOORS (R103),
LOOP (R79) and HOLD (R81). -/
structure State.RowsTrue (s : State) : Prop where
  noDesk : s.dka.active = none → s.brm.rows.cab = { level := .none, reason := none }
  cab : ∀ d, s.dka.active = some d → s.brm.rows.cab =
    match (s.dka.cab d).handle with
    | .emergency => { level := .emergency, reason := some .handleEmergency }
    | .percent p =>
      if (s.dka.cab d).fresh = none then { level := .fullService, reason := some .cabStale }
      else if p = 0 then { level := .none, reason := none }
      else if p < 100 then { level := .service p, reason := some .handle }
      else { level := .fullService, reason := some .handle }
  supervision : s.brm.rows.supervision =
    if s.ssu.overrun then { level := .emergency, reason := some .overrun }
    else match s.ssu.status with
      | .normal => { level := .none, reason := none }
      | .warning => { level := .none, reason := none }
      | .service => { level := .fullService, reason := some .serviceCurve }
      | .emergency => { level := .emergency, reason := some .emergencyCurve }
  doorsShut : (∀ i, (s.drc.door i).shut) → s.brm.rows.doors = { level := .none, reason := none }
  doorsStill : (∃ i, ¬(s.drc.door i).shut) → s.odu.motion = .standstill →
    s.brm.rows.doors = { level := .hold, reason := some .doorsNotClosed }
  doorsMoving : (∃ i, ¬(s.drc.door i).shut) → s.odu.motion ≠ .standstill →
    s.brm.rows.doors = { level := .emergency, reason := some .doorInMotion }
  loop : s.brm.rows.loop =
    if s.brm.senseOpen then { level := .emergency, reason := some .loopOpen }
    else { level := .none, reason := none }
  hold : s.brm.rows.hold =
    if s.dka.active = none then { level := .fullService, reason := some .noDesk }
    else if s.odu.motion = .standstill ∧ s.brm.holdElapsed = true ∧ s.brm.departure ≠ .released then
      { level := .hold, reason := some .standing }
    else { level := .none, reason := none }

/-- R150: a call meets the extent of the car; without a position every call does. -/
def State.CallMeets (s : State) (c : Call) : Prop :=
  (s.odu.pos = .valid ∨ s.odu.pos = .restored) → c.first ≤ s.odu.pHi + s.par .lCar ∧ s.odu.pLo ≤ c.last

/-- R150: a call of a severity meets the extent, or is the whole-line call. -/
def State.Calls (s : State) (v : Severity) : Prop :=
  s.tgh.wholeLine = some v ∨ ∃ c ∈ s.tgh.calls, c.severity = v ∧ s.CallMeets c

/-- The rows that rest on parameters besides: RADIO (R150) and ODOMETRY (R86). -/
structure State.LineRowsTrue (s : State) : Prop where
  emergency : s.Calls .emergency → s.brm.rows.radio = { level := .emergency, reason := some .callEmergency }
  service : ¬s.Calls .emergency → s.Calls .service →
    s.brm.rows.radio = { level := .fullService, reason := some .callService }
  link : ¬s.Calls .emergency → ¬s.Calls .service → s.brm.rows.radio =
    if s.tgh.link = .stop then { level := .fullService, reason := some .linkStop }
    else { level := .none, reason := none }
  odometry : s.brm.rows.odometry =
    if s.odu.motion = .standstill then { level := .none, reason := none }
    else if s.par .rMax < (s.odu.rollback + 99999) / 100000 ∧ s.par .rMax < 255 then
      { level := .emergency, reason := some .rollback }
    else if s.ssu.mode = .full ∧ s.odu.pos ≠ .valid ∧ s.odu.pos ≠ .restored then
      { level := .emergency, reason := some .positionLost }
    else { level := .none, reason := none }

/-! ## One pass of the readers, rule by rule -/

/-- R67: the target pressure of a level, with the blend of the achieved electric brake. -/
def State.pressureAt (s : State) (l : Level) : Nat :=
  let blend := (-s.brm.effort).toNat * s.par .pFs / 100
  match l with
  | .none => 0
  | .hold => s.par .pHold
  | .service p => p * s.par .pFs / 100 - blend
  | .fullService => s.par .pFs - blend
  | .emergency => s.par .pEm

/-- R75: the duty of the electric brake at a level, in percent. -/
def Level.electric : Level → Nat
  | .none => 0
  | .hold => 0
  | .service p => p
  | .fullService => 100
  | .emergency => 100

/-- R69: the valve choice at a level. There is none in the loop-forced state, nor before the first gate end
has given a pressure or SENSOR_FAULT (R88). -/
def State.choiceAt (s : State) (l : Level) : Option Valve :=
  if s.brm.loopForced then none
  else if s.brm.sensorFault then some (if l = .none then .release else .apply)
  else s.brm.measured.map fun m =>
    if m + s.par .band < s.pressureAt l then .apply
    else if s.pressureAt l + s.par .band < m then .release
    else .lap

/-- The valves: their state, the last open state, the waiting choice and the dead time. -/
def Brm.valves (b : Brm) : Valve × Option OpenValve × Option OpenValve × Timer :=
  (b.valve, b.lastOpen, b.waiting, b.deadTimer)

/-- R70: the valves after a choice; `due` is the end of a dead time that starts with it. -/
def Brm.valvesAfter (b : Brm) (c : Option Valve) (due : Nat) :
    Valve × Option OpenValve × Option OpenValve × Timer :=
  let fromLap (o : OpenValve) : Valve × Option OpenValve × Option OpenValve × Timer :=
    if b.lastOpen = none ∨ b.lastOpen = some o ∨ b.deadTimer = none then (o.valve, b.lastOpen, none, none)
    else (.lap, b.lastOpen, some o, b.deadTimer)
  match c, b.valve with
  | none, _ => b.valves
  | some .lap, .lap => (.lap, b.lastOpen, none, b.deadTimer)
  | some .lap, .apply => (.lap, some .apply, none, some due)
  | some .lap, .release => (.lap, some .release, none, some due)
  | some .apply, .apply => b.valves
  | some .apply, .lap => fromLap .apply
  | some .apply, .release => (.lap, some .release, some .apply, some due)
  | some .release, .release => b.valves
  | some .release, .lap => fromLap .release
  | some .release, .apply => (.lap, some .apply, some .release, some due)

/-- R73: a band brake as a change of its output leaves it: proved afresh where its switch disagrees with the
output, without timer and fault where they agree. -/
def Band.reproved (v : Band) (energised : Bool) (due : Nat) : Band :=
  if v.applied = energised then { v with prove := some due } else { v with prove := none, fault := none }

/-- R83: the effort that a departure requires: the greatest gradient in the selected direction under the
position interval, by the departure effort factor. -/
def State.neededEffort (s : State) : Nat :=
  let steepest : Nat := match s.dka.selected, s.lps.profile with
    | some d, some p =>
      if s.odu.pos = .valid ∨ s.odu.pos = .restored then
        ((p.segments.filter fun g => decide (g.start ≤ s.odu.pHi ∧
          (s.odu.pLo < g.stop ∨ (g.final = true ∧ s.odu.pLo = g.stop)))).map fun g =>
            (match d with
              | .up => g.gradient
              | .down => -g.gradient).toNat).foldl max 0
      else 0
    | _, _ => 0
  (steepest * s.par .hFactor + 249) / 250

/-- R63: the rows in the order of the table. -/
def rowOrder : List RowId := [.cab, .supervision, .doors, .radio, .odometry, .loop, .hold]

/-- R34 to R36: a pending activation of a CHECKED bank takes effect once the car stands or no desk is
active. -/
structure State.Activates (s t : State) : Prop where
  waits : ¬(s.lps.pendingAct ≠ none ∧ s.lps.standby.state = .checked ∧
      (s.odu.motion = .standstill ∨ s.dka.active = none)) →
    t.lps = s.lps ∧ t.ssu = s.ssu ∧ t.tgh = s.tgh
  taken : s.lps.pendingAct ≠ none → s.lps.standby.state = .checked →
    s.odu.motion = .standstill ∨ s.dka.active = none →
      (let b := s.lps.standby
       let i := s.lps.standbyId
       t.lps = { (s.lps.setBank i { b with role := .active }).setBank i.other
           { s.lps.bank i.other with role := .standby } with
         pendingAct := none, scrubPos := 0, scrubCrc := 0xFFFFFFFF } ∧
       t.ssu = { s.ssu with window := [], horizon := none, steepMark := false
                            flushCount := (s.ssu.flushCount + 1) % 65536 } ∧
       t.tgh = { s.tgh with outdated := match s.tgh.beacon with
         | none => s.tgh.outdated
         | some (line, v) =>
           decide ((b.image.read 0).toNat * 256 + (b.image.read 1).toNat ≠ line ∨
             (b.image.read 2).toNat * 256 + (b.image.read 3).toNat ≠ v) })

/-- R102, R106, R107: the sides and their doors. A granted side is withdrawn for the first of its grant
conditions that fails, of which HOLDING is read as the brakes stand before the pass, and its doors move; the
summary is taken afresh. -/
structure State.Releases (s t : State) : Prop where
  kept : ∀ i, let p : State := { s with lps := t.lps, ssu := t.ssu, tgh := t.tgh }
    (s.drc.side i).granted = none ∨ p.firstFailing i = none →
      t.drc.side i = s.drc.side i ∧ ∀ d, doorSide d = i → t.drc.door d = s.drc.door d
  withdrawn : ∀ i c, let p : State := { s with lps := t.lps, ssu := t.ssu, tgh := t.tgh }
    (s.drc.side i).granted ≠ none → p.firstFailing i = some c →
      t.drc.side i = { s.drc.side i with granted := none, cause := some (.cond c) } ∧
        ∀ d, doorSide d = i → t.drc.door d = s.relocks (s.drc.door d)
  summary : t.drc.summary = true ↔ ∀ d, (t.drc.door d).shut

/-- R64, R65: the latch and the effective level that follow from the rows: the first row, in their order, whose
level has become EMERGENCY sets a clear latch; the level is EMERGENCY while it is set and the highest of the
rows otherwise. -/
structure State.Levels (s t : State) : Prop where
  latch : t.brm.latch = s.brm.latch.or ((rowOrder.find? fun r =>
    decide ((t.brm.rows.get r).level = .emergency ∧ (s.brm.rows.get r).level ≠ .emergency)).map .row)
  latched : t.brm.latch ≠ none → t.brm.level = .emergency
  highest : t.brm.latch = none →
    (∀ r, (t.brm.rows.get r).level.rank ≤ t.brm.level.rank) ∧
      (t.brm.level = .none ∨ ∃ r, (t.brm.rows.get r).level = t.brm.level)

/-- R67, R69, R70, R72, R73, R75, R79: what the brakes make of the level. A level that stands changes neither
the target nor the valves nor the electric brake; a new one brings its own, and a valve choice. The pinion
command is taken afresh, and a change of the outputs proves both band brakes afresh. -/
structure State.Brakes (s t : State) : Prop where
  same : t.brm.level = s.brm.level →
    t.brm.target = s.brm.target ∧ t.brm.ebrake = s.brm.ebrake ∧ t.brm.valves = s.brm.valves
  other : t.brm.level ≠ s.brm.level →
    t.brm.target = s.pressureAt t.brm.level ∧
      t.brm.ebrake = { s.brm.ebrake with latched := t.brm.level.electric } ∧
      t.brm.valves = s.brm.valvesAfter (s.choiceAt t.brm.level) (s.now + s.par .tDead * 1000)
  pinion : t.brm.pinion = .applied ↔
    t.brm.level = .emergency ∨
      (t.brm.level ≠ .none ∧ s.odu.motion = .standstill ∧ s.odu.regime = .rack) ∨
      (s.brm.frictionFault = true ∧ s.odu.regime = .rack) ∨ s.dka.active = none
  outputs : t.brm.energised = true ↔ t.brm.pinion = .released ∧ s.brm.loopForced = false
  bands : ∀ b, t.brm.bandOf b =
    if t.brm.energised = s.brm.energised then s.brm.bandOf b
    else (s.brm.bandOf b).reproved t.brm.energised (s.now + s.par .tPprove * 1000)

/-- R71, R74: the two findings, each made afresh where what it reads has changed since it was last made. -/
structure State.Finds (s t : State) : Prop where
  holdSeen : t.brm.holdSeen =
    { regime := s.odu.regime, command := t.brm.pinion, upper := t.brm.upper.applied
      lower := t.brm.lower.applied, measured := s.brm.measured }
  held : t.brm.holdSeen = s.brm.holdSeen → t.brm.holding = s.brm.holding
  rack : t.brm.holdSeen ≠ s.brm.holdSeen → s.odu.regime = .rack →
    (t.brm.holding = true ↔
      t.brm.pinion = .applied ∧ t.brm.upper.applied = true ∧ t.brm.lower.applied = true)
  adhesion : t.brm.holdSeen ≠ s.brm.holdSeen → s.odu.regime = .adhesion →
    (t.brm.holding = true ↔ ∃ m, s.brm.measured = some m ∧ s.par .pHold ≤ m + s.par .band)
  proveSeen : t.brm.proveSeen =
    { target := t.brm.target, loopForced := s.brm.loopForced, sensorFault := s.brm.sensorFault
      measured := s.brm.measured }
  unproved : t.brm.proveSeen = s.brm.proveSeen → t.brm.proving = s.brm.proving
  proving : t.brm.proveSeen ≠ s.brm.proveSeen →
    (t.brm.proving = true ↔ s.par .pHold ≤ t.brm.target ∧ s.brm.loopForced = false ∧
      (s.brm.sensorFault = true ∨ ∃ m, s.brm.measured = some m ∧ m + s.par .band < t.brm.target))
  timer : t.brm.proveTimer =
    if t.brm.proving = s.brm.proving then s.brm.proveTimer
    else if t.brm.proving then some (s.now + s.par .tFprove * 1000)
    else none

/-- The notices of a pass, each on all three ports: BRAKE where the level changed, the latch was set or a
PINION_FAULT was cleared (R87), DOOR where a side was withdrawn or the summary changed (R109), PROFILE at an
activation (R35). -/
def State.noticesOf (s t : State) : NoticeSet :=
  let brake := t.brm.level ≠ s.brm.level ∨ t.brm.latch ≠ s.brm.latch ∨
    t.brm.upper.fault ≠ s.brm.upper.fault ∨ t.brm.lower.fault ≠ s.brm.lower.fault
  let door := t.drc.sideA.granted ≠ s.drc.sideA.granted ∨ t.drc.sideB.granted ≠ s.drc.sideB.granted ∨
    t.drc.summary ≠ s.drc.summary
  (if brake then Notice.brake.bit else 0) ||| (if door then Notice.door.bit else 0) |||
    (if t.lps.pendingAct ≠ s.lps.pendingAct then Notice.profile.bit else 0)

/-- One pass of the readers (log entry 4). Each takes what the one before it leaves; R121 gives the orphan
timer, and what no rule here names is unchanged. -/
structure State.Reads (s t : State) : Prop where
  frame : t = { s with
    lps := t.lps, ssu := t.ssu, tgh := t.tgh, drc := t.drc, brm := t.brm, pif := t.pif
    dka := { s.dka with orphan := t.dka.orphan } }
  brakeFrame : t.brm = { s.brm with
    rows := t.brm.rows, level := t.brm.level, latch := t.brm.latch, target := t.brm.target
    valve := t.brm.valve, lastOpen := t.brm.lastOpen, waiting := t.brm.waiting
    deadTimer := t.brm.deadTimer, proving := t.brm.proving, proveTimer := t.brm.proveTimer
    pinion := t.brm.pinion, energised := t.brm.energised, upper := t.brm.upper, lower := t.brm.lower
    holding := t.brm.holding, holdSeen := t.brm.holdSeen, proveSeen := t.brm.proveSeen
    ebrake := t.brm.ebrake }
  activates : s.Activates t
  releases : s.Releases t
  orphan : t.dka.orphan =
    if s.odu.motion = .standstill ∧ s.dka.active.any (fun d => decide ((s.dka.cab d).fresh = none)) = true then
      some (s.dka.orphan.getD (s.now + s.par .tOrphan * 1000))
    else none
  rows : t.RowsTrue
  lineRows : t.LineRowsTrue
  levels : s.Levels t
  brakes : s.Brakes t
  finds : s.Finds t
  notices : t.pif = { s.pif with
    u := { s.pif.u with pending := s.pif.u.pending ||| s.noticesOf t }
    l := { s.pif.l with pending := s.pif.l.pending ||| s.noticesOf t }
    c := { s.pif.c with pending := s.pif.c.pending ||| s.noticesOf t } }

/-- A state with the departure, its required effort and its stall timer replaced. -/
def State.withDeparture (s : State) (d : Departure) (required : Nat) (stall : Timer) : State :=
  { s with brm := { s.brm with departure := d, required := required, stallTimer := stall } }

/-- R82: a departure may begin. -/
def State.MayDepart (s : State) : Prop :=
  s.odu.motion = .standstill ∧ 0 < s.demand ∧ s.brm.level = .hold ∧ s.GateButLevel

/-- R84: a departure in PULLING or STALLED is abandoned. -/
def State.MustAbandon (s : State) : Prop :=
  s.demand = 0 ∨ ¬s.GateButLevel ∨ (s.brm.level ≠ .none ∧ s.brm.level ≠ .hold)

/-- R83: the effort feedback is valid and reaches what the departure requires. -/
def State.EffortReached (s : State) : Prop :=
  s.brm.effortValid = true ∧ (s.brm.required : Int) ≤ s.brm.effort

/-- R82 to R85: one evaluation of the departure. In IDLE it begins under R82's conditions; in PULLING and
STALLED it is abandoned by R84, or else released by R83; in RELEASED it lasts while R85 lets it. -/
structure State.Departs (s t : State) : Prop where
  begins : s.brm.departure = .idle → s.MayDepart →
    t = s.withDeparture .pulling s.neededEffort (some (s.now + 5000000))
  idle : s.brm.departure = .idle → ¬s.MayDepart → t = s
  abandons : s.brm.departure = .pulling ∨ s.brm.departure = .stalled → s.MustAbandon →
    t = s.withDeparture .idle s.brm.required none
  releases : s.brm.departure = .pulling ∨ s.brm.departure = .stalled → ¬s.MustAbandon →
    s.EffortReached → t = s.withDeparture .released s.brm.required none
  pulls : s.brm.departure = .pulling ∨ s.brm.departure = .stalled → ¬s.MustAbandon →
    ¬s.EffortReached → t = s
  lasts : s.brm.departure = .released → s.odu.motion = .standstill ∧ 0 < s.demand ∧ s.Gate → t = s
  ended : s.brm.departure = .released → ¬(s.odu.motion = .standstill ∧ 0 < s.demand ∧ s.Gate) →
    t = s.withDeparture .idle s.brm.required none

/-- R78: the traction output as the gate stands; a closed gate leaves one that is at 0% already as it is (log
entry 19). -/
structure State.Drives (s t : State) : Prop where
  opened : s.Gate → t = { s with brm := { s.brm with traction := { s.brm.traction with latched := s.demand } } }
  closed : ¬s.Gate → t = { s with brm := { s.brm with traction :=
    if s.brm.traction.latched = 0 ∧ s.brm.traction.driven = 0 then s.brm.traction
    else { latched := 0, driven := 0, next := s.now + 1000 } } }

/-- Passes, each with an evaluation of the departure. -/
def State.Passes : Nat → State → State → Prop
  | 0, s, t => t = s
  | n + 1, s, t => ∃ x y, s.Reads x ∧ x.Departs y ∧ y.Passes n t

/-- What an event that has made `u` of the state makes of it at its end: six passes, the readers once more
after the last look at the departure, and the traction output (log entry 4). -/
def State.FollowedBy (u t : State) : Prop := ∃ x y, u.Passes 6 x ∧ x.Reads y ∧ y.Drives t

/-! ## What the end of an event may change -/

/-- What the brake manager is told from outside its own readings: measurement, faults of the sensor and
of pressure proving, feedback, the loop sense input, T_hold, the gate timer and the applied switches. -/
def Brm.inputs (b : Brm) :
    Option Nat × Bool × Bool × Nat × Int × Bool × Timer × Bool × Bool × Bool × Timer × Nat × Bool × Bool :=
  (b.measured, b.sensorFault, b.frictionFault, b.pulses, b.effort, b.effortValid, b.feedbackTimer,
    b.senseOpen, b.loopForced, b.holdElapsed, b.holdTimer, b.gateTimer, b.upper.applied, b.lower.applied)

/-- A port's part but for its pending set. -/
def PortState.rest (q : PortState) : PortState := { q with pending := 0 }

/-- A port has only had notices raised: nothing else changed, and no pending kind was lost (R169). -/
def PortState.Told (q r : PortState) : Prop := r.rest = q.rest ∧ q.pending &&& r.pending = q.pending

/-- The PIF has only had notices raised. -/
def Pif.Told (f g : Pif) : Prop :=
  f.u.Told g.u ∧ f.l.Told g.l ∧ f.c.Told g.c ∧ g.closeCheck = f.closeCheck

/-- R106: the cause of a withdrawal, seen from the state that the event ends in: the first of the grant
conditions that fails, where HOLDING, which the brakes may have moved since, failed at the test or held. -/
def State.CauseOf (s : State) (i : CarSide) (c : GrantCond) : Prop :=
  ∃ held : Bool,
    (((s.grantTable i).map fun x => (x.1, if x.1 = .holding then held else x.2)).find? fun x =>
      !x.2).map Prod.fst = some c

/-- A side and its doors after the end of an event: all as they were, or the release withdrawn with its cause,
and each door where R107 moves it. -/
def State.SideKept (s t : State) (i : CarSide) : Prop :=
  (t.drc.side i = s.drc.side i ∧ ∀ d, doorSide d = i → t.drc.door d = s.drc.door d) ∨
    ((s.drc.side i).granted ≠ none ∧ ∃ c, t.CauseOf i c ∧
      t.drc.side i = { s.drc.side i with granted := none, cause := some (.cond c) } ∧
      ∀ d, doorSide d = i → t.drc.door d = s.relocks (s.drc.door d))

/-- R121: the orphan timer as the end of an event leaves it. -/
def State.orphanNext (s : State) : Timer :=
  if s.isOrphan then s.dka.orphan.or (s.startMs (s.par .tOrphan)) else none

/-- R82, R77: the desk asks for a departure and no condition of the gate that only the desk, the mode and the
authority decide stands against it: a demand above 0%, a fresh record, a direction, no reversal lock, and
SHUNT, or FULL with an authority. -/
def State.departureAsked (s : State) : Bool :=
  decide (0 < s.dka.supplied) && s.dka.selected.isSome && !s.dka.lock &&
    (s.ssu.mode == .shunt || (s.ssu.mode == .full && s.tgh.authority.isSome))

/-- How the brake manager's own values follow at the end of an event. A level keeps the target and the
electric brake's duty, and another level brings its own (R67, R75). HOLDING and the proving condition are
made afresh, or stand with the inputs they were last made from (R74, R71). A departure does not outlast
what it asks for (R84, R85). -/
structure State.BrakesFollow (s t : State) : Prop where
  electric : (t.brm.level = s.brm.level ∧ t.brm.ebrake = s.brm.ebrake) ∨
    t.brm.ebrake = { s.brm.ebrake with latched := ebrakeDuty t.brm.level }
  target : (t.brm.level = s.brm.level ∧ t.brm.target = s.brm.target) ∨
    t.brm.target = t.targetFor t.brm.level
  holding : t.brm.holding = t.holdingNow ∨
    (t.brm.holding = s.brm.holding ∧ t.holdInputs = s.brm.holdSeen)
  proving : t.brm.proving = t.provingCond ∨
    (t.brm.proving = s.brm.proving ∧ t.brm.proveInputs = s.brm.proveSeen)
  proveTimer : (t.brm.proving = s.brm.proving ∧ t.brm.proveTimer = s.brm.proveTimer) ∨
    t.brm.proveTimer = if t.brm.proving then s.startMs (s.par .tFprove) else none
  asked : s.departureAsked = false → t.brm.departure = .idle
  left : s.still = false → s.brm.departure = .idle ∨ s.brm.departure = .released →
    t.brm.departure = .idle

/-- The end of an event changes no more than this: it lets a pending activation take effect (R36),
withdraws releases (R106, R107), keeps the orphan timer (R121), lets a row at EMERGENCY set the latch (R65) and
the brake manager follow, and raises notices. -/
structure State.HandedOn (s t : State) : Prop where
  odu : t.odu = s.odu
  vrl : t.vrl = s.vrl
  pst : t.pst = s.pst
  now : t.now = s.now
  pending : t.pending = s.pending
  lps : t.lps = s.takePending.lps
  ssu : t.ssu = s.takePending.ssu
  tgh : t.tgh = s.takePending.tgh
  dka : t.dka = { s.dka with orphan := s.orphanNext }
  brm : t.brm.inputs = s.brm.inputs
  latch : t.brm.latch = s.brm.latch ∨ (s.brm.latch = none ∧ ∃ r,
    t.brm.latch = some (.row r) ∧ (t.brm.rows.get r).level = .emergency)
  brakes : s.BrakesFollow t
  sides : ∀ i, s.SideKept t i
  pif : s.pif.Told t.pif

/-! ## How the end of an event leaves the readers -/

/-- R78: the traction output carries the supplied demand while the gate is open, and is at 0% otherwise. -/
def State.TractionGated (s : State) : Prop :=
  (s.gateOpen = true → s.brm.traction.latched = s.dka.supplied) ∧
    (s.gateOpen = false → s.brm.traction.latched = 0 ∧ s.brm.traction.driven = 0)

/-- R106: a granted side has its grant conditions other than HOLDING, which the brakes may be about to
withdraw. -/
def State.GrantsHold (s : State) : Prop :=
  ∀ i, s.isGranted i = true → ∀ c x, (c, x) ∈ s.grantTable i → c ≠ .holding → x = true

/-- The readers at the end of an event: the rows as their writers give them, the effective level, the
pinion command with its outputs, the inputs of the findings, the summary, the releases and the traction
output. -/
structure State.Settled (s : State) : Prop where
  cab : s.brm.rows.cab = s.dka.cabRow
  supervision : s.brm.rows.supervision = s.supervisionRow
  doors : s.brm.rows.doors = s.doorsRow
  radio : s.brm.rows.radio = s.radioRow
  odometry : s.brm.rows.odometry = s.odometryRow
  loop : s.brm.rows.loop = s.loopRow
  hold : s.brm.rows.hold = s.holdRow
  level : s.brm.level = s.brm.effective
  pinion : s.brm.pinion = s.pinionCommand
  energised : s.brm.energised = (decide (s.brm.pinion = .released) && !s.brm.loopForced)
  holding : s.brm.holdSeen = s.holdInputs
  proving : s.brm.proveSeen = s.brm.proveInputs
  summary : s.drc.summary = s.drc.allProven
  grants : s.GrantsHold
  traction : s.TractionGated

/-- A settled state in which no change of a measurement, a switch or a finding moves a row or a departure: no
activation is pending, no side is granted, and the departure is IDLE without a demand. -/
structure State.Quiet (s : State) : Prop where
  settled : s.Settled
  activation : s.lps.pendingAct = none
  sides : ∀ i, (s.drc.side i).granted = none
  departure : s.brm.departure = .idle
  demand : s.demand = 0

/-- An event that has made `u` of the state ends in `t`: what it changed is handed on, every reader is left
settled, and how each of them follows is as its rule says, pass by pass. -/
def State.Ends (u t : State) : Prop := u.HandedOn t ∧ t.Settled ∧ u.FollowedBy t

/-- Only the ODU has changed, and notices have been raised. -/
def State.OnlyOdu (s u : State) : Prop :=
  u = { s with odu := u.odu, pif := u.pif } ∧ s.pif.Told u.pif

/-- The ports differ by one notice, raised on all three just where a condition holds (R169). -/
def State.Tells (s u : State) (k : Notice) (c : Prop) : Prop :=
  (c → u.pif = (s.raise k).pif) ∧ (¬c → u.pif = s.pif)

/-- R59: between two cycles in the same travel direction the front has passed the end of authority, with the
car moving: the side recorded before is AHEAD, and the one found is BEYOND. -/
def State.Crosses (s u : State) : Prop :=
  u.ssu.dir = s.ssu.dir ∧ s.ssu.authSide = some .ahead ∧ u.ssu.authSide = some .beyond ∧
    s.odu.motion ≠ .standstill

/-- R42, R47, R48, R51 to R53, R56, R57, R59, R61: what a supervision cycle in SHUNT or FULL makes of the SSU,
beside the MRSP, the window with its horizon and truncated flag, the curves and the governing target. The mode,
the restriction list, the cap and the malformed count stand; a change of the travel direction is a flush; and
SUPERVISION is raised at a change of status, at a crossing and at a steep notice alone. -/
structure State.Supervised (s u : State) : Prop where
  frame : u = { s with ssu := u.ssu, pif := u.pif }
  kept : u.ssu = { u.ssu with
    mode := s.ssu.mode, restrictions := s.ssu.restrictions, cap := s.ssu.cap
    malformed := s.ssu.malformed, timer := s.ssu.timer + 50000 }
  dir : u.ssu.dir = match s.dka.selected, s.odu.motion with
    | some d, _ => some d
    | none, .movingUp => some .up
    | none, .movingDown => some .down
    | none, .standstill => none
  flush : u.ssu.flushCount =
    if u.ssu.dir = s.ssu.dir then s.ssu.flushCount else (s.ssu.flushCount + 1) % 65536
  prereqs : u.ssu.prereqs =
    if s.ssu.mode = .full then some
      { profile := decide (s.lps.x.role = .active ∨ s.lps.y.role = .active)
        position := decide (s.odu.pos = .valid ∨ s.odu.pos = .restored)
        authority := match s.tgh.authority with
          | none => false
          | some a => decide (s.dka.selected = none ∨ s.dka.selected = some a.dir) }
    else none
  front : u.ssu.front = match u.ssu.dir with
    | none => none
    | some .up => some (s.odu.pHi + s.par .lCar)
    | some .down => some s.odu.pLo
  buildUp : u.ssu.buildUp = some ((s.odu.speed * s.par .tB + 99) / 100)
  steep : u.ssu.steep = u.ssu.window.any fun q => q.decel == 0
  steepMark : u.ssu.steepMark = (u.ssu.steep || (s.ssu.steepMark && decide (u.ssu.dir = s.ssu.dir)))
  status : ∀ k, u.ssu.curves = some k → u.ssu.status =
    if k.eb < s.odu.speed ^ 2 then .emergency
    else if k.sb < s.odu.speed ^ 2 ∨ (s.ssu.status = .service ∧ k.perm < s.odu.speed ^ 2) then .service
    else if k.perm < s.odu.speed ^ 2 then .warning
    else .normal
  side : ∀ a d, u.ssu.prereqs = some { profile := true, position := true, authority := true } →
    s.tgh.authority = some a → u.ssu.dir = some d → a.dir = d →
      u.ssu.authSide = some (match d with
        | .up => if a.limit < s.odu.pHi + s.par .lCar then .beyond else .ahead
        | .down => if s.odu.pLo < a.limit then .beyond else .ahead)
  noSide : (u.ssu.prereqs = some { profile := true, position := true, authority := true } →
      ∀ a, s.tgh.authority = some a → u.ssu.dir ≠ some a.dir) → u.ssu.authSide = none
  overrun : u.ssu.overrun = true ↔ s.ssu.overrun = true ∨ s.Crosses u
  warning : u.ssu.warning = true ↔
    s.ssu.warning = true ∨ s.ssu.status.rank < u.ssu.status.rank ∨ s.Crosses u
  notice : s.Tells u .supervision
    (u.ssu.status ≠ s.ssu.status ∨ s.Crosses u ∨
      (u.ssu.steep = true ∧ ¬(s.ssu.steepMark = true ∧ u.ssu.dir = s.ssu.dir)))

/-- An answer to a request: the event is handed on, and the result is written to the port (R166, R167). -/
def State.Answered (s t : State) (p : Port) (code : Word) (r : ResultCode) : Prop :=
  ∃ u : State, s.Ends u ∧ t = u.writeResult p code r none

/-- What the brake manager makes of the rows: the effective level (R64), the pinion command with its
outputs (R72, R79), the electric brake's duty (R75), the traction output (R77, R78, R115), HOLDING in RACK
(R74), and what a departure in PULLING or STALLED, or in RELEASED, rests on (R84, R85). -/
structure State.OutputsTrue (s : State) : Prop where
  latched : s.brm.latch ≠ none → s.brm.level = .emergency
  highest : s.brm.latch = none →
    (∀ i, (s.brm.rows.get i).level.rank ≤ s.brm.level.rank) ∧
      (s.brm.level = .none ∨ ∃ i, (s.brm.rows.get i).level = s.brm.level)
  pinion : s.brm.pinion = .applied ↔
    s.brm.level = .emergency ∨
      (s.brm.level ≠ .none ∧ s.odu.motion = .standstill ∧ s.odu.regime = .rack) ∨
      (s.brm.frictionFault = true ∧ s.odu.regime = .rack) ∨ s.dka.active = none
  outputs : s.brm.energised = true ↔ s.brm.pinion = .released ∧ s.brm.loopForced = false
  electric : s.brm.ebrake.latched =
    match s.brm.level with
    | .none => 0
    | .hold => 0
    | .service p => p
    | .fullService => 100
    | .emergency => 100
  doors : s.drc.summary = true ↔ ∀ i, (s.drc.door i).shut
  carried : s.Gate → ∃ d, s.dka.active = some d ∧ s.brm.traction.latched = (s.dka.cab d).traction
  closed : ¬s.Gate → s.brm.traction.latched = 0 ∧ s.brm.traction.driven = 0
  seen : s.brm.holdSeen =
    { regime := s.odu.regime, command := s.brm.pinion, upper := s.brm.upper.applied,
      lower := s.brm.lower.applied, measured := s.brm.measured }
  holding : s.odu.regime = .rack →
    (s.brm.holding = true ↔
      s.brm.pinion = .applied ∧ s.brm.upper.applied = true ∧ s.brm.lower.applied = true)
  unmeasured : s.odu.regime = .adhesion → s.brm.measured = none → s.brm.holding = false
  departure : s.brm.departure = .pulling ∨ s.brm.departure = .stalled →
    s.GateButLevel ∧ (s.brm.level = .none ∨ s.brm.level = .hold) ∧
      ∃ d, s.dka.active = some d ∧ 0 < (s.dka.cab d).traction
  released : s.brm.departure = .released →
    s.Gate ∧ s.odu.motion = .standstill ∧ ∃ d, s.dka.active = some d ∧ 0 < (s.dka.cab d).traction
  stall : s.brm.stallTimer ≠ none → s.brm.departure = .pulling

/-! ## What the words of a WRITE leave, written out -/

/-- R163: the address of the word `j` of a run that begins at the pointer `a`: the pointer itself, and from then on
one word further at a time, 4,095 being followed by 0. -/
def runAddress (a j : Nat) : Nat := if j = 0 then a else (a + j) % 4096

/-- 9.3, 11.3, 11.4: whether the port's write mask admits the word at an address. Every mask is all bits or none.
The three fields of a desk's own cab control record are admitted always, the text-out window of port C too, its
staging window and close-check record while it holds the claim on an OPEN standby bank, and the parameter area
before the freeze. -/
def State.admitted (s : State) (p : Port) (b : Nat) : Bool :=
  let loading := decide (s.lps.standby.state = .opened) && s.lps.claim.any fun k => decide (k.holder = .portC)
  match p with
  | .u => decide (0x020 ≤ b ∧ b < 0x023)
  | .l => decide (0x028 ≤ b ∧ b < 0x02B)
  | .c => (loading && decide ((0x248 ≤ b ∧ b < 0x24D) ∨ (0x250 ≤ b ∧ b < 0x252))) ||
      decide (0x318 ≤ b ∧ b < 0x31F) || (!s.pst.frozen && decide (0x410 ≤ b ∧ b < 0x44E))

/-- R165: the word that a WRITE of `ws` keeps for the owner at an address, if the mask admits it: the last that it
brings there, which is the model's choice where a WRITE runs round the record space and brings several (log entry
13). -/
def State.wordFor (s : State) (p : Port) (ws : List Word) (b : Nat) : Option Word :=
  if s.admitted p b then
    ((List.range ws.length).reverse.find? fun j => runAddress (s.port p).pointer j == b).bind fun j => ws[j]?
  else none

/-- R163, R165: the port behind the words of a WRITE, before the owners take the kept ones: the pointer stands
behind the last word, every word dropped has counted as refused, and each move of the pointer onto a record's first
word has taken a snapshot, which is the model's choice between R163 and R164 (log entry 13). -/
def State.wrote (s : State) (p : Port) (ws : List Word) : State :=
  let q := s.port p
  let dropped := (List.range ws.length).countP fun j => !s.admitted p (runAddress q.pointer j)
  s.setPort p { q with
    pointer := runAddress q.pointer ws.length
    snapshot := (List.range ws.length).foldl (fun g j =>
      match placeAt (runAddress q.pointer (j + 1)) with
      | none => g
      | some r => some { base := r.base, words := s.recordWords r.record }) q.snapshot
    refused := max q.refused (min 255 (q.refused + dropped)) }

/-! ## The invariants -/

/-- R65, R64, R74, R77: a row at EMERGENCY has set the latch, the level is the effective one, a release
output is energised only as the pinion command and the loop allow, and a closed gate drives nothing. -/
structure State.BrakesSafe (s : State) : Prop where
  latched : s.brm.rows.anyEmergency = true → s.brm.latch.isSome = true
  level : s.brm.level = s.brm.effective
  energised : s.brm.energised = true → s.brm.pinion = .released ∧ s.brm.loopForced = false
  gate : s.gateOpen = false → s.brm.traction.latched = 0 ∧ s.brm.traction.driven = 0

/-- R92 to R95, R104, R107, R120: a door that may be opened or is open is on a granted side, and a side is
granted by the active desk alone. -/
structure State.DoorsSafe (s : State) : Prop where
  released : ∀ i, (s.drc.door i).state ∈ [DoorState.released, .opening, .opened] →
    (s.drc.side (doorSide i)).granted ≠ none
  granted : ∀ i d, (s.drc.side i).granted = some d → s.dka.active = some d

/-- A bank whose contents are declared holds their length and version, a CHECKED one its header besides
(2.2), and its image is in canonical form. -/
structure Bank.Sound (b : Bank) : Prop where
  declared : b.state ∈ [BankState.opened, .closed, .checked] → b.length.isSome = true ∧ b.version.isSome = true
  header : b.state = .checked → b.header.isSome = true
  image : b.image.wf = true

/-- R23 to R35: one bank is STANDBY, and the other ACTIVE and CHECKED, or without a role; a claim is held
only while the STANDBY bank is OPEN or CLOSED. -/
structure State.BanksSound (s : State) : Prop where
  standby : ∃ i, (s.lps.bank i).role = .standby ∧
    ((s.lps.bank i.other).role = .none ∨
      ((s.lps.bank i.other).role = .active ∧ (s.lps.bank i.other).state = .checked))
  claim : s.lps.claim.isSome = true → s.lps.standby.state ∈ [BankState.opened, .closed]
  banks : ∀ i, (s.lps.bank i).Sound

/-- 3.2: an entry of the restriction list comes before another. -/
def Restriction.Precedes (a b : Restriction) : Prop :=
  a.first < b.first ∨ (a.first = b.first ∧ a.ident < b.ident)

/-- R136: how far the telegram being received is assembled: 24 bits of header, the bytes that its length, at
most 12, counts, and 16 bits of check. -/
structure Receiver.Assembling (r : Receiver) : Prop where
  header : r.state = .header → r.bitCount < 24 ∧ r.payload = []
  payload : r.state = .payload →
    r.header.toNat % 256 ≤ 12 ∧ r.bitCount < 8 * (r.header.toNat % 256) ∧ r.payload.length = r.bitCount / 8
  check : r.state = .check →
    r.payload.length = r.header.toNat % 256 ∧ r.payload.length ≤ 12 ∧ r.bitCount < 16

/-- Every bounded quantity that is listed here is within its bounds, block by block: the parameters (10.1);
of the ODU the interval with its order, the last marker, the reader's bits, the histories, the runs and the
counters (chapter 1); the claim, the banks' lengths, versions and header fields, the gradients of a CHECKED
bank, the scrub's place and the counts of the LPS (chapter 2); the window, the list with its order, the MRSP
and the counts of the SSU (chapter 3); the pressures and percentages of the BRM (chapter 4); the doors'
reversals and motors (chapter 5); the cab records (R112); the counters, the slots and the assembly of the
VRL (chapter 7); the records, counts, lists and queues of the TGH (chapter 8); and the ports' pointers and
counts (chapter 9). -/
structure State.Bounded (s : State) : Prop where
  params : ∀ p : Param, p.least ≤ s.par p ∧ s.par p ≤ p.greatest
  motion : s.odu.speed ≤ 1500 ∧ s.odu.lo ≤ s.odu.hi ∧ s.odu.hi ≤ 12000000000 ∧
    s.odu.reader.bits.length < 16 ∧ ∀ m, s.odu.lastMarker = some m → m ≤ 4095
  motionCounts : s.odu.upper.illegalCount ≤ 255 ∧ s.odu.lower.illegalCount ≤ 255 ∧
    s.odu.unknownMarkers ≤ 65535 ∧ s.odu.invalidReads ≤ 65535
  sources : ∀ i, (s.odu.src i).window.length ≤ 20 ∧ (s.odu.src i).last4.length ≤ 4 ∧
    ((s.odu.src i).health = .suspect → (s.odu.src i).inTol < 20 ∧ (s.odu.src i).suspectRun < 60)
  histories : s.odu.upper.illegalHist.length ≤ 20 ∧ s.odu.lower.illegalHist.length ≤ 20 ∧
    s.odu.tooth.undir4.length ≤ 4 ∧ s.odu.mid4.length ≤ 4
  claim : ∀ k, s.lps.claim = some k → 21 ≤ k.length ∧ k.length ≤ 1069 ∧ k.version < 65536
  banks : ∀ i, (∀ n, (s.lps.bank i).length = some n → 21 ≤ n ∧ n ≤ 1069) ∧
    (∀ v, (s.lps.bank i).version = some v → v < 65536) ∧
    (∀ h, (s.lps.bank i).header = some h →
      h.lineId < 65536 ∧ h.lineEnd ≤ 120000 ∧ 1 ≤ h.nSegments ∧ h.nSegments ≤ 96 ∧ h.nMarkers ≤ 48) ∧
    ((s.lps.bank i).state = .checked →
      ∀ g ∈ (decodeProfile (s.lps.bank i).image).segments, -250 ≤ g.gradient ∧ g.gradient ≤ 250)
  profileCounts : s.lps.rejected ≤ 255 ∧ s.lps.passes < 65536 ∧ s.lps.scrubPos ≤ 1068
  supervision : s.ssu.window.length ≤ 16 ∧ s.ssu.flushCount < 65536 ∧ s.ssu.malformed ≤ 255 ∧
    (∀ c, s.ssu.cap = some c → c ≤ 1500) ∧ ∀ m, s.ssu.mrsp = some m → m ≤ 1500
  restrictions : s.ssu.restrictions.length ≤ 12 ∧ s.ssu.restrictions.Pairwise Restriction.Precedes ∧
    s.ssu.restrictions.Pairwise (fun a b => a.ident ≠ b.ident) ∧
    ∀ r ∈ s.ssu.restrictions,
      1 ≤ r.ident ∧ r.ident ≤ 255 ∧ r.first < r.last ∧ r.last ≤ 120000 ∧ r.speed ≤ 1500
  levels : ∀ p, s.brm.level = .service p ∨ (∃ i, (s.brm.rows.get i).level = .service p) → 1 ≤ p ∧ p ≤ 99
  brakes : (∀ m, s.brm.measured = some m → m ≤ 1000) ∧ s.brm.target ≤ 1000 ∧ s.brm.required ≤ 100 ∧ -100 ≤ s.brm.effort ∧ s.brm.effort ≤ 100 ∧
    s.brm.ebrake.latched ≤ 100 ∧ s.brm.ebrake.driven ≤ 100 ∧
    s.brm.traction.latched ≤ 100 ∧ s.brm.traction.driven ≤ 100
  doors : ∀ i, (s.drc.door i).reversals ≤ 3 ∧ (s.drc.door i).motor.latched ≤ 100 ∧
    (s.drc.door i).motor.driven ≤ 100
  desks : ∀ d, (s.dka.cab d).traction ≤ 100 ∧ (s.dka.cab d).writes < 65536 ∧
    ∀ p, (s.dka.cab d).handle = .percent p → p ≤ 100
  slots : s.vrl.bit < 192 ∧ s.vrl.slot < 16 ∧ s.vrl.cycle < 4
  radioCounts : s.vrl.missed ≤ 255 ∧ s.vrl.resync ≤ 255 ∧ s.vrl.aborts ≤ 65535 ∧
    s.vrl.lengthErrors ≤ 65535 ∧ s.vrl.crcErrors ≤ 65535 ∧ s.vrl.received < 65536 ∧
    s.vrl.transmitted < 65536
  receiver : s.vrl.rx.run ≤ 255 ∧ s.vrl.rx.flagLen ≤ 16 ∧ s.vrl.rx.Assembling
  authority : ∀ a, s.tgh.authority = some a → a.issue < 256 ∧ a.limit ≤ 120000 ∧ a.stretchId.length = 6
  telegramCounts : s.tgh.ignored ≤ 255 ∧ s.tgh.silent ≤ 255 ∧ s.tgh.foreign ≤ 65535 ∧
    s.tgh.formatErrors ≤ 65535 ∧ s.tgh.refusedProfile ≤ 255 ∧ s.tgh.rxOverflow ≤ 255
  calls : s.tgh.calls.length ≤ 4 ∧ s.tgh.calls.Pairwise (fun a b => a.ident ≠ b.ident) ∧
    ∀ c ∈ s.tgh.calls, 1 ≤ c.ident ∧ c.ident ≤ 255 ∧ c.first ≤ c.last ∧ c.last ≤ 120000
  texts : s.tgh.rxTexts.length ≤ 8 ∧ (∀ x ∈ s.tgh.rxTexts, x.payload.length ≤ 12) ∧
    s.tgh.txTexts.length ≤ 4 ∧ ∀ x ∈ s.tgh.txTexts, x.length ≤ 12
  ports : ∀ p, (s.port p).pointer < 4096 ∧ (s.port p).seq < 256 ∧ (s.port p).refused ≤ 255 ∧
    (s.port p).frameErrors ≤ 255

end Sys2Proof.Machine
end

