-- ==== Sys2Proof/Certificates/Slice0/Obligations.lean ====
section
/-! DEFINITION. The statements for the provers, family by family. `u.Ends t` says that an event which has
made `u` of the state ends in `t`: what it changed is handed on, and the readers are settled (Safety.lean);
a statement that gives `u` as `s` with some fields replaced is thereby the frame of the command, too. -/

open Sys2Proof Sys2Proof.Machine

/-! ## Every command -/

/-- The command at the front of the queue is taken, with the rest of the queue left to wait. -/
def Obligations.StepRunsTheFrontCommand : Prop :=
  ∀ (c : Instr) (rest : List Instr) (s : State),
    s.pending = c :: rest → step s = exec c { s with pending := rest }

/-- No command stops the part, whatever its operands and the state, and no command touches the commands
that wait behind it: that a power-on reset leaves them, too, is the model's choice (log entry 10). -/
def Obligations.EveryCommandCompletesAndKeepsTheQueue : Prop :=
  ∀ (c : Instr) (s : State), ∃ t, exec c s = .next t ∧ t.pending = s.pending

/-- The model's clock (log entries 1 and 3): the timers that run are those of the spec's state, each with
its deadline and the command of its expiry. With no command waiting, a step puts the expiry of one that has
fallen due into the queue, the earliest first; with none due, one µs passes. Nothing but the clock with the
outputs that follow it, and the queue, is touched. R75, R78, R91, R126: the outputs that follow the clock,
brought from one time to a later one. A PWM output keeps its duty until its period ends, and from then on is
driven with the duty latched, a door motor in the direction latched, with whole periods to its next end. A
tone output keeps its level until the half-wave in progress ends; then the other level begins, for the width
of that level and of the current bit, and so on from there. -/
def Obligations.IdleStepQueuesTheEarliestDueTimer : Prop :=
  (∀ (s : State) (d : Nat) (c : Instr), (some d, c) ∈ s.timers ↔
    (c = .oduSample ∧ d = s.odu.sampleTimer) ∨
    (c = .regimeTimerExpiry ∧ s.odu.regimeTimer = some d) ∨
    (c = .standstillTimerExpiry ∧ s.odu.standTimer = some d) ∨
    (c = .collectionTimeout ∧ s.odu.reader.timeout = some d) ∨
    (c = .lpsTimerExpiry ∧ d = s.lps.timer) ∨
    (c = .supervisionCycle ∧ d = s.ssu.timer) ∨
    (c = .pressureGateEnd ∧ d = s.brm.gateTimer) ∨
    (c = .deadTimeExpiry ∧ s.brm.deadTimer = some d) ∨
    (c = .frictionProveExpiry ∧ s.brm.proveTimer = some d) ∨
    (∃ b, c = .pinionProveExpiry b ∧ (s.brm.bandOf b).prove = some d) ∨
    (c = .feedbackTimeout ∧ s.brm.feedbackTimer = some d) ∨
    (c = .holdDelayExpiry ∧ s.brm.holdTimer = some d) ∨
    (c = .stallTimerExpiry ∧ s.brm.stallTimer = some d) ∨
    (∃ i k, (s.drc.door i).timer = some (k, d) ∧ c = match k with
      | .tOpen => Instr.tOpenExpiry i
      | .dwell => .dwellExpiry i
      | .tWarn => .tWarnExpiry i
      | .tClose => .tCloseExpiry i
      | .stopInterval => .stopIntervalExpiry i
      | .tRev => .tRevExpiry i) ∨
    (∃ k, c = .freshnessExpiry k ∧ (s.dka.cab k).fresh = some d) ∨
    (c = .orphanExpiry ∧ s.dka.orphan = some d) ∨
    (c = .transmitBitClockEvent ∧ d = s.vrl.txTimer) ∨
    (c = .receiveBitClockEvent ∧ s.vrl.rx.clock = some d) ∨
    (c = .textWaitExpiry ∧ ∃ q rest, s.tgh.rxTexts = q :: rest ∧ q.notified = false ∧
      rest.length + 1 < s.par .qTrig ∧ d = q.arrival + s.par .tText * 1000)) ∧
  (∀ s : State, s.pending = [] →
    ∃ t : State, step s = .next t ∧
      ((∃ d c, (some d, c) ∈ s.timers ∧ d ≤ s.now) →
        ∃ d c, (some d, c) ∈ s.timers ∧ d ≤ s.now ∧ t = { s with pending := [c] } ∧
          ∀ d' c', (some d', c') ∈ s.timers → d' ≤ s.now → d ≤ d') ∧
      ((∀ d c, (some d, c) ∈ s.timers → s.now < d) →
        t.now = s.now + 1 ∧ { t with pending := [] } = s.advanceTo (s.now + 1) ∧
          ((∀ d c, (some d, c) ∈ (s.advanceTo (s.now + 1)).timers → s.now + 1 < d) → t.pending = []) ∧
          ((∃ d c, (some d, c) ∈ (s.advanceTo (s.now + 1)).timers ∧ d ≤ s.now + 1) →
            ∃ d c, (some d, c) ∈ (s.advanceTo (s.now + 1)).timers ∧ d ≤ s.now + 1 ∧ t.pending = [c]))) ∧
  ∀ (s : State) (time : Nat),
    let t := s.advanceTo time
    (time ≤ s.now → t = s) ∧
    (s.now < time →
      t = { s with
        now := time
        brm := { s.brm with ebrake := t.brm.ebrake, traction := t.brm.traction }
        drc := { s.drc with
          a1 := { s.drc.a1 with motor := t.drc.a1.motor }, a2 := { s.drc.a2 with motor := t.drc.a2.motor }
          b1 := { s.drc.b1 with motor := t.drc.b1.motor }, b2 := { s.drc.b2 with motor := t.drc.b2.motor } }
        vrl := { s.vrl with tx := t.vrl.tx } } ∧
      (∀ w ∈ [(s.brm.ebrake, t.brm.ebrake), (s.brm.traction, t.brm.traction)],
        (time < w.1.next → w.2 = w.1) ∧
        (w.1.next ≤ time → w.2.latched = w.1.latched ∧ w.2.driven = w.1.latched ∧
          time < w.2.next ∧ w.2.next ≤ time + 1000 ∧ (w.2.next - w.1.next) % 1000 = 0)) ∧
      (∀ i,
        let m := (s.drc.door i).motor
        let r := (t.drc.door i).motor
        (time < m.next → r = m) ∧
        (m.next ≤ time →
          r = { m with driven := m.latched, drivenDir := m.latchedDir, next := r.next } ∧
          (0 < s.par .tPwm → time < r.next ∧ r.next ≤ time + s.par .tPwm ∧
            (r.next - m.next) % s.par .tPwm = 0))) ∧
      (let tx := s.vrl.tx
       (tx.halfEnd = none → t.vrl.tx = tx) ∧
       ∀ e, tx.halfEnd = some e →
        (time < e → t.vrl.tx = tx) ∧
        (e ≤ time → (∀ p ∈ [Param.wMarkHi, .wMarkLo, .wSpaceHi, .wSpaceLo], 0 < s.par p) →
          let width := match tx.tone, tx.current with
            | true, true => s.par .wMarkLo
            | false, true => s.par .wMarkHi
            | true, false => s.par .wSpaceLo
            | false, false => s.par .wSpaceHi
          let half : Transmitter :=
            { tx with tone := !tx.tone, halfStart := e, halfEnd := some (e + width) }
          t.vrl.tx = (State.advanceTo time { s with vrl := { s.vrl with tx := half } }).vrl.tx)))

/-! ## Motion and position -/

/-- R1, R16: an edge of an encoder. A step from its phases to the next in the sequence of R1 (UP), or to the
one before (DOWN), is one count; an ISOLATED encoder only keeps its own sums, and at STANDSTILL the leaving
sum of 8 counts starts the car, which fixes the running direction (R123) and ends the count of T_hold (R81). An edge at which both phases change counts nothing but itself, in either
health; a command that repeats the phases is no edge (the model's choice, log entry 2). R2, R16: one tooth,
with the direction of R2's first case that applies; an undirected tooth goes to the undirected tally and, at
STANDSTILL, starts the car as MOVING_DOWN. -/
def Obligations.EncoderEdgesAndTeethMoveTheSumsAndStartTheCar : Prop :=
  ((∀ (s : State) (i : Bogie) (d : Dir) (a b : Bool),
      let e := s.odu.encoder i
      (d = .up ∧ a = !e.phaseB ∧ b = e.phaseA) ∨ (d = .down ∧ a = e.phaseB ∧ b = !e.phaseA) →
        let one : Int := match d with
          | .up => 1
          | .down => -1
        let k : Nat := match i with
          | .upper => s.par .kUpper
          | .lower => s.par .kLower
        let counts := decide (e.src.health ≠ .isolated)
        let leaving := e.src.leaving + (if counts ∧ s.odu.motion = .standstill then one else 0)
        let e' : Encoder := { e with
          phaseA := a, phaseB := b, latest := some d
          src := { e.src with sampleSum := e.src.sampleSum + one * k,
                              intervalSum := e.src.intervalSum + one * k, leaving := leaving } }
        let u : State := { s with odu := { s.odu.setEncoder i e' with
          lastCounted := some i
          standTimer := if counts then some (s.now + s.par .tStill * 1000) else s.odu.standTimer } }
        let starts : Option Motion :=
          if !counts ∨ s.odu.motion ≠ .standstill then none
          else if 8 ≤ leaving then some .movingUp
          else if leaving ≤ -8 then some .movingDown
          else none
        ∃ t, exec (.encoderEdge i a b) s = .next t ∧
          State.Ends
            (match starts with
              | none => u
              | some m =>
                { u with
                  odu := { u.odu with motion := m, rollback := 0 }
                  dka := { u.dka with running := u.dka.selected.or m.dir }
                  brm := { u.brm with holdTimer := none, holdElapsed := false } }) t) ∧
   (∀ (s : State) (i : Bogie),
      let e := s.odu.encoder i
      (∃ t, exec (.encoderEdge i (!e.phaseA) (!e.phaseB)) s = .next t ∧
        State.Ends
          { s with odu := s.odu.setEncoder i { e with
              phaseA := !e.phaseA, phaseB := !e.phaseB
              illegalCount := if e.illegalCount < 255 then e.illegalCount + 1 else e.illegalCount
              illegalTally := e.illegalTally + 1 } } t) ∧
        exec (.encoderEdge i e.phaseA e.phaseB) s = .next s)) ∧
  (∀ s : State,
     let up := if s.odu.upper.src.health = .isolated then none else s.odu.upper.latest
     let lo := if s.odu.lower.src.health = .isolated then none else s.odu.lower.latest
     let d : Option Dir := match up, lo with
       | some x, some y =>
         if x = y then some x else if s.odu.lastCounted = some .upper then some x else some y
       | some x, none => some x
       | none, some y => some y
       | none, none => s.dka.selected
     let one : Int := match d with
       | some .up => 1
       | _ => -1
     let th := s.odu.tooth
     let counts := decide (th.src.health ≠ .isolated)
     let p := s.par .pRack
     let leaving := th.src.leaving + (if counts ∧ s.odu.motion = .standstill then one else 0)
     let th' : ToothSensor := match d with
       | some _ =>
         { th with src := { th.src with sampleSum := th.src.sampleSum + one * p,
                                        intervalSum := th.src.intervalSum + one * p,
                                        leaving := leaving } }
       | none =>
         { th with undirInterval := th.undirInterval + p, undirSample := th.undirSample + p,
                   src := { th.src with leaving := leaving } }
     let u : State := { s with odu := { s.odu with
       tooth := th'
       regimeTimer := some (s.now + 2000000)
       standTimer := if counts then some (s.now + s.par .tStill * 1000) else s.odu.standTimer } }
     let starts : Option Motion :=
       if !counts ∨ s.odu.motion ≠ .standstill then none
       else if 1 ≤ leaving then some .movingUp
       else if leaving ≤ -1 then some .movingDown
       else none
     ∃ t, exec .tooth s = .next t ∧
       State.Ends
         (match starts with
           | none => u
           | some m =>
             { u with
               odu := { u.odu with motion := m, rollback := 0 }
               dka := { u.dka with running := u.dka.selected.or m.dir }
               brm := { u.brm with holdTimer := none, holdElapsed := false } }) t)

/-- R3, R4: an edge of the marker input, but for the falling edge that appends a 16th bit: what it does by
the reader's state before it. `time` is the edge's capture time. The model's choices (log entry 8): a width
in both windows is a 0; a rising edge with no falling edge before it comes after the burst gap; and in
COLLECTING an edge of the level noted before is an invalid read, after the burst gap too. R3, R5: the falling
edge that appends the 16th bit completes a read, with the first twelve bits as the identity and the last four
as its check. -/
def Obligations.MarkerEdgesMoveTheReaderAndMakeARead : Prop :=
  (∀ (s : State) (level : Bool) (time : Nat),
     let r := s.odu.reader
     let width := time - r.lastRise.getD time
     let bit : Option Bool :=
       if s.par .shortMin ≤ width ∧ width ≤ s.par .shortMax then some false
       else if s.par .longMin ≤ width ∧ width ≤ s.par .longMax then some true
       else none
     let newBurst := level && (match r.lastFall with
       | none => true
       | some f => decide (f + 1000 < time))
     ¬(r.state = .collecting ∧ level = false ∧ r.level ≠ some false ∧ bit.isSome ∧
         15 ≤ r.bits.length) →
       let noted : Reader :=
         if level then { r with level := some true, lastRise := some time }
         else { r with level := some false, lastFall := some time }
       let r' : Reader := match r.state with
         | .idle =>
           if level then { noted with state := .collecting, bits := [], timeout := some (time + 2000) }
           else { noted with timeout := none }
         | .discarding =>
           if newBurst then
             { noted with state := .collecting, bits := [], timeout := some (time + 2000) }
           else { noted with timeout := some (time + 2000) }
         | .collecting =>
           if r.level = some level then
             { noted with state := .discarding, bits := [], timeout := some (time + 2000) }
           else if level then
             if newBurst then { noted with bits := [], timeout := some (time + 2000) }
             else { noted with timeout := some (time + 2000) }
           else
             match bit with
             | none => { noted with state := .discarding, bits := [], timeout := some (time + 2000) }
             | some x => { noted with bits := r.bits ++ [x], timeout := some (time + 2000) }
       let invalid := decide (r.state = .collecting) &&
         (decide (r.level = some level) || (!level && bit.isNone))
       let overrun := decide (r.state = .collecting) && decide (r.level ≠ some level) && newBurst
       ∃ t, exec (.markerEdgeCapture level time) s = .next t ∧
         State.Ends
           { s.advanceTo time with odu := { s.odu with
               reader := r'
               overrun := s.odu.overrun || overrun
               invalidReads :=
                 if invalid ∧ s.odu.invalidReads < 65535 then s.odu.invalidReads + 1
                 else s.odu.invalidReads } } t) ∧
  (∀ (s : State) (time : Nat) (bits : List Bool) (ident : BitVec 12) (check : BitVec 4),
     s.now ≤ time → s.odu.reader.state = .collecting → s.odu.reader.level = some true →
     s.odu.reader.bits = bits.take 15 → bits.length = 16 →
     s.pulseBit (time - s.odu.reader.lastRise.getD time) = bits.getLast? →
     (∀ k < 12, bits[k]? = some (ident.getLsbD (11 - k))) →
     (∀ k < 4, bits[12 + k]? = some (check.getLsbD (3 - k))) →
       exec (.markerEdgeCapture false time) s = exec (.markerRead ident check) (s.advanceTo time))

/-- R5: a completed read whose check is not the sum of the three groups of the identity modulo 16 is
invalid, and changes nothing else. R18: with the right check the interval is first brought up to date by the
sums as they stand, with the regime and the sources of that moment, and clears the overrun flag; without an
active profile nothing more happens, and an identity that it does not hold counts as unknown. R19: of a
marker held, with the position VALID after the update, the marker interval is intersected with the interval,
or taken where it meets the widened interval alone, or is a conflict, which leaves the interval and makes the
position INVALID with MARKER_CONFLICT; R20: with another position it is taken without comparison. R10 clamps
and tests the width after each, and a change of the position state raises POSITION, also where the update
makes the position INVALID and the marker makes it VALID again within the read; without a change nothing is
raised. That VALID is judged after the update is the model's reading (log entry 8), and that the readers take
only what the read leaves, and not the position between its two changes, is its choice (log entry 4). -/
def Obligations.MarkerReadsFixThePosition : Prop :=
  ∀ (s : State) (ident : BitVec 12) (check : BitVec 4),
    let sum := ident.toNat / 256 + ident.toNat / 16 % 16 + ident.toNat % 16
    let r' : Reader := { s.odu.reader with
      state := .discarding, bits := [], level := some false, lastFall := some s.now,
      timeout := some (s.now + 2000) }
    let more (n : Nat) : Nat := if n < 65535 then n + 1 else n
    let m := s.movesIn s.odu.regime
    let lo := withinLine (s.odu.lo + m.1)
    let hi := withinLine (s.odu.hi + m.2)
    let pos : Position :=
      if (s.odu.pos = .valid ∨ s.odu.pos = .restored) ∧ s.tooWide lo hi then .invalid .width else s.odu.pos
    (sum % 16 ≠ check.toNat →
      ∃ t, exec (.markerRead ident check) s = .next t ∧
        State.Ends
          { s with odu := { s.odu with reader := r', invalidReads := more s.odu.invalidReads } } t) ∧
    (sum % 16 = check.toNat →
      ∃ t u : State, exec (.markerRead ident check) s = .next t ∧ s.OnlyOdu u ∧ u.Ends t ∧
        s.Tells u .position (pos ≠ s.odu.pos ∨ u.odu.pos ≠ pos ∨ (pos ≠ .valid ∧ ∃ p k,
          s.lps.profile = some p ∧ p.markers.find? (fun k => k.ident == ident.toNat) = some k)) ∧
        (let brought : Odu := { s.odu with
           reader := r', overrun := false, midSum := s.odu.midSum + m.1 + m.2
           upper := { s.odu.upper with src := { s.odu.upper.src with intervalSum := 0 } }
           lower := { s.odu.lower with src := { s.odu.lower.src with intervalSum := 0 } }
           tooth := { s.odu.tooth with
             src := { s.odu.tooth.src with intervalSum := 0 }, undirInterval := 0 }
           lo := lo, hi := hi, pos := pos, distHalf := s.odu.distHalf + (m.1 + m.2).natAbs }
         (s.lps.profile = none → u.odu = brought) ∧
         (∀ p, s.lps.profile = some p → p.markers.find? (fun k => k.ident == ident.toNat) = none →
           u.odu = { brought with unknownMarkers := more s.odu.unknownMarkers }) ∧
         (∀ p k, s.lps.profile = some p → p.markers.find? (fun k => k.ident == ident.toNat) = some k →
           let a : Int := ((k.pos : Int) - s.par .dAnt - k.tol) * 100000
           let b : Int := ((k.pos : Int) - s.par .dAnt + k.tol) * 100000
           let wide : Int := k.tol * 100000
           let takes (x y : Int) : Odu := { brought with
             lo := withinLine x, hi := withinLine y, lastMarker := some k.ident, distHalf := 0
             pos := if s.tooWide (withinLine x) (withinLine y) then .invalid .width else .valid }
           (pos ≠ .valid → u.odu = takes a b) ∧
           (pos = .valid → a ≤ hi → lo ≤ b → u.odu = takes (max lo a) (min hi b)) ∧
           (pos = .valid → ¬(a ≤ hi ∧ lo ≤ b) → a ≤ hi + wide → lo - wide ≤ b → u.odu = takes a b) ∧
           (pos = .valid → ¬(a ≤ hi + wide ∧ lo - wide ≤ b) →
             u.odu = { brought with pos := .invalid .markerConflict }))))

/-- R2, R3: the regime timer's expiry only stops the timer, and the collection timeout takes the reader to
IDLE, a read in COLLECTING being invalid; without the timer running nothing happens (log entry 2). R16, R81,
R123: the standstill timer's expiry. A moving car stands: the reversal lock is cleared, the running direction
is absent, the selected direction is derived afresh, and T_hold is counted from here. A car that stands
already has its leaving sums cleared. -/
def Obligations.MotionTimersExpire : Prop :=
  (∀ s : State,
     (s.odu.regimeTimer = none → exec .regimeTimerExpiry s = .next s) ∧
     (∀ d, s.odu.regimeTimer = some d →
       exec .regimeTimerExpiry s =
         .next { s.advanceTo d with odu := { s.odu with regimeTimer := none } }) ∧
     (s.odu.reader.timeout = none → exec .collectionTimeout s = .next s) ∧
     (∀ d, s.odu.reader.timeout = some d →
       exec .collectionTimeout s =
         .next { s.advanceTo d with odu := { s.odu with
           reader := { s.odu.reader with state := .idle, bits := [], timeout := none }
           invalidReads :=
             if s.odu.reader.state = .collecting ∧ s.odu.invalidReads < 65535 then
               s.odu.invalidReads + 1
             else s.odu.invalidReads } })) ∧
  (∀ s : State,
     (s.odu.standTimer = none → exec .standstillTimerExpiry s = .next s) ∧
     (∀ d, s.odu.standTimer = some d →
       let x := s.advanceTo d
       let o := { s.odu.clearLeaving with standTimer := none, motion := .standstill }
       let wait := s.par .tHold * 1000
       ∃ t, exec .standstillTimerExpiry s = .next t ∧
         State.Ends
           (if s.odu.motion = .standstill then { x with odu := o }
             else { x with
               odu := o
               dka := { s.dka with lock := false, running := none, selected := s.dka.switchDir }
               brm := { x.brm with
                 holdTimer := if wait = 0 then none else some (x.now + wait)
                 holdElapsed := decide (wait = 0) } }) t))

/-- R6: a sample sets the regime by the segment that holds the midpoint of the interval, with a profile and
a position, and by the regime timer otherwise; R7: it records the sources used, the tooth sensor alone where
it is OK in RACK, and otherwise the axle encoders that are not ISOLATED; R9, R10, R17: it moves the interval
by their moves, within the line, and the distance since the last marker by the change of the midpoint, and
clears the interval sums; R8, R10: the position becomes INVALID with WIDTH where the interval is then too
wide, and with SOURCES_LOST where, after the health checks, both axle encoders are ISOLATED and no tooth
sensor in RACK is OK; POSITION is raised at each change and where a source becomes ISOLATED (R12, R14), and
by nothing else. 1.3: the timer runs on by 50 ms, and a sample touches the
ODU alone, and of it neither the reader nor what a marker read or a count sets. -/
def Obligations.SampleSetsTheRegimeAndMovesTheInterval : Prop :=
  ∀ s : State,
    let o := s.odu
    let located (p : Position) := p = .valid ∨ p = .restored
    let mid := (o.lo / 100000 + (o.hi + 99999) / 100000) / 2
    let byTimer : Regime := if o.regimeTimer = none then .adhesion else .rack
    let regime : Regime := match s.lps.profile with
      | none => byTimer
      | some p =>
        if located o.pos then
          match p.segments.find? fun g =>
              decide (g.start ≤ mid ∧ (mid < g.stop ∨ (g.final = true ∧ mid = g.stop))) with
          | some g => if g.kind = .rack ∨ g.kind = .rackEntry then .rack else .adhesion
          | none => .adhesion
        else byTimer
    let tooth := decide (regime = .rack ∧ o.tooth.src.health = .ok)
    let m := s.movesIn regime
    let lo := withinLine (o.lo + m.1)
    let hi := withinLine (o.hi + m.2)
    let moved : Position := if located o.pos ∧ s.tooWide lo hi then .invalid .width else o.pos
    ∃ t u : State, exec .oduSample s = .next t ∧ (s.advanceTo o.sampleTimer).OnlyOdu u ∧ u.Ends t ∧
      u.odu.regime = regime ∧
      u.odu.used =
        { upper := !tooth && decide (o.upper.src.health ≠ .isolated)
          lower := !tooth && decide (o.lower.src.health ≠ .isolated), tooth := tooth } ∧
      u.odu.lo = lo ∧ u.odu.hi = hi ∧ u.odu.distHalf = o.distHalf + (m.1 + m.2).natAbs ∧
      (∀ i, (u.odu.src i).intervalSum = 0) ∧ u.odu.tooth.undirInterval = 0 ∧
      (let lost := u.odu.upper.src.health = .isolated ∧ u.odu.lower.src.health = .isolated ∧
         ¬(regime = .rack ∧ u.odu.tooth.src.health = .ok)
       u.odu.pos = if located moved ∧ lost then .invalid .sourcesLost else moved) ∧
      (s.advanceTo o.sampleTimer).Tells u .position (u.odu.pos ≠ o.pos ∨
        ∃ i, (o.src i).health ≠ .isolated ∧ (u.odu.src i).health = .isolated) ∧
      u.odu.sampleTimer = o.sampleTimer + 50000 ∧
      u.odu = { u.odu with
        reader := o.reader, lastMarker := o.lastMarker, unknownMarkers := o.unknownMarkers
        invalidReads := o.invalidReads, overrun := o.overrun, lastCounted := o.lastCounted
        regimeTimer := o.regimeTimer, standTimer := o.standTimer
        upper := { o.upper with src := u.odu.upper.src, illegalTally := 0
                                illegalHist := u.odu.upper.illegalHist }
        lower := { o.lower with src := u.odu.lower.src, illegalTally := 0
                                illegalHist := u.odu.lower.illegalHist } } ∧
      (∀ i, (u.odu.src i).leaving = (o.src i).leaving)

/-- R15: a sample's speed is the greatest candidate of the used sources, or of those that are not ISOLATED
where none is used: the distance of a source over its last four samples, with the undirected tallies of the
tooth sensor, in cm/s rounded up, held to 1,500 cm/s with OVERRANGE; with all three ISOLATED it is 1,500 cm/s
with OVERRANGE. R16: the change of the midpoint over the last four samples gives the direction of a car that
is not at STANDSTILL. R17: with a direction selected, the rollback distance of such a car grows by the
greatest of those sources' sums that point against it. 1.3: the sums and tallies that the sample has taken
are cleared. -/
def Obligations.SampleGivesTheSpeedAndTheDirection : Prop :=
  ∀ s : State,
    let o := s.odu
    ∃ t u : State, exec .oduSample s = .next t ∧ (s.advanceTo o.sampleTimer).OnlyOdu u ∧ u.Ends t ∧
      (let m := s.movesIn u.odu.regime
       let none' := u.odu.used = { upper := false, lower := false, tooth := false }
       let measures (used : Bool) (i : SourceId) : Bool :=
         if none' then decide ((u.odu.src i).health ≠ .isolated) else used
       let four (i : SourceId) := ((o.src i).sampleSum :: (o.src i).last4).take 4
       let undirected := ((o.tooth.undirSample :: o.tooth.undir4).take 4).sum
       let speed (i : SourceId) : Nat :=
         ((four i).sum.natAbs + (if i = .tooth then undirected else 0) + 1999) / 2000
       let back (i : SourceId) : Nat := match s.dka.selected with
         | none => 0
         | some .up => (-(o.src i).sampleSum).toNat
         | some .down => (o.src i).sampleSum.toNat
       let greatest (f : SourceId → Nat) : Nat :=
         max (if measures u.odu.used.upper .upper then f .upper else 0)
           (max (if measures u.odu.used.lower .lower then f .lower else 0)
             (if measures u.odu.used.tooth .tooth then f .tooth else 0))
       (∀ i, (u.odu.src i).last4 = four i ∧ (u.odu.src i).sampleSum = 0) ∧
       u.odu.tooth.undir4 = (o.tooth.undirSample :: o.tooth.undir4).take 4 ∧
       u.odu.tooth.undirSample = 0 ∧ u.odu.upper.illegalTally = 0 ∧ u.odu.lower.illegalTally = 0 ∧
       ((∀ i, (u.odu.src i).health = .isolated) → u.odu.speed = 1500 ∧ u.odu.overrange = true) ∧
       (¬(∀ i, (u.odu.src i).health = .isolated) →
         u.odu.speed = min 1500 (greatest speed) ∧
           (u.odu.overrange = true ↔ 1500 < greatest speed)) ∧
       u.odu.mid4 = ((o.midSum + m.1 + m.2) :: o.mid4).take 4 ∧ u.odu.midSum = 0 ∧
       (o.motion = .standstill → u.odu.motion = .standstill ∧ u.odu.rollback = o.rollback) ∧
       (o.motion ≠ .standstill →
         u.odu.motion =
           (if 0 < u.odu.mid4.sum then .movingUp
             else if u.odu.mid4.sum < 0 then .movingDown
             else o.motion) ∧
         u.odu.rollback = o.rollback + greatest back))

/-- R11 to R14: the health checks of a sample. The histories take the sample, those of travel starting
afresh where the regime has changed. With 20 samples, in RACK with no source ISOLATED, a source whose window
distance differs from the median by more than the tolerance becomes SUSPECT, and a SUSPECT one runs towards
OK or ISOLATED; with 20 samples and both axle encoders not ISOLATED the slip/slide flag says whether their
distances differ by more than the tolerance; an encoder with more than 16 illegal transitions in its history
is ISOLATED; and the flag is cleared where an encoder becomes so. A source that becomes ISOLATED raises
POSITION. The order of the three checks is the model's (log entry 8). -/
def Obligations.SampleChecksTheSources : Prop :=
  ∀ s : State,
    let o := s.odu
    ∃ t u : State, exec .oduSample s = .next t ∧ (s.advanceTo o.sampleTimer).OnlyOdu u ∧ u.Ends t ∧
      (let window (i : SourceId) : List Int :=
         ((o.src i).sampleSum :: (if u.odu.regime = o.regime then (o.src i).window else [])).take 20
       let distance (i : SourceId) : Int := (window i).sum
       let x := distance .upper
       let y := distance .lower
       let z := distance .tooth
       let median : Int := max (min x y) (min (max x y) z)
       let tolerance (ref : Int) : Nat :=
         max ((ref.natAbs * s.par .tolDis + 999) / 1000) (s.par .pRack)
       let full := (window .upper).length = 20
       let judges := u.odu.regime = .rack ∧ o.upper.src.health ≠ .isolated ∧
         o.lower.src.health ≠ .isolated ∧ o.tooth.src.health ≠ .isolated ∧ full
       let inside (i : SourceId) := (distance i - median).natAbs ≤ tolerance median
       let run (i : SourceId) : Nat := if inside i then (o.src i).inTol + 1 else 0
       let judged (i : SourceId) : Health × Nat × Nat :=
         let v := o.src i
         if v.health = .ok ∧ judges ∧ ¬inside i then (.suspect, 0, 1)
         else if v.health = .suspect ∧ judges then
           (if 20 ≤ run i then .ok else if 60 ≤ v.suspectRun + 1 then .isolated else .suspect,
             run i, v.suspectRun + 1)
         else (v.health, v.inTol, v.suspectRun)
       let illegal (e : Encoder) : List Nat := (e.illegalTally :: e.illegalHist).take 20
       let after (i : SourceId) : Health := match i with
         | .upper => if 16 < (illegal o.upper).sum then .isolated else (judged .upper).1
         | .lower => if 16 < (illegal o.lower).sum then .isolated else (judged .lower).1
         | .tooth => (judged .tooth).1
       let pairs := (judged .upper).1 ≠ .isolated ∧ (judged .lower).1 ≠ .isolated ∧ full
       let lostNow := (o.upper.src.health ≠ .isolated ∧ after .upper = .isolated) ∨
         (o.lower.src.health ≠ .isolated ∧ after .lower = .isolated)
       (∀ i, (u.odu.src i).window = window i ∧ (u.odu.src i).health = after i ∧
         (u.odu.src i).inTol = (judged i).2.1 ∧ (u.odu.src i).suspectRun = (judged i).2.2) ∧
       u.odu.upper.illegalHist = illegal o.upper ∧ u.odu.lower.illegalHist = illegal o.lower ∧
       u.odu.slip =
         (if lostNow then false
           else if pairs then decide (tolerance (max (x.natAbs : Int) y.natAbs) < (x - y).natAbs)
           else o.slip) ∧
       ((∃ i, (o.src i).health ≠ .isolated ∧ (u.odu.src i).health = .isolated) →
         u.Has .position))

/-- R21: POSITION_RESTORE, by its conditions in order; accepted, it sets the interval about the position given
and makes the position RESTORED, and raises POSITION where that is a change, and nothing else. -/
def Obligations.PositionRestoreSetsTheInterval : Prop :=
  ∀ (s : State) (p : Port) (arg1 arg2 : Word),
    let c := Instr.positionRestore p arg1 arg2
    let pos := arg1.toNat + 65536 * (arg2.toNat / 32768)
    let unc := min (arg2.toNat % 32768) (s.par .uMax / 2)
    (p ≠ .c → exec c s = .next (s.writeResult p 11 .notPermitted none)) ∧
    (p = .c → s.odu.motion ≠ .standstill → exec c s = .next (s.writeResult p 11 .moving none)) ∧
    (p = .c → s.odu.motion = .standstill → s.dka.active ≠ none →
      exec c s = .next (s.writeResult p 11 .busy none)) ∧
    (p = .c → s.odu.motion = .standstill → s.dka.active = none → 120000 < pos →
      exec c s = .next (s.writeResult p 11 .badArgument none)) ∧
    (p = .c → s.odu.motion = .standstill → s.dka.active = none → pos ≤ 120000 →
      ∃ t u : State, exec c s = .next t ∧ (s.place p .positionRestore arg1 arg2).OnlyOdu u ∧
        u.Answered t p 11 .accepted ∧
        u.odu = { s.odu.clearInterval with
          pos := .restored
          lo := min (((pos : Int) - unc) * 100000).toNat 12000000000
          hi := min (((pos : Int) + unc) * 100000).toNat 12000000000 } ∧
        (s.place p .positionRestore arg1 arg2).Tells u .position (s.odu.pos ≠ .restored))

/-! ## The line profile -/

/-- R28: PROFILE_OPEN from a port, by its conditions in order. R31, R168: PROFILE_CLOSE from port C, with the
check value of the close-check record. With every block received the bank is CLOSED and the check begins at
its first byte; with one missing the bank is FAILED with MISSING_BLOCKS, the claim released and PROFILE
raised; the close check value is kept in both (log entry 22), and by an abort, too. R32, R36: PROFILE_ABORT
empties the standby bank, releases the claim and cancels a pending activation, and raises PROFILE where it
changes the bank's state; the radio's claim refuses it. -/
def Obligations.ProfileRequestsOpenAndEndTheLoad : Prop :=
  (∀ (s : State) (p : Port) (version length : Word),
     let c := Instr.profileOpen p version length
     let n := length.toNat
     let radio := ∃ k, s.lps.claim = some k ∧ k.holder = .radio
     (p ≠ .c → exec c s = .next (s.writeResult p 12 .notPermitted none)) ∧
     (p = .c → radio → exec c s = .next (s.writeResult p 12 .bankBusy none)) ∧
     (p = .c → ¬radio → (n < 21 ∨ 1069 < n) →
       exec c s = .next (s.writeResult p 12 .badArgument none)) ∧
     (p = .c → ¬radio → 21 ≤ n → n ≤ 1069 →
       exec c s = .next (State.writeResult p 12 .accepted none
         { s with lps := { s.lps.setBank s.lps.standbyId
             { role := .standby, state := .opened, image := [], length := some n,
               version := some version.toNat, header := none, result := none } with
           claim := some { holder := .portC, length := n, version := version.toNat }, closeCheck := none
           blockMap := 0, pendingAct := none, checkPos := 0, checkCrc := 0xFFFFFFFF } }))) ∧
  ((∀ (s : State) (p : Port) (version : Word),
      let c := Instr.profileClose p version
      let b := s.lps.standby
      (p ≠ .c → exec c s = .next (s.writeResult p 13 .notPermitted none)) ∧
      (p = .c → s.lps.claim = none → exec c s = .next (s.writeResult p 13 .conditions none)) ∧
      (∀ k, p = .c → s.lps.claim = some k →
        (k.holder = .radio → exec c s = .next (s.writeResult p 13 .bankBusy none)) ∧
        (k.holder = .portC → b.state = .closed →
          exec c s = .next (s.writeResult p 13 .conditions none)) ∧
        (k.holder = .portC → b.state ≠ .closed → version.toNat ≠ k.version →
          exec c s = .next (s.writeResult p 13 .version none)) ∧
        (k.holder = .portC → b.state ≠ .closed → version.toNat = k.version →
          s.lps.blocksReceived = (k.length + 7) / 8 →
          exec c s = .next (State.writeResult p 13 .accepted none
            { s with lps := { s.lps.setBank s.lps.standbyId { b with state := .closed } with
              closeCheck := some s.pif.closeCheck
              checkPos := 0, checkCrc := 0xFFFFFFFF } })) ∧
        (k.holder = .portC → b.state ≠ .closed → version.toNat = k.version →
          s.lps.blocksReceived ≠ (k.length + 7) / 8 →
          exec c s = .next (State.writeResult p 13 .accepted none (State.raise .profile
            { s with lps := { s.lps.setBank s.lps.standbyId
                { b with state := .failed, result := some .missingBlocks } with
              claim := none, closeCheck := some s.pif.closeCheck, blockMap := 0 } }))))) ∧
   (∀ (s : State) (p : Port),
      let radio := ∃ k, s.lps.claim = some k ∧ k.holder = .radio
      let u : State := { s with lps := { s.lps.setBank s.lps.standbyId
          { role := .standby, state := .empty, image := [], length := none, version := none,
            header := none, result := none } with
        claim := none, blockMap := 0, pendingAct := none, checkPos := 0, checkCrc := 0xFFFFFFFF } }
      (p ≠ .c → exec (.profileAbort p) s = .next (s.writeResult p 14 .notPermitted none)) ∧
      (p = .c → radio → exec (.profileAbort p) s = .next (s.writeResult p 14 .bankBusy none)) ∧
      (p = .c → ¬radio → s.lps.standby.state = .empty →
        exec (.profileAbort p) s = .next (u.writeResult p 14 .accepted none)) ∧
      (p = .c → ¬radio → s.lps.standby.state ≠ .empty →
        exec (.profileAbort p) s = .next ((u.raise .profile).writeResult p 14 .accepted none))))

/-- R29: a write of the whole staging window by port C, which holds the claim on the OPEN standby bank,
commits the block: its eight bytes stand at eight times the offset, high byte of each word first, every
other byte of the image is as before, the map entry is set, and nothing else of the LPS and of the ports
changes. A block that is not expected is only
counted. In both cases the window keeps its contents and the pointer stands behind it. R165: without the
claim, or with the standby bank not OPEN, or from another port, no word is kept, and it counts as refused. A
write that ends before the fourth data word is only kept; one that begins behind the offset word and reaches it
commits the block with the words that the window held before. -/
def Obligations.StagingWindowWriteCommitsTheBlock : Prop :=
  (∀ (s : State) (k : Claim) (offset d0 d1 d2 d3 : Word),
     s.pif.c.pointer = 0x248 → s.lps.claim = some k → k.holder = .portC →
     s.lps.standby.state = .opened → s.lps.standby.image.wf = true →
       let bytes := [d0, d1, d2, d3].flatMap wordBytes
       let n := offset.toNat
       ∃ t, exec (.stagingWindowWrite .c [offset, d0, d1, d2, d3]) s = .next t ∧
         t = { s with lps := t.lps, pif := { s.pif with c := { s.pif.c with pointer := 0x24D } } } ∧
         t.lps.staging = { offset := offset, d0 := d0, d1 := d1, d2 := d2, d3 := d3 } ∧
         (n < (k.length + 7) / 8 →
           t.lps = { s.lps.setBank s.lps.standbyId { s.lps.standby with image := t.lps.standby.image } with
             staging := t.lps.staging, blockMap := t.lps.blockMap } ∧
           t.lps.standby.image.wf = true ∧
           (∀ a, t.lps.standby.image.read a =
             if 8 * n ≤ a ∧ a < 8 * n + 8 then bytes.getD (a - 8 * n) 0
             else s.lps.standby.image.read a) ∧
           t.lps.blockMap = s.lps.blockMap ||| (1#134 <<< n)) ∧
         ((k.length + 7) / 8 ≤ n →
           t.lps = { s.lps with
             staging := t.lps.staging
             rejected := if s.lps.rejected < 255 then s.lps.rejected + 1 else s.lps.rejected })) ∧
  (∀ (s : State) (p : Port) (w : Word),
     (s.port p).pointer = 0x24C →
     (p ≠ .c ∨ s.lps.standby.state ≠ .opened ∨ ∀ k, s.lps.claim = some k → k.holder ≠ .portC) →
       exec (.stagingWindowWrite p [w]) s =
         .next (s.setPort p { s.port p with
           pointer := 0x24D
           refused := if (s.port p).refused < 255 then (s.port p).refused + 1
             else (s.port p).refused })) ∧
  (∀ (s : State) (k : Claim) (j : Nat) (ws : List Word),
     s.pif.c.pointer = 0x248 + j → s.lps.claim = some k → k.holder = .portC →
     s.lps.standby.state = .opened → ws ≠ [] →
       let g := s.lps.staging
       let held : List Word := [g.offset, g.d0, g.d1, g.d2, g.d3]
       let word (i : Nat) : Word :=
         if j ≤ i ∧ i < j + ws.length then ws.getD (i - j) 0 else held.getD i 0
       (j + ws.length ≤ 4 →
         exec (.stagingWindowWrite .c ws) s = .next { s with
           pif := { s.pif with c := { s.pif.c with pointer := 0x248 + j + ws.length } }
           lps := { s.lps with staging :=
             { offset := word 0, d0 := word 1, d1 := word 2, d2 := word 3, d3 := g.d3 } } }) ∧
       (j + ws.length = 5 →
         exec (.stagingWindowWrite .c ws) s = exec (.stagingWindowWrite .c (held.take j ++ ws))
           (s.setPort .c { s.pif.c with pointer := 0x248 })))

/-- R25: the CRC of a run of bytes of an image takes their bits in order, the most significant of each byte
first and the check field's bytes as zero, one shift a bit; so a run in two parts gives what the whole gives.
R26: the structural check of an image, its fields read from its bytes as 11.5 lays them out, gives the first
failure in the order of the table, and PASSED without one; after COUNT_LENGTH no later condition is tested. -/
def Obligations.StructuralCheckTakesTheFirstFailure : Prop :=
  (∀ (m : Memory) (reg : BitVec 32) (a j k : Nat),
     let bits (x : Nat) : List Bool :=
       let byte : Byte := if x ∈ [9, 10, 11, 12] then 0 else m.read x
       [7, 6, 5, 4, 3, 2, 1, 0].map fun i => byte.getLsbD i
     let shift (r : BitVec 32) (b : Bool) : BitVec 32 :=
       if r.getLsbD 31 = b then r <<< 1 else (r <<< 1) ^^^ 0x04C11DB7#32
     crc32Run m reg a k = ((List.range k).flatMap fun i => bits (a + i)).foldl shift reg ∧
       crc32Run m (crc32Run m reg a j) (a + j) k = crc32Run m reg a (j + k)) ∧
  (∀ (m : Memory) (length version : Nat) (close : Option (BitVec 32)) (crc : BitVec 32),
     let b (a : Nat) : Nat := (m.read a).toNat
     let two (a : Nat) : Nat := b a * 256 + b (a + 1)
     let three (a : Nat) : Nat := two a * 256 + b (a + 2)
     let check : BitVec 32 := m.read 9 ++ m.read 10 ++ m.read 11 ++ m.read 12
     let lineEnd := three 4
     let n := b 7
     let k := b 8
     let start (i : Nat) := three (13 + 8 * i)
     let gradient (i : Nat) : Int :=
       if two (16 + 8 * i) < 32768 then two (16 + 8 * i) else (two (16 + 8 * i) : Int) - 65536
     let ceiling (i : Nat) := two (18 + 8 * i)
     let flags (i : Nat) := b (20 + 8 * i)
     let kind (i : Nat) := flags i % 8
     let stop (i : Nat) := if i + 1 = n then lineEnd else start (i + 1)
     let ident (j : Nat) := two (13 + 8 * n + 6 * j)
     let place (j : Nat) := three (15 + 8 * n + 6 * j)
     let tol (j : Nat) := b (18 + 8 * n + 6 * j)
     let segment (f : Nat → Bool) : Bool := (List.range n).any f
     let marker (f : Nat → Bool) : Bool := (List.range k).any f
     let table : List (CheckResult × Bool) :=
       [(.countLength, decide (n < 1 ∨ 96 < n ∨ 48 < k ∨ 13 + 8 * n + 6 * k ≠ length)),
         (.headerMismatch, decide (two 2 ≠ version ∨ close ≠ some check)),
         (.firstStart, decide (start 0 ≠ 0)),
         (.segmentOrder, segment fun i => decide (0 < i ∧ start i ≤ start (i - 1))),
         (.lineEnd, decide (120000 < lineEnd ∨ lineEnd ≤ start (n - 1))),
         (.shortSegment, segment fun i => decide (stop i < start i + 10)),
         (.fieldRange,
           (segment fun i => decide (gradient i < -250 ∨ 250 < gradient i ∨ 1500 < ceiling i ∨ 4 ≤ kind i)) ||
             marker fun j => decide (tol j < 1 ∨ 50 < tol j)),
         (.flagBits, segment fun i => decide (64 ≤ flags i)),
         (.rackEntry, segment fun i => decide (kind i = 2 ∧ ¬(0 < i ∧ kind (i - 1) = 1) ∧
           ¬(i + 1 < n ∧ kind (i + 1) = 1))),
         (.markerIdentity, marker fun j => decide (4095 < ident j)),
         (.markerDuplicate, marker fun j => (List.range j).any fun i => decide (ident i = ident j)),
         (.markerOrder, marker fun j => decide ((0 < j ∧ place j < place (j - 1)) ∨ lineEnd < place j)),
         (.crc, decide (check ≠ crc))]
     structuralCheck m length version close crc = ((table.find? Prod.snd).map Prod.fst).getD .passed)

/-- R27, R37: one expiry of the 50 ms timer. A CLOSED standby bank has 64 more bytes read, or is CHECKED or
FAILED by the structural check when the last byte is read, with the claim released, the map cleared and
PROFILE raised, and takes its header fields from the image where it is CHECKED; the active bank's scrub
reads 64 more bytes or ends its pass. A pass that ends with another result than the check value takes the
active bank's role (R38), flushes the window and, after a beacon, sets the profile-outdated flag, since no
bank is active (R143). PROFILE is raised by the end of a check and by a failing scrub alone. Beside the
banks with what the check and the scrub keep, the window and that flag, nothing else changes before the
event ends. What the check and the CRC are, `StructuralCheckTakesTheFirstFailure` says. -/
def Obligations.LpsTimerChecksAndScrubs : Prop :=
  ∀ (s : State) (i : BankId),
    i = s.lps.standbyId → (s.lps.bank i).role = .standby →
      ∃ t u : State, exec .lpsTimerExpiry s = .next t ∧ u.Ends t ∧
        (let x := s.advanceTo s.lps.timer
         u = { x with lps := u.lps, ssu := u.ssu, tgh := u.tgh, pif := u.pif } ∧
         x.Tells u .profile ((u.lps.bank i).state ≠ (s.lps.bank i).state ∨
           (u.lps.bank i.other).role ≠ (s.lps.bank i.other).role)) ∧
        u.lps = { s.lps with
          x := u.lps.x, y := u.lps.y, claim := u.lps.claim, blockMap := u.lps.blockMap,
          checkPos := u.lps.checkPos, checkCrc := u.lps.checkCrc, scrubPos := u.lps.scrubPos,
          scrubCrc := u.lps.scrubCrc, passes := u.lps.passes, timer := s.lps.timer + 50000 } ∧
        u.tgh = { s.tgh with outdated := u.tgh.outdated } ∧
        ((u.lps.bank i.other).role = (s.lps.bank i.other).role → u.ssu = s.ssu ∧ u.tgh = s.tgh) ∧
        (∀ k, s.lps.claim = some k → (s.lps.bank i).state = .closed →
          let n := min 64 (k.length - s.lps.checkPos)
          let crc := crc32Run (s.lps.bank i).image s.lps.checkCrc s.lps.checkPos n
          (s.lps.checkPos + n < k.length →
            u.lps.bank i = s.lps.bank i ∧ u.lps.claim = s.lps.claim ∧
            u.lps.blockMap = s.lps.blockMap ∧
            u.lps.checkPos = s.lps.checkPos + n ∧ u.lps.checkCrc = crc) ∧
          (k.length ≤ s.lps.checkPos + n →
            let r := structuralCheck (s.lps.bank i).image k.length k.version s.lps.closeCheck crc
            u.lps.claim = none ∧ u.lps.blockMap = 0 ∧
            u.lps.checkPos = 0 ∧ u.lps.checkCrc = 0xFFFFFFFF ∧
            u.lps.bank i = { s.lps.bank i with
              state := (u.lps.bank i).state, header := (u.lps.bank i).header, result := some r } ∧
            (r ≠ .passed → (u.lps.bank i).header = (s.lps.bank i).header) ∧
            ((u.lps.bank i).state = if r = .passed then .checked else .failed) ∧
            (let b (a : Nat) : Nat := ((s.lps.bank i).image.read a).toNat
             let m := (s.lps.bank i).image
             r = .passed → (u.lps.bank i).header = some
               { lineId := b 0 * 256 + b 1, lineEnd := b 4 * 65536 + b 5 * 256 + b 6
                 nSegments := b 7, nMarkers := b 8
                 check := m.read 9 ++ m.read 10 ++ m.read 11 ++ m.read 12 }) ∧
            u.Has .profile)) ∧
        ((s.lps.bank i).state ≠ .closed ∨ s.lps.claim = none →
          u.lps.bank i = s.lps.bank i ∧ u.lps.claim = s.lps.claim ∧ u.lps.blockMap = s.lps.blockMap ∧
          u.lps.checkPos = s.lps.checkPos ∧ u.lps.checkCrc = s.lps.checkCrc) ∧
        (∀ len, (s.lps.bank i.other).role = .active → (s.lps.bank i.other).length = some len →
          let n := min 64 (len - s.lps.scrubPos)
          let crc := crc32Run (s.lps.bank i.other).image s.lps.scrubCrc s.lps.scrubPos n
          (s.lps.scrubPos + n < len →
            u.lps.bank i.other = s.lps.bank i.other ∧ u.lps.scrubPos = s.lps.scrubPos + n ∧
            u.lps.scrubCrc = crc ∧ u.lps.passes = s.lps.passes) ∧
          (len ≤ s.lps.scrubPos + n → (s.lps.bank i.other).header.map Header.check = some crc →
            u.lps.bank i.other = s.lps.bank i.other ∧ u.lps.scrubPos = 0 ∧
            u.lps.scrubCrc = 0xFFFFFFFF ∧ u.lps.passes = (s.lps.passes + 1) % 65536) ∧
          (len ≤ s.lps.scrubPos + n → (s.lps.bank i.other).header.map Header.check ≠ some crc →
            u.lps.bank i.other = { s.lps.bank i.other with
              role := .none, state := .failed, header := none, result := some .crc } ∧
            u.lps.scrubPos = 0 ∧ u.lps.scrubCrc = 0xFFFFFFFF ∧ u.lps.passes = s.lps.passes ∧
            u.ssu = { s.ssu with
              window := [], horizon := none, steepMark := false,
              flushCount := (s.ssu.flushCount + 1) % 65536 } ∧
            u.tgh.outdated = (if s.tgh.beacon = none then s.tgh.outdated else true) ∧
            u.Has .profile)) ∧
        ((s.lps.bank i.other).role ≠ .active →
          u.lps.bank i.other = s.lps.bank i.other ∧ u.lps.scrubPos = s.lps.scrubPos ∧
          u.lps.scrubCrc = s.lps.scrubCrc ∧ u.lps.passes = s.lps.passes)

/-- R34, R35: PROFILE_ACTIVATE from a port. At STANDSTILL, or with no desk active, the standby bank becomes
ACTIVE and the other one STANDBY, both with their contents, the scrub starts at the first byte, the window is
flushed and, after a beacon, the profile-outdated flag compares its line and version (R143), PROFILE is raised,
and nothing else changes before the event ends; otherwise the activation is pending. -/
def Obligations.ProfileActivateSwitchesOver : Prop :=
  ∀ (s : State) (p : Port) (version : Word),
    let c := Instr.profileActivate p version
    let b := s.lps.standby
    let now := s.odu.motion = .standstill ∨ s.dka.active = none
    let i := s.lps.standbyId
    (p ≠ .c → exec c s = .next (s.writeResult p 15 .notPermitted none)) ∧
    (p = .c → b.state ≠ .checked → exec c s = .next (s.writeResult p 15 .notChecked none)) ∧
    (p = .c → b.state = .checked → b.version ≠ some version.toNat →
      exec c s = .next (s.writeResult p 15 .version none)) ∧
    (p = .c → b.state = .checked → b.version = some version.toNat → now →
      ∃ t, exec c s = .next t ∧
        State.Answered (State.raise .profile { s.place p .profileActivate version 0#16 with
          lps := { (s.lps.setBank i { b with role := .active }).setBank i.other
              { s.lps.bank i.other with role := .standby } with
            pendingAct := none, scrubPos := 0, scrubCrc := 0xFFFFFFFF }
          ssu := { s.ssu with window := [], horizon := none, steepMark := false,
                              flushCount := (s.ssu.flushCount + 1) % 65536 }
          tgh := { s.tgh with outdated := match s.tgh.beacon with
            | none => s.tgh.outdated
            | some (line, v) =>
              decide ((b.image.read 0).toNat * 256 + (b.image.read 1).toNat ≠ line ∨
                (b.image.read 2).toNat * 256 + (b.image.read 3).toNat ≠ v) } }) t p 15 .accepted) ∧
    (p = .c → b.state = .checked → b.version = some version.toNat → ¬now →
      ∃ t, exec c s = .next t ∧
        State.Answered { s.place p .profileActivate version 0#16 with
          lps := { s.lps with pendingAct := some (version.toNat, .portC) } } t p 15 .accepted)

/-! ## Speed supervision -/

/-- R43: a cycle in NONE sets the status to NORMAL, makes every result absent and empties the window; that
it also clears the truncated and STEEP_UNBRAKED flags and keeps the direction is log entry 14, and that the
authority side becomes absent R59. R42, R48, R55, R56: a cycle in FULL with a prerequisite missing takes one
target at the front with speed 0: the curves are 0, M_sb² and M_eb² whatever the line and the travel
direction, and the status follows from the speed field, at STANDSTILL too (log entry 14). R48, R55, R56: a
cycle in SHUNT without an active profile, or without a position, has V_shunt for its MRSP and its curves
from that alone. What else a cycle in FULL or SHUNT sets, keeps and raises, `State.Supervised` says. -/
def Obligations.CyclesWithoutAWindow : Prop :=
  (∀ s : State, s.ssu.mode = .none →
     let u : State := { s.advanceTo s.ssu.timer with ssu := { s.ssu with
       timer := s.ssu.timer + 50000, status := .normal, prereqs := none, front := none, mrsp := none,
       buildUp := none, curves := none, governing := none, window := [], horizon := none,
       truncated := false, steep := false, authSide := none } }
     ∃ t, exec .supervisionCycle s = .next t ∧
       State.Ends (if s.ssu.status = .normal then u else u.raise .supervision) t) ∧
  (∀ s : State, s.ssu.mode = .full →
     let profile := decide (s.lps.x.role = .active ∨ s.lps.y.role = .active)
     let position := decide (s.odu.pos = .valid ∨ s.odu.pos = .restored)
     let authority := match s.tgh.authority with
       | none => false
       | some a => decide (s.dka.selected = none ∨ s.dka.selected = some a.dir)
     (profile && position && authority) = false →
       let v := s.odu.speed
       ∃ t u : State, exec .supervisionCycle s = .next t ∧ (s.advanceTo s.ssu.timer).Supervised u ∧ u.Ends t ∧
         u.ssu.timer = s.ssu.timer + 50000 ∧ u.ssu.mode = .full ∧
         u.ssu.prereqs =
           some { profile := profile, position := position, authority := authority } ∧
         u.ssu.mrsp = some 0 ∧
         u.ssu.curves = some { perm := 0, sb := s.par .mSb ^ 2, eb := s.par .mEb ^ 2 } ∧
         u.ssu.governing = some (0, 0) ∧ u.ssu.window = [] ∧ u.ssu.horizon = none ∧
         u.ssu.truncated = false ∧ u.ssu.authSide = none ∧ u.ssu.overrun = s.ssu.overrun ∧
         u.ssu.status =
           (if s.par .mEb ^ 2 < v ^ 2 then .emergency
             else if s.par .mSb ^ 2 < v ^ 2 ∨ (s.ssu.status = .service ∧ 0 < v) then .service
             else if 0 < v then .warning
             else .normal)) ∧
  (∀ s : State, s.ssu.mode = .shunt → (s.lps.profile = none ∨ s.odu.located = false) →
     let v := s.odu.speed
     let m := s.par .vShunt
     ∃ t u : State, exec .supervisionCycle s = .next t ∧ (s.advanceTo s.ssu.timer).Supervised u ∧ u.Ends t ∧
       u.ssu.timer = s.ssu.timer + 50000 ∧ u.ssu.mrsp = some m ∧
       u.ssu.curves =
         some { perm := m ^ 2, sb := (m + s.par .mSb) ^ 2, eb := (m + s.par .mEb) ^ 2 } ∧
       u.ssu.governing = none ∧ u.ssu.window = [] ∧ u.ssu.horizon = none ∧ u.ssu.truncated = false ∧
       u.ssu.prereqs = none ∧ u.ssu.authSide = none ∧ u.ssu.overrun = s.ssu.overrun ∧
       u.ssu.status =
         (if (m + s.par .mEb) ^ 2 < v ^ 2 then .emergency
           else if (m + s.par .mSb) ^ 2 < v ^ 2 ∨ (s.ssu.status = .service ∧ m ^ 2 < v ^ 2) then
             .service
           else if m ^ 2 < v ^ 2 then .warning
           else .normal))

/-- A cycle with a line ahead: in SHUNT, or in FULL with the prerequisites met, with the direction d of R47,
an active profile and a position. R48: the MRSP is the least of the terms that apply. R49: the window is cut
at the segment starts, at the ends of the restrictions that apply and at the end of authority that lie
between the front and the horizon; it holds the first 16 pieces, and ends, truncated, at the 16th; each
piece has its segment's kind and gradient, R50's deceleration, and the least ceiling of those that cover it;
its segment is that of its lower bound, and beyond the line end its kind, gradient and ceiling are free (log
entry 9). R51: a piece without deceleration sets STEEP_UNBRAKED, noticed once a flush. R53 to R55: the
targets with their allowances beyond the build-up distance give the curves, each the least of its MRSP term
and their values, and the governing target is the nearest of the least, the one further behind of two that
are passed (log entry 14). With neither a selected direction nor a motion there is no D: no front, no window
and no target, and the MRSP, of every restriction that meets the extent, gives the curves alone. The
prerequisites, the status, the flags, the authority side, what is kept and what is raised,
`State.Supervised` says. -/
def Obligations.CycleBuildsTheWindowAndTheTargets : Prop :=
  (∀ (s : State) (p : Profile),
    s.lps.profile = some p → (s.odu.pos = .valid ∨ s.odu.pos = .restored) →
    s.dka.selected = none → s.odu.motion = .standstill →
    (s.ssu.mode = .shunt ∨ (s.ssu.mode = .full ∧ s.tgh.authority ≠ none)) →
      let top := s.odu.pHi + s.par .lCar
      let here := p.segments.filter fun g =>
        decide (g.start ≤ top ∧ (s.odu.pLo < g.stop ∨ (g.final = true ∧ s.odu.pLo = g.stop)))
      let terms : List Nat :=
        here.map Segment.ceiling ++
          (s.ssu.restrictions.filter fun r =>
            decide (r.first ≤ top ∧ s.odu.pLo ≤ r.last)).map Restriction.speed ++
          s.ssu.cap.toList ++ (if s.tgh.link = .ok then [] else [s.par .vRloss]) ++
          (if s.ssu.mode = .shunt then [s.par .vShunt] else []) ++
          (if here.any fun g => g.kind == .rackEntry then [s.par .vRentry] else [])
      let m := terms.foldl min 1500
      let changed := s.ssu.dir ≠ none
      ∃ t u : State, exec .supervisionCycle s = .next t ∧ (s.advanceTo s.ssu.timer).Supervised u ∧ u.Ends t ∧
        u.ssu.dir = none ∧ u.ssu.front = none ∧ u.ssu.mrsp = some m ∧
        u.ssu.window = [] ∧ u.ssu.horizon = none ∧ u.ssu.truncated = false ∧ u.ssu.steep = false ∧
        u.ssu.governing = none ∧ u.ssu.authSide = none ∧ u.ssu.overrun = s.ssu.overrun ∧
        u.ssu.curves = some { perm := m ^ 2, sb := (m + s.par .mSb) ^ 2, eb := (m + s.par .mEb) ^ 2 } ∧
        u.ssu.steepMark = (s.ssu.steepMark && !decide changed) ∧
        u.ssu.flushCount = (if changed then (s.ssu.flushCount + 1) % 65536 else s.ssu.flushCount)) ∧
  ∀ (s : State) (p : Profile) (d : Dir),
    s.lps.profile = some p → (s.odu.pos = .valid ∨ s.odu.pos = .restored) →
    (s.dka.selected = some d ∨ (s.dka.selected = none ∧ s.odu.motion = match d with
      | .up => .movingUp
      | .down => .movingDown)) →
    (s.ssu.mode = .shunt ∨ (s.ssu.mode = .full ∧
      ∃ a, s.tgh.authority = some a ∧ (s.dka.selected = none ∨ s.dka.selected = some a.dir))) →
      let top := s.odu.pHi + s.par .lCar
      let front : Nat := match d with
        | .up => top
        | .down => s.odu.pLo
      let ahead (x : Nat) : Int := match d with
        | .up => (x : Int) - front
        | .down => (front : Int) - x
      let applies (r : Restriction) : Bool := match r.applies, d with
        | .both, _ => true
        | .up, .up => true
        | .down, .down => true
        | _, _ => false
      let here := p.segments.filter fun g =>
        decide (g.start ≤ top ∧ (s.odu.pLo < g.stop ∨ (g.final = true ∧ s.odu.pLo = g.stop)))
      let terms : List Nat :=
        here.map Segment.ceiling ++
          (s.ssu.restrictions.filter fun r =>
            applies r && decide (r.first ≤ top ∧ s.odu.pLo ≤ r.last)).map Restriction.speed ++
          s.ssu.cap.toList ++ (if s.tgh.link = .ok then [] else [s.par .vRloss]) ++
          (if s.ssu.mode = .shunt then [s.par .vShunt] else []) ++
          (if here.any fun g => g.kind == .rackEntry then [s.par .vRentry] else [])
      let mrsp := terms.foldl min 1500
      let buildUp := (s.odu.speed * s.par .tB + 99) / 100
      let limit : Option Nat := match s.tgh.authority with
        | none => none
        | some a => if s.ssu.mode = .full ∧ a.dir = d then some a.limit else none
      let far : Int := min (s.par .lAhead : Int) (match d with
        | .up => ahead p.lineEnd
        | .down => ahead 0)
      let cut (x : Nat) := x ∈ p.segments.map Segment.start ∨
        (∃ r ∈ s.ssu.restrictions, applies r = true ∧ (x = r.first ∨ x = r.last)) ∨ limit = some x
      let changed := s.ssu.dir ≠ some d
      ∃ t u : State, exec .supervisionCycle s = .next t ∧ (s.advanceTo s.ssu.timer).Supervised u ∧ u.Ends t ∧
        u.ssu.dir = some d ∧ u.ssu.front = some front ∧ u.ssu.mrsp = some mrsp ∧
        u.ssu.buildUp = some buildUp ∧
        u.ssu.flushCount = (if changed then (s.ssu.flushCount + 1) % 65536 else s.ssu.flushCount) ∧
        (far ≤ 0 → u.ssu.window = [] ∧ u.ssu.horizon = some far ∧ u.ssu.truncated = false) ∧
        (0 < far → ∃ bounds : List Int, bounds.Pairwise (· < ·) ∧
          (∀ x, x ∈ bounds ↔ x = 0 ∨ x = far ∨ (0 < x ∧ x < far ∧ ∃ y, cut y ∧ x = ahead y)) ∧
          u.ssu.window.length = min 16 (bounds.length - 1) ∧
          bounds[u.ssu.window.length]? = u.ssu.horizon ∧
          u.ssu.truncated = decide (17 < bounds.length) ∧
          ∀ k q, u.ssu.window[k]? = some q →
            bounds[k]? = some (q.near : Int) ∧ bounds[k + 1]? = some ((q.near : Int) + q.length)) ∧
        (∀ q ∈ u.ssu.window,
          let lower : Int := match d with
            | .up => (front : Int) + q.near
            | .down => (front : Int) - (q.near + q.length)
          let upper : Int := lower + q.length
          let base : Int := if q.kind = .rack ∨ q.kind = .rackEntry then s.par .aRack else s.par .aAdh
          let g : Int := match d with
            | .up => q.gradient
            | .down => -q.gradient
          let a : Int :=
            if 0 ≤ g then base + g * 900 / 1000 else base - ((g.natAbs * 981 + 999) / 1000 : Nat)
          let covers (r : Restriction) : Bool :=
            applies r && decide ((r.first : Int) ≤ lower ∧ upper ≤ r.last)
          (q.decel : Int) = (if a < 10 then 0 else a) ∧
          ∀ h, (p.segments.find? fun h => decide ((h.start : Int) ≤ lower ∧
              (lower < h.stop ∨ (h.final = true ∧ lower = h.stop)))) = some h →
            q.kind = h.kind ∧ q.gradient = h.gradient ∧
            q.ceiling = ((s.ssu.restrictions.filter covers).map Restriction.speed ++
              (if h.kind = .rackEntry then [s.par .vRentry] else [])).foldl min h.ceiling) ∧
        (let mark := s.ssu.steepMark && !decide changed
         u.ssu.steep = (u.ssu.window.any fun q => q.decel == 0) ∧
           u.ssu.steepMark = (mark || u.ssu.steep) ∧
           (u.ssu.steep = true → mark = false →
             u.Has .supervision)) ∧
        (let targets : List (Int × Nat) :=
           ((u.ssu.window.filter fun q => decide (q.ceiling < mrsp)).map fun q => ((q.near : Int), q.ceiling)) ++
             (match limit, u.ssu.horizon with
               | some l, some h => if ahead l ≤ h then [(ahead l, 0)] else []
               | _, _ => []) ++
             (u.ssu.horizon.map fun h => (h, 0)).toList
         let inside (q : Piece) (far : Int) : Nat :=
           (min ((q.near : Int) + q.length) far - max (q.near : Int) buildUp).toNat
         let allowance (far : Int) : Nat :=
           if far ≤ buildUp then 0 else (u.ssu.window.map fun q => 2 * q.decel * (10 * inside q far)).sum
         let value (margin : Nat) (x : Int × Nat) : Nat := (x.2 + margin) ^ 2 + allowance x.1
         let curve (margin : Nat) : Nat := (targets.map (value margin)).foldl min ((mrsp + margin) ^ 2)
         u.ssu.curves = some { perm := curve 0, sb := curve (s.par .mSb), eb := curve (s.par .mEb) } ∧
           (u.ssu.governing = none ↔ ∀ x ∈ targets, mrsp ^ 2 < value 0 x) ∧
           ∀ x, u.ssu.governing = some x → x ∈ targets ∧
             ∀ y ∈ targets, value 0 x < value 0 y ∨ (value 0 x = value 0 y ∧ x.1 ≤ y.1))

/-- R42, R47, R48, R51 to R53, R55 to R57, R59, R61: whatever the line, the list and the authority, a cycle
in SHUNT or FULL leaves curves that are no higher than their MRSP terms and, with the margins in order, rise
from the permitted to the emergency curve; the status is the one they give, from the speed field at
STANDSTILL, too, which is the model's choice (log entry 14), and the warning indication is set where it rose
or the front crossed the end of authority, and nowhere else. The mode, the restriction list, the cap and the
malformed count stand, the flush count moves on at a change of the travel direction alone, and SUPERVISION
is raised at a change of status, at a crossing and at a steep notice alone (`State.Supervised`,
Safety.lean). -/
def Obligations.CurvesAreOrderedAndGiveTheStatus : Prop :=
  ∀ s : State, s.ssu.mode ≠ .none →
    ∃ (t u : State) (k : Curves) (m : Nat), exec .supervisionCycle s = .next t ∧
      (s.advanceTo s.ssu.timer).Supervised u ∧ u.Ends t ∧
      u.ssu.curves = some k ∧ u.ssu.mrsp = some m ∧ m ≤ max 1500 (s.par .vShunt) ∧
      k.perm ≤ m ^ 2 ∧ k.sb ≤ (m + s.par .mSb) ^ 2 ∧ k.eb ≤ (m + s.par .mEb) ^ 2 ∧
      k.perm ≤ k.sb ∧ (s.par .mSb ≤ s.par .mEb → k.sb ≤ k.eb) ∧
      u.ssu.window.length ≤ 16 ∧
      u.ssu.status =
        (if k.eb < s.odu.speed ^ 2 then .emergency
          else if k.sb < s.odu.speed ^ 2 ∨ (s.ssu.status = .service ∧ k.perm < s.odu.speed ^ 2) then
            .service
          else if k.perm < s.odu.speed ^ 2 then .warning
          else .normal) ∧
      (u.ssu.warning = true ↔ s.ssu.warning = true ∨ s.ssu.status.rank < u.ssu.status.rank ∨
        (s.advanceTo s.ssu.timer).Crosses u) ∧
      (s.ssu.mode = .shunt → u.ssu.overrun = s.ssu.overrun ∧ u.ssu.authSide = none) ∧
      u.ssu.restrictions = s.ssu.restrictions ∧ u.ssu.cap = s.ssu.cap ∧
      u.ssu.malformed = s.ssu.malformed ∧ u.ssu.mode = s.ssu.mode ∧
      (u.ssu.status ≠ s.ssu.status → u.Has .supervision)

/-- R47, R59: in FULL with the prerequisites met and the authority in the travel direction D, which is the
selected direction or, with none selected, that of the motion, the crossing of the end of authority by the
front, with the car moving, sets OVERRUN and the warning indication; a car that stands, or whose recorded
side was not AHEAD, or was of another D, only records the side. With another D, or none, the side becomes
absent. What else the cycle sets, keeps and raises, `State.Supervised` says. -/
def Obligations.PassingTheEndOfAuthorityIsAnOverrun : Prop :=
  ∀ (s : State) (a : Authority),
    s.ssu.mode = .full → s.lps.profile ≠ none → (s.odu.pos = .valid ∨ s.odu.pos = .restored) →
    s.tgh.authority = some a → (s.dka.selected = none ∨ s.dka.selected = some a.dir) →
      let d : Option Dir := match s.dka.selected, s.odu.motion with
        | some d, _ => some d
        | none, .movingUp => some .up
        | none, .movingDown => some .down
        | none, .standstill => none
      let beyond := match a.dir with
        | .up => decide (a.limit < s.odu.pHi + s.par .lCar)
        | .down => decide (s.odu.pLo < a.limit)
      let crossed := d = some a.dir ∧ s.ssu.dir = some a.dir ∧ s.ssu.authSide = some .ahead ∧
        beyond = true ∧ s.odu.motion ≠ .standstill
      ∃ t u : State, exec .supervisionCycle s = .next t ∧ (s.advanceTo s.ssu.timer).Supervised u ∧ u.Ends t ∧
        (d = some a.dir → u.ssu.authSide = some (if beyond then .beyond else .ahead)) ∧
        (d ≠ some a.dir → u.ssu.authSide = none) ∧
        (crossed → u.ssu.overrun = true ∧ u.ssu.warning = true ∧
          u.Has .supervision ∧
          t.brm.rows.supervision = { level := .emergency, reason := some .overrun } ∧
          t.brm.level = .emergency) ∧
        (¬crossed → u.ssu.overrun = s.ssu.overrun)

/-- R41, R52: SHUNT and FULL, by their conditions in order; the request for the mode in force changes nothing
but the result, and another mode flushes the window. That the prerequisites become absent with the change, and
are made afresh at the next cycle, is the model's reading (log entry 14). -/
def Obligations.ModeRequestsSelectTheMode : Prop :=
  ∀ (s : State) (p : Port) (m : Mode), m = .shunt ∨ m = .full →
    let c := if m = .shunt then Instr.shunt p else Instr.full p
    let k := if m = .shunt then ReqKind.shunt else ReqKind.full
    let code : Word := if m = .shunt then 4 else 5
    (p = .c → exec c s = .next (s.writeResult p code .notPermitted none)) ∧
    (p ≠ .c → s.dka.active ≠ portDesk p →
      exec c s = .next (s.writeResult p code .notActiveDesk none)) ∧
    (p ≠ .c → s.dka.active = portDesk p → s.odu.motion ≠ .standstill →
      exec c s = .next (s.writeResult p code .moving none)) ∧
    (p ≠ .c → s.dka.active = portDesk p → s.odu.motion = .standstill →
      let u := s.place p k 0#16 0#16
      ∃ t, exec c s = .next t ∧
        State.Answered
          (if s.ssu.mode = m then u
            else State.raise .supervision { u with ssu := { s.ssu with
              mode := m, prereqs := none, window := [], horizon := none, steepMark := false,
              flushCount := (s.ssu.flushCount + 1) % 65536 } }) t p code .accepted)

/-- R58, R60: ACKNOWLEDGE, by its conditions in order; accepted, it clears the warning indication and
OVERRUN, and SUPERVISION is raised where OVERRUN was set. -/
def Obligations.AcknowledgeClearsWarningAndOverrun : Prop :=
  ∀ (s : State) (p : Port),
    let c := Instr.acknowledge p
    (p = .c → exec c s = .next (s.writeResult p 6 .notPermitted none)) ∧
    (p ≠ .c → s.dka.active ≠ portDesk p →
      exec c s = .next (s.writeResult p 6 .notActiveDesk none)) ∧
    (p ≠ .c → s.dka.active = portDesk p → s.ssu.overrun = true → s.odu.motion ≠ .standstill →
      exec c s = .next (s.writeResult p 6 .moving none)) ∧
    (p ≠ .c → s.dka.active = portDesk p → (s.ssu.overrun = false ∨ s.odu.motion = .standstill) →
      let u : State := { s.place p .acknowledge 0#16 0#16 with
        ssu := { s.ssu with warning := false, overrun := false } }
      ∃ t, exec c s = .next t ∧
        State.Answered (if s.ssu.overrun then u.raise .supervision else u) t p 6 .accepted)

/-! ## Brake and traction -/

/-- R66: BRAKE_RESET, by its conditions in order; accepted, it clears the latch and leaves the loop-forced
state, or changes nothing where the latch is clear. From a settled state the latch is clear afterwards, and the
effective level is the highest of the rows (R64). -/
def Obligations.BrakeResetClearsTheLatch : Prop :=
  ∀ (s : State) (p : Port),
    let c := Instr.brakeReset p
    let blocked := (∃ i, (s.brm.rows.get i).level = .emergency) ∨ s.brm.senseOpen = true ∨
      s.brm.upper.fault = some .failApply ∨ s.brm.lower.fault = some .failApply
    let mine := p ≠ .c ∧ s.dka.active = portDesk p
    let still := s.odu.motion = .standstill
    (p = .c → exec c s = .next (s.writeResult p 7 .notPermitted none)) ∧
    (p ≠ .c → s.dka.active ≠ portDesk p →
      exec c s = .next (s.writeResult p 7 .notActiveDesk none)) ∧
    (mine → ¬still → exec c s = .next (s.writeResult p 7 .moving none)) ∧
    (mine → still → blocked → exec c s = .next (s.writeResult p 7 .conditions none)) ∧
    (mine → still → ¬blocked →
      let u := s.place p .brakeReset 0#16 0#16
      ∃ t, exec c s = .next t ∧
        State.Answered
          (if s.brm.latch = none then u
            else State.raise .brake
              { u with brm := { s.brm with latch := none, loopForced := false } }) t p 7 .accepted ∧
        (s.brm.latch ≠ none → t.brm.loopForced = false) ∧
        (s.Settled → t.brm.latch = none ∧ (∀ r, (t.brm.rows.get r).level.rank ≤ t.brm.level.rank) ∧
          (t.brm.level = .none ∨ ∃ r, (t.brm.rows.get r).level = t.brm.level)))

/-- R67 to R71: the end of a pressure gate. The pulses give the measured pressure or SENSOR_FAULT, whose
change raises BRAKE; the target is that of the level; FRICTION_FAULT is cleared where the target is reached,
which raises BRAKE; the proving condition is tested, and its timer started or stopped where that changes;
and the valves take the choice, APPLY and RELEASE never following each other without LAP and its dead time.
Before the event ends nothing else changes: not the effort, the loop sense, the departure, the hold delay,
the band brakes, the rows, the level or the latch. R74: in ADHESION a pressure that has changed proves
holding where it is at least P_hold - band. In a quiet state the level stands, and with it the valves and
the target so chosen; what another level chooses then, `State.Brakes` of each pass says. A pulse of the
sensor within the gate is one pulse more. -/
def Obligations.PressureGateMeasuresAndChoosesTheValve : Prop :=
  ∀ s : State,
    let n := s.brm.pulses
    let m : Option Nat := if 90 ≤ n ∧ n ≤ 510 then some (min 1000 ((n - 100) * 5 / 2)) else none
    let blend := (-s.brm.effort).toNat * s.par .pFs / 100
    let target := match s.brm.level with
      | .none => 0
      | .hold => s.par .pHold
      | .service p => p * s.par .pFs / 100 - blend
      | .fullService => s.par .pFs - blend
      | .emergency => s.par .pEm
    let choice : Valve := match m with
      | none => if s.brm.level = .none then .release else .apply
      | some m =>
        if m + s.par .band < target then .apply
        else if target + s.par .band < m then .release
        else .lap
    let free (c : OpenValve) := s.brm.lastOpen = none ∨ s.brm.lastOpen = some c ∨ s.brm.deadTimer = none
    let x := s.advanceTo s.brm.gateTimer
    let due := some (x.now + s.par .tDead * 1000)
    let friction := s.brm.frictionFault &&
      !(decide (s.par .pHold ≤ target) && m.any fun k => decide (target ≤ k + s.par .band))
    let proving := decide (s.par .pHold ≤ target) && !s.brm.loopForced &&
      m.all fun k => decide (k + s.par .band < target)
    ∃ t u : State, exec .pressureGateEnd s = .next t ∧ u.Ends t ∧
      u = { x with brm := u.brm, pif := u.pif } ∧
      x.Tells u .brake (s.brm.sensorFault ≠ m.isNone ∨ s.brm.frictionFault ≠ friction) ∧
      u.brm = { x.brm with
        gateTimer := s.brm.gateTimer + 100000, pulses := 0, measured := m, sensorFault := m.isNone
        target := target, frictionFault := friction, proving := proving
        proveTimer :=
          if proving = s.brm.proving then s.brm.proveTimer
          else if proving then some (x.now + s.par .tFprove * 1000)
          else none
        proveSeen :=
          { target := target, loopForced := s.brm.loopForced, sensorFault := m.isNone, measured := m }
        valve := u.brm.valve, lastOpen := u.brm.lastOpen, waiting := u.brm.waiting
        deadTimer := u.brm.deadTimer } ∧
      u.brm.valves =
        s.brm.valvesAfter (if s.brm.loopForced then none else some choice) (x.now + s.par .tDead * 1000) ∧
      t.brm.gateTimer = s.brm.gateTimer + 100000 ∧ t.brm.pulses = 0 ∧ t.brm.measured = m ∧
      t.brm.sensorFault = m.isNone ∧ u.brm.target = target ∧
      (s.Quiet → t.brm.level = s.brm.level ∧ t.brm.target = u.brm.target ∧ t.brm.valve = u.brm.valve ∧
        t.brm.lastOpen = u.brm.lastOpen ∧ t.brm.waiting = u.brm.waiting ∧ t.brm.deadTimer = u.brm.deadTimer) ∧
      (s.odu.regime = .adhesion → s.brm.holdSeen.measured = s.brm.measured → m ≠ s.brm.measured →
        (t.brm.holding = true ↔ ∃ k, m = some k ∧ s.par .pHold ≤ k + s.par .band)) ∧
      (s.brm.sensorFault ≠ m.isNone → u.Has .brake) ∧
      (t.brm.frictionFault = true ↔ s.brm.frictionFault = true ∧
        ¬(s.par .pHold ≤ target ∧ ∃ k, m = some k ∧ target ≤ k + s.par .band)) ∧
      (s.brm.frictionFault = true → t.brm.frictionFault = false → u.Has .brake) ∧
      (s.brm.loopForced = true → u.brm.valves = s.brm.valves) ∧
      (s.brm.loopForced = false → choice = .lap → u.brm.valve = .lap ∧ u.brm.waiting = none ∧
        u.brm.deadTimer = if s.brm.valve = .lap then s.brm.deadTimer else due) ∧
      (s.brm.loopForced = false → choice = s.brm.valve → choice ≠ .lap → u.brm.valves = s.brm.valves) ∧
      (∀ c : OpenValve, s.brm.loopForced = false → choice = c.valve →
        (s.brm.valve = .lap → free c →
          u.brm.valve = c.valve ∧ u.brm.waiting = none ∧ u.brm.deadTimer = none) ∧
        (s.brm.valve = .lap → ¬free c →
          u.brm.valve = .lap ∧ u.brm.waiting = some c ∧ u.brm.deadTimer = s.brm.deadTimer) ∧
        (s.brm.valve ≠ .lap → s.brm.valve ≠ c.valve →
          u.brm.valve = .lap ∧ u.brm.waiting = some c ∧ u.brm.lastOpen ≠ some c ∧
          u.brm.deadTimer = due)) ∧
      exec .pressureSensorPulse s = .next { s with brm := { s.brm with pulses := n + 1 } }

/-- R70: the dead time's expiry takes the waiting choice, unless the loop forces the valves; with nothing
waiting nothing else happens. R81, R84: T_hold's expiry lets the HOLD row stand while the car does, unless
the departure that the event ends in is RELEASED; the stall timer's expiry in PULLING makes the departure
STALLED, with its notice, and it stays so where R84 does not abandon it and R83 does not release it. The
expiry of a timer that does not run leaves the state as it is (the model's choice, log entry 2). -/
def Obligations.BrakeTimersExpire : Prop :=
  (∀ s : State,
     (s.brm.deadTimer = none → exec .deadTimeExpiry s = .next s) ∧
     (∀ d, s.brm.deadTimer = some d →
       let x := s.advanceTo d
       exec .deadTimeExpiry s = .next { x with brm :=
         if s.brm.loopForced then { x.brm with deadTimer := none }
         else match s.brm.waiting with
           | none => { x.brm with deadTimer := none }
           | some .apply => { x.brm with deadTimer := none, waiting := none, valve := .apply }
           | some .release => { x.brm with deadTimer := none, waiting := none, valve := .release } })) ∧
  (∀ s : State,
     (s.brm.holdTimer = none → exec .holdDelayExpiry s = .next s) ∧
     (∀ d, s.brm.holdTimer = some d →
       let x := s.advanceTo d
       ∃ t, exec .holdDelayExpiry s = .next t ∧
         State.Ends { x with brm := { x.brm with holdTimer := none, holdElapsed := true } } t ∧
         t.brm.holdTimer = none ∧ t.brm.holdElapsed = true ∧
         t.brm.rows.hold =
           (if s.dka.active = none then { level := .fullService, reason := some .noDesk }
             else if s.odu.motion = .standstill ∧ t.brm.departure ≠ .released then
               { level := .hold, reason := some .standing }
             else { level := .none, reason := none })) ∧
     (s.brm.stallTimer = none → exec .stallTimerExpiry s = .next s) ∧
     (∀ d, s.brm.stallTimer = some d →
       let x := s.advanceTo d
       ∃ t, exec .stallTimerExpiry s = .next t ∧
         State.Ends
           (if s.brm.departure = .pulling then State.raise .departureStall
               { x with brm := { x.brm with stallTimer := none, departure := .stalled } }
             else { x with brm := { x.brm with stallTimer := none } }) t ∧
         (s.Settled → s.lps.pendingAct = none → s.brm.departure = .pulling → ¬s.MustAbandon →
           ¬s.EffortReached → t.brm.departure = .stalled ∧ t.brm.stallTimer = none ∧
             t.Has .departureStall)))

/-- R71, R73: the expiry of pressure proving sets FRICTION_FAULT; that of a band brake's proving sets its
fault, FAIL_RELEASE where the output is energised and FAIL_APPLY, which sets the latch, where it is not.
Each raises BRAKE. A change of an applied switch restarts the proving while the switch disagrees with the
output, and ends it, clearing a fault, where they agree. In a quiet state the outputs stand, and with them
the provings so set; what a change of the outputs makes of a band brake, `State.Brakes` of each pass says.
That a switch that reads as before has not changed, and that the expiry of a timer that does not run does
nothing, is the model's choice (log entry 2). -/
def Obligations.ProvingSetsAndClearsItsFaults : Prop :=
  (∀ (s : State) (b : Bogie),
     (s.brm.proveTimer = none → exec .frictionProveExpiry s = .next s) ∧
     (∀ d, s.brm.proveTimer = some d →
       let x := s.advanceTo d
       ∃ t, exec .frictionProveExpiry s = .next t ∧
         State.Ends (State.raise .brake
           { x with brm := { x.brm with proveTimer := none, frictionFault := true } }) t ∧
         t.brm.frictionFault = true ∧ t.Has .brake ∧ (s.Quiet → t.brm.proveTimer = none)) ∧
     ((s.brm.bandOf b).prove = none → exec (.pinionProveExpiry b) s = .next s) ∧
     (∀ d, (s.brm.bandOf b).prove = some d →
       let x := s.advanceTo d
       let v (f : PinionFault) : Band := { s.brm.bandOf b with prove := none, fault := some f }
       ∃ t, exec (.pinionProveExpiry b) s = .next t ∧
         State.Ends
           (State.raise .brake
             (if s.brm.energised then { x with brm := x.brm.setBand b (v .failRelease) }
               else { x with brm := { x.brm.setBand b (v .failApply) with
                 latch := some (s.brm.latch.getD .pinionApply) } })) t ∧
         t.Has .brake ∧
         (s.brm.energised = false → t.brm.bandOf b = v .failApply ∧ t.brm.level = .emergency ∧
           t.brm.latch = some (s.brm.latch.getD .pinionApply)) ∧
         (s.brm.energised = true → s.Quiet → t.brm.bandOf b = v .failRelease))) ∧
  (∀ (s : State) (b : Bogie) (applied : Bool),
     let v := s.brm.bandOf b
     (v.applied = applied → exec (.appliedSwitchChange b applied) s = .next s) ∧
     (v.applied ≠ applied →
       ∃ t, exec (.appliedSwitchChange b applied) s = .next t ∧
         State.Ends
           (if applied = s.brm.energised then
             { s with brm := s.brm.setBand b { v with
                 applied := applied, prove := some (s.now + s.par .tPprove * 1000) } }
           else if v.fault = none then
             { s with brm := s.brm.setBand b { v with applied := applied, prove := none } }
           else State.raise .brake
             { s with brm := s.brm.setBand b { v with
                 applied := applied, prove := none, fault := none } }) t ∧
         (s.Quiet → t.brm.energised = s.brm.energised ∧ t.brm.bandOf b =
           if applied = s.brm.energised then
             { v with applied := applied, prove := some (s.now + s.par .tPprove * 1000) }
           else { v with applied := applied, prove := none, fault := none }) ∧
         (v.fault ≠ none → applied ≠ s.brm.energised → t.Has .brake)))

/-- R76: a feedback period of 900 to 1,100 µs gives the effort, its duty of 50% being 0 and its range held
to -100 to 100, and any other period none; 1,100 µs without a rising edge, none either. The timeout without its
timer running does nothing (the model's choice, log entry 2). -/
def Obligations.EffortFeedbackGivesTheEffort : Prop :=
  ∀ (s : State) (period high : Nat),
    let valid := 900 ≤ period ∧ period ≤ 1100
    let duty : Int := high * 1000 / period
    let effort : Int := if valid then max (-100) (min 100 ((duty - 500).tdiv 5)) else 0
    (∃ t, exec (.effortFeedbackPeriod period high) s = .next t ∧
      State.Ends { s with brm := { s.brm with
        effort := effort, effortValid := decide valid, feedbackTimer := some (s.now + 1100) } } t) ∧
    (s.brm.feedbackTimer = none → exec .feedbackTimeout s = .next s) ∧
    (∀ d, s.brm.feedbackTimer = some d →
      let x := s.advanceTo d
      ∃ t, exec .feedbackTimeout s = .next t ∧
        State.Ends { x with brm := { x.brm with
          effort := 0, effortValid := false, feedbackTimer := none } } t)

/-- R79, R80: the opening of a closed sense input forces LAP, the release outputs off and, by its row,
EMERGENCY; the closing of an open one leaves the loop-forced state standing. Each of the two raises BRAKE. An
opening of an input that is open, or a closing of one that is closed, is no event (the model's choice, log
entries 2 and 19). -/
def Obligations.LoopSenseForcesTheBrakes : Prop :=
  ∀ s : State,
    let dead := s.brm.valve ≠ .lap
    (s.brm.senseOpen = true → exec .loopSenseOpen s = .next s) ∧
    (s.brm.senseOpen = false →
      ∃ t, exec .loopSenseOpen s = .next t ∧
        State.Ends (State.raise .brake { s with brm := { s.brm with
          senseOpen := true, loopForced := true, valve := .lap, waiting := none
          lastOpen := match s.brm.valve with
            | .apply => some .apply
            | .release => some .release
            | .lap => s.brm.lastOpen
          deadTimer := if dead then some (s.now + s.par .tDead * 1000) else s.brm.deadTimer } }) t ∧
        t.brm.rows.loop = { level := .emergency, reason := some .loopOpen } ∧
        t.brm.level = .emergency ∧ t.brm.energised = false ∧ t.brm.pinion = .applied ∧
        t.brm.loopForced = true ∧ t.brm.valve = .lap ∧ t.brm.waiting = none ∧
        t.brm.lastOpen = (match s.brm.valve with
          | .apply => some .apply
          | .release => some .release
          | .lap => s.brm.lastOpen) ∧
        t.brm.deadTimer = (if dead then some (s.now + s.par .tDead * 1000) else s.brm.deadTimer) ∧
        t.Has .brake) ∧
    (s.brm.senseOpen = false → exec .loopSenseClose s = .next s) ∧
    (s.brm.senseOpen = true →
      ∃ t, exec .loopSenseClose s = .next t ∧
        State.Ends (State.raise .brake { s with brm := { s.brm with senseOpen := false } }) t ∧
        t.brm.loopForced = s.brm.loopForced ∧ t.brm.rows.loop = { level := .none, reason := none } ∧
        t.Has .brake)

/-- R82 to R85: a departure, with the gate's conditions met, no row but HOLD standing, the readers settled and
no activation pending, in which a step of the departure is what an event asks for. R82, R83: a demand written at
STANDSTILL under HOLD begins it, with the required effort of the greatest gradient under the position, and the
stall timer at 5 s; so does the end of T_hold under a demand that is being carried, without interruption. R83:
valid feedback of the required effort releases the hold, at the beginning too, and then the level is NONE. R84:
a demand of 0% abandons it, and so does the record's becoming stale. R85: a released hold is taken back where
the demand falls to 0% at STANDSTILL, and ends as the car leaves it. The traction output carries the demand
while the gate is open, and the electric brake's duty is 0% at HOLD and NONE (R75). -/
def Obligations.DepartureFollowsTheDemandAndTheEffort : Prop :=
  ∀ (s : State) (p : Port) (desk : Desk) (d : Dir) (n : Word),
    let clear : Row := { level := .none, reason := none }
    let standing : Row := { level := .hold, reason := some .standing }
    let cab := s.dka.cab desk
    let others := s.brm.rows.cab = clear ∧ s.brm.rows.supervision = clear ∧ s.brm.rows.doors = clear ∧
      s.brm.rows.radio = clear ∧ s.brm.rows.odometry = clear ∧ s.brm.rows.loop = clear
    let switch : Word := match cab.switch with
      | .forward => 0#16
      | .neutral => 1#16
      | .reverse => 2#16
    let writes := exec (.cabControlWrite p [n, 0#16, switch]) s
    let gradient (g : Segment) : Int := match d with
      | .up => g.gradient
      | .down => -g.gradient
    let steepest : Nat := match s.lps.profile with
      | none => 0
      | some q =>
        if s.odu.pos = .valid ∨ s.odu.pos = .restored then
          ((q.segments.filter fun g => decide (g.start ≤ s.odu.pHi ∧
            (s.odu.pLo < g.stop ∨ (g.final = true ∧ s.odu.pLo = g.stop)))).map fun g =>
              (gradient g).toNat).foldl max 0
        else 0
    let required := (steepest * s.par .hFactor + 249) / 250
    let reached (r : Nat) := s.brm.effortValid = true ∧ (r : Int) ≤ s.brm.effort
    let demand := min 100 n.toNat
    let pulls (t : State) (from' : Nat) (duty : Nat) := t.brm.departure = .pulling ∧
      t.brm.stallTimer = some (from' + 5000000) ∧ t.brm.level = .hold ∧ t.brm.rows.hold = standing ∧
      t.brm.traction.latched = duty ∧ t.brm.ebrake.latched = 0
    let freed (t : State) (duty : Nat) := t.brm.departure = .released ∧ t.brm.stallTimer = none ∧
      t.brm.level = .none ∧ t.brm.rows.hold = clear ∧ t.brm.traction.latched = duty ∧
      t.brm.ebrake.latched = 0
    let idle (t : State) := t.brm.departure = .idle ∧ t.brm.stallTimer = none ∧
      t.brm.traction.latched = 0 ∧ t.brm.traction.driven = 0
    let pulling := s.brm.departure = .pulling ∨ s.brm.departure = .stalled
    s.Settled → s.GateButLevel → others → s.lps.pendingAct = none → portDesk p = some desk →
    s.dka.active = some desk → s.dka.selected = some d → cab.handle = .percent 0 →
    s.dka.switch = some cab.switch → s.brm.stallTimer.isSome = decide (s.brm.departure = .pulling) →
    s.brm.ebrake.latched = 0 →
    (s.port p).pointer = (match desk with
      | .u => 0x020
      | .l => 0x028) →
      (s.odu.motion = .standstill → s.brm.departure = .idle → s.brm.holdElapsed = true →
        s.brm.rows.hold = standing → n ≠ 0#16 →
        ∃ t : State, writes = .next t ∧ t.brm.required = required ∧
          (¬reached required → pulls t s.now demand) ∧ (reached required → freed t demand)) ∧
      (∀ e, s.odu.motion = .standstill → s.brm.departure = .idle → s.brm.holdTimer = some e →
        s.brm.rows.hold = clear → 0 < cab.traction →
        ∃ t : State, exec .holdDelayExpiry s = .next t ∧ t.brm.required = required ∧
          (¬reached required → pulls t (s.advanceTo e).now cab.traction) ∧
          (reached required → freed t cab.traction)) ∧
      (∀ period high, pulling → s.odu.motion = .standstill → s.brm.holdElapsed = true →
        s.brm.rows.hold = standing → 0 < cab.traction →
        let effort : Int := max (-100) (min 100 (((high * 1000 / period : Nat) - 500 : Int).tdiv 5))
        ∃ t : State, exec (.effortFeedbackPeriod period high) s = .next t ∧ t.brm.required = s.brm.required ∧
          (900 ≤ period → period ≤ 1100 → (s.brm.required : Int) ≤ effort → freed t cab.traction) ∧
          (¬(900 ≤ period ∧ period ≤ 1100 ∧ (s.brm.required : Int) ≤ effort) →
            t.brm.departure = s.brm.departure ∧ t.brm.stallTimer = s.brm.stallTimer ∧
              t.brm.level = .hold ∧ t.brm.rows.hold = standing ∧ t.brm.traction.latched = cab.traction)) ∧
      (pulling → s.odu.motion = .standstill → s.brm.holdElapsed = true → s.brm.rows.hold = standing →
        (n = 0#16 → ∃ t : State, writes = .next t ∧ idle t ∧ t.brm.level = .hold ∧
          t.brm.rows.hold = standing) ∧
        ∃ t : State, exec (.freshnessExpiry desk) s = .next t ∧ idle t ∧ t.brm.level = .fullService) ∧
      (s.brm.departure = .released → s.odu.motion = .standstill → s.brm.holdElapsed = true →
        s.brm.rows.hold = clear → 0 < cab.traction →
        (n = 0#16 → ∃ t : State, writes = .next t ∧ idle t ∧ t.brm.level = .hold ∧
          t.brm.rows.hold = standing) ∧
        (n ≠ 0#16 → ∃ t : State, writes = .next t ∧ freed t demand)) ∧
      (∀ i : Bogie, s.brm.departure = .released → s.odu.motion = .standstill → s.brm.rows.hold = clear →
        0 < cab.traction → (s.odu.encoder i).src.health ≠ .isolated →
        (s.ssu.mode = .shunt ∨ s.odu.pos = .valid ∨ s.odu.pos = .restored) →
        (let e := s.odu.encoder i
         let moves (t : State) := t.odu.motion ≠ .standstill ∧ t.brm.departure = .idle ∧
           t.brm.rows.hold = clear ∧ t.brm.level = .none ∧ t.brm.traction.latched = cab.traction
         (e.src.leaving = 7 →
           ∃ t, exec (.encoderEdge i (!e.phaseB) e.phaseA) s = .next t ∧ moves t) ∧
         (e.src.leaving = -7 →
           ∃ t, exec (.encoderEdge i e.phaseB (!e.phaseA)) s = .next t ∧ moves t)))

/-! ## Passenger doors -/

/-- R89, R92 to R98, R100: LK set or cleared, OP set or cleared, by the state of the door. Only that door
changes before the event ends, and a fault raises DOOR. R93, R95 to R97, R99: the edge and the button, by
the state of the door. R91: a door that is to stand still is driven at 0% at once, from the start of a new
period; that this period drives the direction latched, that a motor at 0% begins none, and that a door
locking on a granted side is RELEASED by one change, is the model's reading (log entry 20). The edge's
becoming active reverses a closing door, or is a fault after three reversals; a press opens a released door,
restarts a dwell, and opens or reverses a closing door whose side is granted. -/
def Obligations.DoorInputsMoveTheDoor : Prop :=
  (∀ (s : State) (i : DoorId),
     let d := s.door i
     let granted := (s.drc.side (doorSide i)).granted ≠ none
     let off : Motor :=
       if d.motor.latched = 0 ∧ d.motor.driven = 0 then d.motor
       else { d.motor with
         latched := 0, driven := 0, drivenDir := d.motor.latchedDir, next := s.now + s.par .tPwm }
     let tested := match d.state with
       | .fault _ => false
       | .isolated => false
       | _ => true
     let fault (r : DoorFault) (d : Door) : State := State.raise .door
       (s.setDoor i { d with state := .fault r, timer := none, motor := off })
     let locks : Door := { d with
       lk := true, state := if granted then .released else .locked, timer := none, motor := off,
       reversals := 0 }
     let opens : Door := { d with
       op := true, state := .opened, motor := off
       timer := if granted ∧ s.par .tDwell ≠ 0 then some (.dwell, s.now + s.par .tDwell * 1000)
         else none }
     let warns : Door := { d with
       op := true, state := .warning, motor := off, timer := some (.tWarn, s.now + s.par .tWarn * 1000) }
     (∃ t, exec (.lkSet i) s = .next t ∧
       State.Ends
         (if tested && d.op then fault .switchConflict { d with lk := true }
           else if d.state = .closing ∨ d.state = .reversing .stop then s.setDoor i locks
           else s.setDoor i { d with lk := true }) t) ∧
     (∃ t, exec (.lkCleared i) s = .next t ∧
       State.Ends
         (if d.state = .locked ∨ d.state = .released then fault .lockLost { d with lk := false }
           else s.setDoor i { d with lk := false }) t) ∧
     (∃ t, exec (.opSet i) s = .next t ∧
       State.Ends
         (if tested && d.lk then fault .switchConflict { d with op := true }
           else if d.state = .opening then s.setDoor i opens
           else if d.state = .reversing .stop ∨ d.state = .reversing .drive then s.setDoor i warns
           else s.setDoor i { d with op := true }) t) ∧
     (∃ t, exec (.opCleared i) s = .next t ∧ State.Ends (s.setDoor i { d with op := false }) t)) ∧
  (∀ (s : State) (i : DoorId),
     let d := s.door i
     let granted := (s.drc.side (doorSide i)).granted ≠ none
     let off : Motor :=
       if d.motor.latched = 0 ∧ d.motor.driven = 0 then d.motor
       else { d.motor with
         latched := 0, driven := 0, drivenDir := d.motor.latchedDir, next := s.now + s.par .tPwm }
     let reverses : Door := { d with
       state := .reversing .stop, motor := off, timer := some (.stopInterval, s.now + 100000) }
     let pressed : Door := { d with pb := true }
     let dwell := some (DoorTimer.dwell, s.now + s.par .tDwell * 1000)
     (∃ t, exec (.edActive i false) s = .next t ∧ State.Ends (s.setDoor i { d with ed := false }) t) ∧
     (∃ t, exec (.edActive i true) s = .next t ∧
       State.Ends
         (if d.state ≠ .closing then s.setDoor i { d with ed := true }
           else if d.reversals < 3 then
             s.setDoor i { reverses with ed := true, reversals := d.reversals + 1 }
           else State.raise .door (s.setDoor i { d with
             ed := true, state := .fault .reversalLimit, timer := none, motor := off })) t) ∧
     (∃ t, exec (.pbPressed i false) s = .next t ∧ State.Ends (s.setDoor i { d with pb := false }) t) ∧
     (∃ t, exec (.pbPressed i true) s = .next t ∧
       State.Ends
         (s.setDoor i (match d.state with
           | .released => { pressed with
               state := .opening, timer := some (.tOpen, s.now + s.par .tOpen * 1000)
               motor := { d.motor with latched := s.par .dOpen, latchedDir := .opens } }
           | .opened => if d.timer = none then pressed else { pressed with timer := dwell }
           | .warning =>
             if granted then { pressed with
               state := .opened, motor := off, timer := if s.par .tDwell = 0 then none else dwell }
             else pressed
           | .closing => if granted then { reverses with pb := true } else pressed
           | _ => pressed)) t))

/-- R94 to R99: the expiries of a door's timers. Each acts at its timer's time, on the door it belongs to; a
door on which that timer does not run is left as it is (the model's choice, log entry 2). On entering CLOSING
the edge is looked at before the lock, and a door that locks on a granted side is RELEASED by one change (the
model's choices, log entry 20). -/
def Obligations.DoorTimersMoveTheDoor : Prop :=
  ∀ (s : State) (i : DoorId) (k : DoorTimer),
    let c := match k with
      | .tOpen => Instr.tOpenExpiry i
      | .dwell => Instr.dwellExpiry i
      | .tWarn => Instr.tWarnExpiry i
      | .tClose => Instr.tCloseExpiry i
      | .stopInterval => Instr.stopIntervalExpiry i
      | .tRev => Instr.tRevExpiry i
    ((∀ τ, (s.door i).timer ≠ some (k, τ)) → exec c s = .next s) ∧
    (∀ τ, (s.door i).timer = some (k, τ) →
      let x := s.advanceTo τ
      let d := x.door i
      let granted := (s.drc.side (doorSide i)).granted ≠ none
      let off (m : Motor) := m.off (s.par .tPwm) x.now
      let closes : Motor := { d.motor with latched := s.par .dClose, latchedDir := .closes }
      let fault (r : DoorFault) (m : Motor) : State := State.raise .door
        (x.setDoor i { d with state := .fault r, timer := none, motor := off m })
      let reversal (m : Motor) : State :=
        if d.reversals < 3 then x.setDoor i { d with
          state := .reversing .stop, timer := some (.stopInterval, x.now + 100000), motor := off m,
          reversals := d.reversals + 1 }
        else fault .reversalLimit m
      let warns : State := x.setDoor i { d with
        state := .warning, timer := some (.tWarn, x.now + s.par .tWarn * 1000), motor := off d.motor }
      ∃ t, exec c s = .next t ∧
        State.Ends
          (match k with
            | .tOpen => fault .openTimeout d.motor
            | .dwell => warns
            | .tWarn =>
              if d.ed then reversal closes
              else if d.lk ∧ d.op then fault .switchConflict d.motor
              else if d.lk then x.setDoor i { d with
                state := if granted then .released else .locked, timer := none, motor := off closes,
                reversals := 0 }
              else x.setDoor i { d with
                state := .closing, timer := some (.tClose, x.now + s.par .tClose * 1000),
                motor := closes }
            | .tClose => reversal d.motor
            | .stopInterval => x.setDoor i { d with
                state := .reversing .drive, timer := some (.tRev, x.now + s.par .tRev * 1000),
                motor := { d.motor with latched := s.par .dOpen, latchedDir := .opens } }
            | .tRev => warns) t)

/-- R101: ISOLATE_DOOR, by its conditions in order. A door in LOCKED or FAULT is isolated; an ISOLATED one
returns to service as its switches read. DOOR is raised. -/
def Obligations.IsolateDoorTakesADoorOutOfService : Prop :=
  ∀ (s : State) (p : Port) (door setting : Word),
    let c := Instr.isolateDoor p door setting
    (p ≠ .c → exec c s = .next (s.writeResult p 10 .notPermitted none)) ∧
    (p = .c → (4 ≤ door.toNat ∨ 2 ≤ setting.toNat) →
      exec c s = .next (s.writeResult p 10 .badArgument none)) ∧
    (∀ i : DoorId, p = .c → door.toNat = doorCode i → setting.toNat < 2 →
      let d := s.door i
      let on := setting.toNat = 1
      let may := if on then d.state = .locked ∨ ∃ r, d.state = .fault r else d.state = .isolated
      let granted := (s.drc.side (doorSide i)).granted ≠ none
      let off := d.motor.off (s.par .tPwm) s.now
      let u := s.place p .isolateDoor door setting
      (s.odu.motion ≠ .standstill → exec c s = .next (s.writeResult p 10 .moving none)) ∧
      (s.odu.motion = .standstill → ¬may →
        exec c s = .next (s.writeResult p 10 .conditions none)) ∧
      (s.odu.motion = .standstill → may →
        ∃ t, exec c s = .next t ∧
          State.Answered
            (State.raise .door (u.setDoor i
              (if on then { d with state := .isolated, timer := none, motor := off, reversals := 0 }
                else { d with
                  state :=
                    if d.lk then
                      if d.op then .fault .switchConflict
                      else if granted then .released
                      else .locked
                    else .fault .lockLost
                  timer := none, motor := off }))) t p 10 .accepted))

/-- R92, R93, R104, R105: DOOR_RELEASE, by its conditions in order, with the first grant condition that fails
recorded. A grant opens a LOCKED door's way to RELEASED, or to OPENING where auto_open is ON; a side that is
granted already is accepted with nothing changed. From a settled state the grant stands when the event ends.
R106, R107: at the end of every event a granted side is withdrawn for the first grant condition that fails, with
that condition as its cause and its doors moved, and otherwise for HOLDING alone, which the brakes may end
within the event (log entry 4). R102, R103: a withdrawal comes before the DOORS row is written, so that a car
that leaves STANDSTILL with its doors shut or RELEASED has the row at NONE. -/
def Obligations.DoorReleaseGrantsTheSide : Prop :=
  (∀ (u t : State), u.Ends t →
    let p : State := { u with lps := t.lps, ssu := t.ssu, tgh := t.tgh }
    let withdrawn (i : CarSide) (c : GrantCond) :=
      t.drc.side i = { u.drc.side i with granted := none, cause := some (.cond c) } ∧
        ∀ k, doorSide k = i → t.drc.door k = u.relocks (u.drc.door k)
    let stands (i : CarSide) := t.drc.side i = u.drc.side i ∧ ∀ k, doorSide k = i → t.drc.door k = u.drc.door k
    (∀ i, (u.drc.side i).granted = none → stands i) ∧
    (∀ i c, (u.drc.side i).granted ≠ none → p.firstFailing i = some c → withdrawn i c) ∧
    (∀ i, (u.drc.side i).granted ≠ none → p.firstFailing i = none → stands i ∨ withdrawn i .holding) ∧
    (u.odu.motion ≠ .standstill →
      (∀ k, (u.drc.door k).shut ∨
        ((u.drc.door k).state = .released ∧ (u.drc.side (doorSide k)).granted ≠ none)) →
      t.brm.rows.doors = { level := .none, reason := none } ∧
        (u.brm.latch = none → t.brm.latch ≠ some (.row .doors)))) ∧
  ∀ (s : State) (p : Port) (side : Word) (desk : Desk),
    portDesk p = some desk →
    let c := Instr.doorRelease p side
    let u := s.place p .doorRelease side 0#16
    (s.dka.active ≠ some desk → exec c s = .next (s.writeResult p 8 .notActiveDesk none)) ∧
    (s.dka.active = some desk → 2 ≤ side.toNat →
      exec c s = .next (s.writeResult p 8 .badArgument none)) ∧
    (∀ i : CarSide, s.dka.active = some desk → side.toNat = i.code →
      let r := s.drc.side i
      let top := s.odu.pHi + s.par .lCar
      let served : Bool := match s.lps.profile with
        | none => false
        | some q =>
          let here := q.segments.filter fun g =>
            decide (g.start ≤ top ∧ (s.odu.pLo < g.stop ∨ (g.final = true ∧ s.odu.pLo = g.stop)))
          let flag (g : Segment) : Bool := match i with
            | .a => g.platA
            | .b => g.platB
          decide (here ≠ [] ∧ top ≤ q.lineEnd) &&
            (here.all flag || (decide (s.ssu.mode = .shunt) && here.all fun g => decide (g.kind = .depot)))
      let conds : List (GrantCond × Bool) :=
        [(.standstill, decide (s.odu.motion = .standstill)),
          (.holding, s.brm.holding && decide (s.brm.level ≠ .none)),
          (.position, decide (s.odu.pos = .valid ∨ s.odu.pos = .restored)),
          (.platform, served),
          (.holdDoors, decide (s.ssu.mode = .shunt) || match s.tgh.authority with
            | none => true
            | some a => !a.holdDoors)]
      let opens (d : Door) : Door :=
        if d.state ≠ .locked then d
        else if s.par .autoOpen = 1 then { d with
          state := .opening, timer := some (.tOpen, s.now + s.par .tOpen * 1000)
          motor := { d.motor with latched := s.par .dOpen, latchedDir := .opens } }
        else { d with state := .released, timer := none, motor := d.motor.off (s.par .tPwm) s.now }
      (∀ g, conds.find? (fun x => !x.2) = some (g, false) →
        exec c s = .next (State.writeResult p 8 .conditions none
          { s with drc := s.drc.setSide i { r with refused := some g } })) ∧
      (conds.all Prod.snd = true →
        ∃ t, exec c s = .next t ∧
          State.Answered
            (if r.granted ≠ none then u
              else State.raise .door (State.moveSide i opens
                { u with drc := s.drc.setSide i { r with granted := some desk } })) t p 8 .accepted ∧
          (s.Settled → s.lps.pendingAct = none →
            t.drc.side i = { r with granted := r.granted.or (some desk) } ∧
            ∀ k, doorSide k = i →
              t.drc.door k = if r.granted = none then opens (s.drc.door k) else s.drc.door k)))

/-- R107, R108: DOOR_CLOSE withdraws a granted side: its RELEASED doors lock, and its open, opening and
reversing ones warn; a side that is not granted is accepted with nothing changed. Port C makes neither door
request. -/
def Obligations.DoorCloseWithdrawsTheSide : Prop :=
  ∀ (s : State) (p : Port) (side : Word),
    let c := Instr.doorClose p side
    let u := s.place p .doorClose side 0#16
    (p = .c → exec c s = .next (s.writeResult p 9 .notPermitted none) ∧
      exec (.doorRelease p side) s = .next (s.writeResult p 8 .notPermitted none)) ∧
    (p ≠ .c → s.dka.active ≠ portDesk p →
      exec c s = .next (s.writeResult p 9 .notActiveDesk none)) ∧
    (p ≠ .c → s.dka.active = portDesk p → 2 ≤ side.toNat →
      exec c s = .next (s.writeResult p 9 .badArgument none)) ∧
    (∀ i : CarSide, p ≠ .c → s.dka.active = portDesk p → side.toNat = i.code →
      let r := s.drc.side i
      let shuts (d : Door) : Door :=
        let off := d.motor.off (s.par .tPwm) s.now
        let warns : Door :=
          { d with state := .warning, timer := some (.tWarn, s.now + s.par .tWarn * 1000), motor := off }
        match d.state with
        | .released => { d with state := .locked, timer := none, motor := off }
        | .opening => warns
        | .opened => warns
        | .reversing _ => warns
        | _ => d
      ∃ t, exec c s = .next t ∧
        State.Answered
          (if r.granted = none then u
            else State.raise .door (State.moveSide i shuts
              { u with drc := s.drc.setSide i { r with granted := none, cause := some .close } }))
          t p 9 .accepted)

/-! ## Desks -/

/-- R111, R112, R122, R123, R165: a desk's port writes its cab control record: by any WRITE that reaches one of
the record's three fields, wherever it begins and however far it runs. The record takes the fields of the words
kept together, held to their ranges, and keeps the others; it counts the write and is fresh for T_fresh, the
pointer stands behind the words, and those that fall outside the three fields count as refused. A changed switch
of the active desk then selects a direction: at STANDSTILL at once, a reversal as two changes with NONE between
them, and in motion only the running direction, the opposite one setting the reversal lock. That a pointer moved
onto a record's first word takes a snapshot, and that the last of several words for one field stands, is the model's
choice (log entry 13). -/
def Obligations.CabControlWriteIsTakenWhole : Prop :=
  ∀ (s : State) (p : Port) (desk : Desk) (ws : List Word),
    portDesk p = some desk →
    let word (i : Nat) : Option Word := s.wordFor p ws ((match desk with
      | .u => 0x020
      | .l => 0x028) + i)
    (word 0 ≠ none ∨ word 1 ≠ none ∨ word 2 ≠ none) →
      let c := s.dka.cab desk
      let w : DirSwitch :=
        match word 2 with
        | none => c.switch
        | some x => if x = 0#16 then .forward else if x = 2#16 then .reverse else .neutral
      let r : CabRecord :=
        { traction := match word 0 with
            | none => c.traction
            | some x => min 100 x.toNat
          handle := match word 1 with
            | none => c.handle
            | some x => if x = 255#16 then .emergency else .percent (min 100 x.toNat)
          switch := w
          writes := (c.writes + 1) % 65536
          fresh := some (s.now + s.par .tFresh * 1000) }
      let x : State := { s.wrote p ws with dka := s.dka.setCab desk r }
      let sets (a : State) (sel : Option Dir) (lock : Bool) : State :=
        { a with dka := { a.dka with switch := some w, selected := sel, lock := lock } }
      let dir : Option Dir := match desk, w with
        | _, .neutral => none
        | .u, .forward => some .up
        | .u, .reverse => some .down
        | .l, .forward => some .down
        | .l, .reverse => some .up
      let free := if s.dka.lock then none else dir
      let still := s.odu.motion = .standstill
      let acts := s.dka.active = some desk ∧ s.dka.switch ≠ some w
      let turns := s.dka.selected ≠ none ∧ free ≠ none ∧ s.dka.selected ≠ free
      ∃ t, exec (.cabControlWrite p ws) s = .next t ∧
        (¬acts → State.Ends x t) ∧
        (acts → still → ¬turns → State.Ends (sets x free s.dka.lock) t) ∧
        (acts → still → turns →
          ∃ v : State, State.Ends (sets x none s.dka.lock) v ∧ State.Ends (sets v free s.dka.lock) t) ∧
        (acts → ¬still → dir = none → State.Ends (sets x none s.dka.lock) t) ∧
        (acts → ¬still → dir ≠ none → s.dka.running = dir → State.Ends (sets x free s.dka.lock) t) ∧
        (acts → ¬still → dir ≠ none → s.dka.running ≠ dir → State.Ends (sets x none true) t)

/-- R113 to R115: the freshness timer's expiry makes the record stale. Of the active desk, it raises
CAB_STALE, the CAB row demands FULL_SERVICE, or EMERGENCY where the handle is there, and the demand supplied
is 0, and from a quiet state a level that changes brings its target and its valve choice (R67, R69, R70); of
the other desk, it changes nothing else. The expiry of a record that is stale already does nothing (the
model's choice, log entry 2). R116, R117: ACTIVATE, by its conditions in order; accepted, the desk record shows
NEUTRAL, the mode is SHUNT, and a stale record raises CAB_STALE. -/
def Obligations.FreshnessAndActivation : Prop :=
  (∀ (s : State) (desk : Desk),
    ((s.dka.cab desk).fresh = none → exec (.freshnessExpiry desk) s = .next s) ∧
    (∀ d, (s.dka.cab desk).fresh = some d →
      let x := s.advanceTo d
      let u : State := { x with dka := s.dka.setCab desk { s.dka.cab desk with fresh := none } }
      ∃ t : State, exec (.freshnessExpiry desk) s = .next t ∧
        State.Ends (if s.dka.active = some desk then u.raise .cabStale else u) t ∧
        (s.dka.active = some desk →
          t.demand = 0 ∧
          t.brm.rows.cab =
           (if (s.dka.cab desk).handle = .emergency then
              { level := .emergency, reason := some .handleEmergency }
            else { level := .fullService, reason := some .cabStale }) ∧
          (s.Quiet → t.brm.level ≠ s.brm.level → t.brm.target = x.pressureAt t.brm.level ∧
            t.brm.valves =
              x.brm.valvesAfter (x.choiceAt t.brm.level) (x.now + s.par .tDead * 1000))))) ∧
  (∀ (s : State) (p : Port),
    (p = .c → exec (.activate p) s = .next (s.writeResult p 1 .notPermitted none)) ∧
    (p ≠ .c → s.pst.frozen = false →
      exec (.activate p) s = .next (s.writeResult p 1 .notReady none)) ∧
    (p ≠ .c → s.pst.frozen = true → s.dka.active ≠ none →
      exec (.activate p) s = .next (s.writeResult p 1 .busy none)) ∧
    (p ≠ .c → s.pst.frozen = true → s.dka.active = none → s.odu.motion ≠ .standstill →
      exec (.activate p) s = .next (s.writeResult p 1 .moving none)) ∧
    (∀ desk, portDesk p = some desk → s.pst.frozen = true → s.dka.active = none →
      s.odu.motion = .standstill →
        let u : State := { s.place p .activate 0#16 0#16 with
          dka := { s.dka with active := some desk, switch := some .neutral, selected := none,
                              running := none, lock := false }
          ssu := { s.ssu with mode := .shunt, prereqs := none, window := [], horizon := none,
                              steepMark := false, flushCount := (s.ssu.flushCount + 1) % 65536 } }
        ∃ t, exec (.activate p) s = .next t ∧
          State.Answered
            (if (s.dka.cab desk).fresh = none then (u.raise .supervision).raise .cabStale
              else u.raise .supervision) t p 1 .accepted))

/-- R118 to R121: DEACTIVATE, FORCE_DEACTIVATE and the orphan timer's expiry, by their conditions in order.
Each deactivates alike (R120): no desk, no direction, every granted side withdrawn with cause DESK, the mode
NONE, and the HOLD row at FULL_SERVICE (R81); the orphan timer's expiry raises CAB_STALE besides. Its expiry
without the timer running does nothing (the model's choice, log entry 2), and the prerequisites become
absent at once (log entry 14). -/
def Obligations.DeactivationByEachOfItsMeans : Prop :=
  ∀ (s : State) (p : Port),
    let close (i : CarSide) (x : State) : State :=
      let shuts (d : Door) : Door :=
        let off := d.motor.off (s.par .tPwm) x.now
        let warns : Door :=
          { d with state := .warning, timer := some (.tWarn, x.now + s.par .tWarn * 1000), motor := off }
        match d.state with
        | .released => { d with state := .locked, timer := none, motor := off }
        | .opening => warns
        | .opened => warns
        | .reversing _ => warns
        | _ => d
      if (x.drc.side i).granted = none then x
      else State.raise .door (State.moveSide i shuts
        { x with drc := x.drc.setSide i { x.drc.side i with granted := none, cause := some .desk } })
    let off (x : State) : State :=
      let y := close .b (close .a { x with dka :=
        { x.dka with active := none, switch := none, selected := none, orphan := none } })
      State.raise .supervision { y with ssu := { y.ssu with
        mode := .none, prereqs := none, warning := false, window := [], horizon := none,
        steepMark := false, flushCount := (y.ssu.flushCount + 1) % 65536 } }
    let noDesk (t : State) := t.dka.active = none ∧ t.dka.selected = none ∧ t.ssu.mode = .none ∧
      (∀ i, (t.drc.side i).granted = none) ∧
      t.brm.rows.hold = { level := .fullService, reason := some .noDesk } ∧ t.brm.pinion = .applied
    let still := s.odu.motion = .standstill
    (p = .c → exec (.deactivate p) s = .next (s.writeResult p 2 .notPermitted none)) ∧
    (p ≠ .c → s.dka.active ≠ portDesk p →
      exec (.deactivate p) s = .next (s.writeResult p 2 .notActiveDesk none)) ∧
    (p ≠ .c → s.dka.active = portDesk p → ¬still →
      exec (.deactivate p) s = .next (s.writeResult p 2 .moving none)) ∧
    (p ≠ .c → s.dka.active = portDesk p → still →
      ∃ t, exec (.deactivate p) s = .next t ∧
        State.Answered (off (s.place p .deactivate 0#16 0#16)) t p 2 .accepted ∧ noDesk t) ∧
    (p ≠ .c → exec (.forceDeactivate p) s = .next (s.writeResult p 3 .notPermitted none)) ∧
    (p = .c → s.dka.active = none →
      exec (.forceDeactivate p) s = .next (s.writeResult p 3 .conditions none)) ∧
    (p = .c → s.dka.active ≠ none → ¬still →
      exec (.forceDeactivate p) s = .next (s.writeResult p 3 .moving none)) ∧
    (p = .c → s.dka.active ≠ none → still →
      ∃ t, exec (.forceDeactivate p) s = .next t ∧
        State.Answered (off (s.place p .forceDeactivate 0#16 0#16)) t p 3 .accepted ∧ noDesk t) ∧
    (s.dka.orphan = none → exec .orphanExpiry s = .next s) ∧
    (∀ d, s.dka.orphan = some d →
      ∃ t, exec .orphanExpiry s = .next t ∧
        State.Ends (State.raise .cabStale (off (s.advanceTo d))) t ∧ noDesk t ∧ t.Has .cabStale)

/-! ## The Valley Radio Line -/

/-- R125, R127, R128, R137, R140, R155, R156: the transmit bit clock with the key released. Each event moves
the bit counter on, and its 192nd the slot counter. At slot 1 a beacon missed since the last slot 0 is
counted, with the sync state it gives; at the car's own slot a transmission begins, keyed, of the framed
telegram of that cycle, with its CRC-16, if the car is frozen, not shadowed by the strap and not UNSYNCED:
in cycle 3 the first text that waits, and otherwise the position report with its fields in their places. The
commands that name a slot are that slot's event (log entry 11); a car without an address has no own slot. -/
def Obligations.TransmitBitClockRunsTheSlots : Prop :=
  ∀ s : State, s.vrl.tx.state = .idle →
    let x := s.advanceTo s.vrl.txTimer
    let own := s.par .carAddress
    let place (slot bit cycle : Nat) : State := { x with vrl := { x.vrl with
      txTimer := s.vrl.txTimer + s.par .tBit, slot := slot, bit := bit, cycle := cycle } }
    let tested (y : State) : State :=
      let n := if y.vrl.missed < 255 then y.vrl.missed + 1 else y.vrl.missed
      let sync : Sync :=
        if y.vrl.sync = .unsynced then .unsynced
        else if n ≤ s.par .nCoast then .coasting
        else .unsynced
      let z : State := { y with vrl := { y.vrl with missed := n, sync := sync } }
      if y.vrl.mark then y else if sync = y.vrl.sync then z else z.raise .link
    let num (n v : Nat) : List Byte := (List.range n).map fun i => BitVec.ofNat 8 (v / 256 ^ (n - 1 - i))
    let bits (n v : Nat) : List Bool := (List.range n).map fun i => decide (v / 2 ^ (n - 1 - i) % 2 = 1)
    let yes (b : Bool) : Nat := if b then 1 else 0
    let report (y : State) : List Byte :=
      let position : Nat := match y.odu.pos with
        | .valid => 0
        | .restored => 1
        | .invalid _ => 2
      let version := y.lps.profile.map Profile.version
      num 3 (y.odu.lo / 100000) ++ num 3 ((y.odu.hi + 99999) / 100000) ++
        num 2 (16384 * position + 4096 * [Motion.standstill, .movingUp, .movingDown].idxOf y.odu.motion +
          2048 * yes y.ssu.overrun + y.odu.speed) ++
        num 1 (64 * [Mode.none, .shunt, .full].idxOf y.ssu.mode +
          16 * [Status.normal, .warning, .service, .emergency].idxOf y.ssu.status +
          4 * [some Dir.up, some .down, none].idxOf y.dka.selected + [Link.ok, .lost, .stop].idxOf y.tgh.link) ++
        num 1 (128 * yes y.brm.latch.isSome + 64 * yes y.drc.summary + 32 * yes y.ssu.cap.isSome +
          16 * yes y.vrl.rx.carrier + 8 * yes y.tgh.lastIssue.isSome + 4 * yes version.isSome) ++
        num 1 (y.tgh.lastIssue.getD 0) ++ num 1 (version.getD 0)
    let framed (m : Telegram) : List Bool :=
      let body := bits 4 m.kind.toNat ++ bits 4 m.env.flags.toNat ++ bits 8 m.env.addr.toNat ++
        bits 8 m.env.payload.length ++ m.env.payload.flatMap fun b => bits 8 b.toNat
      let crc : BitVec 16 := body.foldl (fun r b =>
        if r.getLsbD 15 = b then r <<< 1 else (r <<< 1) ^^^ 0x1021#16) 0xFFFF#16
      bits 16 0xAAAA ++ bits 16 0xB4C3 ++ body ++ bits 16 crc.toNat
    let starts (y : State) : State :=
      let telegram : Telegram := match decide (y.vrl.cycle = 3), y.tgh.txTexts with
        | true, t :: _ =>
          { kind := 12#4, env := { flags := 8#4, addr := BitVec.ofNat 8 own, payload := t } }
        | _, _ =>
          { kind := 13#4, env := { flags := 8#4, addr := BitVec.ofNat 8 own, payload := report y } }
      { y with
        tgh := { y.tgh with
          txTexts := if y.vrl.cycle = 3 then y.tgh.txTexts.tail else y.tgh.txTexts }
        vrl := { y.vrl with
          tx := { state := .lead, current := true, next := some true
                  stream := List.replicate 6 true ++ framed telegram
                  count := 0, tone := true, halfStart := y.now
                  halfEnd := some (y.now + s.par .wMarkHi) }
          rx := { y.vrl.rx with
            state := .hunt, carrier := false, run := 0, flagReg := 0, flagLen := 0, lastTone := none,
            lastEdge := none, nMark := 0, nSpace := 0, nNoise := 0, clock := none }
          aborts :=
            if y.vrl.rx.state ≠ .hunt ∧ y.vrl.aborts < 65535 then y.vrl.aborts + 1
            else y.vrl.aborts } }
    let may (y : State) := y.vrl.sync ≠ .unsynced ∧ s.pst.frozen = true ∧ s.pst.strapLatch = false
    let reaches (n : Nat) : State :=
      let y := place n 0 s.vrl.cycle
      let z := if n = 1 then tested y else y
      if n = own ∧ own ≠ 0 ∧ may z then starts z else z
    (s.vrl.bit < 191 →
      ∃ t, exec .transmitBitClockEvent s = .next t ∧
        State.Ends (place s.vrl.slot (s.vrl.bit + 1) s.vrl.cycle) t) ∧
    (191 ≤ s.vrl.bit → s.vrl.slot < 15 →
      ∃ t, exec .transmitBitClockEvent s = .next t ∧ State.Ends (reaches (s.vrl.slot + 1)) t) ∧
    (191 ≤ s.vrl.bit → 15 ≤ s.vrl.slot → exec .transmitBitClockEvent s = exec .slotWrap s) ∧
    (∃ t, exec .missedBeaconTest s = .next t ∧ State.Ends (reaches 1) t) ∧
    (own = 0 → exec .ownSlotEvent s = .next s) ∧
    (own ≠ 0 → ∃ t, exec .ownSlotEvent s = .next t ∧ State.Ends (reaches own) t)

/-- R125, R140, R152 to R154: the slot counter becomes 0 by counting: the cycle counter moves on, the beacon
mark is cleared, one more cycle is silent, and the link state follows, by N_shadow in a radio shadow and by
N_stop otherwise, with LINK where it changes and a radio load aborted where it leaves OK. R126 to R128: a
transmission in progress has its next bit shifted out (a half-wave that begins at the event takes its width, log
entry 21); how one that has none left ends, `TransmissionIsShiftedOutAndEnds` says. That the abort keeps the
close check value is the model's choice (log entry 22), as is the slot wrap's being this one event (log entry
11). -/
def Obligations.SlotWrapCountsASilentCycle : Prop :=
  ∀ s : State, s.vrl.tx.state = .idle ∨ s.vrl.tx.next ≠ none →
    let x := s.advanceTo s.vrl.txTimer
    let tx := x.vrl.tx
    let shifted : Transmitter := match tx.next with
      | none => tx
      | some b => { tx with
        current := b, next := tx.stream.head?, stream := tx.stream.tail, count := tx.count + 1
        state := if tx.count < 7 then .lead else .sending
        halfEnd :=
          if tx.halfStart = x.now ∧ tx.halfEnd ≠ none then
            some (x.now + match tx.tone, b with
              | true, true => s.par .wMarkHi
              | false, true => s.par .wMarkLo
              | true, false => s.par .wSpaceHi
              | false, false => s.par .wSpaceLo)
          else tx.halfEnd }
    let shadow : Bool := match s.lps.profile with
      | none => false
      | some p => decide (s.odu.pos = .valid ∨ s.odu.pos = .restored) && p.segments.any fun g =>
          g.shadow && decide (g.start ≤ s.odu.pHi + s.par .lCar ∧
            (s.odu.pLo < g.stop ∨ (g.final = true ∧ s.odu.pLo = g.stop)))
    let n := if s.tgh.silent < 255 then s.tgh.silent + 1 else s.tgh.silent
    let link : Link :=
      if (if shadow then s.par .nShadow else s.par .nStop) ≤ n then .stop
      else if s.par .nLoss ≤ n then .lost
      else .ok
    let aborts := s.tgh.link = .ok ∧ link ≠ .ok ∧ ∃ k, s.lps.claim = some k ∧ k.holder = .radio
    ∃ t u : State, exec .slotWrap s = .next t ∧ u.Ends t ∧
      u = { x with vrl := u.vrl, tgh := u.tgh, lps := u.lps, pif := u.pif } ∧
      (∃ v, x.Tells v .link (link ≠ s.tgh.link) ∧ v.Tells u .profile aborts) ∧
      u.vrl = { x.vrl with
        txTimer := s.vrl.txTimer + s.par .tBit, slot := 0, bit := 0
        cycle := (s.vrl.cycle + 1) % 4, mark := false
        tx := if tx.state = .idle then tx else shifted } ∧
      u.tgh = { s.tgh with silent := n, shadowUsed := shadow, link := link } ∧ s.inShadow = shadow ∧
      (¬aborts → u.lps = s.lps) ∧
      (aborts →
        u.lps = { s.lps.setBank s.lps.standbyId
            { role := .standby, state := .empty, image := [], length := none, version := none,
              header := none, result := none } with
          claim := none, blockMap := 0, checkPos := 0, checkCrc := 0xFFFFFFFF })

/-- R126 to R128, R130: while the key is asserted, each transmit bit clock event takes the next bit, the
first eight bits being the LEAD; the half-wave in progress is not cut, and one that begins at the event's own
µs takes the new bit's width (log entry 21). R125, R140: where the event ends a slot, the counters move on and a
beacon missed at slot 1 is counted as with the key released, but at the own slot no other transmission begins
(R128); the commands that name a slot are that slot's event. The event that finds no bit ends the transmission,
with the key released and the receiver starting afresh, and is from there on an event that finds the key
released. TRANSMISSION_END is the event that ends it, with the counters moved on by the events that remain. What
these commands are is the model's choice (log entry 11). -/
def Obligations.TransmissionIsShiftedOutAndEnds : Prop :=
  ∀ s : State,
    let x := s.advanceTo s.vrl.txTimer
    let tx := s.vrl.tx
    let place (bit : Nat) : State := { x with vrl := { x.vrl with
      txTimer := s.vrl.txTimer + s.par .tBit, bit := bit } }
    let ended (y : State) : State := { y with vrl := { y.vrl with
      tx := { y.vrl.tx with state := .idle, next := none, stream := [], tone := false, halfEnd := none }
      rx := { y.vrl.rx with
        lastEdge := none, nMark := 0, nSpace := 0, nNoise := 0, lastDecision := y.now
        clock := some (y.now + s.par .tBit) }
      transmitted := (y.vrl.transmitted + 1) % 65536 } }
    let shifted (b : Bool) (y : State) : State :=
      { y with vrl := { y.vrl with tx := { y.vrl.tx with
          current := b, next := tx.stream.head?, stream := tx.stream.tail, count := tx.count + 1
          state := if tx.count < 7 then .lead else .sending
          halfEnd :=
            if y.vrl.tx.halfStart = y.now ∧ y.vrl.tx.halfEnd ≠ none then
              some (y.now + match y.vrl.tx.tone, b with
                | true, true => s.par .wMarkHi
                | false, true => s.par .wMarkLo
                | true, false => s.par .wSpaceHi
                | false, false => s.par .wSpaceLo)
            else y.vrl.tx.halfEnd } } }
    let tested (y : State) : State :=
      let n := if y.vrl.missed < 255 then y.vrl.missed + 1 else y.vrl.missed
      let sync : Sync :=
        if y.vrl.sync = .unsynced then .unsynced
        else if n ≤ s.par .nCoast then .coasting
        else .unsynced
      let z : State := { y with vrl := { y.vrl with missed := n, sync := sync } }
      if y.vrl.mark then y else if sync = y.vrl.sync then z else z.raise .link
    let own := s.par .carAddress
    let reaches (b : Bool) (n : Nat) : State :=
      let p := place 0
      let y := shifted b { p with vrl := { p.vrl with slot := n } }
      if n = 1 then tested y else y
    let released : State := { s with vrl := { s.vrl with
      tx := { x.vrl.tx with state := .idle, next := none, stream := [], tone := false, halfEnd := none }
      rx := { s.vrl.rx with
        lastEdge := none, nMark := 0, nSpace := 0, nNoise := 0, lastDecision := x.now
        clock := some (x.now + s.par .tBit) }
      transmitted := (s.vrl.transmitted + 1) % 65536 } }
    let left := tx.stream.length + (if tx.next.isSome then 1 else 0) + 1
    (∀ b, tx.state ≠ .idle → tx.next = some b → s.vrl.bit < 191 →
      ∃ t, exec .transmitBitClockEvent s = .next t ∧ State.Ends (shifted b (place (s.vrl.bit + 1))) t) ∧
    (∀ b, tx.state ≠ .idle → tx.next = some b →
      (191 ≤ s.vrl.bit → s.vrl.slot < 15 →
        ∃ t, exec .transmitBitClockEvent s = .next t ∧ State.Ends (reaches b (s.vrl.slot + 1)) t) ∧
      (∃ t, exec .missedBeaconTest s = .next t ∧ State.Ends (reaches b 1) t) ∧
      (own ≠ 0 → ∃ t, exec .ownSlotEvent s = .next t ∧ State.Ends (reaches b own) t)) ∧
    (191 ≤ s.vrl.bit → 15 ≤ s.vrl.slot → exec .transmitBitClockEvent s = exec .slotWrap s) ∧
    (own = 0 → exec .ownSlotEvent s = .next s) ∧
    (tx.state ≠ .idle → tx.next = none →
      ∀ c ∈ [Instr.transmitBitClockEvent, .slotWrap, .missedBeaconTest, .ownSlotEvent],
        c ≠ .ownSlotEvent ∨ own ≠ 0 → exec c s = exec c released) ∧
    (tx.state ≠ .idle → tx.next = none → s.vrl.bit < 191 →
      ∃ t, exec .transmitBitClockEvent s = .next t ∧ State.Ends (ended (place (s.vrl.bit + 1))) t) ∧
    (tx.state = .idle → exec .transmissionEnd s = .next s) ∧
    (tx.state ≠ .idle → s.vrl.bit + left ≤ 191 →
      ∃ t, exec .transmissionEnd s = .next t ∧ State.Ends (ended (place (s.vrl.bit + left))) t) ∧
    (tx.state ≠ .idle → s.vrl.bit < 192 → s.vrl.slot < 16 → s.vrl.cycle < 4 →
      let n := (s.vrl.cycle * 16 + s.vrl.slot) * 192 + s.vrl.bit + (left - 1)
      exec .transmissionEnd s = exec .transmitBitClockEvent { s with vrl := { s.vrl with
        bit := n % 192, slot := n / 192 % 16, cycle := n / 3072 % 4
        tx := { tx with next := none, stream := [] } } })

/-- R130 to R133, R136: the receiver. While the key is asserted an edge is ignored, and a dropped frame is
none (log entry 11). Otherwise the half-period it ends is classed by its width and counted; one of a new
tone re-phases the receive bit clock at its start, the counts being discarded less than half a bit after the
last decision, and decided upon otherwise. That a width in both windows is a mark, and that such a decision
is taken at the edge's time, is the model's choice (log entry 21). A dropped frame leaves the receiver in
HUNT with its flag register empty, and counts by its cause. R132, R134 to R138: an event of the receive bit
clock decides a bit by the most of the half-periods counted. A noise bit ends the run, and the telegram if
there is one. In HUNT the flag of sixteen bits starts a HEADER. Each bit of HEADER and of PAYLOAD goes into
the CRC; the 24th of the header begins the payload, or the check of an empty one, and drops the frame where
its length is above 12; each eighth bit of the payload completes a byte, and the last byte begins the CHECK.
The 16th bit of the check delivers the telegram assembled where the check equals the CRC of its bits, and
counts a CRC error where it does not. That the flag, a length error and a noise bit in a telegram leave the
flag register empty is the model's choice (log entry 21). Where no receive bit clock runs, its event does
nothing (log entry 2). -/
def Obligations.ReceiverClassesEdgesAndDecidesBits : Prop :=
  (∀ (s : State) (time : Nat),
     let x := s.advanceTo time
     let q := s.vrl.rx
     let noted : State := { x with vrl := { x.vrl with rx := { q with lastEdge := some time } } }
     let at' (y : State) (r : Receiver) : State := { y with vrl := { y.vrl with rx := r } }
     let hunt : Receiver := { q with state := .hunt, flagReg := 0, flagLen := 0 }
     (s.vrl.tx.state ≠ .idle →
       ∃ t, exec (.comparatorEdge time) s = .next t ∧ State.Ends x t) ∧
     (s.vrl.tx.state = .idle → q.lastEdge = none →
       ∃ t, exec (.comparatorEdge time) s = .next t ∧ State.Ends noted t) ∧
     (∀ e, s.vrl.tx.state = .idle → q.lastEdge = some e →
       let w := time - e
       let mark := s.par .markLo ≤ w ∧ w ≤ s.par .markHi
       let space := ¬mark ∧ s.par .spaceLo ≤ w ∧ w ≤ s.par .spaceHi
       let noise := ¬mark ∧ ¬space
       let same := (mark ∧ q.lastTone = some true) ∨ (space ∧ q.lastTone = some false)
       let z : State :=
         if s.par .tBit / 2 ≤ e - q.lastDecision then State.decideBit x.now noted
         else at' noted { noted.vrl.rx with nMark := 0, nSpace := 0, nNoise := 0 }
       ∃ t, exec (.comparatorEdge time) s = .next t ∧
         (noise → State.Ends (at' noted { noted.vrl.rx with nNoise := q.nNoise + 1 }) t) ∧
         (mark → same → State.Ends (at' noted { noted.vrl.rx with nMark := q.nMark + 1 }) t) ∧
         (space → same → State.Ends (at' noted { noted.vrl.rx with nSpace := q.nSpace + 1 }) t) ∧
         (mark → ¬same → State.Ends (at' z { z.vrl.rx with
           lastTone := some true, clock := some (e + s.par .tBit), nMark := z.vrl.rx.nMark + 1 }) t) ∧
         (space → ¬same → State.Ends (at' z { z.vrl.rx with
           lastTone := some false, clock := some (e + s.par .tBit), nSpace := z.vrl.rx.nSpace + 1 }) t)) ∧
     (s.vrl.tx.state ≠ .idle → ∀ cause, exec (.frameDropped cause) s = .next s) ∧
     (s.vrl.tx.state = .idle →
       exec (.frameDropped .lengthError) s = .next { s with vrl := { s.vrl with
         rx := hunt
         lengthErrors :=
           if s.vrl.lengthErrors < 65535 then s.vrl.lengthErrors + 1 else s.vrl.lengthErrors } } ∧
       exec (.frameDropped .crcError) s = .next { s with vrl := { s.vrl with
         rx := hunt
         crcErrors := if s.vrl.crcErrors < 65535 then s.vrl.crcErrors + 1 else s.vrl.crcErrors } } ∧
       exec (.frameDropped .noise) s = .next { s with vrl := { s.vrl with
         rx := { hunt with run := 0, carrier := false }
         aborts := if s.vrl.aborts < 65535 then s.vrl.aborts + 1 else s.vrl.aborts } })) ∧
  (∀ s : State,
     (s.vrl.rx.clock = none →
       ∃ t, exec .receiveBitClockEvent s = .next t ∧ State.Ends s t) ∧
     (∀ d, s.vrl.rx.clock = some d →
       let q := s.vrl.rx
       let x := s.advanceTo d
       let y : Receiver := { q with
         clock := some (d + s.par .tBit), lastDecision := d, nMark := 0, nSpace := 0, nNoise := 0 }
       let bit : Option Bool :=
         if q.nSpace < q.nMark ∧ q.nNoise < q.nMark then some true
         else if q.nMark < q.nSpace ∧ q.nNoise < q.nSpace then some false
         else none
       let takes (r : Receiver) (v : Vrl) : State := { x with vrl := { v with rx := r } }
       let run := if q.run < 255 then q.run + 1 else q.run
       let heard : Receiver := { y with run := run, carrier := q.carrier || decide (6 ≤ run) }
       let more (n : Nat) : Nat := if n < 65535 then n + 1 else n
       let crc (b : Bool) : BitVec 16 :=
         if q.crc.getLsbD 15 = b then q.crc <<< 1 else (q.crc <<< 1) ^^^ 0x1021#16
       let size := q.header.toNat % 256
       ∃ t, exec .receiveBitClockEvent s = .next t ∧
         (bit = none →
           State.Ends (takes { y with state := .hunt, flagReg := 0, flagLen := 0, run := 0, carrier := false }
             { x.vrl with aborts := if q.state = .hunt then s.vrl.aborts else more s.vrl.aborts }) t) ∧
         (∀ b : Bool, bit = some b → q.state = .hunt →
           let reg := (q.flagReg <<< 1) ||| (if b then 1#16 else 0#16)
           State.Ends (takes
             (if 15 ≤ q.flagLen ∧ reg = 0xB4C3#16 then
               { heard with
                 state := .header, flagReg := 0, flagLen := 0, crc := 0xFFFF#16, bitCount := 0,
                 header := 0, payload := [], acc := 0, check := 0 }
             else { heard with flagReg := reg, flagLen := min 16 (q.flagLen + 1) }) x.vrl) t) ∧
         (∀ b : Bool, bit = some b → q.state = .header → q.bitCount < 23 →
           State.Ends (takes { heard with
             header := (q.header <<< 1) ||| (if b then 1#24 else 0#24), crc := crc b
             bitCount := q.bitCount + 1 } x.vrl) t) ∧
         (∀ b : Bool, bit = some b → q.state = .header → q.bitCount = 23 →
           let h := (q.header <<< 1) ||| (if b then 1#24 else 0#24)
           let r : Receiver := { heard with header := h, crc := crc b }
           let n := h.toNat % 256
           State.Ends
             (if 12 < n then
               takes { r with state := .hunt, flagReg := 0, flagLen := 0, bitCount := 24 }
                 { x.vrl with lengthErrors := more s.vrl.lengthErrors }
             else takes { r with state := if n = 0 then .check else .payload, bitCount := 0 } x.vrl) t) ∧
         (∀ b : Bool, bit = some b → q.state = .payload →
           let acc := (q.acc <<< 1) ||| (if b then 1#8 else 0#8)
           let byte := (q.bitCount + 1) % 8 = 0
           State.Ends (takes { heard with
             crc := crc b, acc := if byte then 0#8 else acc
             payload := if byte then q.payload ++ [acc] else q.payload
             state := if q.bitCount + 1 < 8 * size then .payload else .check
             bitCount := if q.bitCount + 1 < 8 * size then q.bitCount + 1 else 0 } x.vrl) t) ∧
         (∀ b : Bool, bit = some b → q.state = .check → q.bitCount < 15 →
           State.Ends (takes { heard with
             check := (q.check <<< 1) ||| (if b then 1#16 else 0#16)
             bitCount := q.bitCount + 1 } x.vrl) t) ∧
         (∀ b : Bool, bit = some b → q.state = .check → q.bitCount = 15 →
           let c := (q.check <<< 1) ||| (if b then 1#16 else 0#16)
           let r : Receiver := { heard with
             check := c, bitCount := 16, state := .hunt, flagReg := 0, flagLen := 0 }
           let telegram : Telegram :=
             { kind := q.header.extractLsb' 20 4
               env := { flags := q.header.extractLsb' 16 4, addr := q.header.extractLsb' 8 8,
                        payload := q.payload } }
           State.Ends
             (if c = q.crc then State.deliver telegram (takes r x.vrl)
             else takes r { x.vrl with crcErrors := more s.vrl.crcErrors }) t)))

/-! ## Telegrams -/

/-- R138, R142: a telegram that passed its check counts as received and leaves the receiver in HUNT. While
the car is not frozen it is then discarded; an uplink telegram, or one for another car, counts as foreign;
and one with a reserved flag, a code without a kind, or another address or length than its kind has, as a
format error. A beacon for all cars of four bytes synchronises the slots all the same. R130, R139: while the
key is asserted no telegram is delivered, whatever the command (log entry 11). Every telegram command is the
delivery of the telegram of its kind, by its code of 11.6, with the envelope it carries, admitted or not,
and so is TELEGRAM_NOT_ADMITTED with that kind; and a delivery is the one by which the receiver hands a
telegram over. -/
def Obligations.TelegramsNotAdmittedAreCounted : Prop :=
  ∀ (s : State) (m : Telegram),
    let e := m.env
    let n := e.payload.length
    let x : State := { s with vrl := { s.vrl with
      received := (s.vrl.received + 1) % 65536
      rx := { s.vrl.rx with state := .hunt, flagReg := 0, flagLen := 0 } } }
    let y := if m.kind = 1#4 ∧ e.addr = 0#8 ∧ n = 4 ∧ s.pst.frozen = true then x.takeSync else x
    let mine := e.addr.toNat = s.par .carAddress
    let all := e.addr = 0#8
    let car := ¬all ∧ mine
    let shape := match m.kind.toNat with
      | 1 => all ∧ n = 4
      | 2 => car ∧ n = 11
      | 3 => car ∧ n = 1
      | 4 => (all ∨ car) ∧ n = 10
      | 5 => (all ∨ car) ∧ n = 1
      | 6 => (all ∨ car) ∧ n = 8
      | 7 => (all ∨ car) ∧ n = 1
      | 8 => car ∧ n = 4
      | 9 => car ∧ n = 9
      | 10 => car ∧ n = 6
      | 11 => car ∧ n = 2
      | 12 => (all ∨ car) ∧ n ≤ 12
      | _ => False
    let foreign := 8 ≤ e.flags.toNat ∨ (¬all ∧ ¬mine)
    (s.vrl.tx.state ≠ .idle →
      ∀ c ∈ [Instr.telegramNotAdmitted m, .beacon e, .authority e, .revoke e, .restrictSet e,
          .restrictClear e, .emergencyCall e, .callCancel e, .profileOpenTelegram e, .profileBlock e,
          .profileCloseTelegram e, .profileActivateTelegram e, .text e], exec c s = .next s) ∧
    (∀ y ∈ [(1#4, Instr.beacon e), (2#4, .authority e), (3#4, .revoke e), (4#4, .restrictSet e),
        (5#4, .restrictClear e), (6#4, .emergencyCall e), (7#4, .callCancel e), (8#4, .profileOpenTelegram e),
        (9#4, .profileBlock e), (10#4, .profileCloseTelegram e), (11#4, .profileActivateTelegram e),
        (12#4, .text e)],
      exec y.2 s = exec (.telegramNotAdmitted { kind := y.1, env := e }) s) ∧
    (s.vrl.tx.state = .idle →
      ∃ t, exec (.telegramNotAdmitted m) s = .next t ∧ State.Ends (s.deliver m) t) ∧
    (s.vrl.tx.state = .idle → s.pst.frozen = false →
      ∃ t, exec (.telegramNotAdmitted m) s = .next t ∧ State.Ends x t) ∧
    (s.vrl.tx.state = .idle → s.pst.frozen = true → foreign →
      ∃ t, exec (.telegramNotAdmitted m) s = .next t ∧
        State.Ends { y with tgh := { s.tgh with
          foreign := if s.tgh.foreign < 65535 then s.tgh.foreign + 1 else s.tgh.foreign } } t) ∧
    (s.vrl.tx.state = .idle → s.pst.frozen = true → ¬foreign → (e.flags.toNat % 8 ≠ 0 ∨ ¬shape) →
      ∃ t, exec (.telegramNotAdmitted m) s = .next t ∧
        State.Ends { y with tgh := { s.tgh with
          formatErrors :=
            if s.tgh.formatErrors < 65535 then s.tgh.formatErrors + 1 else s.tgh.formatErrors } } t)

/-- R139, R140, R143, R152, R153: an admitted BEACON. The counters are set to its end, slot 0 and bit 112,
with the transmit bit clock restarted and the cycle counter moved on from the line's second half; a synced
car more than 2 bits out counts a resynchronisation; the sync state is SYNCED and the link OK, with LINK
where either changes; the pair is stored and compared with the active bank, with PROFILE where the
profile-outdated flag changes. -/
def Obligations.BeaconSynchronisesAndCompares : Prop :=
  ∀ (s : State) (l1 l0 v1 v0 : Byte),
    s.pst.frozen = true → s.vrl.tx.state = .idle →
    0 < s.par .nLoss → 0 < s.par .nStop → 0 < s.par .nShadow →
      let line := l1.toNat * 256 + l0.toNat
      let version := v1.toNat * 256 + v0.toNat
      let out : Int := ((192 * s.vrl.slot + s.vrl.bit : Nat) - 112 + 1536) % 3072 - 1536
      let outdated := match s.lps.profile with
        | none => true
        | some p => decide (p.lineId ≠ line ∨ p.version ≠ version)
      ∃ t u : State,
        exec (.beacon { flags := 0#4, addr := 0#8, payload := [l1, l0, v1, v0] }) s = .next t ∧
        u.Ends t ∧ u = { s with vrl := u.vrl, tgh := u.tgh, pif := u.pif } ∧
        (∃ v, s.Tells v .link (s.vrl.sync ≠ .synced ∨ s.tgh.link ≠ .ok) ∧
          v.Tells u .profile (s.tgh.outdated ≠ outdated)) ∧
        u.vrl = { s.vrl with
          received := (s.vrl.received + 1) % 65536
          rx := { s.vrl.rx with state := .hunt, flagReg := 0, flagLen := 0 }
          sync := .synced, slot := 0, bit := 112, missed := 0, mark := true
          txTimer := s.now + s.par .tBit
          cycle := if 8 ≤ s.vrl.slot then (s.vrl.cycle + 1) % 4 else s.vrl.cycle
          resync :=
            if s.vrl.sync ≠ .unsynced ∧ (out < -2 ∨ 2 < out) ∧ s.vrl.resync < 255 then s.vrl.resync + 1
            else s.vrl.resync } ∧
        u.tgh = { s.tgh with
          silent := 0, shadowUsed := s.inShadow, link := .ok, beacon := some (line, version)
          outdated := outdated }

/-- R144 to R146: an admitted AUTHORITY. A direction or a limit out of its range is a format error; an issue
from 1 to 127 newer than the present record's, or any where none is present, is accepted, which flushes the
window, makes the authority side absent and raises AUTHORITY_CHANGED; another counts as ignored. A REVOKE of
the present issue clears the record with the same effects, and of another is ignored. -/
def Obligations.AuthorityAndRevokeChangeTheRecord : Prop :=
  ∀ (s : State) (addr issue dirs l2 l1 l0 : Byte) (stretch : List Byte),
    s.pst.frozen = true → s.vrl.tx.state = .idle →
    addr ≠ 0#8 → addr.toNat = s.par .carAddress → stretch.length = 6 →
    0 < s.par .nLoss → 0 < s.par .nStop → 0 < s.par .nShadow →
      let h : State := { s with
        vrl := { s.vrl with
          received := (s.vrl.received + 1) % 65536
          rx := { s.vrl.rx with state := .hunt, flagReg := 0, flagLen := 0 } }
        tgh := { s.tgh with silent := 0, shadowUsed := s.inShadow, link := .ok } }
      let x := if s.tgh.link = .ok then h else h.raise .link
      let limit := l2.toNat * 65536 + l1.toNat * 256 + l0.toNat
      let ignored : State := { x with tgh := { x.tgh with
        ignored := if s.tgh.ignored < 255 then s.tgh.ignored + 1 else s.tgh.ignored } }
      let changed (a : Option Authority) (last : Option Nat) : State :=
        State.raise .authorityChanged { x with
          tgh := { x.tgh with authority := a, lastIssue := last }
          ssu := { s.ssu with
            authSide := none, window := [], horizon := none, steepMark := false
            flushCount := (s.ssu.flushCount + 1) % 65536 } }
      let takes (d : Dir) : State := changed
        (some { issue := issue.toNat, dir := d, limit := limit, stretchId := stretch
                holdDoors := decide (128 ≤ dirs.toNat) }) (some issue.toNat)
      let newer (i : Nat) := 1 ≤ (issue.toNat + 256 - i) % 256 ∧ (issue.toNat + 256 - i) % 256 ≤ 127
      (∃ t, exec (.authority
          { flags := 0#4, addr := addr, payload := [issue, dirs, l2, l1, l0] ++ stretch }) s = .next t ∧
        (2 ≤ dirs.toNat % 4 ∨ 120000 < limit →
          State.Ends { x with tgh := { x.tgh with
            formatErrors :=
              if s.tgh.formatErrors < 65535 then s.tgh.formatErrors + 1 else s.tgh.formatErrors } } t) ∧
        (∀ d : Dir, dirs.toNat % 4 = d.code → limit ≤ 120000 →
          (s.tgh.authority = none → State.Ends (takes d) t) ∧
          (∀ a, s.tgh.authority = some a → newer a.issue → State.Ends (takes d) t) ∧
          (∀ a, s.tgh.authority = some a → ¬newer a.issue → State.Ends ignored t))) ∧
      (∃ t, exec (.revoke { flags := 0#4, addr := addr, payload := [issue] }) s = .next t ∧
        (s.tgh.authority = none → State.Ends ignored t) ∧
        (∀ a, s.tgh.authority = some a → a.issue ≠ issue.toNat → State.Ends ignored t) ∧
        (∀ a, s.tgh.authority = some a → a.issue = issue.toNat →
          State.Ends (changed none s.tgh.lastIssue) t))

/-- R44 to R46, R147: RESTRICT_SET and RESTRICT_CLEAR, sent to all cars or to this one, when they are valid
telegrams that make the link OK (R142, R152). A malformed set only counts; one that repeats an entry changes
nothing; one of an identity held, or with room for it, replaces that entry or adds one, the list being
sorted by start and identity; one more lowers the cap, and raises RESTRICTION even where the cap stands.
Identity 0 clears the list and the cap. Each change flushes the window and raises RESTRICTION. -/
def Obligations.RestrictionTelegramsChangeTheList : Prop :=
  ∀ (s : State) (addr ident f2 f1 f0 l2 l1 l0 v1 v0 applies : Byte),
    s.pst.frozen = true → s.vrl.tx.state = .idle → (addr = 0#8 ∨ addr.toNat = s.par .carAddress) →
    0 < s.par .nLoss → 0 < s.par .nStop → 0 < s.par .nShadow →
      let got : State := { s with vrl := { s.vrl with
        received := (s.vrl.received + 1) % 65536
        rx := { s.vrl.rx with state := .hunt, flagReg := 0, flagLen := 0 } } }
      let heard : State :=
        { got with tgh := { s.tgh with silent := 0, shadowUsed := s.inShadow, link := .ok } }
      let x : State :=
        if addr = 0#8 then got else if s.tgh.link = .ok then heard else heard.raise .link
      let r (a : Applies) : Restriction :=
        { ident := ident.toNat
          first := f2.toNat * 65536 + f1.toNat * 256 + f0.toNat
          last := l2.toNat * 65536 + l1.toNat * 256 + l0.toNat
          speed := v1.toNat * 256 + v0.toNat
          applies := a }
      let l := s.ssu.restrictions
      let held := ∃ q ∈ l, q.ident = ident.toNat
      let rest := l.filter fun q => decide (q.ident ≠ ident.toNat)
      let before (p q : Restriction) := p.first < q.first ∨ (p.first = q.first ∧ p.ident < q.ident)
      let changed (l' : List Restriction) (cap : Option Nat) : State :=
        State.raise .restriction { x with ssu := { s.ssu with
          restrictions := l', cap := cap, window := [], horizon := none, steepMark := false
          flushCount := (s.ssu.flushCount + 1) % 65536 } }
      let bad := ident.toNat = 0 ∨ (r .both).last ≤ (r .both).first ∨ 120000 < (r .both).last ∨
        1500 < (r .both).speed ∨ 2 < applies.toNat
      (∃ t, exec (.restrictSet
          { flags := 0#4, addr := addr, payload := [ident, f2, f1, f0, l2, l1, l0, v1, v0, applies] }) s = .next t ∧
        (bad → State.Ends { x with ssu := { s.ssu with
          malformed := if s.ssu.malformed < 255 then s.ssu.malformed + 1 else s.ssu.malformed } } t) ∧
        (∀ a : Applies, ¬bad → applies.toNat = a.code →
          (r a ∈ l → State.Ends x t) ∧
          (r a ∉ l → held ∨ l.length < 12 →
            ∃ l', l'.Perm (r a :: rest) ∧ (l.Pairwise before → l'.Pairwise before) ∧
              State.Ends (changed l' s.ssu.cap) t) ∧
          (r a ∉ l → ¬held → 12 ≤ l.length →
            (∀ c, s.ssu.cap = some c → c ≤ (r a).speed → State.Ends (x.raise .restriction) t) ∧
            (∀ c, s.ssu.cap = some c → (r a).speed < c →
              State.Ends (changed l (some (r a).speed)) t) ∧
            (s.ssu.cap = none → State.Ends (changed l (some (r a).speed)) t)))) ∧
      (∃ t, exec (.restrictClear { flags := 0#4, addr := addr, payload := [ident] }) s = .next t ∧
        (ident.toNat = 0 → l = [] → s.ssu.cap = none → State.Ends x t) ∧
        (ident.toNat = 0 → (l ≠ [] ∨ s.ssu.cap ≠ none) → State.Ends (changed [] none) t) ∧
        (ident.toNat ≠ 0 → held → State.Ends (changed rest s.ssu.cap) t) ∧
        (ident.toNat ≠ 0 → ¬held → State.Ends x t))

/-- R148 to R150: EMERGENCY_CALL and CALL_CANCEL, sent to all cars or to this one, when they
are valid telegrams that make the link OK (R142, R152). A call of an identity held keeps that
entry's place, one with room for it is added, and one more makes the whole-line call the higher of the two; a
malformed one is a format error. A cancel clears its identity, or with identity 0 every call. A change raises
LINK, and the RADIO row demands EMERGENCY while a call of that severity meets a car that has lost its
position. -/
def Obligations.CallsChangeTheListAndBrake : Prop :=
  ∀ (s : State) (addr ident f2 f1 f0 l2 l1 l0 sev : Byte),
    s.pst.frozen = true → s.vrl.tx.state = .idle → (addr = 0#8 ∨ addr.toNat = s.par .carAddress) →
    0 < s.par .nLoss → 0 < s.par .nStop → 0 < s.par .nShadow →
      let got : State := { s with vrl := { s.vrl with
        received := (s.vrl.received + 1) % 65536
        rx := { s.vrl.rx with state := .hunt, flagReg := 0, flagLen := 0 } } }
      let heard : State :=
        { got with tgh := { s.tgh with silent := 0, shadowUsed := s.inShadow, link := .ok } }
      let x : State :=
        if addr = 0#8 then got else if s.tgh.link = .ok then heard else heard.raise .link
      let first := f2.toNat * 65536 + f1.toNat * 256 + f0.toNat
      let last := l2.toNat * 65536 + l1.toNat * 256 + l0.toNat
      let c : Call :=
        { ident := ident.toNat, first := first, last := last
          severity := if sev.toNat = 0 then .service else .emergency }
      let l := s.tgh.calls
      let held := ∃ q ∈ l, q.ident = ident.toNat
      let sets (l' : List Call) (w : Option Severity) : State :=
        if l' = l ∧ w = s.tgh.wholeLine then x
        else State.raise .link { x with tgh := { x.tgh with calls := l', wholeLine := w } }
      let bad := 1 < sev.toNat ∨ ident.toNat = 0 ∨ 120000 < last ∨ last < first
      (∃ t, exec (.emergencyCall
          { flags := 0#4, addr := addr, payload := [ident, f2, f1, f0, l2, l1, l0, sev] }) s = .next t ∧
        (bad → State.Ends { x with tgh := { x.tgh with
          formatErrors :=
            if s.tgh.formatErrors < 65535 then s.tgh.formatErrors + 1 else s.tgh.formatErrors } } t) ∧
        (¬bad → held →
          State.Ends (sets (l.map fun q => if q.ident = c.ident then c else q) s.tgh.wholeLine) t) ∧
        (¬bad → ¬held → l.length < 4 → State.Ends (sets (l ++ [c]) s.tgh.wholeLine) t) ∧
        (¬bad → ¬held → 4 ≤ l.length →
          State.Ends (sets l (some (if s.tgh.wholeLine = some .emergency then .emergency
            else c.severity))) t) ∧
        (¬bad → c.severity = .emergency → s.odu.located = false →
          t.brm.rows.radio = { level := .emergency, reason := some .callEmergency } ∧
          t.brm.level = .emergency)) ∧
      (∃ t, exec (.callCancel { flags := 0#4, addr := addr, payload := [ident] }) s = .next t ∧
        (ident.toNat = 0 → State.Ends (sets [] none) t) ∧
        (ident.toNat ≠ 0 →
          State.Ends (sets (l.filter fun q => decide (q.ident ≠ ident.toNat)) s.tgh.wholeLine) t))

/-- R28, R30, R31, R34, R151: the four profile telegrams, to this car. Each writes the radio profile record
with its kind code, the result, and a block's offset, counts a refusal, and does to the LPS what the result
states; an activation at STANDSTILL, or with no desk active, switches the banks over, flushes the window and
raises PROFILE (R35, R52), and another is pending. That the close check value is kept, and that the record's
offset is absent after a telegram that is no block, is the model's choice (log entry 22). -/
def Obligations.ProfileTelegramsLoadTheStandbyBank : Prop :=
  ∀ (s : State) (addr v1 v0 n1 n0 c3 c2 c1 c0 offset : Byte) (block : List Byte),
    s.pst.frozen = true → s.vrl.tx.state = .idle →
    addr ≠ 0#8 → addr.toNat = s.par .carAddress → block.length = 8 →
    0 < s.par .nLoss → 0 < s.par .nStop → 0 < s.par .nShadow →
      let env (bs : List Byte) : Envelope := { flags := 0#4, addr := addr, payload := bs }
      let h : State := { s with
        vrl := { s.vrl with
          received := (s.vrl.received + 1) % 65536
          rx := { s.vrl.rx with state := .hunt, flagReg := 0, flagLen := 0 } }
        tgh := { s.tgh with silent := 0, shadowUsed := s.inShadow, link := .ok } }
      let x := if s.tgh.link = .ok then h else h.raise .link
      let writes (y : State) (kind : Nat) (o : Option Nat) (r : ResultCode) : State :=
        { y with tgh := { y.tgh with
          radioProfile := some { kind := kind, result := r, offset := o }
          refusedProfile :=
            if r ≠ .accepted ∧ s.tgh.refusedProfile < 255 then s.tgh.refusedProfile + 1
            else s.tgh.refusedProfile } }
      let version := v1.toNat * 256 + v0.toNat
      let length := n1.toNat * 256 + n0.toNat
      let check : BitVec 32 := c3 ++ c2 ++ c1 ++ c0
      let b := s.lps.standby
      let i := s.lps.standbyId
      let o := offset.toNat
      let switched : State := State.raise .profile { x with
        lps := { (s.lps.setBank i { b with role := .active }).setBank i.other
            { s.lps.bank i.other with role := .standby } with
          pendingAct := none, scrubPos := 0, scrubCrc := 0xFFFFFFFF }
        ssu := { s.ssu with
          window := [], horizon := none, steepMark := false
          flushCount := (s.ssu.flushCount + 1) % 65536 }
        tgh := { x.tgh with outdated := match s.tgh.beacon with
          | none => s.tgh.outdated
          | some (line, v) =>
            decide ((b.image.read 0).toNat * 256 + (b.image.read 1).toNat ≠ line ∨
              (b.image.read 2).toNat * 256 + (b.image.read 3).toNat ≠ v) } }
      let port := ∃ k, s.lps.claim = some k ∧ k.holder = .portC
      let rejects : State := { x with lps := { s.lps with
        rejected := if s.lps.rejected < 255 then s.lps.rejected + 1 else s.lps.rejected } }
      (∃ t, exec (.profileOpenTelegram (env [v1, v0, n1, n0])) s = .next t ∧
        (port → State.Ends (writes x 8 none .bankBusy) t) ∧
        (¬port → length < 21 ∨ 1069 < length → State.Ends (writes x 8 none .badArgument) t) ∧
        (¬port → 21 ≤ length → length ≤ 1069 →
          State.Ends (writes { x with lps := { s.lps.setBank i
              { role := .standby, state := .opened, image := [], length := some length,
                version := some version, header := none, result := none } with
            claim := some { holder := .radio, length := length, version := version }, closeCheck := none
            blockMap := 0, pendingAct := none, checkPos := 0, checkCrc := 0xFFFFFFFF } }
            8 none .accepted) t)) ∧
      (∃ t, exec (.profileBlock (env (offset :: block))) s = .next t ∧
        (s.lps.claim = none → State.Ends (writes rejects 9 (some o) .conditions) t) ∧
        (∀ k, s.lps.claim = some k →
          (k.holder = .portC → State.Ends (writes rejects 9 (some o) .bankBusy) t) ∧
          (k.holder = .radio → b.state ≠ .opened →
            State.Ends (writes rejects 9 (some o) .conditions) t) ∧
          (k.holder = .radio → b.state = .opened → (k.length + 7) / 8 ≤ o →
            State.Ends (writes rejects 9 (some o) .badArgument) t) ∧
          (k.holder = .radio → b.state = .opened → o < (k.length + 7) / 8 →
            State.Ends (writes { x with lps := { s.lps.setBank i
                { b with image := b.image.writeAll (8 * o) block } with
              blockMap := s.lps.blockMap ||| (1#134 <<< o) } } 9 (some o) .accepted) t))) ∧
      (∃ t, exec (.profileCloseTelegram (env [v1, v0, c3, c2, c1, c0])) s = .next t ∧
        (s.lps.claim = none → State.Ends (writes x 10 none .conditions) t) ∧
        (∀ k, s.lps.claim = some k →
          (k.holder = .portC → State.Ends (writes x 10 none .bankBusy) t) ∧
          (k.holder = .radio → b.state = .closed → State.Ends (writes x 10 none .conditions) t) ∧
          (k.holder = .radio → b.state ≠ .closed → version ≠ k.version →
            State.Ends (writes x 10 none .version) t) ∧
          (k.holder = .radio → b.state ≠ .closed → version = k.version →
            s.lps.blocksReceived = (k.length + 7) / 8 →
            State.Ends (writes { x with lps := { s.lps.setBank i { b with state := .closed } with
              closeCheck := some check
              checkPos := 0, checkCrc := 0xFFFFFFFF } } 10 none .accepted) t) ∧
          (k.holder = .radio → b.state ≠ .closed → version = k.version →
            s.lps.blocksReceived ≠ (k.length + 7) / 8 →
            State.Ends (State.raise .profile
              (writes { x with lps := { s.lps.setBank i
                { b with state := .failed, result := some .missingBlocks } with
              claim := none, closeCheck := some check, blockMap := 0 } } 10 none .accepted)) t))) ∧
      (∃ t, exec (.profileActivateTelegram (env [v1, v0])) s = .next t ∧
        (b.state ≠ .checked → State.Ends (writes x 11 none .notChecked) t) ∧
        (b.state = .checked → b.version ≠ some version → State.Ends (writes x 11 none .version) t) ∧
        (b.state = .checked → b.version = some version →
          s.odu.motion ≠ .standstill → s.dka.active ≠ none →
            State.Ends (writes { x with lps := { s.lps with
              pendingAct := some (version, .radio) } } 11 none .accepted) t) ∧
        (b.state = .checked → b.version = some version →
          (s.odu.motion = .standstill ∨ s.dka.active = none) →
            State.Ends (writes switched 11 none .accepted) t))

/-- R157 to R160: the text queues. A TEXT, to all cars or to this one (R142, R152), is queued with its
addressing and its arrival while fewer than eight wait, and counts as an overflow otherwise; from Q_trig
entries on, or when the head has waited T_text without a notice, port C is told, once for the entries then
waiting. POP_TEXT takes the head, and SEND_TEXT queues the text-out window's text while fewer than four
wait. The expiry of T_text without a text that waits for a notice does nothing (log entry 2). -/
def Obligations.TextsAreQueuedAndTaken : Prop :=
  ∀ (s : State) (addr : Byte) (bs : List Byte) (p : Port),
    let told (y : State) : State := State.raiseOn .c .textQueued
      { y with tgh := { y.tgh with rxTexts := y.tgh.rxTexts.map fun q => { q with notified := true } } }
    (s.pst.frozen = true → s.vrl.tx.state = .idle → (addr = 0#8 ∨ addr.toNat = s.par .carAddress) →
      0 < s.par .nLoss → 0 < s.par .nStop → 0 < s.par .nShadow → bs.length ≤ 12 →
      let got : State := { s with vrl := { s.vrl with
        received := (s.vrl.received + 1) % 65536
        rx := { s.vrl.rx with state := .hunt, flagReg := 0, flagLen := 0 } } }
      let heard : State :=
        { got with tgh := { s.tgh with silent := 0, shadowUsed := s.inShadow, link := .ok } }
      let x : State :=
        if addr = 0#8 then got else if s.tgh.link = .ok then heard else heard.raise .link
      let y : State := { x with tgh := { x.tgh with rxTexts := s.tgh.rxTexts ++
        [{ payload := bs, toCar := decide (addr ≠ 0#8), arrival := s.now, notified := false }] } }
      ∃ t, exec (.text { flags := 0#4, addr := addr, payload := bs }) s = .next t ∧
        State.Ends
          (if 8 ≤ s.tgh.rxTexts.length then { x with tgh := { x.tgh with
              rxOverflow := if s.tgh.rxOverflow < 255 then s.tgh.rxOverflow + 1 else s.tgh.rxOverflow } }
            else if s.par .qTrig ≤ s.tgh.rxTexts.length + 1 then told y
            else y) t) ∧
    (s.tgh.rxTexts = [] → exec .textWaitExpiry s = .next s) ∧
    (∀ q rest, s.tgh.rxTexts = q :: rest → (q.notified = true ∨ s.par .qTrig ≤ rest.length + 1) →
      exec .textWaitExpiry s = .next s) ∧
    (∀ q rest, s.tgh.rxTexts = q :: rest → q.notified = false → rest.length + 1 < s.par .qTrig →
      exec .textWaitExpiry s = .next (told (s.advanceTo (q.arrival + s.par .tText * 1000)))) ∧
    (p ≠ .c → exec (.popText p) s = .next (s.writeResult p 17 .notPermitted none)) ∧
    (p = .c → s.tgh.rxTexts = [] → exec (.popText p) s = .next (s.writeResult p 17 .conditions none)) ∧
    (∀ q rest, p = .c → s.tgh.rxTexts = q :: rest →
      let y : State := { s with tgh := { s.tgh with rxTexts := rest } }
      let waited := match rest with
        | [] => False
        | r :: more => r.notified = false ∧ more.length + 1 < s.par .qTrig ∧
            r.arrival + s.par .tText * 1000 ≤ s.now
      (¬waited → exec (.popText p) s = .next (y.writeResult p 17 .accepted none)) ∧
      (waited → exec (.popText p) s = .next ((told y).writeResult p 17 .accepted none))) ∧
    (p ≠ .c → exec (.sendText p) s = .next (s.writeResult p 16 .notPermitted none)) ∧
    (p = .c → 12 < s.tgh.textOut.length.toNat →
      exec (.sendText p) s = .next (s.writeResult p 16 .badArgument none)) ∧
    (p = .c → s.tgh.textOut.length.toNat ≤ 12 → 4 ≤ s.tgh.txTexts.length →
      exec (.sendText p) s = .next (s.writeResult p 16 .full none)) ∧
    (p = .c → s.tgh.textOut.length.toNat ≤ 12 → s.tgh.txTexts.length < 4 →
      let o := s.tgh.textOut
      let bytes := ([o.w0, o.w1, o.w2, o.w3, o.w4, o.w5].flatMap wordBytes).take o.length.toNat
      exec (.sendText p) s = .next (State.writeResult p 16 .accepted none
        { s with tgh := { s.tgh with txTexts := s.tgh.txTexts ++ [bytes] } }))

/-! ## The master ports -/

/-- 11.3, 11.4, R182: the words of every record, from the fields it shows, and where each record lies. A
record with fields that may be absent begins with their presence word; an absent field reads 0; an enumerated
field is its value's place in the owning table. The order of the bits, the codes whose values no record table
lists (of the source of a pending activation, of a withdrawal and of the last refused condition of a side), and
a distance below what a word holds are the model's choice (log entry 17), as is a time left in whole ms (log
entry 15). The intervention speeds are the roots of the curve values, rounded down (R55). -/
def Obligations.RecordsHoldTheirFields : Prop :=
  ∀ s : State,
    let w (n : Nat) : Word := BitVec.ofNat 16 n
    let two (n : Nat) : List Word := [w (n / 65536), w n]
    let o (x : Option Nat) : Word := w (x.getD 0)
    let signed (x : Int) : Word := BitVec.ofInt 16 x
    let bits (bs : List Bool) : Word := w (bs.foldr (fun b n => 2 * n + if b then 1 else 0) 0)
    let bytes (n : Nat) (bs : List Byte) : List Word :=
      (List.range n).map fun i => bs.getD (2 * i) 0 ++ bs.getD (2 * i + 1) 0
    let left (t : Timer) : Nat := (t.map fun d => (d - s.now) / 1000).getD 0
    let dir (d : Dir) : Nat := [Dir.up, .down].idxOf d
    let health (x : Source) : Nat := [Health.ok, .suspect, .isolated].idxOf x.health
    let met (b : Bool) : Nat := if b then 0 else 1
    let percent (l : Level) : Option Nat := match l with
      | .service p => some p
      | _ => none
    let level (l : Level) : Nat := match l with
      | .none => 0
      | .hold => 1
      | .service _ => 2
      | .fullService => 3
      | .emergency => 4
    let reason (r : Reason) : Nat :=
      [Reason.handle, .handleEmergency, .cabStale, .serviceCurve, .emergencyCurve, .overrun, .doorsNotClosed,
        .doorInMotion, .callService, .linkStop, .callEmergency, .rollback, .positionLost, .loopOpen, .standing,
        .noDesk].idxOf r
    let rowIds : List RowId := [.cab, .supervision, .doors, .radio, .odometry, .loop, .hold]
    let gate : List Bool :=
      [s.dka.active.isSome, s.dka.selected.isSome,
        (s.dka.active.map fun d => (s.dka.cab d).fresh.isSome).getD false, !s.dka.lock, s.drc.summary,
        s.brm.latch.isNone, decide (s.ssu.status = .normal ∨ s.ssu.status = .warning),
        decide (s.brm.level = .none ∨
          (s.brm.level = .hold ∧ (s.brm.departure = .pulling ∨ s.brm.departure = .stalled))),
        decide (s.ssu.mode = .shunt) || (decide (s.ssu.mode = .full) && s.tgh.authority.isSome),
        decide (s.brm.upper.fault ≠ some .failRelease ∧ s.brm.lower.fault ≠ some .failRelease)]
    let shut (d : Door) : Bool := decide (d.state = .locked ∨ (d.state = .isolated ∧ d.lk = true ∧ d.op = false))
    let sounds (d : Door) : Bool := decide (d.state = .warning ∨ d.state = .closing)
    let fault (f : PinionFault) : Nat := [PinionFault.failApply, .failRelease].idxOf f
    let words := s.recordWords
    -- chapter 1
    (let u := s.odu
     let cause : Option Cause := match u.pos with
       | .invalid c => some c
       | _ => none
     words .motion =
       [bits [cause.isSome, u.lastMarker.isSome],
         w (match u.pos with
           | .valid => 0
           | .restored => 1
           | .invalid _ => 2),
         o (cause.map fun c => [Cause.noFix, .width, .sourcesLost, .markerConflict].idxOf c)] ++
       two (u.lo / 100000) ++ two ((u.hi + 99999) / 100000) ++
       [w u.speed, bits [u.overrange, u.slip, u.overrun],
         w ([Motion.standstill, .movingUp, .movingDown].idxOf u.motion),
         w ([Regime.rack, .adhesion].idxOf u.regime), o u.lastMarker, w (min 65535 (u.distHalf / 200000)),
         w (min 255 ((u.rollback + 99999) / 100000))] ∧
     words .source =
       [w (health u.upper.src), w (health u.lower.src), w (health u.tooth.src), w u.upper.illegalCount,
         w u.lower.illegalCount, w u.unknownMarkers, w u.invalidReads]) ∧
    -- chapter 6
    words .desk =
      [bits [s.dka.switch.isSome, s.dka.running.isSome, s.dka.orphan.isSome],
        w ([none, some Desk.u, some .l].idxOf s.dka.active),
        o (s.dka.switch.map fun x => [DirSwitch.forward, .neutral, .reverse].idxOf x),
        w ([some Dir.up, some .down, none].idxOf s.dka.selected), o (s.dka.running.map dir),
        bits [s.dka.lock, s.dka.cabU.fresh.isNone, s.dka.cabL.fresh.isNone], w (left s.dka.orphan),
        w (match s.dka.active with
          | none => 0
          | some d => if (s.dka.cab d).fresh = none then 0 else (s.dka.cab d).traction)] ∧
    (∀ d, words (.cab d) =
      let c := s.dka.cab d
      [w c.traction,
        w (match c.handle with
          | .percent p => p
          | .emergency => 255),
        w ([DirSwitch.forward, .neutral, .reverse].idxOf c.switch), w c.writes,
        w ((if c.fresh = none then 0 else 32768) + left c.fresh)]) ∧
    -- chapter 3
    (let u := s.ssu
     let q := u.prereqs
     words .supervision =
       [bits [q.isSome, q.isSome, q.isSome, u.front.isSome, u.mrsp.isSome, u.buildUp.isSome,
           u.authSide.isSome],
         w ([Mode.none, .shunt, .full].idxOf u.mode),
         w ([Status.normal, .warning, .service, .emergency].idxOf u.status),
         bits [u.overrun, u.warning, u.truncated, u.steep], o (q.map fun x => met x.profile),
         o (q.map fun x => met x.position), o (q.map fun x => met x.authority),
         w ([some Dir.up, some .down, none].idxOf u.dir)] ++ two (u.front.getD 0) ++
       [o u.mrsp, o u.buildUp, o (u.authSide.map fun x => [Side.ahead, .beyond].idxOf x), w u.flushCount] ∧
     (u.curves = none →
       words .curve = bits [false, false, false, false, false, false, u.governing.isSome, u.governing.isSome,
           u.horizon.isSome] :: List.replicate 9 0#16 ++
         [signed ((u.governing.map Prod.fst).getD 0), o (u.governing.map Prod.snd), w u.window.length,
           signed (u.horizon.getD 0)]) ∧
     (∀ (k : Curves) (a b c : Nat), u.curves = some k → a < 65536 → b < 65536 → c < 65536 →
       a ^ 2 ≤ k.perm → k.perm < (a + 1) ^ 2 → b ^ 2 ≤ k.sb → k.sb < (b + 1) ^ 2 →
       c ^ 2 ≤ k.eb → k.eb < (c + 1) ^ 2 →
         words .curve = [bits [true, true, true, true, true, true, u.governing.isSome, u.governing.isSome,
             u.horizon.isSome]] ++ two k.perm ++ two k.sb ++ two k.eb ++ [w a, w b, w c] ++
           [signed ((u.governing.map Prod.fst).getD 0), o (u.governing.map Prod.snd), w u.window.length,
             signed (u.horizon.getD 0)]) ∧
     words .restrictionSummary = [bits [u.cap.isSome], w u.restrictions.length, o u.cap, w u.malformed] ∧
     (∀ k, words (.piece k) = match u.window[k]? with
       | none => List.replicate 6 0#16
       | some x => [w x.near, w x.length, w ([SegKind.adhesion, .rack, .rackEntry, .depot].idxOf x.kind),
           signed x.gradient, w x.decel, w x.ceiling]) ∧
     (∀ k, words (.restriction k) = match u.restrictions[k]? with
       | none => List.replicate 7 0#16
       | some r => w r.ident :: two r.first ++ two r.last ++
           [w r.speed, w ([Applies.both, .up, .down].idxOf r.applies)])) ∧
    -- chapter 4
    (let u := s.brm
     (∀ i, words (.row i) =
       let r := u.rows.get i
       [bits [(percent r.level).isSome, r.reason.isSome], w (level r.level), o (percent r.level),
         o (r.reason.map reason)]) ∧
     words .brake =
       [bits [(percent u.level).isSome, u.latch.isSome, u.measured.isSome, u.waiting.isSome,
           u.upper.fault.isSome, u.lower.fault.isSome], w (level u.level), o (percent u.level),
         w ((rowIds.map fun i => (u.rows.get i).level).idxOf u.level),
         o (u.latch.map fun x => match x with
           | .row i => rowIds.idxOf i
           | .pinionApply => 7
           | .reset => 8),
         w u.target, o u.measured, w ([Valve.apply, .lap, .release].idxOf u.valve),
         o (u.waiting.map fun x => [OpenValve.apply, .release].idxOf x),
         w ([PinionCmd.applied, .released].idxOf u.pinion), o (u.upper.fault.map fault),
         o (u.lower.fault.map fault),
         bits [u.latch.isSome, u.sensorFault, u.frictionFault, u.upper.applied, u.lower.applied, u.holding,
           u.effortValid, gate.all id, u.senseOpen, u.latch.isSome, u.loopForced]] ∧
     words .brakeOutput =
       [bits [!gate.all id], w u.ebrake.driven, w u.traction.driven, signed u.effort, w (-u.effort).toNat,
         if gate.all id then 0#16 else w (gate.idxOf false),
         w ([Departure.idle, .pulling, .stalled, .released].idxOf u.departure), w u.required,
         w (left u.stallTimer)]) ∧
    -- chapter 5
    ((∀ i, words (.door i) =
       let d := s.drc.door i
       let phase : Option Nat := match d.state with
         | .reversing p => some ([Phase.stop, .drive].idxOf p)
         | _ => none
       let why : Option Nat := match d.state with
         | .fault r => some ([DoorFault.openTimeout, .reversalLimit, .lockLost, .switchConflict].idxOf r)
         | _ => none
       [bits [phase.isSome, why.isSome, d.timer.isSome, d.timer.isSome],
         w ([DoorId.a1, .a2, .b1, .b2].idxOf i),
         w (match i with
           | .a1 => 0
           | .a2 => 0
           | .b1 => 1
           | .b2 => 1),
         w (match d.state with
           | .locked => 0
           | .released => 1
           | .opening => 2
           | .opened => 3
           | .warning => 4
           | .closing => 5
           | .reversing _ => 6
           | .fault _ => 7
           | .isolated => 8),
         w d.reversals, o phase, o why,
         o (d.timer.map fun x =>
           [DoorTimer.tOpen, .dwell, .tWarn, .tClose, .stopInterval, .tRev].idxOf x.1),
         w (left (d.timer.map Prod.snd)), bits [d.lk, d.op, d.ed, d.pb], w d.motor.driven,
         w ([MotorDir.opens, .closes].idxOf d.motor.drivenDir)]) ∧
     (∀ i, words (.side i) =
       let r := s.drc.side i
       [bits [r.granted.isSome, r.cause.isSome, r.refused.isSome], w ([CarSide.a, .b].idxOf i),
         w (if r.granted = none then 1 else 0), o (r.granted.map fun d => [Desk.u, .l].idxOf d),
         o (r.cause.map fun c => [WithdrawCause.cond .standstill, .cond .holding, .cond .position,
           .cond .platform, .cond .holdDoors, .close, .desk].idxOf c),
         o (r.refused.map fun c =>
           [GrantCond.standstill, .holding, .position, .platform, .holdDoors].idxOf c)]) ∧
     words .interlock =
       let k := s.drc
       let r := s.brm.rows.doors
       [bits [r.reason.isSome],
         bits [k.summary, sounds k.a1 || sounds k.a2 || sounds k.b1 || sounds k.b2],
         bits [!shut k.a1, !shut k.a2, !shut k.b1, !shut k.b2], w (level r.level), o (r.reason.map reason)]) ∧
    -- chapter 2
    ((∀ i, words (.bank i) =
       let b := s.lps.bank i
       let h := b.header
       [bits [b.length.isSome, b.version.isSome, h.isSome, h.isSome, h.isSome, h.isSome, h.isSome,
           b.result.isSome],
         w ([Role.active, .standby, .none].idxOf b.role),
         w ([BankState.empty, .opened, .closed, .checked, .failed].idxOf b.state), o b.length, o b.version,
         o (h.map Header.lineId)] ++ two ((h.map Header.lineEnd).getD 0) ++
       [o (h.map Header.nSegments), o (h.map Header.nMarkers)] ++
       two ((h.map fun x => x.check.toNat).getD 0) ++
       [o (b.result.map fun x => [CheckResult.passed, .countLength, .headerMismatch, .firstStart,
         .segmentOrder, .lineEnd, .shortSegment, .fieldRange, .flagBits, .rackEntry, .markerIdentity,
         .markerDuplicate, .markerOrder, .crc, .missingBlocks].idxOf x)]) ∧
     (let u := s.lps
      let c := u.claim
      words .claim =
        [bits [c.isSome, c.isSome, c.isSome, u.closeCheck.isSome],
          w ([none, some Writer.portC, some .radio].idxOf (c.map Claim.holder)), o (c.map Claim.length),
          o (c.map Claim.version), o (c.map fun x => (x.length + 7) / 8),
          w ((List.range 134).countP fun k => u.blockMap.getLsbD k)] ++
        two ((u.closeCheck.map BitVec.toNat).getD 0) ++ [w u.rejected] ∧
      words .blockMap =
        ((List.range 9).map fun i => bits ((List.range 16).map fun k => u.blockMap.getLsbD (16 * i + k))) ∧
      words .activation =
        [bits [u.pendingAct.isSome, u.pendingAct.isSome], o (u.pendingAct.map Prod.fst),
          o (u.pendingAct.map fun x => [Writer.portC, .radio].idxOf x.2), w u.scrubPos, w u.passes] ∧
      words .staging = [u.staging.offset, u.staging.d0, u.staging.d1, u.staging.d2, u.staging.d3] ∧
      words .closeCheck = two s.pif.closeCheck.toNat)) ∧
    -- chapters 7 and 8
    (let v := s.vrl
     let u := s.tgh
     words .radio =
       [w ([Sync.synced, .coasting, .unsynced].idxOf v.sync), w v.slot, w v.bit, w v.cycle, w v.missed,
         w v.resync, w ([TxState.idle, .lead, .sending].idxOf v.tx.state),
         w ([RxState.hunt, .header, .payload, .check].idxOf v.rx.state),
         bits [decide (v.tx.state ≠ .idle), v.rx.carrier, s.pst.strapLatch], w v.aborts, w v.lengthErrors,
         w v.crcErrors, w v.received, w v.transmitted] ∧
     words .link =
       [bits [u.beacon.isSome, u.beacon.isSome], w ([Link.ok, .lost, .stop].idxOf u.link), w u.silent,
         bits [u.shadowUsed, u.outdated], o (u.beacon.map Prod.fst), o (u.beacon.map Prod.snd), w u.foreign,
         w u.formatErrors] ∧
     (let a := u.authority
      words .authority =
        [bits [a.isSome, a.isSome, a.isSome, a.isSome, a.isSome, u.lastIssue.isSome],
          bits [a.isSome, (a.map Authority.holdDoors).getD false], o (a.map Authority.issue),
          o (a.map fun x => dir x.dir)] ++ two ((a.map Authority.limit).getD 0) ++
        bytes 3 ((a.map Authority.stretchId).getD []) ++ [o u.lastIssue, w u.ignored]) ∧
     (let r := u.radioProfile
      words .radioProfile =
        [bits [r.isSome, r.isSome, (r.bind RadioProfile.offset).isSome], o (r.map RadioProfile.kind),
          o (r.map fun x => [ResultCode.accepted, .busy, .notReady, .moving, .notActiveDesk, .conditions,
            .badArgument, .full, .bankBusy, .notChecked, .version, .frozen, .notPermitted].idxOf x.result),
          o (r.bind RadioProfile.offset), w u.refusedProfile]) ∧
     (∀ k, words (.call k) = match u.calls[k]? with
       | none => List.replicate 7 0#16
       | some c => [15#16, w c.ident] ++ two c.first ++ two c.last ++
           [w ([Severity.service, .emergency].idxOf c.severity)]) ∧
     words .wholeLine =
       [bits [u.wholeLine.isSome], o (u.wholeLine.map fun x => [Severity.service, .emergency].idxOf x)] ∧
     (let h := u.rxTexts.head?
      words .rxText =
        [bits [h.isSome, h.isSome, h.isSome, h.isSome, h.isSome], w u.rxTexts.length, w u.rxOverflow,
          o (h.map fun x => x.payload.length), o (h.map fun x => if x.toCar then 0 else 1),
          o (h.map fun x => min 65535 ((s.now - x.arrival) / 1000)),
          bits [(h.map TextEntry.notified).getD false]] ++ bytes 6 ((h.map TextEntry.payload).getD [])) ∧
     words .txText = [w u.txTexts.length] ∧
     words .textOut = [u.textOut.length, u.textOut.w0, u.textOut.w1, u.textOut.w2, u.textOut.w3,
       u.textOut.w4, u.textOut.w5]) ∧
    -- chapter 10
    (words .parameterStatus =
       [bits [s.pst.lastCheck.isSome], w (if s.pst.frozen then 1 else 0),
         o (s.pst.lastCheck.map fun x => match x with
           | .passed => 0
           | .failed n second => n + if second then 256 else 0),
         bits [s.pst.strapLatch]] ++
       ((List.range 4).map fun i => bits ((List.range 16).map fun k => s.pst.clamped.getLsbD (16 * i + k))) ∧
     ((List.range 4).flatMap fun k => words (.parameters k)) =
       Param.all.flatMap fun p => if p = .pRack then two (s.par p) else [w (s.par p)]) ∧
    -- where they lie
    (∀ x ∈ [(RecordId.motion, 0x000, 14), (.source, 0x010, 7), (.desk, 0x018, 8), (.cab .u, 0x020, 5),
        (.cab .l, 0x028, 5), (.supervision, 0x030, 14), (.curve, 0x040, 14), (.restrictionSummary, 0x050, 4),
        (.row .cab, 0x140, 4), (.row .supervision, 0x144, 4), (.row .doors, 0x148, 4), (.row .radio, 0x14C, 4),
        (.row .odometry, 0x150, 4), (.row .loop, 0x154, 4), (.row .hold, 0x158, 4), (.brake, 0x160, 13),
        (.brakeOutput, 0x170, 9), (.door .a1, 0x180, 12), (.door .a2, 0x190, 12), (.door .b1, 0x1A0, 12),
        (.door .b2, 0x1B0, 12), (.side .a, 0x1C0, 6), (.side .b, 0x1C8, 6), (.interlock, 0x1D0, 5)] ++
        [(.bank .x, 0x200, 13), (.bank .y, 0x210, 13), (.claim, 0x220, 9), (.blockMap, 0x230, 9),
        (.activation, 0x240, 5), (.staging, 0x248, 5), (.closeCheck, 0x250, 2), (.radio, 0x280, 14),
        (.link, 0x290, 8), (.authority, 0x2A0, 11), (.radioProfile, 0x2B0, 5), (.wholeLine, 0x2E0, 2),
        (.rxText, 0x300, 13), (.txText, 0x310, 1), (.textOut, 0x318, 7), (.parameterStatus, 0x400, 8),
        (.parameters 0, 0x410, 16), (.parameters 1, 0x420, 16), (.parameters 2, 0x430, 16),
        (.parameters 3, 0x440, 14)],
      placeAt x.2.1 = some { record := x.1, base := x.2.1, words := x.2.2 }) ∧
    (∀ k < 16, placeAt (0x060 + 8 * k) = some { record := .piece k, base := 0x060 + 8 * k, words := 6 }) ∧
    (∀ k < 12, placeAt (0x0E0 + 8 * k) = some { record := .restriction k, base := 0x0E0 + 8 * k, words := 7 }) ∧
    (∀ k < 4, placeAt (0x2C0 + 8 * k) = some { record := .call k, base := 0x2C0 + 8 * k, words := 7 }) ∧
    recordMap.length = 76

/-- R162 to R164, R171: SET_POINTER takes the address modulo 4,096, and with it a snapshot where a record
begins there. A READ that starts with a record's snapshot at its first word shifts out exactly that record,
and moves the pointer behind it; one that runs on shifts out the unmapped words before the next record as 0,
and the next record as it stands. Without a snapshot a word is shifted out live, and an unmapped one as 0. A
READ with a count of 0 or above 256 is a framing error. In general: each word comes from the buffer while
that holds its record, and live otherwise; the pointer moves on by one word at a time, modulo 4,096; each
move onto the first word of a record puts that record, as it stands, into the buffer, and any other leaves
the buffer as it was. READ_STATUS shifts out the status words and clears nothing; that its code word shows
the low byte of a request code is the model's choice (log entry 17). No word of this touches anything but
the port. What the words of a record are, `RecordsHoldTheirFields` says. -/
def Obligations.PointerReadAndStatusShiftOut : Prop :=
  ∀ (s : State) (p : Port) (addr count : Word),
    let q := s.port p
    let a := addr.toNat % 4096
    exec (.setPointer p addr) s = .next (s.setPort p { q with
      pointer := a
      snapshot := (placeAt a).map fun r => { base := a, words := s.recordWords r.record } }) ∧
    (∀ r ∈ recordMap, (s.recordWords r.record).length = r.words ∧
      (count.toNat = r.words → q.pointer = r.base →
        ∀ ws : List Word, ws.length = r.words → q.snapshot = some { base := r.base, words := ws } →
          ∃ t : State, exec (.read p count) s = .next t ∧
            (t.port p).out = ws ∧ (t.port p).pointer = (r.base + r.words) % 4096 ∧
            t = s.setPort p { q with
              out := ws, pointer := (t.port p).pointer, snapshot := (t.port p).snapshot })) ∧
    (∀ r ∈ recordMap, ∀ r' ∈ recordMap, r.base < r'.base →
      (∀ x ∈ recordMap, x.base ≤ r.base ∨ r'.base ≤ x.base) →
      count.toNat = r'.base - r.base + r'.words → q.pointer = r.base →
        ∀ ws : List Word, ws.length = r.words → q.snapshot = some { base := r.base, words := ws } →
          ∃ t : State, exec (.read p count) s = .next t ∧
            (t.port p).out = ws ++ List.replicate (r'.base - (r.base + r.words)) 0#16 ++
              s.recordWords r'.record ∧
            (t.port p).pointer = (r'.base + r'.words) % 4096) ∧
    (count = 1#16 → q.snapshot = none → q.pointer < 4096 →
      ∃ t : State, exec (.read p count) s = .next t ∧ (t.port p).pointer = (q.pointer + 1) % 4096 ∧
        (∀ r ∈ recordMap, ∀ k < r.words, q.pointer = r.base + k →
          ∃ x, (s.recordWords r.record)[k]? = some x ∧ (t.port p).out = [x]) ∧
        ((∀ r ∈ recordMap, ¬(r.base ≤ q.pointer ∧ q.pointer < r.base + r.words)) →
          (t.port p).out = [0#16])) ∧
    (count.toNat = 0 ∨ 256 < count.toNat →
      exec (.read p count) s = .next (s.setPort p { q with
        frameErrors := if q.frameErrors < 255 then q.frameErrors + 1 else q.frameErrors })) ∧
    (1 ≤ count.toNat → count.toNat ≤ 256 →
      ∃ t : State, exec (.read p count) s = .next t ∧ (t.port p).out.length = count.toNat ∧
        t = s.setPort p { q with
          out := (t.port p).out, pointer := (t.port p).pointer, snapshot := (t.port p).snapshot }) ∧
    (1 ≤ count.toNat → count.toNat ≤ 256 → q.pointer < 4096 →
      let buffer (j : Nat) : Option Snapshot := (List.range j).foldl (fun g i =>
        match recordMap.find? fun r => r.base == (q.pointer + i + 1) % 4096 with
        | none => g
        | some r => some { base := r.base, words := s.recordWords r.record }) q.snapshot
      let word (j : Nat) : Word :=
        let b := (q.pointer + j) % 4096
        match recordMap.find? fun r => decide (r.base ≤ b ∧ b < r.base + r.words) with
        | none => 0
        | some r =>
          match buffer j with
          | none => (s.recordWords r.record).getD (b - r.base) 0
          | some g => (if g.base = r.base then g.words else s.recordWords r.record).getD (b - r.base) 0
      exec (.read p count) s = .next (s.setPort p { q with
        out := (List.range count.toNat).map word
        pointer := (q.pointer + count.toNat) % 4096, snapshot := buffer count.toNat })) ∧
    exec (.readStatus p) s = .next (s.setPort p { q with out :=
      [q.pending.setWidth 16, q.enable.setWidth 16, 0#16,
        BitVec.ofNat 16 (match q.result with
          | none => 0
          | some c => 256 * (c.code.toNat % 256) + c.result.code),
        ((q.result.bind ResultCell.detail).getD 0#16),
        BitVec.ofNat 16 ((if q.result.isSome then 32768 else 0) + q.seq),
        BitVec.ofNat 16 (256 * q.refused + q.frameErrors)] })

/-- R162, R163, R165, R174: a WRITE of any run of words, by any port, from any pointer; the table's four rows for
it are one command, and without a word it is a framing error. Each word that the port's mask admits is kept, each
other one is dropped and counts as refused, and both move the pointer on; that a pointer so moved onto a record's
first word takes a snapshot, the model's choice between R163 and R164, and that of several words for one address,
in a WRITE that runs round the record space, the last one stands, are its choices (log entry 13). With no word kept
nothing more happens. What port U or L keeps goes to its cab control record, as `CabControlWriteIsTakenWhole` says. Of what
port C keeps, each record takes its own words, and keeps its others: the text-out window; the close-check record,
the high word first; the staging window, which commits its block where the fourth data word is among them, as a
write of the whole window with these contents does (`StagingWindowWriteCommitsTheBlock`); and each parameter
touched, which takes the value held to its range, with its clamped flag decided afresh, p_rack from its two words as
they stand after the transaction. R170: CLEAR_NOTICES removes the kinds of its mask from the pending set, and
SET_ENABLES replaces the enable mask; the port's interrupt line is asserted while a kind is both pending and
enabled. -/
def Obligations.WritesGoThroughTheMasks : Prop :=
  ∀ (s : State) (p : Port) (ws : List Word) (w : Word),
    let q := s.port p
    let word := s.wordFor p ws
    let y := s.wrote p ws
    (∀ c ∈ [Instr.write p ws, .cabControlWrite p ws, .stagingWindowWrite p ws, .parameterWrite p ws],
      exec c s = exec (.write p ws) s ∧
      (ws = [] → exec c s = .next (s.setPort p { q with
        frameErrors := if q.frameErrors < 255 then q.frameErrors + 1 else q.frameErrors })) ∧
      (ws ≠ [] → (∀ b, word b = none) → exec c s = .next y) ∧
      (ws ≠ [] → p = .c →
        let text := s.tgh.textOut
        let check : BitVec 32 := (word 0x250).getD (s.pif.closeCheck.extractLsb' 16 16) ++
          (word 0x251).getD (s.pif.closeCheck.extractLsb' 0 16)
        let window : Staging :=
          { offset := (word 0x248).getD s.lps.staging.offset, d0 := (word 0x249).getD s.lps.staging.d0
            d1 := (word 0x24A).getD s.lps.staging.d1, d2 := (word 0x24B).getD s.lps.staging.d2
            d3 := (word 0x24C).getD s.lps.staging.d3 }
        ∃ t : State, exec c s = .next t ∧
          t = { y with
            lps := t.lps
            tgh := { s.tgh with textOut :=
              { length := (word 0x318).getD text.length, w0 := (word 0x319).getD text.w0
                w1 := (word 0x31A).getD text.w1, w2 := (word 0x31B).getD text.w2
                w3 := (word 0x31C).getD text.w3, w4 := (word 0x31D).getD text.w4
                w5 := (word 0x31E).getD text.w5 } }
            pif := { y.pif with closeCheck := check }
            pst := { s.pst with params := t.pst.params, clamped := t.pst.clamped } } ∧
          (word 0x24C = none → t.lps = { s.lps with staging := window }) ∧
          (word 0x24C ≠ none → ∃ v : State, t.lps = v.lps ∧
            exec (.stagingWindowWrite .c [window.offset, window.d0, window.d1, window.d2, window.d3])
              (s.setPort .c { s.pif.c with pointer := 0x248 }) = .next v) ∧
          (∀ k : Param, k ≠ .pRack →
            let new := word (0x410 + (if k.idx.val < 2 then k.idx.val else k.idx.val + 1))
            (new = none → t.par k = s.par k ∧
              t.pst.clamped.getLsbD k.idx = s.pst.clamped.getLsbD k.idx) ∧
            (∀ x, new = some x → t.par k = max k.least (min k.greatest x.toNat) ∧
              t.pst.clamped.getLsbD k.idx = decide (x.toNat < k.least ∨ k.greatest < x.toNat))) ∧
          (let k := Param.pRack
           let high := word 0x412
           let low := word 0x413
           (high = none → low = none → t.par k = s.par k ∧
             t.pst.clamped.getLsbD k.idx = s.pst.clamped.getLsbD k.idx) ∧
           (high ≠ none ∨ low ≠ none →
             let n := (high.getD (BitVec.ofNat 16 (s.par k / 65536))).toNat * 65536 +
               (low.getD (BitVec.ofNat 16 (s.par k % 65536))).toNat
             t.par k = max k.least (min k.greatest n) ∧
               t.pst.clamped.getLsbD k.idx = decide (n < k.least ∨ k.greatest < n))) ∧
          (∀ j, 61 ≤ j → t.pst.clamped.getLsbD j = s.pst.clamped.getLsbD j))) ∧
    (q.interrupt = true ↔ ∃ k : Notice, k.bit &&& q.pending = k.bit ∧ k.bit &&& q.enable = k.bit) ∧
    exec (.clearNotices p w) s =
      .next (s.setPort p { q with pending := q.pending &&& ~~~(w.extractLsb' 0 12) }) ∧
    exec (.setEnables p w) s = .next (s.setPort p { q with enable := w.extractLsb' 0 12 })

/-- R162, R166: transactions by their bytes, as the model parses them (log entry 13). One without a byte,
with a command byte that names no command, or with a field cut short is a framing error and nothing else;
but a READ cut short hands out the words fully shifted. A WRITE of any even number of bytes, two or more, is the
WRITE of the words that its bytes make in pairs, the high byte first; one cut short within a word is taken for its
complete words and counts the framing error, and with none of them it is a framing error alone. A complete one is
performed, whatever bytes follow its fields. A REQUEST whose code names no
request is answered BAD_ARGUMENT, and one whose code does is that request: of all nineteen, whatever stands
in the words that a request does not use. -/
def Obligations.TransactionsAreTakenByTheirBytes : Prop :=
  ∀ (s : State) (p : Port) (hi lo x c₁ c₀ a₁ a₀ b₁ b₀ : Byte) (code arg1 arg2 : Word) (more : List Byte)
      (pairs : List (Byte × Byte)),
    let c (bytes : List Byte) := exec (.transactionFramingError p bytes) s
    let q := s.port p
    let error (y : State) : State := y.setPort p { y.port p with
      frameErrors := if (y.port p).frameErrors < 255 then (y.port p).frameErrors + 1
        else (y.port p).frameErrors }
    let bad := c [] = .next (error s) ∧ c [2#8, 0#8, 0#8] = .next (error s) ∧ c [3#8] = .next (error s)
    bad ∧
    (∀ b : Byte, (b = 0#8 ∨ 8 ≤ b.toNat) → ∀ bs, c (b :: bs) = .next (error s)) ∧
    (∀ b : Byte, b ∈ [1#8, 2#8, 4#8, 6#8, 7#8] → c [b] = .next (error s) ∧ c [b, x] = .next (error s)) ∧
    (∀ bs : List Byte, bs.length < 6 → c (4#8 :: bs) = .next (error s)) ∧
    c (1#8 :: hi :: lo :: more) = exec (.setPointer p (hi ++ lo)) s ∧
    (let n := (hi ++ lo : Word).toNat
     (2 * n ≤ more.length ∨ n = 0 ∨ 256 < n →
       c (2#8 :: hi :: lo :: more) = exec (.read p (hi ++ lo)) s) ∧
     (1 ≤ n → n ≤ 256 → more.length < 2 →
       c (2#8 :: hi :: lo :: more) = .next (error (s.setPort p { q with out := [] }))) ∧
     (∀ t : State, 1 ≤ n → n ≤ 256 → 2 ≤ more.length → more.length < 2 * n →
       exec (.read p (BitVec.ofNat 16 (more.length / 2))) s = .next t →
         c (2#8 :: hi :: lo :: more) = .next (error t))) ∧
    c (4#8 :: c₁ :: c₀ :: a₁ :: a₀ :: b₁ :: b₀ :: more) =
      exec (.unknownRequest p (c₁ ++ c₀) (a₁ ++ a₀) (b₁ ++ b₀)) s ∧
    (let bytes := pairs.flatMap fun y => [y.1, y.2]
     let write := exec (.write p (pairs.map fun y => y.1 ++ y.2)) s
     (pairs ≠ [] → c (3#8 :: bytes) = write ∧
       ∃ t : State, write = .next t ∧ c (3#8 :: (bytes ++ [x])) = .next (error t)) ∧
     (pairs = [] → c (3#8 :: bytes) = .next (error s) ∧ c (3#8 :: (bytes ++ [x])) = .next (error s))) ∧
    c (5#8 :: more) = exec (.readStatus p) s ∧
    c (6#8 :: hi :: lo :: more) = exec (.clearNotices p (hi ++ lo)) s ∧
    c (7#8 :: hi :: lo :: more) = exec (.setEnables p (hi ++ lo)) s ∧
    (code.toNat = 0 ∨ 20 ≤ code.toNat →
      exec (.unknownRequest p code arg1 arg2) s = .next (s.setPort p { q with
        request := none
        result := some { code := code, result := .badArgument, detail := none }
        seq := (q.seq + 1) % 256
        pending := q.pending ||| 0x100#12 })) ∧
    (∀ y ∈ [(1#16, Instr.activate p), (2#16, .deactivate p), (3#16, .forceDeactivate p), (4#16, .shunt p),
        (5#16, .full p), (6#16, .acknowledge p), (7#16, .brakeReset p), (14#16, .profileAbort p),
        (16#16, .sendText p), (17#16, .popText p), (18#16, .freeze p), (19#16, .carRestart p)],
      exec (.unknownRequest p y.1 arg1 arg2) s = exec y.2 s) ∧
    (∀ y ∈ [(8#16, Instr.doorRelease p arg1), (9#16, .doorClose p arg1), (13#16, .profileClose p arg1),
        (15#16, .profileActivate p arg1)],
      exec (.unknownRequest p y.1 arg1 arg2) s = exec y.2 s) ∧
    (∀ y ∈ [(10#16, Instr.isolateDoor p arg1 arg2), (11#16, .positionRestore p arg1 arg2),
        (12#16, .profileOpen p arg1 arg2)],
      exec (.unknownRequest p y.1 arg1 arg2) s = exec y.2 s)

/-! ## Parameters and start-up -/

/-- R175 to R177: FREEZE, by its conditions in order. The cross-checks are made in the order of the table; the
first that fails is recorded, with its number in the detail word, and with none the set is FROZEN. -/
def Obligations.FreezeChecksTheParameters : Prop :=
  ∀ (s : State) (p : Port),
    let v := s.par
    let crosses (a b c d : Nat) : Bool := decide (a ≤ d ∧ c ≤ b)
    let checks : List ((Nat × Bool) × Bool) :=
      [((1, false), decide (v .mEb ≤ v .mSb)), ((2, false), decide (v .pFs < v .pHold)),
        ((2, true), decide (v .pEm < v .pFs)), ((3, false), decide (v .pHold ≤ 2 * v .band)),
        ((4, false), decide (v .markHi < v .markLo) || decide (v .spaceHi < v .spaceLo) ||
          crosses (v .markLo) (v .markHi) (v .spaceLo) (v .spaceHi)),
        ((5, false), decide (v .shortMax < v .shortMin) || decide (v .longMax < v .longMin) ||
          crosses (v .shortMin) (v .shortMax) (v .longMin) (v .longMax)),
        ((6, false), decide (v .carAddress = 0))]
    (p ≠ .c → exec (.freeze p) s = .next (s.writeResult p 18 .notPermitted none)) ∧
    (p = .c → s.pst.frozen = true → exec (.freeze p) s = .next (s.writeResult p 18 .frozen none)) ∧
    (∀ n second, p = .c → s.pst.frozen = false →
      checks.find? Prod.snd = some ((n, second), true) →
        exec (.freeze p) s = .next (State.writeResult p 18 .conditions (some (BitVec.ofNat 16 n))
          { s with pst := { s.pst with lastCheck := some (.failed n second) } })) ∧
    (p = .c → s.pst.frozen = false → checks.find? Prod.snd = none →
      exec (.freeze p) s = .next (State.writeResult p 18 .accepted none
        { s with pst := { s.pst with frozen := true, lastCheck := some .passed } }))

/-- R22, R39, R62, R88, R110, R124, R141, R161, R172, R178 to R181: CAR_RESTART, by its conditions in order,
and the power-on reset. A restart keeps the parameters, the freeze, the position and the CHECKED banks; the
ports are empty but for its result and its notices, with the counters of R172 at 0, the close-check record
at 0, and no result with sequence 0 on ports U and L (that the snapshot buffers are empty, too, is the
model's choice between R172 and R180, log entry 16), a bank that was OPEN or CLOSED is EMPTY with nothing of
its load left, and what was kept of a driver, an authority, calls or restrictions is gone. The sources are
OK with empty histories, the reader is IDLE, every door is at rest, and the brakes with their rows are as
R88 gives them; the PWM periods that begin afresh (log entries 19 and 20), and what no rule gives a reset
(log entry 7), are the model's. It raises BRAKE always, and the other notices where the restart changes what
they tell: which these are is the model's reading (log entry 16). A power-on reset takes every reset value
and the strap as it stands; that the clock starts at 0 (log entry 2), that the inputs stand as they were,
with the states that follow from them (log entry 6), the values that no rule gives a reset (log entry 7),
and that the waiting commands stand at both (log entry 10) is the model's choice. Both leave the latch set
by RESET and no side granted. -/
def Obligations.RestartAndPowerOnTakeTheResetValues : Prop :=
  let encoder (e : Encoder) (illegal : Nat) : Encoder :=
    { Encoder.reset with phaseA := e.phaseA, phaseB := e.phaseB, illegalCount := illegal }
  let closed (d : Door) : DoorState :=
    if d.lk then if d.op then .fault .switchConflict else .locked else .fault .lockLost
  let rows (shut : Bool) (b : Brm) : Rows :=
    let clear : Row := { level := .none, reason := none }
    { cab := clear, supervision := clear, radio := clear, odometry := clear
      doors := if shut then clear else { level := .hold, reason := some .doorsNotClosed }
      loop := if b.senseOpen then { level := .emergency, reason := some .loopOpen } else clear
      hold := { level := .fullService, reason := some .noDesk } }
  let braked (rows : Rows) (b : Brm) (now pEm prove hold : Nat) : Brm :=
    let band (v : Band) : Band :=
      { applied := v.applied, prove := if v.applied then none else some (now + prove * 1000), fault := none }
    { rows := rows, level := .emergency, latch := some .reset, target := pEm, measured := none
      sensorFault := false, frictionFault := false, pulses := 0, valve := .lap, lastOpen := none
      waiting := none, deadTimer := none, proving := false, proveTimer := none, pinion := .applied
      energised := false, upper := band b.upper, lower := band b.lower, holding := false
      holdSeen := { regime := .adhesion, command := .applied, upper := b.upper.applied
                    lower := b.lower.applied, measured := none }
      proveSeen := { target := pEm, loopForced := false, sensorFault := false, measured := none }
      ebrake := { latched := 100, driven := 0, next := now + 1000 }
      traction := { latched := 0, driven := 0, next := now + 1000 }
      effort := 0, effortValid := false, feedbackTimer := none, senseOpen := b.senseOpen
      loopForced := false, departure := .idle, required := 0, stallTimer := none
      holdElapsed := decide (hold = 0), holdTimer := if hold = 0 then none else some (now + hold * 1000)
      gateTimer := now + 100000 }
  (∀ (s : State) (p : Port),
    (p ≠ .c → exec (.carRestart p) s = .next (s.writeResult p 19 .notPermitted none)) ∧
    (p = .c → s.odu.motion ≠ .standstill →
      exec (.carRestart p) s = .next (s.writeResult p 19 .moving none)) ∧
    (p = .c → s.odu.motion = .standstill → s.dka.active ≠ none →
      exec (.carRestart p) s = .next (s.writeResult p 19 .busy none)) ∧
    (p = .c → s.odu.motion = .standstill → s.dka.active = none →
      ∃ t : State, exec (.carRestart p) s = .next t ∧
        t.pst = s.pst ∧ t.now = s.now ∧ t.pending = s.pending ∧
        t.odu = { Odu.reset with
          pos := s.odu.pos, lo := s.odu.lo, hi := s.odu.hi, lastMarker := s.odu.lastMarker
          distHalf := s.odu.distHalf, unknownMarkers := s.odu.unknownMarkers
          invalidReads := s.odu.invalidReads, sampleTimer := s.now + 50000
          upper := encoder (s.odu.encoder .upper) (s.odu.encoder .upper).illegalCount
          lower := encoder (s.odu.encoder .lower) (s.odu.encoder .lower).illegalCount } ∧
        (∀ i, (s.lps.bank i).state ≠ .opened → (s.lps.bank i).state ≠ .closed →
          t.lps.bank i = s.lps.bank i) ∧
        (∀ i, (s.lps.bank i).state = .opened ∨ (s.lps.bank i).state = .closed →
          t.lps.bank i = { role := (s.lps.bank i).role, state := .empty, image := [], length := none,
                           version := none, header := none, result := none }) ∧
        t.lps = { Lps.reset with
          x := t.lps.x, y := t.lps.y, rejected := s.lps.rejected, passes := s.lps.passes
          timer := s.now + 50000 } ∧
        t.ssu = { Ssu.reset with
          flushCount := (s.ssu.flushCount + 1) % 65536, malformed := s.ssu.malformed
          timer := s.now + 50000 } ∧
        t.brm = braked (rows t.drc.summary s.brm) s.brm s.now (s.par .pEm) (s.par .tPprove) (s.par .tHold) ∧
        (∀ i, t.drc.side i = { s.drc.side i with granted := none }) ∧
        (∀ i,
          let d := s.drc.door i
          t.drc.door i = { d with
            state := if d.state = .isolated then .isolated else closed d
            reversals := 0, timer := none
            motor :=
              if d.motor.latched = 0 ∧ d.motor.driven = 0 then d.motor
              else { d.motor with
                latched := 0, driven := 0, drivenDir := d.motor.latchedDir, next := s.now + s.par .tPwm } }) ∧
        (t.drc.summary = true ↔ ∀ i, (t.drc.door i).state = .locked ∨
          ((t.drc.door i).state = .isolated ∧ (s.drc.door i).lk = true ∧ (s.drc.door i).op = false)) ∧
        t.dka = { Dka.reset with
          cabU := { s.dka.cabU with fresh := none }, cabL := { s.dka.cabL with fresh := none } } ∧
        t.vrl = { Vrl.reset with
          resync := s.vrl.resync, aborts := s.vrl.aborts, lengthErrors := s.vrl.lengthErrors
          crcErrors := s.vrl.crcErrors, received := s.vrl.received, transmitted := s.vrl.transmitted
          rx := Receiver.reset s.now (s.now + s.par .tBit), txTimer := s.now + s.par .tBit } ∧
        t.tgh = { Tgh.reset with
          ignored := s.tgh.ignored, silent := s.par .nLoss, foreign := s.tgh.foreign
          formatErrors := s.tgh.formatErrors, refusedProfile := s.tgh.refusedProfile
          rxOverflow := s.tgh.rxOverflow, textOut := s.tgh.textOut } ∧
        t.pif.closeCheck = 0 ∧
        (∀ q, t.port q =
            { pointer := 0, snapshot := none, request := none
              result := if q = .c then some { code := 19, result := .accepted, detail := none } else none
              seq := if q = .c then 1 else 0
              pending := (t.port q).pending, enable := 0, refused := 0, frameErrors := 0, out := [] } ∧
          let told (k : Notice) := k.bit &&& (t.port q).pending = k.bit
          told .brake ∧
          (told .supervision ↔ s.ssu.status ≠ .normal ∨ s.ssu.overrun = true ∨ s.ssu.mode ≠ .none) ∧
          (told .restriction ↔ s.ssu.restrictions ≠ [] ∨ s.ssu.cap ≠ none) ∧
          (told .profile ↔ s.tgh.outdated = true ∨
            ∃ i, (s.lps.bank i).state = .opened ∨ (s.lps.bank i).state = .closed) ∧
          (told .door ↔ t.drc.summary ≠ s.drc.summary ∨ ∃ i r, (t.drc.door i).state = .fault r) ∧
          (told .requestDone ↔ q = .c) ∧
          ∀ k ∈ [Notice.link, .authorityChanged, .textQueued, .position, .cabStale, .departureStall],
            ¬told k))) ∧
  (∀ (s : State) (strap : Bool),
    ∃ t : State, exec (.powerOnReset strap) s = .next t ∧
      t.now = 0 ∧ t.pending = s.pending ∧
      t.pst = { Pst.reset with strapPin := strap, strapLatch := strap } ∧
      t.lps = Lps.reset ∧ t.ssu = Ssu.reset ∧ t.dka = Dka.reset ∧ t.vrl = Vrl.reset ∧
      t.tgh = Tgh.reset ∧ t.pif = Pif.reset ∧
      t.odu = { Odu.reset with upper := t.odu.upper, lower := t.odu.lower } ∧
      (∀ i, t.odu.encoder i = encoder (s.odu.encoder i) 0) ∧
      t.brm = braked (rows t.drc.summary s.brm) s.brm 0 450 800 500 ∧
      (∀ i, t.drc.side i = { granted := none, cause := none, refused := none }) ∧
      (∀ i,
        let d := s.drc.door i
        t.drc.door i = { d with
          state := closed d, reversals := 0, timer := none
          motor := { latched := 0, driven := 0, latchedDir := .closes, drivenDir := .closes, next := 50 } }) ∧
      (t.drc.summary = true ↔ ∀ i, (t.drc.door i).state = .locked)) ∧
  exec (.powerOnReset false) State.reset = .next State.reset

/-! ## Invariants -/

/-- No step, from any state that has it, loses the safety of the brakes: a row at EMERGENCY keeps the latch
set, the latch the level, and a closed gate the traction output at 0%. -/
def Obligations.EveryStepKeepsTheBrakesSafe : Prop :=
  ∀ s t : State, s.BrakesSafe → step s = .next t → t.BrakesSafe

/-- R56, R60, R63, R64, R72, R74, R75, R77 to R79, R81, R84 to R86, R102, R103, R114, R115, R150: the brake
demand table and what the brake manager makes of it, condition by condition (`RowsTrue`, `LineRowsTrue`,
`OutputsTrue` in Safety.lean). The close of every event leaves the seven rows CAB, SUPERVISION, DOORS,
RADIO, ODOMETRY, LOOP and HOLD as those rules give them. With the parameters FROZEN, a state in which RADIO
and ODOMETRY, which rest on parameters, are so steps to such a state only; a parameter written in CONFIG
acts at the next event (log entry 23). A state in which the other rows, the level, the pinion command with
its outputs, the electric brake's duty, the traction gate with its output, HOLDING in RACK and the departure
are so steps to such a state only. -/
def Obligations.EveryStepKeepsTheReadersTrue : Prop :=
  (∀ u t : State, u.Ends t → t.RowsTrue ∧ t.LineRowsTrue) ∧
    (∀ s t : State, s.pst.frozen = true → s.LineRowsTrue → step s = .next t → t.LineRowsTrue) ∧
    ∀ s t : State, s.RowsTrue → s.OutputsTrue → step s = .next t → t.RowsTrue ∧ t.OutputsTrue

/-- No step opens a door on a side that is not granted, or leaves a side granted whose desk is not the active
one. -/
def Obligations.EveryStepKeepsTheDoorsSafe : Prop :=
  ∀ s t : State, s.DoorsSafe → step s = .next t → t.DoorsSafe

/-- No step makes a second STANDBY or ACTIVE bank, an ACTIVE bank that is not CHECKED, or an image out of its
canonical form (log entry 5). -/
def Obligations.EveryStepKeepsTheBanksSound : Prop :=
  ∀ s t : State, s.BanksSound → step s = .next t → t.BanksSound

/-- From a state with sound banks no step takes a quantity of `Bounded` (Safety.lean) out of its bounds: the
parameters, the interval with its order, the last marker, the reader's bits, the histories and the runs of
the sources, the claim, the banks' lengths, versions, header fields and gradients, the scrub's place, the
window with its 16 pieces, the restriction list with its order, the cap and the MRSP, the levels, the
pressures and the percentages, the required effort, the reversals and the door motors, the cab records, the
slot counters, the telegram being assembled, the authority, the calls, the texts, the ports' pointers, and
the counters named there. -/
def Obligations.EveryStepKeepsTheBounds : Prop :=
  ∀ s t : State, s.BanksSound → s.Bounded → step s = .next t → t.Bounded

/-- R22, R39, R62, R88, R110, R124, R141, R161, R172, R181: the state after reset has every invariant that the
statements before this one keep, and these reset values: the latch set with its cause, the level EMERGENCY, the
position INVALID, no desk active, the mode NONE, the link LOST, the radio UNSYNCED, the parameters at their
defaults and not frozen, and the banks EMPTY. That every door is
LOCKED, and that the brakes' switches read applied, rests on the input levels that the model gives the reset
(log entry 6). -/
def Obligations.ResetIsSafe : Prop :=
  let s := State.reset
  s.BrakesSafe ∧ s.RowsTrue ∧ s.LineRowsTrue ∧ s.OutputsTrue ∧ s.DoorsSafe ∧ s.BanksSound ∧ s.Bounded ∧
    s.brm.latch = some .reset ∧ s.brm.level = .emergency ∧ s.odu.pos = .invalid .noFix ∧
    s.dka.active = none ∧ s.ssu.mode = .none ∧ s.tgh.link = .lost ∧ s.vrl.sync = .unsynced ∧
    s.pst.frozen = false ∧ (∀ p : Param, s.par p = p.default) ∧
    (∀ i, (s.drc.door i).state = .locked) ∧ (∀ i, (s.lps.bank i).state = .empty)
end

