-- ==== Sys2Proof/Laws/State.lean ====
section
/-! SUPPORT. What each shared operation of the part leaves unchanged, one lemma per field of the state, so
that no later proof unfolds a record update. -/

namespace Sys2Proof.Machine

variable (s : State) (p : Port) (k : Notice) (q : PortState) (c : Bool) (x : Word) (r : ResultCode)
  (y : Option Word) (t n : Nat) (w : LatchCause) (i : RowId) (v : Row) (o : OpenValve) (b : Bogie)
  (d : DoorId) (m : Door) (e : CarSide) (f : Door → Door) (g : DoorFault) (h : WithdrawCause)

/-! ## Ports, notices and the clock -/

@[simp] theorem State.setPort_odu : (s.setPort p q).odu = s.odu := by cases p <;> rfl
@[simp] theorem State.setPort_lps : (s.setPort p q).lps = s.lps := by cases p <;> rfl
@[simp] theorem State.setPort_ssu : (s.setPort p q).ssu = s.ssu := by cases p <;> rfl
@[simp] theorem State.setPort_brm : (s.setPort p q).brm = s.brm := by cases p <;> rfl
@[simp] theorem State.setPort_drc : (s.setPort p q).drc = s.drc := by cases p <;> rfl
@[simp] theorem State.setPort_dka : (s.setPort p q).dka = s.dka := by cases p <;> rfl
@[simp] theorem State.setPort_vrl : (s.setPort p q).vrl = s.vrl := by cases p <;> rfl
@[simp] theorem State.setPort_tgh : (s.setPort p q).tgh = s.tgh := by cases p <;> rfl
@[simp] theorem State.setPort_pst : (s.setPort p q).pst = s.pst := by cases p <;> rfl
@[simp] theorem State.setPort_now : (s.setPort p q).now = s.now := by cases p <;> rfl
@[simp] theorem State.setPort_pending : (s.setPort p q).pending = s.pending := by cases p <;> rfl

@[simp] theorem State.raise_odu : (s.raise k).odu = s.odu := rfl
@[simp] theorem State.raise_lps : (s.raise k).lps = s.lps := rfl
@[simp] theorem State.raise_ssu : (s.raise k).ssu = s.ssu := rfl
@[simp] theorem State.raise_brm : (s.raise k).brm = s.brm := rfl
@[simp] theorem State.raise_drc : (s.raise k).drc = s.drc := rfl
@[simp] theorem State.raise_dka : (s.raise k).dka = s.dka := rfl
@[simp] theorem State.raise_vrl : (s.raise k).vrl = s.vrl := rfl
@[simp] theorem State.raise_tgh : (s.raise k).tgh = s.tgh := rfl
@[simp] theorem State.raise_pst : (s.raise k).pst = s.pst := rfl
@[simp] theorem State.raise_now : (s.raise k).now = s.now := rfl
@[simp] theorem State.raise_pending : (s.raise k).pending = s.pending := rfl

@[simp] theorem State.raiseOn_odu : (s.raiseOn p k).odu = s.odu := by cases p <;> rfl
@[simp] theorem State.raiseOn_lps : (s.raiseOn p k).lps = s.lps := by cases p <;> rfl
@[simp] theorem State.raiseOn_ssu : (s.raiseOn p k).ssu = s.ssu := by cases p <;> rfl
@[simp] theorem State.raiseOn_brm : (s.raiseOn p k).brm = s.brm := by cases p <;> rfl
@[simp] theorem State.raiseOn_drc : (s.raiseOn p k).drc = s.drc := by cases p <;> rfl
@[simp] theorem State.raiseOn_dka : (s.raiseOn p k).dka = s.dka := by cases p <;> rfl
@[simp] theorem State.raiseOn_vrl : (s.raiseOn p k).vrl = s.vrl := by cases p <;> rfl
@[simp] theorem State.raiseOn_tgh : (s.raiseOn p k).tgh = s.tgh := by cases p <;> rfl
@[simp] theorem State.raiseOn_pst : (s.raiseOn p k).pst = s.pst := by cases p <;> rfl
@[simp] theorem State.raiseOn_now : (s.raiseOn p k).now = s.now := by cases p <;> rfl
@[simp] theorem State.raiseOn_pending : (s.raiseOn p k).pending = s.pending := by cases p <;> rfl

@[simp] theorem State.raiseIf_odu : (s.raiseIf c k).odu = s.odu := by cases c <;> rfl
@[simp] theorem State.raiseIf_lps : (s.raiseIf c k).lps = s.lps := by cases c <;> rfl
@[simp] theorem State.raiseIf_ssu : (s.raiseIf c k).ssu = s.ssu := by cases c <;> rfl
@[simp] theorem State.raiseIf_brm : (s.raiseIf c k).brm = s.brm := by cases c <;> rfl
@[simp] theorem State.raiseIf_drc : (s.raiseIf c k).drc = s.drc := by cases c <;> rfl
@[simp] theorem State.raiseIf_dka : (s.raiseIf c k).dka = s.dka := by cases c <;> rfl
@[simp] theorem State.raiseIf_vrl : (s.raiseIf c k).vrl = s.vrl := by cases c <;> rfl
@[simp] theorem State.raiseIf_tgh : (s.raiseIf c k).tgh = s.tgh := by cases c <;> rfl
@[simp] theorem State.raiseIf_pst : (s.raiseIf c k).pst = s.pst := by cases c <;> rfl
@[simp] theorem State.raiseIf_now : (s.raiseIf c k).now = s.now := by cases c <;> rfl
@[simp] theorem State.raiseIf_pending : (s.raiseIf c k).pending = s.pending := by cases c <;> rfl

@[simp] theorem State.writeResult_odu : (s.writeResult p x r y).odu = s.odu := by cases p <;> rfl
@[simp] theorem State.writeResult_lps : (s.writeResult p x r y).lps = s.lps := by cases p <;> rfl
@[simp] theorem State.writeResult_ssu : (s.writeResult p x r y).ssu = s.ssu := by cases p <;> rfl
@[simp] theorem State.writeResult_brm : (s.writeResult p x r y).brm = s.brm := by cases p <;> rfl
@[simp] theorem State.writeResult_drc : (s.writeResult p x r y).drc = s.drc := by cases p <;> rfl
@[simp] theorem State.writeResult_dka : (s.writeResult p x r y).dka = s.dka := by cases p <;> rfl
@[simp] theorem State.writeResult_vrl : (s.writeResult p x r y).vrl = s.vrl := by cases p <;> rfl
@[simp] theorem State.writeResult_tgh : (s.writeResult p x r y).tgh = s.tgh := by cases p <;> rfl
@[simp] theorem State.writeResult_pst : (s.writeResult p x r y).pst = s.pst := by cases p <;> rfl
@[simp] theorem State.writeResult_now : (s.writeResult p x r y).now = s.now := by cases p <;> rfl
@[simp] theorem State.writeResult_pending : (s.writeResult p x r y).pending = s.pending :=
  by cases p <;> rfl

@[simp] theorem State.advanceTo_odu : (s.advanceTo t).odu = s.odu :=
  by unfold State.advanceTo; split <;> rfl
@[simp] theorem State.advanceTo_lps : (s.advanceTo t).lps = s.lps :=
  by unfold State.advanceTo; split <;> rfl
@[simp] theorem State.advanceTo_ssu : (s.advanceTo t).ssu = s.ssu :=
  by unfold State.advanceTo; split <;> rfl
@[simp] theorem State.advanceTo_dka : (s.advanceTo t).dka = s.dka :=
  by unfold State.advanceTo; split <;> rfl
@[simp] theorem State.advanceTo_tgh : (s.advanceTo t).tgh = s.tgh :=
  by unfold State.advanceTo; split <;> rfl
@[simp] theorem State.advanceTo_pif : (s.advanceTo t).pif = s.pif :=
  by unfold State.advanceTo; split <;> rfl
@[simp] theorem State.advanceTo_pst : (s.advanceTo t).pst = s.pst :=
  by unfold State.advanceTo; split <;> rfl
@[simp] theorem State.advanceTo_pending : (s.advanceTo t).pending = s.pending :=
  by unfold State.advanceTo; split <;> rfl

/-! ## The profile store and the window -/

@[simp] theorem State.flush_odu : s.flush.odu = s.odu := rfl
@[simp] theorem State.flush_lps : s.flush.lps = s.lps := rfl
@[simp] theorem State.flush_brm : s.flush.brm = s.brm := rfl
@[simp] theorem State.flush_drc : s.flush.drc = s.drc := rfl
@[simp] theorem State.flush_dka : s.flush.dka = s.dka := rfl
@[simp] theorem State.flush_vrl : s.flush.vrl = s.vrl := rfl
@[simp] theorem State.flush_tgh : s.flush.tgh = s.tgh := rfl
@[simp] theorem State.flush_pif : s.flush.pif = s.pif := rfl
@[simp] theorem State.flush_pst : s.flush.pst = s.pst := rfl
@[simp] theorem State.flush_now : s.flush.now = s.now := rfl
@[simp] theorem State.flush_pending : s.flush.pending = s.pending := rfl

@[simp] theorem State.compareOutdated_odu : s.compareOutdated.odu = s.odu :=
  by unfold State.compareOutdated; split <;> simp
@[simp] theorem State.compareOutdated_lps : s.compareOutdated.lps = s.lps :=
  by unfold State.compareOutdated; split <;> simp
@[simp] theorem State.compareOutdated_ssu : s.compareOutdated.ssu = s.ssu :=
  by unfold State.compareOutdated; split <;> simp
@[simp] theorem State.compareOutdated_brm : s.compareOutdated.brm = s.brm :=
  by unfold State.compareOutdated; split <;> simp
@[simp] theorem State.compareOutdated_drc : s.compareOutdated.drc = s.drc :=
  by unfold State.compareOutdated; split <;> simp
@[simp] theorem State.compareOutdated_dka : s.compareOutdated.dka = s.dka :=
  by unfold State.compareOutdated; split <;> simp
@[simp] theorem State.compareOutdated_vrl : s.compareOutdated.vrl = s.vrl :=
  by unfold State.compareOutdated; split <;> simp
@[simp] theorem State.compareOutdated_pst : s.compareOutdated.pst = s.pst :=
  by unfold State.compareOutdated; split <;> simp
@[simp] theorem State.compareOutdated_now : s.compareOutdated.now = s.now :=
  by unfold State.compareOutdated; split <;> simp
@[simp] theorem State.compareOutdated_pending : s.compareOutdated.pending = s.pending :=
  by unfold State.compareOutdated; split <;> simp

@[simp] theorem State.switchOver_odu : s.switchOver.odu = s.odu := by simp [State.switchOver]
@[simp] theorem State.switchOver_brm : s.switchOver.brm = s.brm := by simp [State.switchOver]
@[simp] theorem State.switchOver_drc : s.switchOver.drc = s.drc := by simp [State.switchOver]
@[simp] theorem State.switchOver_dka : s.switchOver.dka = s.dka := by simp [State.switchOver]
@[simp] theorem State.switchOver_vrl : s.switchOver.vrl = s.vrl := by simp [State.switchOver]
@[simp] theorem State.switchOver_pst : s.switchOver.pst = s.pst := by simp [State.switchOver]
@[simp] theorem State.switchOver_now : s.switchOver.now = s.now := by simp [State.switchOver]
@[simp] theorem State.switchOver_pending : s.switchOver.pending = s.pending := by simp [State.switchOver]

@[simp] theorem State.takePending_odu : s.takePending.odu = s.odu :=
  by unfold State.takePending; split <;> simp
@[simp] theorem State.takePending_brm : s.takePending.brm = s.brm :=
  by unfold State.takePending; split <;> simp
@[simp] theorem State.takePending_drc : s.takePending.drc = s.drc :=
  by unfold State.takePending; split <;> simp
@[simp] theorem State.takePending_dka : s.takePending.dka = s.dka :=
  by unfold State.takePending; split <;> simp
@[simp] theorem State.takePending_vrl : s.takePending.vrl = s.vrl :=
  by unfold State.takePending; split <;> simp
@[simp] theorem State.takePending_pst : s.takePending.pst = s.pst :=
  by unfold State.takePending; split <;> simp
@[simp] theorem State.takePending_now : s.takePending.now = s.now :=
  by unfold State.takePending; split <;> simp
@[simp] theorem State.takePending_pending : s.takePending.pending = s.pending :=
  by unfold State.takePending; split <;> simp

/-! ## The brake manager -/

@[simp] theorem State.setLatch_odu : (s.setLatch w).odu = s.odu := by unfold State.setLatch; split <;> rfl
@[simp] theorem State.setLatch_lps : (s.setLatch w).lps = s.lps := by unfold State.setLatch; split <;> rfl
@[simp] theorem State.setLatch_ssu : (s.setLatch w).ssu = s.ssu := by unfold State.setLatch; split <;> rfl
@[simp] theorem State.setLatch_drc : (s.setLatch w).drc = s.drc := by unfold State.setLatch; split <;> rfl
@[simp] theorem State.setLatch_dka : (s.setLatch w).dka = s.dka := by unfold State.setLatch; split <;> rfl
@[simp] theorem State.setLatch_vrl : (s.setLatch w).vrl = s.vrl := by unfold State.setLatch; split <;> rfl
@[simp] theorem State.setLatch_tgh : (s.setLatch w).tgh = s.tgh := by unfold State.setLatch; split <;> rfl
@[simp] theorem State.setLatch_pst : (s.setLatch w).pst = s.pst := by unfold State.setLatch; split <;> rfl
@[simp] theorem State.setLatch_now : (s.setLatch w).now = s.now := by unfold State.setLatch; split <;> rfl
@[simp] theorem State.setLatch_pending : (s.setLatch w).pending = s.pending :=
  by unfold State.setLatch; split <;> rfl

@[simp] theorem State.writeRow_odu : (s.writeRow i v).odu = s.odu :=
  by unfold State.writeRow; (repeat' split) <;> simp
@[simp] theorem State.writeRow_lps : (s.writeRow i v).lps = s.lps :=
  by unfold State.writeRow; (repeat' split) <;> simp
@[simp] theorem State.writeRow_ssu : (s.writeRow i v).ssu = s.ssu :=
  by unfold State.writeRow; (repeat' split) <;> simp
@[simp] theorem State.writeRow_drc : (s.writeRow i v).drc = s.drc :=
  by unfold State.writeRow; (repeat' split) <;> simp
@[simp] theorem State.writeRow_dka : (s.writeRow i v).dka = s.dka :=
  by unfold State.writeRow; (repeat' split) <;> simp
@[simp] theorem State.writeRow_vrl : (s.writeRow i v).vrl = s.vrl :=
  by unfold State.writeRow; (repeat' split) <;> simp
@[simp] theorem State.writeRow_tgh : (s.writeRow i v).tgh = s.tgh :=
  by unfold State.writeRow; (repeat' split) <;> simp
@[simp] theorem State.writeRow_pst : (s.writeRow i v).pst = s.pst :=
  by unfold State.writeRow; (repeat' split) <;> simp
@[simp] theorem State.writeRow_now : (s.writeRow i v).now = s.now :=
  by unfold State.writeRow; (repeat' split) <;> simp
@[simp] theorem State.writeRow_pending : (s.writeRow i v).pending = s.pending :=
  by unfold State.writeRow; (repeat' split) <;> simp

@[simp] theorem State.writeRows_odu : s.writeRows.odu = s.odu := by simp [State.writeRows]
@[simp] theorem State.writeRows_lps : s.writeRows.lps = s.lps := by simp [State.writeRows]
@[simp] theorem State.writeRows_ssu : s.writeRows.ssu = s.ssu := by simp [State.writeRows]
@[simp] theorem State.writeRows_drc : s.writeRows.drc = s.drc := by simp [State.writeRows]
@[simp] theorem State.writeRows_dka : s.writeRows.dka = s.dka := by simp [State.writeRows]
@[simp] theorem State.writeRows_vrl : s.writeRows.vrl = s.vrl := by simp [State.writeRows]
@[simp] theorem State.writeRows_tgh : s.writeRows.tgh = s.tgh := by simp [State.writeRows]
@[simp] theorem State.writeRows_pst : s.writeRows.pst = s.pst := by simp [State.writeRows]
@[simp] theorem State.writeRows_now : s.writeRows.now = s.now := by simp [State.writeRows]
@[simp] theorem State.writeRows_pending : s.writeRows.pending = s.pending := by simp [State.writeRows]

@[simp] theorem State.toLap_odu : s.toLap.odu = s.odu := by unfold State.toLap; split <;> rfl
@[simp] theorem State.toLap_lps : s.toLap.lps = s.lps := by unfold State.toLap; split <;> rfl
@[simp] theorem State.toLap_ssu : s.toLap.ssu = s.ssu := by unfold State.toLap; split <;> rfl
@[simp] theorem State.toLap_drc : s.toLap.drc = s.drc := by unfold State.toLap; split <;> rfl
@[simp] theorem State.toLap_dka : s.toLap.dka = s.dka := by unfold State.toLap; split <;> rfl
@[simp] theorem State.toLap_vrl : s.toLap.vrl = s.vrl := by unfold State.toLap; split <;> rfl
@[simp] theorem State.toLap_tgh : s.toLap.tgh = s.tgh := by unfold State.toLap; split <;> rfl
@[simp] theorem State.toLap_pif : s.toLap.pif = s.pif := by unfold State.toLap; split <;> rfl
@[simp] theorem State.toLap_pst : s.toLap.pst = s.pst := by unfold State.toLap; split <;> rfl
@[simp] theorem State.toLap_now : s.toLap.now = s.now := by unfold State.toLap; split <;> rfl
@[simp] theorem State.toLap_pending : s.toLap.pending = s.pending := by unfold State.toLap; split <;> rfl

@[simp] theorem State.openValve_odu : (s.openValve o).odu = s.odu := rfl
@[simp] theorem State.openValve_lps : (s.openValve o).lps = s.lps := rfl
@[simp] theorem State.openValve_ssu : (s.openValve o).ssu = s.ssu := rfl
@[simp] theorem State.openValve_drc : (s.openValve o).drc = s.drc := rfl
@[simp] theorem State.openValve_dka : (s.openValve o).dka = s.dka := rfl
@[simp] theorem State.openValve_vrl : (s.openValve o).vrl = s.vrl := rfl
@[simp] theorem State.openValve_tgh : (s.openValve o).tgh = s.tgh := rfl
@[simp] theorem State.openValve_pif : (s.openValve o).pif = s.pif := rfl
@[simp] theorem State.openValve_pst : (s.openValve o).pst = s.pst := rfl
@[simp] theorem State.openValve_now : (s.openValve o).now = s.now := rfl
@[simp] theorem State.openValve_pending : (s.openValve o).pending = s.pending := rfl

@[simp] theorem State.chooseOpen_odu : (s.chooseOpen o).odu = s.odu :=
  by unfold State.chooseOpen; (repeat' split) <;> simp
@[simp] theorem State.chooseOpen_lps : (s.chooseOpen o).lps = s.lps :=
  by unfold State.chooseOpen; (repeat' split) <;> simp
@[simp] theorem State.chooseOpen_ssu : (s.chooseOpen o).ssu = s.ssu :=
  by unfold State.chooseOpen; (repeat' split) <;> simp
@[simp] theorem State.chooseOpen_drc : (s.chooseOpen o).drc = s.drc :=
  by unfold State.chooseOpen; (repeat' split) <;> simp
@[simp] theorem State.chooseOpen_dka : (s.chooseOpen o).dka = s.dka :=
  by unfold State.chooseOpen; (repeat' split) <;> simp
@[simp] theorem State.chooseOpen_vrl : (s.chooseOpen o).vrl = s.vrl :=
  by unfold State.chooseOpen; (repeat' split) <;> simp
@[simp] theorem State.chooseOpen_tgh : (s.chooseOpen o).tgh = s.tgh :=
  by unfold State.chooseOpen; (repeat' split) <;> simp
@[simp] theorem State.chooseOpen_pif : (s.chooseOpen o).pif = s.pif :=
  by unfold State.chooseOpen; (repeat' split) <;> simp
@[simp] theorem State.chooseOpen_pst : (s.chooseOpen o).pst = s.pst :=
  by unfold State.chooseOpen; (repeat' split) <;> simp
@[simp] theorem State.chooseOpen_now : (s.chooseOpen o).now = s.now :=
  by unfold State.chooseOpen; (repeat' split) <;> simp
@[simp] theorem State.chooseOpen_pending : (s.chooseOpen o).pending = s.pending :=
  by unfold State.chooseOpen; (repeat' split) <;> simp

@[simp] theorem State.takeChoice_odu : s.takeChoice.odu = s.odu :=
  by unfold State.takeChoice; split <;> simp
@[simp] theorem State.takeChoice_lps : s.takeChoice.lps = s.lps :=
  by unfold State.takeChoice; split <;> simp
@[simp] theorem State.takeChoice_ssu : s.takeChoice.ssu = s.ssu :=
  by unfold State.takeChoice; split <;> simp
@[simp] theorem State.takeChoice_drc : s.takeChoice.drc = s.drc :=
  by unfold State.takeChoice; split <;> simp
@[simp] theorem State.takeChoice_dka : s.takeChoice.dka = s.dka :=
  by unfold State.takeChoice; split <;> simp
@[simp] theorem State.takeChoice_vrl : s.takeChoice.vrl = s.vrl :=
  by unfold State.takeChoice; split <;> simp
@[simp] theorem State.takeChoice_tgh : s.takeChoice.tgh = s.tgh :=
  by unfold State.takeChoice; split <;> simp
@[simp] theorem State.takeChoice_pif : s.takeChoice.pif = s.pif :=
  by unfold State.takeChoice; split <;> simp
@[simp] theorem State.takeChoice_pst : s.takeChoice.pst = s.pst :=
  by unfold State.takeChoice; split <;> simp
@[simp] theorem State.takeChoice_now : s.takeChoice.now = s.now :=
  by unfold State.takeChoice; split <;> simp
@[simp] theorem State.takeChoice_pending : s.takeChoice.pending = s.pending :=
  by unfold State.takeChoice; split <;> simp

@[simp] theorem State.retarget_odu : s.retarget.odu = s.odu := by simp [State.retarget]
@[simp] theorem State.retarget_lps : s.retarget.lps = s.lps := by simp [State.retarget]
@[simp] theorem State.retarget_ssu : s.retarget.ssu = s.ssu := by simp [State.retarget]
@[simp] theorem State.retarget_drc : s.retarget.drc = s.drc := by simp [State.retarget]
@[simp] theorem State.retarget_dka : s.retarget.dka = s.dka := by simp [State.retarget]
@[simp] theorem State.retarget_vrl : s.retarget.vrl = s.vrl := by simp [State.retarget]
@[simp] theorem State.retarget_tgh : s.retarget.tgh = s.tgh := by simp [State.retarget]
@[simp] theorem State.retarget_pif : s.retarget.pif = s.pif := by simp [State.retarget]
@[simp] theorem State.retarget_pst : s.retarget.pst = s.pst := by simp [State.retarget]
@[simp] theorem State.retarget_now : s.retarget.now = s.now := by simp [State.retarget]
@[simp] theorem State.retarget_pending : s.retarget.pending = s.pending := by simp [State.retarget]

@[simp] theorem State.refreshLevel_odu : s.refreshLevel.odu = s.odu :=
  by unfold State.refreshLevel; split <;> simp
@[simp] theorem State.refreshLevel_lps : s.refreshLevel.lps = s.lps :=
  by unfold State.refreshLevel; split <;> simp
@[simp] theorem State.refreshLevel_ssu : s.refreshLevel.ssu = s.ssu :=
  by unfold State.refreshLevel; split <;> simp
@[simp] theorem State.refreshLevel_drc : s.refreshLevel.drc = s.drc :=
  by unfold State.refreshLevel; split <;> simp
@[simp] theorem State.refreshLevel_dka : s.refreshLevel.dka = s.dka :=
  by unfold State.refreshLevel; split <;> simp
@[simp] theorem State.refreshLevel_vrl : s.refreshLevel.vrl = s.vrl :=
  by unfold State.refreshLevel; split <;> simp
@[simp] theorem State.refreshLevel_tgh : s.refreshLevel.tgh = s.tgh :=
  by unfold State.refreshLevel; split <;> simp
@[simp] theorem State.refreshLevel_pst : s.refreshLevel.pst = s.pst :=
  by unfold State.refreshLevel; split <;> simp
@[simp] theorem State.refreshLevel_now : s.refreshLevel.now = s.now :=
  by unfold State.refreshLevel; split <;> simp
@[simp] theorem State.refreshLevel_pending : s.refreshLevel.pending = s.pending :=
  by unfold State.refreshLevel; split <;> simp

@[simp] theorem State.refreshProving_odu : s.refreshProving.odu = s.odu := rfl
@[simp] theorem State.refreshProving_lps : s.refreshProving.lps = s.lps := rfl
@[simp] theorem State.refreshProving_ssu : s.refreshProving.ssu = s.ssu := rfl
@[simp] theorem State.refreshProving_drc : s.refreshProving.drc = s.drc := rfl
@[simp] theorem State.refreshProving_dka : s.refreshProving.dka = s.dka := rfl
@[simp] theorem State.refreshProving_vrl : s.refreshProving.vrl = s.vrl := rfl
@[simp] theorem State.refreshProving_tgh : s.refreshProving.tgh = s.tgh := rfl
@[simp] theorem State.refreshProving_pif : s.refreshProving.pif = s.pif := rfl
@[simp] theorem State.refreshProving_pst : s.refreshProving.pst = s.pst := rfl
@[simp] theorem State.refreshProving_now : s.refreshProving.now = s.now := rfl
@[simp] theorem State.refreshProving_pending : s.refreshProving.pending = s.pending := rfl

@[simp] theorem State.testProving_odu : s.testProving.odu = s.odu := rfl
@[simp] theorem State.testProving_lps : s.testProving.lps = s.lps := rfl
@[simp] theorem State.testProving_ssu : s.testProving.ssu = s.ssu := rfl
@[simp] theorem State.testProving_drc : s.testProving.drc = s.drc := rfl
@[simp] theorem State.testProving_dka : s.testProving.dka = s.dka := rfl
@[simp] theorem State.testProving_vrl : s.testProving.vrl = s.vrl := rfl
@[simp] theorem State.testProving_tgh : s.testProving.tgh = s.tgh := rfl
@[simp] theorem State.testProving_pif : s.testProving.pif = s.pif := rfl
@[simp] theorem State.testProving_pst : s.testProving.pst = s.pst := rfl
@[simp] theorem State.testProving_now : s.testProving.now = s.now := rfl
@[simp] theorem State.testProving_pending : s.testProving.pending = s.pending := rfl

@[simp] theorem State.reprove_odu : (s.reprove b).odu = s.odu :=
  by unfold State.reprove; dsimp only; split <;> simp
@[simp] theorem State.reprove_lps : (s.reprove b).lps = s.lps :=
  by unfold State.reprove; dsimp only; split <;> simp
@[simp] theorem State.reprove_ssu : (s.reprove b).ssu = s.ssu :=
  by unfold State.reprove; dsimp only; split <;> simp
@[simp] theorem State.reprove_drc : (s.reprove b).drc = s.drc :=
  by unfold State.reprove; dsimp only; split <;> simp
@[simp] theorem State.reprove_dka : (s.reprove b).dka = s.dka :=
  by unfold State.reprove; dsimp only; split <;> simp
@[simp] theorem State.reprove_vrl : (s.reprove b).vrl = s.vrl :=
  by unfold State.reprove; dsimp only; split <;> simp
@[simp] theorem State.reprove_tgh : (s.reprove b).tgh = s.tgh :=
  by unfold State.reprove; dsimp only; split <;> simp
@[simp] theorem State.reprove_pst : (s.reprove b).pst = s.pst :=
  by unfold State.reprove; dsimp only; split <;> simp
@[simp] theorem State.reprove_now : (s.reprove b).now = s.now :=
  by unfold State.reprove; dsimp only; split <;> simp
@[simp] theorem State.reprove_pending : (s.reprove b).pending = s.pending :=
  by unfold State.reprove; dsimp only; split <;> simp

@[simp] theorem State.refreshPinion_odu : s.refreshPinion.odu = s.odu :=
  by unfold State.refreshPinion; dsimp only; split <;> simp
@[simp] theorem State.refreshPinion_lps : s.refreshPinion.lps = s.lps :=
  by unfold State.refreshPinion; dsimp only; split <;> simp
@[simp] theorem State.refreshPinion_ssu : s.refreshPinion.ssu = s.ssu :=
  by unfold State.refreshPinion; dsimp only; split <;> simp
@[simp] theorem State.refreshPinion_drc : s.refreshPinion.drc = s.drc :=
  by unfold State.refreshPinion; dsimp only; split <;> simp
@[simp] theorem State.refreshPinion_dka : s.refreshPinion.dka = s.dka :=
  by unfold State.refreshPinion; dsimp only; split <;> simp
@[simp] theorem State.refreshPinion_vrl : s.refreshPinion.vrl = s.vrl :=
  by unfold State.refreshPinion; dsimp only; split <;> simp
@[simp] theorem State.refreshPinion_tgh : s.refreshPinion.tgh = s.tgh :=
  by unfold State.refreshPinion; dsimp only; split <;> simp
@[simp] theorem State.refreshPinion_pst : s.refreshPinion.pst = s.pst :=
  by unfold State.refreshPinion; dsimp only; split <;> simp
@[simp] theorem State.refreshPinion_now : s.refreshPinion.now = s.now :=
  by unfold State.refreshPinion; dsimp only; split <;> simp
@[simp] theorem State.refreshPinion_pending : s.refreshPinion.pending = s.pending :=
  by unfold State.refreshPinion; dsimp only; split <;> simp

@[simp] theorem State.refreshHolding_odu : s.refreshHolding.odu = s.odu := rfl
@[simp] theorem State.refreshHolding_lps : s.refreshHolding.lps = s.lps := rfl
@[simp] theorem State.refreshHolding_ssu : s.refreshHolding.ssu = s.ssu := rfl
@[simp] theorem State.refreshHolding_drc : s.refreshHolding.drc = s.drc := rfl
@[simp] theorem State.refreshHolding_dka : s.refreshHolding.dka = s.dka := rfl
@[simp] theorem State.refreshHolding_vrl : s.refreshHolding.vrl = s.vrl := rfl
@[simp] theorem State.refreshHolding_tgh : s.refreshHolding.tgh = s.tgh := rfl
@[simp] theorem State.refreshHolding_pif : s.refreshHolding.pif = s.pif := rfl
@[simp] theorem State.refreshHolding_pst : s.refreshHolding.pst = s.pst := rfl
@[simp] theorem State.refreshHolding_now : s.refreshHolding.now = s.now := rfl
@[simp] theorem State.refreshHolding_pending : s.refreshHolding.pending = s.pending := rfl

@[simp] theorem State.refreshDeparture_odu : s.refreshDeparture.odu = s.odu :=
  by unfold State.refreshDeparture; (repeat' split) <;> rfl
@[simp] theorem State.refreshDeparture_lps : s.refreshDeparture.lps = s.lps :=
  by unfold State.refreshDeparture; (repeat' split) <;> rfl
@[simp] theorem State.refreshDeparture_ssu : s.refreshDeparture.ssu = s.ssu :=
  by unfold State.refreshDeparture; (repeat' split) <;> rfl
@[simp] theorem State.refreshDeparture_drc : s.refreshDeparture.drc = s.drc :=
  by unfold State.refreshDeparture; (repeat' split) <;> rfl
@[simp] theorem State.refreshDeparture_dka : s.refreshDeparture.dka = s.dka :=
  by unfold State.refreshDeparture; (repeat' split) <;> rfl
@[simp] theorem State.refreshDeparture_vrl : s.refreshDeparture.vrl = s.vrl :=
  by unfold State.refreshDeparture; (repeat' split) <;> rfl
@[simp] theorem State.refreshDeparture_tgh : s.refreshDeparture.tgh = s.tgh :=
  by unfold State.refreshDeparture; (repeat' split) <;> rfl
@[simp] theorem State.refreshDeparture_pif : s.refreshDeparture.pif = s.pif :=
  by unfold State.refreshDeparture; (repeat' split) <;> rfl
@[simp] theorem State.refreshDeparture_pst : s.refreshDeparture.pst = s.pst :=
  by unfold State.refreshDeparture; (repeat' split) <;> rfl
@[simp] theorem State.refreshDeparture_now : s.refreshDeparture.now = s.now :=
  by unfold State.refreshDeparture; (repeat' split) <;> rfl
@[simp] theorem State.refreshDeparture_pending : s.refreshDeparture.pending = s.pending :=
  by unfold State.refreshDeparture; (repeat' split) <;> rfl

@[simp] theorem State.refreshTraction_odu : s.refreshTraction.odu = s.odu :=
  by unfold State.refreshTraction; (repeat' split) <;> rfl
@[simp] theorem State.refreshTraction_lps : s.refreshTraction.lps = s.lps :=
  by unfold State.refreshTraction; (repeat' split) <;> rfl
@[simp] theorem State.refreshTraction_ssu : s.refreshTraction.ssu = s.ssu :=
  by unfold State.refreshTraction; (repeat' split) <;> rfl
@[simp] theorem State.refreshTraction_drc : s.refreshTraction.drc = s.drc :=
  by unfold State.refreshTraction; (repeat' split) <;> rfl
@[simp] theorem State.refreshTraction_dka : s.refreshTraction.dka = s.dka :=
  by unfold State.refreshTraction; (repeat' split) <;> rfl
@[simp] theorem State.refreshTraction_vrl : s.refreshTraction.vrl = s.vrl :=
  by unfold State.refreshTraction; (repeat' split) <;> rfl
@[simp] theorem State.refreshTraction_tgh : s.refreshTraction.tgh = s.tgh :=
  by unfold State.refreshTraction; (repeat' split) <;> rfl
@[simp] theorem State.refreshTraction_pif : s.refreshTraction.pif = s.pif :=
  by unfold State.refreshTraction; (repeat' split) <;> rfl
@[simp] theorem State.refreshTraction_pst : s.refreshTraction.pst = s.pst :=
  by unfold State.refreshTraction; (repeat' split) <;> rfl
@[simp] theorem State.refreshTraction_now : s.refreshTraction.now = s.now :=
  by unfold State.refreshTraction; (repeat' split) <;> rfl
@[simp] theorem State.refreshTraction_pending : s.refreshTraction.pending = s.pending :=
  by unfold State.refreshTraction; (repeat' split) <;> rfl

/-! ## The doors and the desks -/

@[simp] theorem State.setDoor_odu : (s.setDoor d m).odu = s.odu := rfl
@[simp] theorem State.setDoor_lps : (s.setDoor d m).lps = s.lps := rfl
@[simp] theorem State.setDoor_ssu : (s.setDoor d m).ssu = s.ssu := rfl
@[simp] theorem State.setDoor_brm : (s.setDoor d m).brm = s.brm := rfl
@[simp] theorem State.setDoor_dka : (s.setDoor d m).dka = s.dka := rfl
@[simp] theorem State.setDoor_vrl : (s.setDoor d m).vrl = s.vrl := rfl
@[simp] theorem State.setDoor_tgh : (s.setDoor d m).tgh = s.tgh := rfl
@[simp] theorem State.setDoor_pif : (s.setDoor d m).pif = s.pif := rfl
@[simp] theorem State.setDoor_pst : (s.setDoor d m).pst = s.pst := rfl
@[simp] theorem State.setDoor_now : (s.setDoor d m).now = s.now := rfl
@[simp] theorem State.setDoor_pending : (s.setDoor d m).pending = s.pending := rfl

@[simp] theorem State.moveSide_odu : (s.moveSide e f).odu = s.odu := by cases e <;> rfl
@[simp] theorem State.moveSide_lps : (s.moveSide e f).lps = s.lps := by cases e <;> rfl
@[simp] theorem State.moveSide_ssu : (s.moveSide e f).ssu = s.ssu := by cases e <;> rfl
@[simp] theorem State.moveSide_brm : (s.moveSide e f).brm = s.brm := by cases e <;> rfl
@[simp] theorem State.moveSide_dka : (s.moveSide e f).dka = s.dka := by cases e <;> rfl
@[simp] theorem State.moveSide_vrl : (s.moveSide e f).vrl = s.vrl := by cases e <;> rfl
@[simp] theorem State.moveSide_tgh : (s.moveSide e f).tgh = s.tgh := by cases e <;> rfl
@[simp] theorem State.moveSide_pif : (s.moveSide e f).pif = s.pif := by cases e <;> rfl
@[simp] theorem State.moveSide_pst : (s.moveSide e f).pst = s.pst := by cases e <;> rfl
@[simp] theorem State.moveSide_now : (s.moveSide e f).now = s.now := by cases e <;> rfl
@[simp] theorem State.moveSide_pending : (s.moveSide e f).pending = s.pending := by cases e <;> rfl

@[simp] theorem State.doorFault_odu : (s.doorFault d g).odu = s.odu := by simp [State.doorFault]
@[simp] theorem State.doorFault_lps : (s.doorFault d g).lps = s.lps := by simp [State.doorFault]
@[simp] theorem State.doorFault_ssu : (s.doorFault d g).ssu = s.ssu := by simp [State.doorFault]
@[simp] theorem State.doorFault_brm : (s.doorFault d g).brm = s.brm := by simp [State.doorFault]
@[simp] theorem State.doorFault_dka : (s.doorFault d g).dka = s.dka := by simp [State.doorFault]
@[simp] theorem State.doorFault_vrl : (s.doorFault d g).vrl = s.vrl := by simp [State.doorFault]
@[simp] theorem State.doorFault_tgh : (s.doorFault d g).tgh = s.tgh := by simp [State.doorFault]
@[simp] theorem State.doorFault_pst : (s.doorFault d g).pst = s.pst := by simp [State.doorFault]
@[simp] theorem State.doorFault_now : (s.doorFault d g).now = s.now := by simp [State.doorFault]
@[simp] theorem State.doorFault_pending : (s.doorFault d g).pending = s.pending := by simp [State.doorFault]

@[simp] theorem State.withdraw_odu : (s.withdraw e h).odu = s.odu := by simp [State.withdraw]
@[simp] theorem State.withdraw_lps : (s.withdraw e h).lps = s.lps := by simp [State.withdraw]
@[simp] theorem State.withdraw_ssu : (s.withdraw e h).ssu = s.ssu := by simp [State.withdraw]
@[simp] theorem State.withdraw_brm : (s.withdraw e h).brm = s.brm := by simp [State.withdraw]
@[simp] theorem State.withdraw_dka : (s.withdraw e h).dka = s.dka := by simp [State.withdraw]
@[simp] theorem State.withdraw_vrl : (s.withdraw e h).vrl = s.vrl := by simp [State.withdraw]
@[simp] theorem State.withdraw_tgh : (s.withdraw e h).tgh = s.tgh := by simp [State.withdraw]
@[simp] theorem State.withdraw_pst : (s.withdraw e h).pst = s.pst := by simp [State.withdraw]
@[simp] theorem State.withdraw_now : (s.withdraw e h).now = s.now := by simp [State.withdraw]
@[simp] theorem State.withdraw_pending : (s.withdraw e h).pending = s.pending := by simp [State.withdraw]

@[simp] theorem State.withdrawIfGranted_odu : (s.withdrawIfGranted e h).odu = s.odu :=
  by unfold State.withdrawIfGranted; split <;> simp
@[simp] theorem State.withdrawIfGranted_lps : (s.withdrawIfGranted e h).lps = s.lps :=
  by unfold State.withdrawIfGranted; split <;> simp
@[simp] theorem State.withdrawIfGranted_ssu : (s.withdrawIfGranted e h).ssu = s.ssu :=
  by unfold State.withdrawIfGranted; split <;> simp
@[simp] theorem State.withdrawIfGranted_brm : (s.withdrawIfGranted e h).brm = s.brm :=
  by unfold State.withdrawIfGranted; split <;> simp
@[simp] theorem State.withdrawIfGranted_dka : (s.withdrawIfGranted e h).dka = s.dka :=
  by unfold State.withdrawIfGranted; split <;> simp
@[simp] theorem State.withdrawIfGranted_vrl : (s.withdrawIfGranted e h).vrl = s.vrl :=
  by unfold State.withdrawIfGranted; split <;> simp
@[simp] theorem State.withdrawIfGranted_tgh : (s.withdrawIfGranted e h).tgh = s.tgh :=
  by unfold State.withdrawIfGranted; split <;> simp
@[simp] theorem State.withdrawIfGranted_pst : (s.withdrawIfGranted e h).pst = s.pst :=
  by unfold State.withdrawIfGranted; split <;> simp
@[simp] theorem State.withdrawIfGranted_now : (s.withdrawIfGranted e h).now = s.now :=
  by unfold State.withdrawIfGranted; split <;> simp
@[simp] theorem State.withdrawIfGranted_pending : (s.withdrawIfGranted e h).pending = s.pending :=
  by unfold State.withdrawIfGranted; split <;> simp

@[simp] theorem State.retest_odu : (s.retest e).odu = s.odu := by unfold State.retest; split <;> simp
@[simp] theorem State.retest_lps : (s.retest e).lps = s.lps := by unfold State.retest; split <;> simp
@[simp] theorem State.retest_ssu : (s.retest e).ssu = s.ssu := by unfold State.retest; split <;> simp
@[simp] theorem State.retest_brm : (s.retest e).brm = s.brm := by unfold State.retest; split <;> simp
@[simp] theorem State.retest_dka : (s.retest e).dka = s.dka := by unfold State.retest; split <;> simp
@[simp] theorem State.retest_vrl : (s.retest e).vrl = s.vrl := by unfold State.retest; split <;> simp
@[simp] theorem State.retest_tgh : (s.retest e).tgh = s.tgh := by unfold State.retest; split <;> simp
@[simp] theorem State.retest_pst : (s.retest e).pst = s.pst := by unfold State.retest; split <;> simp
@[simp] theorem State.retest_now : (s.retest e).now = s.now := by unfold State.retest; split <;> simp
@[simp] theorem State.retest_pending : (s.retest e).pending = s.pending :=
  by unfold State.retest; split <;> simp

@[simp] theorem State.refreshDoors_odu : s.refreshDoors.odu = s.odu := by simp [State.refreshDoors]
@[simp] theorem State.refreshDoors_lps : s.refreshDoors.lps = s.lps := by simp [State.refreshDoors]
@[simp] theorem State.refreshDoors_ssu : s.refreshDoors.ssu = s.ssu := by simp [State.refreshDoors]
@[simp] theorem State.refreshDoors_brm : s.refreshDoors.brm = s.brm := by simp [State.refreshDoors]
@[simp] theorem State.refreshDoors_dka : s.refreshDoors.dka = s.dka := by simp [State.refreshDoors]
@[simp] theorem State.refreshDoors_vrl : s.refreshDoors.vrl = s.vrl := by simp [State.refreshDoors]
@[simp] theorem State.refreshDoors_tgh : s.refreshDoors.tgh = s.tgh := by simp [State.refreshDoors]
@[simp] theorem State.refreshDoors_pst : s.refreshDoors.pst = s.pst := by simp [State.refreshDoors]
@[simp] theorem State.refreshDoors_now : s.refreshDoors.now = s.now := by simp [State.refreshDoors]
@[simp] theorem State.refreshDoors_pending : s.refreshDoors.pending = s.pending :=
  by simp [State.refreshDoors]

@[simp] theorem State.refreshOrphan_odu : s.refreshOrphan.odu = s.odu :=
  by unfold State.refreshOrphan; (repeat' split) <;> rfl
@[simp] theorem State.refreshOrphan_lps : s.refreshOrphan.lps = s.lps :=
  by unfold State.refreshOrphan; (repeat' split) <;> rfl
@[simp] theorem State.refreshOrphan_ssu : s.refreshOrphan.ssu = s.ssu :=
  by unfold State.refreshOrphan; (repeat' split) <;> rfl
@[simp] theorem State.refreshOrphan_brm : s.refreshOrphan.brm = s.brm :=
  by unfold State.refreshOrphan; (repeat' split) <;> rfl
@[simp] theorem State.refreshOrphan_drc : s.refreshOrphan.drc = s.drc :=
  by unfold State.refreshOrphan; (repeat' split) <;> rfl
@[simp] theorem State.refreshOrphan_vrl : s.refreshOrphan.vrl = s.vrl :=
  by unfold State.refreshOrphan; (repeat' split) <;> rfl
@[simp] theorem State.refreshOrphan_tgh : s.refreshOrphan.tgh = s.tgh :=
  by unfold State.refreshOrphan; (repeat' split) <;> rfl
@[simp] theorem State.refreshOrphan_pif : s.refreshOrphan.pif = s.pif :=
  by unfold State.refreshOrphan; (repeat' split) <;> rfl
@[simp] theorem State.refreshOrphan_pst : s.refreshOrphan.pst = s.pst :=
  by unfold State.refreshOrphan; (repeat' split) <;> rfl
@[simp] theorem State.refreshOrphan_now : s.refreshOrphan.now = s.now :=
  by unfold State.refreshOrphan; (repeat' split) <;> rfl
@[simp] theorem State.refreshOrphan_pending : s.refreshOrphan.pending = s.pending :=
  by unfold State.refreshOrphan; (repeat' split) <;> rfl

/-! ## The end of an event -/

@[simp] theorem State.readersPass_odu : s.readersPass.odu = s.odu := by
  simp [State.readersPass]
@[simp] theorem State.readersPass_vrl : s.readersPass.vrl = s.vrl := by
  simp [State.readersPass]
@[simp] theorem State.readersPass_pst : s.readersPass.pst = s.pst := by
  simp [State.readersPass]
@[simp] theorem State.readersPass_now : s.readersPass.now = s.now := by
  simp [State.readersPass]
@[simp] theorem State.readersPass_pending : s.readersPass.pending = s.pending := by
  simp [State.readersPass]

@[simp] theorem State.settlePass_odu : s.settlePass.odu = s.odu := by simp [State.settlePass]
@[simp] theorem State.settlePass_vrl : s.settlePass.vrl = s.vrl := by simp [State.settlePass]
@[simp] theorem State.settlePass_pst : s.settlePass.pst = s.pst := by simp [State.settlePass]
@[simp] theorem State.settlePass_now : s.settlePass.now = s.now := by simp [State.settlePass]
@[simp] theorem State.settlePass_pending : s.settlePass.pending = s.pending := by simp [State.settlePass]

@[simp] theorem State.settle_odu : (s.settle n).odu = s.odu := by
  induction n generalizing s with
  | zero => rfl
  | succ n ih => simp [State.settle, ih]
@[simp] theorem State.settle_vrl : (s.settle n).vrl = s.vrl := by
  induction n generalizing s with
  | zero => rfl
  | succ n ih => simp [State.settle, ih]
@[simp] theorem State.settle_pst : (s.settle n).pst = s.pst := by
  induction n generalizing s with
  | zero => rfl
  | succ n ih => simp [State.settle, ih]
@[simp] theorem State.settle_now : (s.settle n).now = s.now := by
  induction n generalizing s with
  | zero => rfl
  | succ n ih => simp [State.settle, ih]
@[simp] theorem State.settle_pending : (s.settle n).pending = s.pending := by
  induction n generalizing s with
  | zero => rfl
  | succ n ih => simp [State.settle, ih]

@[simp] theorem State.finish_odu : s.finish.odu = s.odu := by simp [State.finish]
@[simp] theorem State.finish_vrl : s.finish.vrl = s.vrl := by simp [State.finish]
@[simp] theorem State.finish_pst : s.finish.pst = s.pst := by simp [State.finish]
@[simp] theorem State.finish_now : s.finish.now = s.now := by simp [State.finish]
@[simp] theorem State.finish_pending : s.finish.pending = s.pending := by simp [State.finish]

end Sys2Proof.Machine
end

