-- ==== Sys2Proof/Laws/Brake.lean ====
section
/-! SUPPORT. What each operation of the brake manager leaves unchanged, one lemma per field of the brake
record. -/

namespace Sys2Proof.Machine

variable (s : State) (w : LatchCause) (i : RowId) (v : Row) (o : OpenValve) (b : Bogie)

@[simp] theorem State.setLatch_brm_rows : (s.setLatch w).brm.rows = s.brm.rows :=
  by unfold State.setLatch; split <;> rfl
@[simp] theorem State.setLatch_brm_level : (s.setLatch w).brm.level = s.brm.level :=
  by unfold State.setLatch; split <;> rfl
@[simp] theorem State.setLatch_brm_target : (s.setLatch w).brm.target = s.brm.target :=
  by unfold State.setLatch; split <;> rfl
@[simp] theorem State.setLatch_brm_measured : (s.setLatch w).brm.measured = s.brm.measured :=
  by unfold State.setLatch; split <;> rfl
@[simp] theorem State.setLatch_brm_sensorFault : (s.setLatch w).brm.sensorFault = s.brm.sensorFault :=
  by unfold State.setLatch; split <;> rfl
@[simp] theorem State.setLatch_brm_frictionFault : (s.setLatch w).brm.frictionFault = s.brm.frictionFault :=
  by unfold State.setLatch; split <;> rfl
@[simp] theorem State.setLatch_brm_pulses : (s.setLatch w).brm.pulses = s.brm.pulses :=
  by unfold State.setLatch; split <;> rfl
@[simp] theorem State.setLatch_brm_valve : (s.setLatch w).brm.valve = s.brm.valve :=
  by unfold State.setLatch; split <;> rfl
@[simp] theorem State.setLatch_brm_lastOpen : (s.setLatch w).brm.lastOpen = s.brm.lastOpen :=
  by unfold State.setLatch; split <;> rfl
@[simp] theorem State.setLatch_brm_waiting : (s.setLatch w).brm.waiting = s.brm.waiting :=
  by unfold State.setLatch; split <;> rfl
@[simp] theorem State.setLatch_brm_deadTimer : (s.setLatch w).brm.deadTimer = s.brm.deadTimer :=
  by unfold State.setLatch; split <;> rfl
@[simp] theorem State.setLatch_brm_proving : (s.setLatch w).brm.proving = s.brm.proving :=
  by unfold State.setLatch; split <;> rfl
@[simp] theorem State.setLatch_brm_proveTimer : (s.setLatch w).brm.proveTimer = s.brm.proveTimer :=
  by unfold State.setLatch; split <;> rfl
@[simp] theorem State.setLatch_brm_pinion : (s.setLatch w).brm.pinion = s.brm.pinion :=
  by unfold State.setLatch; split <;> rfl
@[simp] theorem State.setLatch_brm_energised : (s.setLatch w).brm.energised = s.brm.energised :=
  by unfold State.setLatch; split <;> rfl
@[simp] theorem State.setLatch_brm_upper : (s.setLatch w).brm.upper = s.brm.upper :=
  by unfold State.setLatch; split <;> rfl
@[simp] theorem State.setLatch_brm_lower : (s.setLatch w).brm.lower = s.brm.lower :=
  by unfold State.setLatch; split <;> rfl
@[simp] theorem State.setLatch_brm_holding : (s.setLatch w).brm.holding = s.brm.holding :=
  by unfold State.setLatch; split <;> rfl
@[simp] theorem State.setLatch_brm_holdSeen : (s.setLatch w).brm.holdSeen = s.brm.holdSeen :=
  by unfold State.setLatch; split <;> rfl
@[simp] theorem State.setLatch_brm_proveSeen : (s.setLatch w).brm.proveSeen = s.brm.proveSeen :=
  by unfold State.setLatch; split <;> rfl
@[simp] theorem State.setLatch_brm_ebrake : (s.setLatch w).brm.ebrake = s.brm.ebrake :=
  by unfold State.setLatch; split <;> rfl
@[simp] theorem State.setLatch_brm_traction : (s.setLatch w).brm.traction = s.brm.traction :=
  by unfold State.setLatch; split <;> rfl
@[simp] theorem State.setLatch_brm_effort : (s.setLatch w).brm.effort = s.brm.effort :=
  by unfold State.setLatch; split <;> rfl
@[simp] theorem State.setLatch_brm_effortValid : (s.setLatch w).brm.effortValid = s.brm.effortValid :=
  by unfold State.setLatch; split <;> rfl
@[simp] theorem State.setLatch_brm_feedbackTimer : (s.setLatch w).brm.feedbackTimer = s.brm.feedbackTimer :=
  by unfold State.setLatch; split <;> rfl
@[simp] theorem State.setLatch_brm_senseOpen : (s.setLatch w).brm.senseOpen = s.brm.senseOpen :=
  by unfold State.setLatch; split <;> rfl
@[simp] theorem State.setLatch_brm_loopForced : (s.setLatch w).brm.loopForced = s.brm.loopForced :=
  by unfold State.setLatch; split <;> rfl
@[simp] theorem State.setLatch_brm_departure : (s.setLatch w).brm.departure = s.brm.departure :=
  by unfold State.setLatch; split <;> rfl
@[simp] theorem State.setLatch_brm_required : (s.setLatch w).brm.required = s.brm.required :=
  by unfold State.setLatch; split <;> rfl
@[simp] theorem State.setLatch_brm_stallTimer : (s.setLatch w).brm.stallTimer = s.brm.stallTimer :=
  by unfold State.setLatch; split <;> rfl
@[simp] theorem State.setLatch_brm_holdElapsed : (s.setLatch w).brm.holdElapsed = s.brm.holdElapsed :=
  by unfold State.setLatch; split <;> rfl
@[simp] theorem State.setLatch_brm_holdTimer : (s.setLatch w).brm.holdTimer = s.brm.holdTimer :=
  by unfold State.setLatch; split <;> rfl
@[simp] theorem State.setLatch_brm_gateTimer : (s.setLatch w).brm.gateTimer = s.brm.gateTimer :=
  by unfold State.setLatch; split <;> rfl

@[simp] theorem State.writeRow_brm_level : (s.writeRow i v).brm.level = s.brm.level := by
  unfold State.writeRow; (repeat' split) <;> simp
@[simp] theorem State.writeRow_brm_target : (s.writeRow i v).brm.target = s.brm.target := by
  unfold State.writeRow; (repeat' split) <;> simp
@[simp] theorem State.writeRow_brm_measured : (s.writeRow i v).brm.measured = s.brm.measured := by
  unfold State.writeRow; (repeat' split) <;> simp
@[simp] theorem State.writeRow_brm_sensorFault : (s.writeRow i v).brm.sensorFault = s.brm.sensorFault := by
  unfold State.writeRow; (repeat' split) <;> simp
@[simp] theorem State.writeRow_brm_frictionFault : (s.writeRow i v).brm.frictionFault = s.brm.frictionFault := by
  unfold State.writeRow; (repeat' split) <;> simp
@[simp] theorem State.writeRow_brm_pulses : (s.writeRow i v).brm.pulses = s.brm.pulses := by
  unfold State.writeRow; (repeat' split) <;> simp
@[simp] theorem State.writeRow_brm_valve : (s.writeRow i v).brm.valve = s.brm.valve := by
  unfold State.writeRow; (repeat' split) <;> simp
@[simp] theorem State.writeRow_brm_lastOpen : (s.writeRow i v).brm.lastOpen = s.brm.lastOpen := by
  unfold State.writeRow; (repeat' split) <;> simp
@[simp] theorem State.writeRow_brm_waiting : (s.writeRow i v).brm.waiting = s.brm.waiting := by
  unfold State.writeRow; (repeat' split) <;> simp
@[simp] theorem State.writeRow_brm_deadTimer : (s.writeRow i v).brm.deadTimer = s.brm.deadTimer := by
  unfold State.writeRow; (repeat' split) <;> simp
@[simp] theorem State.writeRow_brm_proving : (s.writeRow i v).brm.proving = s.brm.proving := by
  unfold State.writeRow; (repeat' split) <;> simp
@[simp] theorem State.writeRow_brm_proveTimer : (s.writeRow i v).brm.proveTimer = s.brm.proveTimer := by
  unfold State.writeRow; (repeat' split) <;> simp
@[simp] theorem State.writeRow_brm_pinion : (s.writeRow i v).brm.pinion = s.brm.pinion := by
  unfold State.writeRow; (repeat' split) <;> simp
@[simp] theorem State.writeRow_brm_energised : (s.writeRow i v).brm.energised = s.brm.energised := by
  unfold State.writeRow; (repeat' split) <;> simp
@[simp] theorem State.writeRow_brm_upper : (s.writeRow i v).brm.upper = s.brm.upper := by
  unfold State.writeRow; (repeat' split) <;> simp
@[simp] theorem State.writeRow_brm_lower : (s.writeRow i v).brm.lower = s.brm.lower := by
  unfold State.writeRow; (repeat' split) <;> simp
@[simp] theorem State.writeRow_brm_holding : (s.writeRow i v).brm.holding = s.brm.holding := by
  unfold State.writeRow; (repeat' split) <;> simp
@[simp] theorem State.writeRow_brm_holdSeen : (s.writeRow i v).brm.holdSeen = s.brm.holdSeen := by
  unfold State.writeRow; (repeat' split) <;> simp
@[simp] theorem State.writeRow_brm_proveSeen : (s.writeRow i v).brm.proveSeen = s.brm.proveSeen := by
  unfold State.writeRow; (repeat' split) <;> simp
@[simp] theorem State.writeRow_brm_ebrake : (s.writeRow i v).brm.ebrake = s.brm.ebrake := by
  unfold State.writeRow; (repeat' split) <;> simp
@[simp] theorem State.writeRow_brm_traction : (s.writeRow i v).brm.traction = s.brm.traction := by
  unfold State.writeRow; (repeat' split) <;> simp
@[simp] theorem State.writeRow_brm_effort : (s.writeRow i v).brm.effort = s.brm.effort := by
  unfold State.writeRow; (repeat' split) <;> simp
@[simp] theorem State.writeRow_brm_effortValid : (s.writeRow i v).brm.effortValid = s.brm.effortValid := by
  unfold State.writeRow; (repeat' split) <;> simp
@[simp] theorem State.writeRow_brm_feedbackTimer : (s.writeRow i v).brm.feedbackTimer = s.brm.feedbackTimer := by
  unfold State.writeRow; (repeat' split) <;> simp
@[simp] theorem State.writeRow_brm_senseOpen : (s.writeRow i v).brm.senseOpen = s.brm.senseOpen := by
  unfold State.writeRow; (repeat' split) <;> simp
@[simp] theorem State.writeRow_brm_loopForced : (s.writeRow i v).brm.loopForced = s.brm.loopForced := by
  unfold State.writeRow; (repeat' split) <;> simp
@[simp] theorem State.writeRow_brm_departure : (s.writeRow i v).brm.departure = s.brm.departure := by
  unfold State.writeRow; (repeat' split) <;> simp
@[simp] theorem State.writeRow_brm_required : (s.writeRow i v).brm.required = s.brm.required := by
  unfold State.writeRow; (repeat' split) <;> simp
@[simp] theorem State.writeRow_brm_stallTimer : (s.writeRow i v).brm.stallTimer = s.brm.stallTimer := by
  unfold State.writeRow; (repeat' split) <;> simp
@[simp] theorem State.writeRow_brm_holdElapsed : (s.writeRow i v).brm.holdElapsed = s.brm.holdElapsed := by
  unfold State.writeRow; (repeat' split) <;> simp
@[simp] theorem State.writeRow_brm_holdTimer : (s.writeRow i v).brm.holdTimer = s.brm.holdTimer := by
  unfold State.writeRow; (repeat' split) <;> simp
@[simp] theorem State.writeRow_brm_gateTimer : (s.writeRow i v).brm.gateTimer = s.brm.gateTimer := by
  unfold State.writeRow; (repeat' split) <;> simp

@[simp] theorem State.toLap_brm_rows : s.toLap.brm.rows = s.brm.rows := by unfold State.toLap; split <;> rfl
@[simp] theorem State.toLap_brm_level : s.toLap.brm.level = s.brm.level :=
  by unfold State.toLap; split <;> rfl
@[simp] theorem State.toLap_brm_latch : s.toLap.brm.latch = s.brm.latch :=
  by unfold State.toLap; split <;> rfl
@[simp] theorem State.toLap_brm_target : s.toLap.brm.target = s.brm.target :=
  by unfold State.toLap; split <;> rfl
@[simp] theorem State.toLap_brm_measured : s.toLap.brm.measured = s.brm.measured :=
  by unfold State.toLap; split <;> rfl
@[simp] theorem State.toLap_brm_sensorFault : s.toLap.brm.sensorFault = s.brm.sensorFault :=
  by unfold State.toLap; split <;> rfl
@[simp] theorem State.toLap_brm_frictionFault : s.toLap.brm.frictionFault = s.brm.frictionFault :=
  by unfold State.toLap; split <;> rfl
@[simp] theorem State.toLap_brm_pulses : s.toLap.brm.pulses = s.brm.pulses :=
  by unfold State.toLap; split <;> rfl
@[simp] theorem State.toLap_brm_proving : s.toLap.brm.proving = s.brm.proving :=
  by unfold State.toLap; split <;> rfl
@[simp] theorem State.toLap_brm_proveTimer : s.toLap.brm.proveTimer = s.brm.proveTimer :=
  by unfold State.toLap; split <;> rfl
@[simp] theorem State.toLap_brm_pinion : s.toLap.brm.pinion = s.brm.pinion :=
  by unfold State.toLap; split <;> rfl
@[simp] theorem State.toLap_brm_energised : s.toLap.brm.energised = s.brm.energised :=
  by unfold State.toLap; split <;> rfl
@[simp] theorem State.toLap_brm_upper : s.toLap.brm.upper = s.brm.upper :=
  by unfold State.toLap; split <;> rfl
@[simp] theorem State.toLap_brm_lower : s.toLap.brm.lower = s.brm.lower :=
  by unfold State.toLap; split <;> rfl
@[simp] theorem State.toLap_brm_holding : s.toLap.brm.holding = s.brm.holding :=
  by unfold State.toLap; split <;> rfl
@[simp] theorem State.toLap_brm_holdSeen : s.toLap.brm.holdSeen = s.brm.holdSeen :=
  by unfold State.toLap; split <;> rfl
@[simp] theorem State.toLap_brm_proveSeen : s.toLap.brm.proveSeen = s.brm.proveSeen :=
  by unfold State.toLap; split <;> rfl
@[simp] theorem State.toLap_brm_ebrake : s.toLap.brm.ebrake = s.brm.ebrake :=
  by unfold State.toLap; split <;> rfl
@[simp] theorem State.toLap_brm_traction : s.toLap.brm.traction = s.brm.traction :=
  by unfold State.toLap; split <;> rfl
@[simp] theorem State.toLap_brm_effort : s.toLap.brm.effort = s.brm.effort :=
  by unfold State.toLap; split <;> rfl
@[simp] theorem State.toLap_brm_effortValid : s.toLap.brm.effortValid = s.brm.effortValid :=
  by unfold State.toLap; split <;> rfl
@[simp] theorem State.toLap_brm_feedbackTimer : s.toLap.brm.feedbackTimer = s.brm.feedbackTimer :=
  by unfold State.toLap; split <;> rfl
@[simp] theorem State.toLap_brm_senseOpen : s.toLap.brm.senseOpen = s.brm.senseOpen :=
  by unfold State.toLap; split <;> rfl
@[simp] theorem State.toLap_brm_loopForced : s.toLap.brm.loopForced = s.brm.loopForced :=
  by unfold State.toLap; split <;> rfl
@[simp] theorem State.toLap_brm_departure : s.toLap.brm.departure = s.brm.departure :=
  by unfold State.toLap; split <;> rfl
@[simp] theorem State.toLap_brm_required : s.toLap.brm.required = s.brm.required :=
  by unfold State.toLap; split <;> rfl
@[simp] theorem State.toLap_brm_stallTimer : s.toLap.brm.stallTimer = s.brm.stallTimer :=
  by unfold State.toLap; split <;> rfl
@[simp] theorem State.toLap_brm_holdElapsed : s.toLap.brm.holdElapsed = s.brm.holdElapsed :=
  by unfold State.toLap; split <;> rfl
@[simp] theorem State.toLap_brm_holdTimer : s.toLap.brm.holdTimer = s.brm.holdTimer :=
  by unfold State.toLap; split <;> rfl
@[simp] theorem State.toLap_brm_gateTimer : s.toLap.brm.gateTimer = s.brm.gateTimer :=
  by unfold State.toLap; split <;> rfl

@[simp] theorem State.chooseOpen_brm_rows : (s.chooseOpen o).brm.rows = s.brm.rows := by
  unfold State.chooseOpen State.openValve; (repeat' split) <;> simp
@[simp] theorem State.chooseOpen_brm_level : (s.chooseOpen o).brm.level = s.brm.level := by
  unfold State.chooseOpen State.openValve; (repeat' split) <;> simp
@[simp] theorem State.chooseOpen_brm_latch : (s.chooseOpen o).brm.latch = s.brm.latch := by
  unfold State.chooseOpen State.openValve; (repeat' split) <;> simp
@[simp] theorem State.chooseOpen_brm_target : (s.chooseOpen o).brm.target = s.brm.target := by
  unfold State.chooseOpen State.openValve; (repeat' split) <;> simp
@[simp] theorem State.chooseOpen_brm_measured : (s.chooseOpen o).brm.measured = s.brm.measured := by
  unfold State.chooseOpen State.openValve; (repeat' split) <;> simp
@[simp] theorem State.chooseOpen_brm_sensorFault : (s.chooseOpen o).brm.sensorFault = s.brm.sensorFault := by
  unfold State.chooseOpen State.openValve; (repeat' split) <;> simp
@[simp] theorem State.chooseOpen_brm_frictionFault : (s.chooseOpen o).brm.frictionFault = s.brm.frictionFault := by
  unfold State.chooseOpen State.openValve; (repeat' split) <;> simp
@[simp] theorem State.chooseOpen_brm_pulses : (s.chooseOpen o).brm.pulses = s.brm.pulses := by
  unfold State.chooseOpen State.openValve; (repeat' split) <;> simp
@[simp] theorem State.chooseOpen_brm_proving : (s.chooseOpen o).brm.proving = s.brm.proving := by
  unfold State.chooseOpen State.openValve; (repeat' split) <;> simp
@[simp] theorem State.chooseOpen_brm_proveTimer : (s.chooseOpen o).brm.proveTimer = s.brm.proveTimer := by
  unfold State.chooseOpen State.openValve; (repeat' split) <;> simp
@[simp] theorem State.chooseOpen_brm_pinion : (s.chooseOpen o).brm.pinion = s.brm.pinion := by
  unfold State.chooseOpen State.openValve; (repeat' split) <;> simp
@[simp] theorem State.chooseOpen_brm_energised : (s.chooseOpen o).brm.energised = s.brm.energised := by
  unfold State.chooseOpen State.openValve; (repeat' split) <;> simp
@[simp] theorem State.chooseOpen_brm_upper : (s.chooseOpen o).brm.upper = s.brm.upper := by
  unfold State.chooseOpen State.openValve; (repeat' split) <;> simp
@[simp] theorem State.chooseOpen_brm_lower : (s.chooseOpen o).brm.lower = s.brm.lower := by
  unfold State.chooseOpen State.openValve; (repeat' split) <;> simp
@[simp] theorem State.chooseOpen_brm_holding : (s.chooseOpen o).brm.holding = s.brm.holding := by
  unfold State.chooseOpen State.openValve; (repeat' split) <;> simp
@[simp] theorem State.chooseOpen_brm_holdSeen : (s.chooseOpen o).brm.holdSeen = s.brm.holdSeen := by
  unfold State.chooseOpen State.openValve; (repeat' split) <;> simp
@[simp] theorem State.chooseOpen_brm_proveSeen : (s.chooseOpen o).brm.proveSeen = s.brm.proveSeen := by
  unfold State.chooseOpen State.openValve; (repeat' split) <;> simp
@[simp] theorem State.chooseOpen_brm_ebrake : (s.chooseOpen o).brm.ebrake = s.brm.ebrake := by
  unfold State.chooseOpen State.openValve; (repeat' split) <;> simp
@[simp] theorem State.chooseOpen_brm_traction : (s.chooseOpen o).brm.traction = s.brm.traction := by
  unfold State.chooseOpen State.openValve; (repeat' split) <;> simp
@[simp] theorem State.chooseOpen_brm_effort : (s.chooseOpen o).brm.effort = s.brm.effort := by
  unfold State.chooseOpen State.openValve; (repeat' split) <;> simp
@[simp] theorem State.chooseOpen_brm_effortValid : (s.chooseOpen o).brm.effortValid = s.brm.effortValid := by
  unfold State.chooseOpen State.openValve; (repeat' split) <;> simp
@[simp] theorem State.chooseOpen_brm_feedbackTimer : (s.chooseOpen o).brm.feedbackTimer = s.brm.feedbackTimer := by
  unfold State.chooseOpen State.openValve; (repeat' split) <;> simp
@[simp] theorem State.chooseOpen_brm_senseOpen : (s.chooseOpen o).brm.senseOpen = s.brm.senseOpen := by
  unfold State.chooseOpen State.openValve; (repeat' split) <;> simp
@[simp] theorem State.chooseOpen_brm_loopForced : (s.chooseOpen o).brm.loopForced = s.brm.loopForced := by
  unfold State.chooseOpen State.openValve; (repeat' split) <;> simp
@[simp] theorem State.chooseOpen_brm_departure : (s.chooseOpen o).brm.departure = s.brm.departure := by
  unfold State.chooseOpen State.openValve; (repeat' split) <;> simp
@[simp] theorem State.chooseOpen_brm_required : (s.chooseOpen o).brm.required = s.brm.required := by
  unfold State.chooseOpen State.openValve; (repeat' split) <;> simp
@[simp] theorem State.chooseOpen_brm_stallTimer : (s.chooseOpen o).brm.stallTimer = s.brm.stallTimer := by
  unfold State.chooseOpen State.openValve; (repeat' split) <;> simp
@[simp] theorem State.chooseOpen_brm_holdElapsed : (s.chooseOpen o).brm.holdElapsed = s.brm.holdElapsed := by
  unfold State.chooseOpen State.openValve; (repeat' split) <;> simp
@[simp] theorem State.chooseOpen_brm_holdTimer : (s.chooseOpen o).brm.holdTimer = s.brm.holdTimer := by
  unfold State.chooseOpen State.openValve; (repeat' split) <;> simp
@[simp] theorem State.chooseOpen_brm_gateTimer : (s.chooseOpen o).brm.gateTimer = s.brm.gateTimer := by
  unfold State.chooseOpen State.openValve; (repeat' split) <;> simp

@[simp] theorem State.takeChoice_brm_rows : s.takeChoice.brm.rows = s.brm.rows :=
  by unfold State.takeChoice; split <;> simp
@[simp] theorem State.takeChoice_brm_level : s.takeChoice.brm.level = s.brm.level :=
  by unfold State.takeChoice; split <;> simp
@[simp] theorem State.takeChoice_brm_latch : s.takeChoice.brm.latch = s.brm.latch :=
  by unfold State.takeChoice; split <;> simp
@[simp] theorem State.takeChoice_brm_target : s.takeChoice.brm.target = s.brm.target :=
  by unfold State.takeChoice; split <;> simp
@[simp] theorem State.takeChoice_brm_measured : s.takeChoice.brm.measured = s.brm.measured :=
  by unfold State.takeChoice; split <;> simp
@[simp] theorem State.takeChoice_brm_sensorFault : s.takeChoice.brm.sensorFault = s.brm.sensorFault :=
  by unfold State.takeChoice; split <;> simp
@[simp] theorem State.takeChoice_brm_frictionFault : s.takeChoice.brm.frictionFault = s.brm.frictionFault :=
  by unfold State.takeChoice; split <;> simp
@[simp] theorem State.takeChoice_brm_pulses : s.takeChoice.brm.pulses = s.brm.pulses :=
  by unfold State.takeChoice; split <;> simp
@[simp] theorem State.takeChoice_brm_proving : s.takeChoice.brm.proving = s.brm.proving :=
  by unfold State.takeChoice; split <;> simp
@[simp] theorem State.takeChoice_brm_proveTimer : s.takeChoice.brm.proveTimer = s.brm.proveTimer :=
  by unfold State.takeChoice; split <;> simp
@[simp] theorem State.takeChoice_brm_pinion : s.takeChoice.brm.pinion = s.brm.pinion :=
  by unfold State.takeChoice; split <;> simp
@[simp] theorem State.takeChoice_brm_energised : s.takeChoice.brm.energised = s.brm.energised :=
  by unfold State.takeChoice; split <;> simp
@[simp] theorem State.takeChoice_brm_upper : s.takeChoice.brm.upper = s.brm.upper :=
  by unfold State.takeChoice; split <;> simp
@[simp] theorem State.takeChoice_brm_lower : s.takeChoice.brm.lower = s.brm.lower :=
  by unfold State.takeChoice; split <;> simp
@[simp] theorem State.takeChoice_brm_holding : s.takeChoice.brm.holding = s.brm.holding :=
  by unfold State.takeChoice; split <;> simp
@[simp] theorem State.takeChoice_brm_holdSeen : s.takeChoice.brm.holdSeen = s.brm.holdSeen :=
  by unfold State.takeChoice; split <;> simp
@[simp] theorem State.takeChoice_brm_proveSeen : s.takeChoice.brm.proveSeen = s.brm.proveSeen :=
  by unfold State.takeChoice; split <;> simp
@[simp] theorem State.takeChoice_brm_ebrake : s.takeChoice.brm.ebrake = s.brm.ebrake :=
  by unfold State.takeChoice; split <;> simp
@[simp] theorem State.takeChoice_brm_traction : s.takeChoice.brm.traction = s.brm.traction :=
  by unfold State.takeChoice; split <;> simp
@[simp] theorem State.takeChoice_brm_effort : s.takeChoice.brm.effort = s.brm.effort :=
  by unfold State.takeChoice; split <;> simp
@[simp] theorem State.takeChoice_brm_effortValid : s.takeChoice.brm.effortValid = s.brm.effortValid :=
  by unfold State.takeChoice; split <;> simp
@[simp] theorem State.takeChoice_brm_feedbackTimer : s.takeChoice.brm.feedbackTimer = s.brm.feedbackTimer :=
  by unfold State.takeChoice; split <;> simp
@[simp] theorem State.takeChoice_brm_senseOpen : s.takeChoice.brm.senseOpen = s.brm.senseOpen :=
  by unfold State.takeChoice; split <;> simp
@[simp] theorem State.takeChoice_brm_loopForced : s.takeChoice.brm.loopForced = s.brm.loopForced :=
  by unfold State.takeChoice; split <;> simp
@[simp] theorem State.takeChoice_brm_departure : s.takeChoice.brm.departure = s.brm.departure :=
  by unfold State.takeChoice; split <;> simp
@[simp] theorem State.takeChoice_brm_required : s.takeChoice.brm.required = s.brm.required :=
  by unfold State.takeChoice; split <;> simp
@[simp] theorem State.takeChoice_brm_stallTimer : s.takeChoice.brm.stallTimer = s.brm.stallTimer :=
  by unfold State.takeChoice; split <;> simp
@[simp] theorem State.takeChoice_brm_holdElapsed : s.takeChoice.brm.holdElapsed = s.brm.holdElapsed :=
  by unfold State.takeChoice; split <;> simp
@[simp] theorem State.takeChoice_brm_holdTimer : s.takeChoice.brm.holdTimer = s.brm.holdTimer :=
  by unfold State.takeChoice; split <;> simp
@[simp] theorem State.takeChoice_brm_gateTimer : s.takeChoice.brm.gateTimer = s.brm.gateTimer :=
  by unfold State.takeChoice; split <;> simp

@[simp] theorem State.retarget_brm_rows : s.retarget.brm.rows = s.brm.rows := by simp [State.retarget]
@[simp] theorem State.retarget_brm_level : s.retarget.brm.level = s.brm.level := by simp [State.retarget]
@[simp] theorem State.retarget_brm_latch : s.retarget.brm.latch = s.brm.latch := by simp [State.retarget]
@[simp] theorem State.retarget_brm_measured : s.retarget.brm.measured = s.brm.measured :=
  by simp [State.retarget]
@[simp] theorem State.retarget_brm_sensorFault : s.retarget.brm.sensorFault = s.brm.sensorFault :=
  by simp [State.retarget]
@[simp] theorem State.retarget_brm_frictionFault : s.retarget.brm.frictionFault = s.brm.frictionFault :=
  by simp [State.retarget]
@[simp] theorem State.retarget_brm_pulses : s.retarget.brm.pulses = s.brm.pulses := by simp [State.retarget]
@[simp] theorem State.retarget_brm_proving : s.retarget.brm.proving = s.brm.proving :=
  by simp [State.retarget]
@[simp] theorem State.retarget_brm_proveTimer : s.retarget.brm.proveTimer = s.brm.proveTimer :=
  by simp [State.retarget]
@[simp] theorem State.retarget_brm_pinion : s.retarget.brm.pinion = s.brm.pinion := by simp [State.retarget]
@[simp] theorem State.retarget_brm_energised : s.retarget.brm.energised = s.brm.energised :=
  by simp [State.retarget]
@[simp] theorem State.retarget_brm_upper : s.retarget.brm.upper = s.brm.upper := by simp [State.retarget]
@[simp] theorem State.retarget_brm_lower : s.retarget.brm.lower = s.brm.lower := by simp [State.retarget]
@[simp] theorem State.retarget_brm_holding : s.retarget.brm.holding = s.brm.holding :=
  by simp [State.retarget]
@[simp] theorem State.retarget_brm_holdSeen : s.retarget.brm.holdSeen = s.brm.holdSeen :=
  by simp [State.retarget]
@[simp] theorem State.retarget_brm_proveSeen : s.retarget.brm.proveSeen = s.brm.proveSeen :=
  by simp [State.retarget]
@[simp] theorem State.retarget_brm_ebrake : s.retarget.brm.ebrake = s.brm.ebrake := by simp [State.retarget]
@[simp] theorem State.retarget_brm_traction : s.retarget.brm.traction = s.brm.traction :=
  by simp [State.retarget]
@[simp] theorem State.retarget_brm_effort : s.retarget.brm.effort = s.brm.effort := by simp [State.retarget]
@[simp] theorem State.retarget_brm_effortValid : s.retarget.brm.effortValid = s.brm.effortValid :=
  by simp [State.retarget]
@[simp] theorem State.retarget_brm_feedbackTimer : s.retarget.brm.feedbackTimer = s.brm.feedbackTimer :=
  by simp [State.retarget]
@[simp] theorem State.retarget_brm_senseOpen : s.retarget.brm.senseOpen = s.brm.senseOpen :=
  by simp [State.retarget]
@[simp] theorem State.retarget_brm_loopForced : s.retarget.brm.loopForced = s.brm.loopForced :=
  by simp [State.retarget]
@[simp] theorem State.retarget_brm_departure : s.retarget.brm.departure = s.brm.departure :=
  by simp [State.retarget]
@[simp] theorem State.retarget_brm_required : s.retarget.brm.required = s.brm.required :=
  by simp [State.retarget]
@[simp] theorem State.retarget_brm_stallTimer : s.retarget.brm.stallTimer = s.brm.stallTimer :=
  by simp [State.retarget]
@[simp] theorem State.retarget_brm_holdElapsed : s.retarget.brm.holdElapsed = s.brm.holdElapsed :=
  by simp [State.retarget]
@[simp] theorem State.retarget_brm_holdTimer : s.retarget.brm.holdTimer = s.brm.holdTimer :=
  by simp [State.retarget]
@[simp] theorem State.retarget_brm_gateTimer : s.retarget.brm.gateTimer = s.brm.gateTimer :=
  by simp [State.retarget]

@[simp] theorem State.refreshLevel_brm_rows : s.refreshLevel.brm.rows = s.brm.rows :=
  by unfold State.refreshLevel; split <;> simp
@[simp] theorem State.refreshLevel_brm_latch : s.refreshLevel.brm.latch = s.brm.latch :=
  by unfold State.refreshLevel; split <;> simp
@[simp] theorem State.refreshLevel_brm_measured : s.refreshLevel.brm.measured = s.brm.measured :=
  by unfold State.refreshLevel; split <;> simp
@[simp] theorem State.refreshLevel_brm_sensorFault : s.refreshLevel.brm.sensorFault = s.brm.sensorFault :=
  by unfold State.refreshLevel; split <;> simp
@[simp] theorem State.refreshLevel_brm_frictionFault : s.refreshLevel.brm.frictionFault = s.brm.frictionFault :=
  by unfold State.refreshLevel; split <;> simp
@[simp] theorem State.refreshLevel_brm_pulses : s.refreshLevel.brm.pulses = s.brm.pulses :=
  by unfold State.refreshLevel; split <;> simp
@[simp] theorem State.refreshLevel_brm_proving : s.refreshLevel.brm.proving = s.brm.proving :=
  by unfold State.refreshLevel; split <;> simp
@[simp] theorem State.refreshLevel_brm_proveTimer : s.refreshLevel.brm.proveTimer = s.brm.proveTimer :=
  by unfold State.refreshLevel; split <;> simp
@[simp] theorem State.refreshLevel_brm_pinion : s.refreshLevel.brm.pinion = s.brm.pinion :=
  by unfold State.refreshLevel; split <;> simp
@[simp] theorem State.refreshLevel_brm_energised : s.refreshLevel.brm.energised = s.brm.energised :=
  by unfold State.refreshLevel; split <;> simp
@[simp] theorem State.refreshLevel_brm_upper : s.refreshLevel.brm.upper = s.brm.upper :=
  by unfold State.refreshLevel; split <;> simp
@[simp] theorem State.refreshLevel_brm_lower : s.refreshLevel.brm.lower = s.brm.lower :=
  by unfold State.refreshLevel; split <;> simp
@[simp] theorem State.refreshLevel_brm_holding : s.refreshLevel.brm.holding = s.brm.holding :=
  by unfold State.refreshLevel; split <;> simp
@[simp] theorem State.refreshLevel_brm_holdSeen : s.refreshLevel.brm.holdSeen = s.brm.holdSeen :=
  by unfold State.refreshLevel; split <;> simp
@[simp] theorem State.refreshLevel_brm_proveSeen : s.refreshLevel.brm.proveSeen = s.brm.proveSeen :=
  by unfold State.refreshLevel; split <;> simp
@[simp] theorem State.refreshLevel_brm_traction : s.refreshLevel.brm.traction = s.brm.traction :=
  by unfold State.refreshLevel; split <;> simp
@[simp] theorem State.refreshLevel_brm_effort : s.refreshLevel.brm.effort = s.brm.effort :=
  by unfold State.refreshLevel; split <;> simp
@[simp] theorem State.refreshLevel_brm_effortValid : s.refreshLevel.brm.effortValid = s.brm.effortValid :=
  by unfold State.refreshLevel; split <;> simp
@[simp] theorem State.refreshLevel_brm_feedbackTimer : s.refreshLevel.brm.feedbackTimer = s.brm.feedbackTimer :=
  by unfold State.refreshLevel; split <;> simp
@[simp] theorem State.refreshLevel_brm_senseOpen : s.refreshLevel.brm.senseOpen = s.brm.senseOpen :=
  by unfold State.refreshLevel; split <;> simp
@[simp] theorem State.refreshLevel_brm_loopForced : s.refreshLevel.brm.loopForced = s.brm.loopForced :=
  by unfold State.refreshLevel; split <;> simp
@[simp] theorem State.refreshLevel_brm_departure : s.refreshLevel.brm.departure = s.brm.departure :=
  by unfold State.refreshLevel; split <;> simp
@[simp] theorem State.refreshLevel_brm_required : s.refreshLevel.brm.required = s.brm.required :=
  by unfold State.refreshLevel; split <;> simp
@[simp] theorem State.refreshLevel_brm_stallTimer : s.refreshLevel.brm.stallTimer = s.brm.stallTimer :=
  by unfold State.refreshLevel; split <;> simp
@[simp] theorem State.refreshLevel_brm_holdElapsed : s.refreshLevel.brm.holdElapsed = s.brm.holdElapsed :=
  by unfold State.refreshLevel; split <;> simp
@[simp] theorem State.refreshLevel_brm_holdTimer : s.refreshLevel.brm.holdTimer = s.brm.holdTimer :=
  by unfold State.refreshLevel; split <;> simp
@[simp] theorem State.refreshLevel_brm_gateTimer : s.refreshLevel.brm.gateTimer = s.brm.gateTimer :=
  by unfold State.refreshLevel; split <;> simp

@[simp] theorem State.reprove_brm_rows : (s.reprove b).brm.rows = s.brm.rows := by
  unfold State.reprove; dsimp only; split <;> cases b <;> simp [Brm.setBand]
@[simp] theorem State.reprove_brm_level : (s.reprove b).brm.level = s.brm.level := by
  unfold State.reprove; dsimp only; split <;> cases b <;> simp [Brm.setBand]
@[simp] theorem State.reprove_brm_latch : (s.reprove b).brm.latch = s.brm.latch := by
  unfold State.reprove; dsimp only; split <;> cases b <;> simp [Brm.setBand]
@[simp] theorem State.reprove_brm_target : (s.reprove b).brm.target = s.brm.target := by
  unfold State.reprove; dsimp only; split <;> cases b <;> simp [Brm.setBand]
@[simp] theorem State.reprove_brm_measured : (s.reprove b).brm.measured = s.brm.measured := by
  unfold State.reprove; dsimp only; split <;> cases b <;> simp [Brm.setBand]
@[simp] theorem State.reprove_brm_sensorFault : (s.reprove b).brm.sensorFault = s.brm.sensorFault := by
  unfold State.reprove; dsimp only; split <;> cases b <;> simp [Brm.setBand]
@[simp] theorem State.reprove_brm_frictionFault : (s.reprove b).brm.frictionFault = s.brm.frictionFault := by
  unfold State.reprove; dsimp only; split <;> cases b <;> simp [Brm.setBand]
@[simp] theorem State.reprove_brm_pulses : (s.reprove b).brm.pulses = s.brm.pulses := by
  unfold State.reprove; dsimp only; split <;> cases b <;> simp [Brm.setBand]
@[simp] theorem State.reprove_brm_valve : (s.reprove b).brm.valve = s.brm.valve := by
  unfold State.reprove; dsimp only; split <;> cases b <;> simp [Brm.setBand]
@[simp] theorem State.reprove_brm_lastOpen : (s.reprove b).brm.lastOpen = s.brm.lastOpen := by
  unfold State.reprove; dsimp only; split <;> cases b <;> simp [Brm.setBand]
@[simp] theorem State.reprove_brm_waiting : (s.reprove b).brm.waiting = s.brm.waiting := by
  unfold State.reprove; dsimp only; split <;> cases b <;> simp [Brm.setBand]
@[simp] theorem State.reprove_brm_deadTimer : (s.reprove b).brm.deadTimer = s.brm.deadTimer := by
  unfold State.reprove; dsimp only; split <;> cases b <;> simp [Brm.setBand]
@[simp] theorem State.reprove_brm_proving : (s.reprove b).brm.proving = s.brm.proving := by
  unfold State.reprove; dsimp only; split <;> cases b <;> simp [Brm.setBand]
@[simp] theorem State.reprove_brm_proveTimer : (s.reprove b).brm.proveTimer = s.brm.proveTimer := by
  unfold State.reprove; dsimp only; split <;> cases b <;> simp [Brm.setBand]
@[simp] theorem State.reprove_brm_pinion : (s.reprove b).brm.pinion = s.brm.pinion := by
  unfold State.reprove; dsimp only; split <;> cases b <;> simp [Brm.setBand]
@[simp] theorem State.reprove_brm_energised : (s.reprove b).brm.energised = s.brm.energised := by
  unfold State.reprove; dsimp only; split <;> cases b <;> simp [Brm.setBand]
@[simp] theorem State.reprove_brm_holding : (s.reprove b).brm.holding = s.brm.holding := by
  unfold State.reprove; dsimp only; split <;> cases b <;> simp [Brm.setBand]
@[simp] theorem State.reprove_brm_holdSeen : (s.reprove b).brm.holdSeen = s.brm.holdSeen := by
  unfold State.reprove; dsimp only; split <;> cases b <;> simp [Brm.setBand]
@[simp] theorem State.reprove_brm_proveSeen : (s.reprove b).brm.proveSeen = s.brm.proveSeen := by
  unfold State.reprove; dsimp only; split <;> cases b <;> simp [Brm.setBand]
@[simp] theorem State.reprove_brm_ebrake : (s.reprove b).brm.ebrake = s.brm.ebrake := by
  unfold State.reprove; dsimp only; split <;> cases b <;> simp [Brm.setBand]
@[simp] theorem State.reprove_brm_traction : (s.reprove b).brm.traction = s.brm.traction := by
  unfold State.reprove; dsimp only; split <;> cases b <;> simp [Brm.setBand]
@[simp] theorem State.reprove_brm_effort : (s.reprove b).brm.effort = s.brm.effort := by
  unfold State.reprove; dsimp only; split <;> cases b <;> simp [Brm.setBand]
@[simp] theorem State.reprove_brm_effortValid : (s.reprove b).brm.effortValid = s.brm.effortValid := by
  unfold State.reprove; dsimp only; split <;> cases b <;> simp [Brm.setBand]
@[simp] theorem State.reprove_brm_feedbackTimer : (s.reprove b).brm.feedbackTimer = s.brm.feedbackTimer := by
  unfold State.reprove; dsimp only; split <;> cases b <;> simp [Brm.setBand]
@[simp] theorem State.reprove_brm_senseOpen : (s.reprove b).brm.senseOpen = s.brm.senseOpen := by
  unfold State.reprove; dsimp only; split <;> cases b <;> simp [Brm.setBand]
@[simp] theorem State.reprove_brm_loopForced : (s.reprove b).brm.loopForced = s.brm.loopForced := by
  unfold State.reprove; dsimp only; split <;> cases b <;> simp [Brm.setBand]
@[simp] theorem State.reprove_brm_departure : (s.reprove b).brm.departure = s.brm.departure := by
  unfold State.reprove; dsimp only; split <;> cases b <;> simp [Brm.setBand]
@[simp] theorem State.reprove_brm_required : (s.reprove b).brm.required = s.brm.required := by
  unfold State.reprove; dsimp only; split <;> cases b <;> simp [Brm.setBand]
@[simp] theorem State.reprove_brm_stallTimer : (s.reprove b).brm.stallTimer = s.brm.stallTimer := by
  unfold State.reprove; dsimp only; split <;> cases b <;> simp [Brm.setBand]
@[simp] theorem State.reprove_brm_holdElapsed : (s.reprove b).brm.holdElapsed = s.brm.holdElapsed := by
  unfold State.reprove; dsimp only; split <;> cases b <;> simp [Brm.setBand]
@[simp] theorem State.reprove_brm_holdTimer : (s.reprove b).brm.holdTimer = s.brm.holdTimer := by
  unfold State.reprove; dsimp only; split <;> cases b <;> simp [Brm.setBand]
@[simp] theorem State.reprove_brm_gateTimer : (s.reprove b).brm.gateTimer = s.brm.gateTimer := by
  unfold State.reprove; dsimp only; split <;> cases b <;> simp [Brm.setBand]

@[simp] theorem State.refreshPinion_brm_rows : s.refreshPinion.brm.rows = s.brm.rows := by
  unfold State.refreshPinion; dsimp only; split <;> simp
@[simp] theorem State.refreshPinion_brm_level : s.refreshPinion.brm.level = s.brm.level := by
  unfold State.refreshPinion; dsimp only; split <;> simp
@[simp] theorem State.refreshPinion_brm_latch : s.refreshPinion.brm.latch = s.brm.latch := by
  unfold State.refreshPinion; dsimp only; split <;> simp
@[simp] theorem State.refreshPinion_brm_target : s.refreshPinion.brm.target = s.brm.target := by
  unfold State.refreshPinion; dsimp only; split <;> simp
@[simp] theorem State.refreshPinion_brm_measured : s.refreshPinion.brm.measured = s.brm.measured := by
  unfold State.refreshPinion; dsimp only; split <;> simp
@[simp] theorem State.refreshPinion_brm_sensorFault : s.refreshPinion.brm.sensorFault = s.brm.sensorFault := by
  unfold State.refreshPinion; dsimp only; split <;> simp
@[simp] theorem State.refreshPinion_brm_frictionFault : s.refreshPinion.brm.frictionFault = s.brm.frictionFault := by
  unfold State.refreshPinion; dsimp only; split <;> simp
@[simp] theorem State.refreshPinion_brm_pulses : s.refreshPinion.brm.pulses = s.brm.pulses := by
  unfold State.refreshPinion; dsimp only; split <;> simp
@[simp] theorem State.refreshPinion_brm_valve : s.refreshPinion.brm.valve = s.brm.valve := by
  unfold State.refreshPinion; dsimp only; split <;> simp
@[simp] theorem State.refreshPinion_brm_lastOpen : s.refreshPinion.brm.lastOpen = s.brm.lastOpen := by
  unfold State.refreshPinion; dsimp only; split <;> simp
@[simp] theorem State.refreshPinion_brm_waiting : s.refreshPinion.brm.waiting = s.brm.waiting := by
  unfold State.refreshPinion; dsimp only; split <;> simp
@[simp] theorem State.refreshPinion_brm_deadTimer : s.refreshPinion.brm.deadTimer = s.brm.deadTimer := by
  unfold State.refreshPinion; dsimp only; split <;> simp
@[simp] theorem State.refreshPinion_brm_proving : s.refreshPinion.brm.proving = s.brm.proving := by
  unfold State.refreshPinion; dsimp only; split <;> simp
@[simp] theorem State.refreshPinion_brm_proveTimer : s.refreshPinion.brm.proveTimer = s.brm.proveTimer := by
  unfold State.refreshPinion; dsimp only; split <;> simp
@[simp] theorem State.refreshPinion_brm_holding : s.refreshPinion.brm.holding = s.brm.holding := by
  unfold State.refreshPinion; dsimp only; split <;> simp
@[simp] theorem State.refreshPinion_brm_holdSeen : s.refreshPinion.brm.holdSeen = s.brm.holdSeen := by
  unfold State.refreshPinion; dsimp only; split <;> simp
@[simp] theorem State.refreshPinion_brm_proveSeen : s.refreshPinion.brm.proveSeen = s.brm.proveSeen := by
  unfold State.refreshPinion; dsimp only; split <;> simp
@[simp] theorem State.refreshPinion_brm_ebrake : s.refreshPinion.brm.ebrake = s.brm.ebrake := by
  unfold State.refreshPinion; dsimp only; split <;> simp
@[simp] theorem State.refreshPinion_brm_traction : s.refreshPinion.brm.traction = s.brm.traction := by
  unfold State.refreshPinion; dsimp only; split <;> simp
@[simp] theorem State.refreshPinion_brm_effort : s.refreshPinion.brm.effort = s.brm.effort := by
  unfold State.refreshPinion; dsimp only; split <;> simp
@[simp] theorem State.refreshPinion_brm_effortValid : s.refreshPinion.brm.effortValid = s.brm.effortValid := by
  unfold State.refreshPinion; dsimp only; split <;> simp
@[simp] theorem State.refreshPinion_brm_feedbackTimer : s.refreshPinion.brm.feedbackTimer = s.brm.feedbackTimer := by
  unfold State.refreshPinion; dsimp only; split <;> simp
@[simp] theorem State.refreshPinion_brm_senseOpen : s.refreshPinion.brm.senseOpen = s.brm.senseOpen := by
  unfold State.refreshPinion; dsimp only; split <;> simp
@[simp] theorem State.refreshPinion_brm_loopForced : s.refreshPinion.brm.loopForced = s.brm.loopForced := by
  unfold State.refreshPinion; dsimp only; split <;> simp
@[simp] theorem State.refreshPinion_brm_departure : s.refreshPinion.brm.departure = s.brm.departure := by
  unfold State.refreshPinion; dsimp only; split <;> simp
@[simp] theorem State.refreshPinion_brm_required : s.refreshPinion.brm.required = s.brm.required := by
  unfold State.refreshPinion; dsimp only; split <;> simp
@[simp] theorem State.refreshPinion_brm_stallTimer : s.refreshPinion.brm.stallTimer = s.brm.stallTimer := by
  unfold State.refreshPinion; dsimp only; split <;> simp
@[simp] theorem State.refreshPinion_brm_holdElapsed : s.refreshPinion.brm.holdElapsed = s.brm.holdElapsed := by
  unfold State.refreshPinion; dsimp only; split <;> simp
@[simp] theorem State.refreshPinion_brm_holdTimer : s.refreshPinion.brm.holdTimer = s.brm.holdTimer := by
  unfold State.refreshPinion; dsimp only; split <;> simp
@[simp] theorem State.refreshPinion_brm_gateTimer : s.refreshPinion.brm.gateTimer = s.brm.gateTimer := by
  unfold State.refreshPinion; dsimp only; split <;> simp

@[simp] theorem State.refreshHolding_brm_rows : s.refreshHolding.brm.rows = s.brm.rows := rfl
@[simp] theorem State.refreshHolding_brm_level : s.refreshHolding.brm.level = s.brm.level := rfl
@[simp] theorem State.refreshHolding_brm_latch : s.refreshHolding.brm.latch = s.brm.latch := rfl
@[simp] theorem State.refreshHolding_brm_target : s.refreshHolding.brm.target = s.brm.target := rfl
@[simp] theorem State.refreshHolding_brm_measured : s.refreshHolding.brm.measured = s.brm.measured := rfl
@[simp] theorem State.refreshHolding_brm_sensorFault : s.refreshHolding.brm.sensorFault = s.brm.sensorFault :=
  rfl
@[simp] theorem State.refreshHolding_brm_frictionFault : s.refreshHolding.brm.frictionFault = s.brm.frictionFault :=
  rfl
@[simp] theorem State.refreshHolding_brm_pulses : s.refreshHolding.brm.pulses = s.brm.pulses := rfl
@[simp] theorem State.refreshHolding_brm_valve : s.refreshHolding.brm.valve = s.brm.valve := rfl
@[simp] theorem State.refreshHolding_brm_lastOpen : s.refreshHolding.brm.lastOpen = s.brm.lastOpen := rfl
@[simp] theorem State.refreshHolding_brm_waiting : s.refreshHolding.brm.waiting = s.brm.waiting := rfl
@[simp] theorem State.refreshHolding_brm_deadTimer : s.refreshHolding.brm.deadTimer = s.brm.deadTimer := rfl
@[simp] theorem State.refreshHolding_brm_proving : s.refreshHolding.brm.proving = s.brm.proving := rfl
@[simp] theorem State.refreshHolding_brm_proveTimer : s.refreshHolding.brm.proveTimer = s.brm.proveTimer :=
  rfl
@[simp] theorem State.refreshHolding_brm_pinion : s.refreshHolding.brm.pinion = s.brm.pinion := rfl
@[simp] theorem State.refreshHolding_brm_energised : s.refreshHolding.brm.energised = s.brm.energised := rfl
@[simp] theorem State.refreshHolding_brm_upper : s.refreshHolding.brm.upper = s.brm.upper := rfl
@[simp] theorem State.refreshHolding_brm_lower : s.refreshHolding.brm.lower = s.brm.lower := rfl
@[simp] theorem State.refreshHolding_brm_proveSeen : s.refreshHolding.brm.proveSeen = s.brm.proveSeen := rfl
@[simp] theorem State.refreshHolding_brm_ebrake : s.refreshHolding.brm.ebrake = s.brm.ebrake := rfl
@[simp] theorem State.refreshHolding_brm_traction : s.refreshHolding.brm.traction = s.brm.traction := rfl
@[simp] theorem State.refreshHolding_brm_effort : s.refreshHolding.brm.effort = s.brm.effort := rfl
@[simp] theorem State.refreshHolding_brm_effortValid : s.refreshHolding.brm.effortValid = s.brm.effortValid :=
  rfl
@[simp] theorem State.refreshHolding_brm_feedbackTimer : s.refreshHolding.brm.feedbackTimer = s.brm.feedbackTimer :=
  rfl
@[simp] theorem State.refreshHolding_brm_senseOpen : s.refreshHolding.brm.senseOpen = s.brm.senseOpen := rfl
@[simp] theorem State.refreshHolding_brm_loopForced : s.refreshHolding.brm.loopForced = s.brm.loopForced :=
  rfl
@[simp] theorem State.refreshHolding_brm_departure : s.refreshHolding.brm.departure = s.brm.departure := rfl
@[simp] theorem State.refreshHolding_brm_required : s.refreshHolding.brm.required = s.brm.required := rfl
@[simp] theorem State.refreshHolding_brm_stallTimer : s.refreshHolding.brm.stallTimer = s.brm.stallTimer :=
  rfl
@[simp] theorem State.refreshHolding_brm_holdElapsed : s.refreshHolding.brm.holdElapsed = s.brm.holdElapsed :=
  rfl
@[simp] theorem State.refreshHolding_brm_holdTimer : s.refreshHolding.brm.holdTimer = s.brm.holdTimer := rfl
@[simp] theorem State.refreshHolding_brm_gateTimer : s.refreshHolding.brm.gateTimer = s.brm.gateTimer := rfl

@[simp] theorem State.refreshProving_brm_rows : s.refreshProving.brm.rows = s.brm.rows := rfl
@[simp] theorem State.refreshProving_brm_level : s.refreshProving.brm.level = s.brm.level := rfl
@[simp] theorem State.refreshProving_brm_latch : s.refreshProving.brm.latch = s.brm.latch := rfl
@[simp] theorem State.refreshProving_brm_target : s.refreshProving.brm.target = s.brm.target := rfl
@[simp] theorem State.refreshProving_brm_measured : s.refreshProving.brm.measured = s.brm.measured := rfl
@[simp] theorem State.refreshProving_brm_sensorFault : s.refreshProving.brm.sensorFault = s.brm.sensorFault :=
  rfl
@[simp] theorem State.refreshProving_brm_frictionFault : s.refreshProving.brm.frictionFault = s.brm.frictionFault :=
  rfl
@[simp] theorem State.refreshProving_brm_pulses : s.refreshProving.brm.pulses = s.brm.pulses := rfl
@[simp] theorem State.refreshProving_brm_valve : s.refreshProving.brm.valve = s.brm.valve := rfl
@[simp] theorem State.refreshProving_brm_lastOpen : s.refreshProving.brm.lastOpen = s.brm.lastOpen := rfl
@[simp] theorem State.refreshProving_brm_waiting : s.refreshProving.brm.waiting = s.brm.waiting := rfl
@[simp] theorem State.refreshProving_brm_deadTimer : s.refreshProving.brm.deadTimer = s.brm.deadTimer := rfl
@[simp] theorem State.refreshProving_brm_pinion : s.refreshProving.brm.pinion = s.brm.pinion := rfl
@[simp] theorem State.refreshProving_brm_energised : s.refreshProving.brm.energised = s.brm.energised := rfl
@[simp] theorem State.refreshProving_brm_upper : s.refreshProving.brm.upper = s.brm.upper := rfl
@[simp] theorem State.refreshProving_brm_lower : s.refreshProving.brm.lower = s.brm.lower := rfl
@[simp] theorem State.refreshProving_brm_holding : s.refreshProving.brm.holding = s.brm.holding := rfl
@[simp] theorem State.refreshProving_brm_holdSeen : s.refreshProving.brm.holdSeen = s.brm.holdSeen := rfl
@[simp] theorem State.refreshProving_brm_ebrake : s.refreshProving.brm.ebrake = s.brm.ebrake := rfl
@[simp] theorem State.refreshProving_brm_traction : s.refreshProving.brm.traction = s.brm.traction := rfl
@[simp] theorem State.refreshProving_brm_effort : s.refreshProving.brm.effort = s.brm.effort := rfl
@[simp] theorem State.refreshProving_brm_effortValid : s.refreshProving.brm.effortValid = s.brm.effortValid :=
  rfl
@[simp] theorem State.refreshProving_brm_feedbackTimer : s.refreshProving.brm.feedbackTimer = s.brm.feedbackTimer :=
  rfl
@[simp] theorem State.refreshProving_brm_senseOpen : s.refreshProving.brm.senseOpen = s.brm.senseOpen := rfl
@[simp] theorem State.refreshProving_brm_loopForced : s.refreshProving.brm.loopForced = s.brm.loopForced :=
  rfl
@[simp] theorem State.refreshProving_brm_departure : s.refreshProving.brm.departure = s.brm.departure := rfl
@[simp] theorem State.refreshProving_brm_required : s.refreshProving.brm.required = s.brm.required := rfl
@[simp] theorem State.refreshProving_brm_stallTimer : s.refreshProving.brm.stallTimer = s.brm.stallTimer :=
  rfl
@[simp] theorem State.refreshProving_brm_holdElapsed : s.refreshProving.brm.holdElapsed = s.brm.holdElapsed :=
  rfl
@[simp] theorem State.refreshProving_brm_holdTimer : s.refreshProving.brm.holdTimer = s.brm.holdTimer := rfl
@[simp] theorem State.refreshProving_brm_gateTimer : s.refreshProving.brm.gateTimer = s.brm.gateTimer := rfl

@[simp] theorem State.refreshDeparture_brm_rows : s.refreshDeparture.brm.rows = s.brm.rows := by
  unfold State.refreshDeparture; (repeat' split) <;> rfl
@[simp] theorem State.refreshDeparture_brm_level : s.refreshDeparture.brm.level = s.brm.level := by
  unfold State.refreshDeparture; (repeat' split) <;> rfl
@[simp] theorem State.refreshDeparture_brm_latch : s.refreshDeparture.brm.latch = s.brm.latch := by
  unfold State.refreshDeparture; (repeat' split) <;> rfl
@[simp] theorem State.refreshDeparture_brm_target : s.refreshDeparture.brm.target = s.brm.target := by
  unfold State.refreshDeparture; (repeat' split) <;> rfl
@[simp] theorem State.refreshDeparture_brm_measured : s.refreshDeparture.brm.measured = s.brm.measured := by
  unfold State.refreshDeparture; (repeat' split) <;> rfl
@[simp] theorem State.refreshDeparture_brm_sensorFault : s.refreshDeparture.brm.sensorFault = s.brm.sensorFault := by
  unfold State.refreshDeparture; (repeat' split) <;> rfl
@[simp] theorem State.refreshDeparture_brm_frictionFault : s.refreshDeparture.brm.frictionFault = s.brm.frictionFault := by
  unfold State.refreshDeparture; (repeat' split) <;> rfl
@[simp] theorem State.refreshDeparture_brm_pulses : s.refreshDeparture.brm.pulses = s.brm.pulses := by
  unfold State.refreshDeparture; (repeat' split) <;> rfl
@[simp] theorem State.refreshDeparture_brm_valve : s.refreshDeparture.brm.valve = s.brm.valve := by
  unfold State.refreshDeparture; (repeat' split) <;> rfl
@[simp] theorem State.refreshDeparture_brm_lastOpen : s.refreshDeparture.brm.lastOpen = s.brm.lastOpen := by
  unfold State.refreshDeparture; (repeat' split) <;> rfl
@[simp] theorem State.refreshDeparture_brm_waiting : s.refreshDeparture.brm.waiting = s.brm.waiting := by
  unfold State.refreshDeparture; (repeat' split) <;> rfl
@[simp] theorem State.refreshDeparture_brm_deadTimer : s.refreshDeparture.brm.deadTimer = s.brm.deadTimer := by
  unfold State.refreshDeparture; (repeat' split) <;> rfl
@[simp] theorem State.refreshDeparture_brm_proving : s.refreshDeparture.brm.proving = s.brm.proving := by
  unfold State.refreshDeparture; (repeat' split) <;> rfl
@[simp] theorem State.refreshDeparture_brm_proveTimer : s.refreshDeparture.brm.proveTimer = s.brm.proveTimer := by
  unfold State.refreshDeparture; (repeat' split) <;> rfl
@[simp] theorem State.refreshDeparture_brm_pinion : s.refreshDeparture.brm.pinion = s.brm.pinion := by
  unfold State.refreshDeparture; (repeat' split) <;> rfl
@[simp] theorem State.refreshDeparture_brm_energised : s.refreshDeparture.brm.energised = s.brm.energised := by
  unfold State.refreshDeparture; (repeat' split) <;> rfl
@[simp] theorem State.refreshDeparture_brm_upper : s.refreshDeparture.brm.upper = s.brm.upper := by
  unfold State.refreshDeparture; (repeat' split) <;> rfl
@[simp] theorem State.refreshDeparture_brm_lower : s.refreshDeparture.brm.lower = s.brm.lower := by
  unfold State.refreshDeparture; (repeat' split) <;> rfl
@[simp] theorem State.refreshDeparture_brm_holding : s.refreshDeparture.brm.holding = s.brm.holding := by
  unfold State.refreshDeparture; (repeat' split) <;> rfl
@[simp] theorem State.refreshDeparture_brm_holdSeen : s.refreshDeparture.brm.holdSeen = s.brm.holdSeen := by
  unfold State.refreshDeparture; (repeat' split) <;> rfl
@[simp] theorem State.refreshDeparture_brm_proveSeen : s.refreshDeparture.brm.proveSeen = s.brm.proveSeen := by
  unfold State.refreshDeparture; (repeat' split) <;> rfl
@[simp] theorem State.refreshDeparture_brm_ebrake : s.refreshDeparture.brm.ebrake = s.brm.ebrake := by
  unfold State.refreshDeparture; (repeat' split) <;> rfl
@[simp] theorem State.refreshDeparture_brm_traction : s.refreshDeparture.brm.traction = s.brm.traction := by
  unfold State.refreshDeparture; (repeat' split) <;> rfl
@[simp] theorem State.refreshDeparture_brm_effort : s.refreshDeparture.brm.effort = s.brm.effort := by
  unfold State.refreshDeparture; (repeat' split) <;> rfl
@[simp] theorem State.refreshDeparture_brm_effortValid : s.refreshDeparture.brm.effortValid = s.brm.effortValid := by
  unfold State.refreshDeparture; (repeat' split) <;> rfl
@[simp] theorem State.refreshDeparture_brm_feedbackTimer : s.refreshDeparture.brm.feedbackTimer = s.brm.feedbackTimer := by
  unfold State.refreshDeparture; (repeat' split) <;> rfl
@[simp] theorem State.refreshDeparture_brm_senseOpen : s.refreshDeparture.brm.senseOpen = s.brm.senseOpen := by
  unfold State.refreshDeparture; (repeat' split) <;> rfl
@[simp] theorem State.refreshDeparture_brm_loopForced : s.refreshDeparture.brm.loopForced = s.brm.loopForced := by
  unfold State.refreshDeparture; (repeat' split) <;> rfl
@[simp] theorem State.refreshDeparture_brm_holdElapsed : s.refreshDeparture.brm.holdElapsed = s.brm.holdElapsed := by
  unfold State.refreshDeparture; (repeat' split) <;> rfl
@[simp] theorem State.refreshDeparture_brm_holdTimer : s.refreshDeparture.brm.holdTimer = s.brm.holdTimer := by
  unfold State.refreshDeparture; (repeat' split) <;> rfl
@[simp] theorem State.refreshDeparture_brm_gateTimer : s.refreshDeparture.brm.gateTimer = s.brm.gateTimer := by
  unfold State.refreshDeparture; (repeat' split) <;> rfl

@[simp] theorem State.refreshTraction_brm_rows : s.refreshTraction.brm.rows = s.brm.rows := by
  unfold State.refreshTraction; (repeat' split) <;> rfl
@[simp] theorem State.refreshTraction_brm_level : s.refreshTraction.brm.level = s.brm.level := by
  unfold State.refreshTraction; (repeat' split) <;> rfl
@[simp] theorem State.refreshTraction_brm_latch : s.refreshTraction.brm.latch = s.brm.latch := by
  unfold State.refreshTraction; (repeat' split) <;> rfl
@[simp] theorem State.refreshTraction_brm_target : s.refreshTraction.brm.target = s.brm.target := by
  unfold State.refreshTraction; (repeat' split) <;> rfl
@[simp] theorem State.refreshTraction_brm_measured : s.refreshTraction.brm.measured = s.brm.measured := by
  unfold State.refreshTraction; (repeat' split) <;> rfl
@[simp] theorem State.refreshTraction_brm_sensorFault : s.refreshTraction.brm.sensorFault = s.brm.sensorFault := by
  unfold State.refreshTraction; (repeat' split) <;> rfl
@[simp] theorem State.refreshTraction_brm_frictionFault : s.refreshTraction.brm.frictionFault = s.brm.frictionFault := by
  unfold State.refreshTraction; (repeat' split) <;> rfl
@[simp] theorem State.refreshTraction_brm_pulses : s.refreshTraction.brm.pulses = s.brm.pulses := by
  unfold State.refreshTraction; (repeat' split) <;> rfl
@[simp] theorem State.refreshTraction_brm_valve : s.refreshTraction.brm.valve = s.brm.valve := by
  unfold State.refreshTraction; (repeat' split) <;> rfl
@[simp] theorem State.refreshTraction_brm_lastOpen : s.refreshTraction.brm.lastOpen = s.brm.lastOpen := by
  unfold State.refreshTraction; (repeat' split) <;> rfl
@[simp] theorem State.refreshTraction_brm_waiting : s.refreshTraction.brm.waiting = s.brm.waiting := by
  unfold State.refreshTraction; (repeat' split) <;> rfl
@[simp] theorem State.refreshTraction_brm_deadTimer : s.refreshTraction.brm.deadTimer = s.brm.deadTimer := by
  unfold State.refreshTraction; (repeat' split) <;> rfl
@[simp] theorem State.refreshTraction_brm_proving : s.refreshTraction.brm.proving = s.brm.proving := by
  unfold State.refreshTraction; (repeat' split) <;> rfl
@[simp] theorem State.refreshTraction_brm_proveTimer : s.refreshTraction.brm.proveTimer = s.brm.proveTimer := by
  unfold State.refreshTraction; (repeat' split) <;> rfl
@[simp] theorem State.refreshTraction_brm_pinion : s.refreshTraction.brm.pinion = s.brm.pinion := by
  unfold State.refreshTraction; (repeat' split) <;> rfl
@[simp] theorem State.refreshTraction_brm_energised : s.refreshTraction.brm.energised = s.brm.energised := by
  unfold State.refreshTraction; (repeat' split) <;> rfl
@[simp] theorem State.refreshTraction_brm_upper : s.refreshTraction.brm.upper = s.brm.upper := by
  unfold State.refreshTraction; (repeat' split) <;> rfl
@[simp] theorem State.refreshTraction_brm_lower : s.refreshTraction.brm.lower = s.brm.lower := by
  unfold State.refreshTraction; (repeat' split) <;> rfl
@[simp] theorem State.refreshTraction_brm_holding : s.refreshTraction.brm.holding = s.brm.holding := by
  unfold State.refreshTraction; (repeat' split) <;> rfl
@[simp] theorem State.refreshTraction_brm_holdSeen : s.refreshTraction.brm.holdSeen = s.brm.holdSeen := by
  unfold State.refreshTraction; (repeat' split) <;> rfl
@[simp] theorem State.refreshTraction_brm_proveSeen : s.refreshTraction.brm.proveSeen = s.brm.proveSeen := by
  unfold State.refreshTraction; (repeat' split) <;> rfl
@[simp] theorem State.refreshTraction_brm_ebrake : s.refreshTraction.brm.ebrake = s.brm.ebrake := by
  unfold State.refreshTraction; (repeat' split) <;> rfl
@[simp] theorem State.refreshTraction_brm_effort : s.refreshTraction.brm.effort = s.brm.effort := by
  unfold State.refreshTraction; (repeat' split) <;> rfl
@[simp] theorem State.refreshTraction_brm_effortValid : s.refreshTraction.brm.effortValid = s.brm.effortValid := by
  unfold State.refreshTraction; (repeat' split) <;> rfl
@[simp] theorem State.refreshTraction_brm_feedbackTimer : s.refreshTraction.brm.feedbackTimer = s.brm.feedbackTimer := by
  unfold State.refreshTraction; (repeat' split) <;> rfl
@[simp] theorem State.refreshTraction_brm_senseOpen : s.refreshTraction.brm.senseOpen = s.brm.senseOpen := by
  unfold State.refreshTraction; (repeat' split) <;> rfl
@[simp] theorem State.refreshTraction_brm_loopForced : s.refreshTraction.brm.loopForced = s.brm.loopForced := by
  unfold State.refreshTraction; (repeat' split) <;> rfl
@[simp] theorem State.refreshTraction_brm_departure : s.refreshTraction.brm.departure = s.brm.departure := by
  unfold State.refreshTraction; (repeat' split) <;> rfl
@[simp] theorem State.refreshTraction_brm_required : s.refreshTraction.brm.required = s.brm.required := by
  unfold State.refreshTraction; (repeat' split) <;> rfl
@[simp] theorem State.refreshTraction_brm_stallTimer : s.refreshTraction.brm.stallTimer = s.brm.stallTimer := by
  unfold State.refreshTraction; (repeat' split) <;> rfl
@[simp] theorem State.refreshTraction_brm_holdElapsed : s.refreshTraction.brm.holdElapsed = s.brm.holdElapsed := by
  unfold State.refreshTraction; (repeat' split) <;> rfl
@[simp] theorem State.refreshTraction_brm_holdTimer : s.refreshTraction.brm.holdTimer = s.brm.holdTimer := by
  unfold State.refreshTraction; (repeat' split) <;> rfl
@[simp] theorem State.refreshTraction_brm_gateTimer : s.refreshTraction.brm.gateTimer = s.brm.gateTimer := by
  unfold State.refreshTraction; (repeat' split) <;> rfl

end Sys2Proof.Machine
end

