-- ==== Sys2Proof/Laws/Notices.lean ====
section
/-! SUPPORT. What raising a notice does: the ports are told, and lose nothing (R169); and how
the notices of several steps add up. -/

namespace Sys2Proof.Machine

theorem PortState.Told.refl (q : PortState) : q.Told q := ⟨rfl, BitVec.and_self⟩

theorem PortState.Told.trans {q r u : PortState} (h : q.Told r) (h' : r.Told u) : q.Told u := by
  refine ⟨h'.1.trans h.1, ?_⟩
  rw [← h.2, BitVec.and_assoc, h'.2]

theorem PortState.raise_told (k : Notice) (q : PortState) : q.Told (q.raise k) := by
  refine ⟨rfl, ?_⟩
  simp only [PortState.raise]
  ext i hi
  simp only [BitVec.getElem_and, BitVec.getElem_or]
  cases q.pending[i] <;> rfl

theorem Pif.Told.refl (f : Pif) : f.Told f :=
  ⟨PortState.Told.refl _, PortState.Told.refl _, PortState.Told.refl _, rfl⟩

theorem Pif.Told.trans {f g h : Pif} (a : f.Told g) (b : g.Told h) : f.Told h :=
  ⟨a.1.trans b.1, a.2.1.trans b.2.1, a.2.2.1.trans b.2.2.1, b.2.2.2.trans a.2.2.2⟩

theorem State.raise_told (k : Notice) (s : State) : s.pif.Told (s.raise k).pif :=
  ⟨PortState.raise_told k _, PortState.raise_told k _, PortState.raise_told k _, rfl⟩

theorem State.raiseIf_told (c : Bool) (k : Notice) (s : State) : s.pif.Told (s.raiseIf c k).pif := by
  cases c
  · exact Pif.Told.refl _
  · exact State.raise_told k s

theorem State.Tells.of_raiseIf (s : State) (k : Notice) (b : Bool) (c : Prop) (h : c ↔ b = true) :
    s.Tells (s.raiseIf b k) k c := by
  cases b
  · exact ⟨fun x => absurd (h.1 x) (by simp), fun _ => rfl⟩
  · exact ⟨fun _ => rfl, fun x => absurd (h.2 rfl) x⟩

theorem Notice.raise_twice (k : Notice) (s : State) : ((s.raise k).raise k).pif = (s.raise k).pif := by
  simp [State.raise, PortState.raise, BitVec.or_assoc]

/-- The notice raised for one of two reasons, or for both. -/
theorem State.Tells.trans {s t u : State} {k : Notice} {a b : Prop} (h : s.Tells t k a) (g : t.Tells u k b) :
    s.Tells u k (a ∨ b) := by
  have raise_congr : ∀ x y : State, x.pif = y.pif → (x.raise k).pif = (y.raise k).pif := by
    intro x y e
    simp only [State.raise, e]
  constructor
  · rintro c
    by_cases hb : b
    · rw [g.1 hb]
      by_cases ha : a
      · rw [raise_congr t (s.raise k) (h.1 ha)]; exact k.raise_twice s
      · exact raise_congr t s (h.2 ha)
    · rw [g.2 hb]
      exact h.1 (c.resolve_right hb)
  · intro c
    rw [g.2 fun x => c (.inr x), h.2 fun x => c (.inl x)]

theorem State.Tells.congr {s t : State} {k : Notice} {a b : Prop} (h : s.Tells t k a) (g : b ↔ a) :
    s.Tells t k b := ⟨fun x => h.1 (g.1 x), fun x => h.2 fun y => x (g.2 y)⟩

theorem State.Tells.from {s t u : State} {k : Notice} {a : Prop} (h : s.Tells u k a) (g : s.pif = t.pif) :
    t.Tells u k a := by
  have e : (s.raise k).pif = (t.raise k).pif := by simp only [State.raise, g]
  exact ⟨fun x => (h.1 x).trans e, fun x => (h.2 x).trans g⟩

end Sys2Proof.Machine
end

