-- ==== Sys2Proof/Laws/Follows.lean ====
section
/-! SUPPORT. What each reader of an event may change, and that the readers' changes compose. -/

namespace Sys2Proof.Machine

/-- The desk arbiter but for its orphan timer. -/
def Dka.rest (k : Dka) : Dka := { k with orphan := none }

/-- What the readers of an event may change, but for the profile store and what a switch-over takes. -/
structure State.Follows (s t : State) : Prop where
  odu : t.odu = s.odu
  vrl : t.vrl = s.vrl
  pst : t.pst = s.pst
  now : t.now = s.now
  pending : t.pending = s.pending
  dka : t.dka.rest = s.dka.rest
  brm : t.brm.inputs = s.brm.inputs
  latch : t.brm.latch = s.brm.latch ∨ (s.brm.latch = none ∧ ∃ r, t.brm.latch = some (.row r))
  pif : s.pif.Told t.pif

theorem State.Follows.refl (s : State) : s.Follows s :=
  ⟨rfl, rfl, rfl, rfl, rfl, rfl, rfl, .inl rfl, Pif.Told.refl _⟩

theorem State.Follows.trans {s t u : State} (h : s.Follows t) (k : t.Follows u) : s.Follows u where
  odu := k.odu.trans h.odu
  vrl := k.vrl.trans h.vrl
  pst := k.pst.trans h.pst
  now := k.now.trans h.now
  pending := k.pending.trans h.pending
  dka := k.dka.trans h.dka
  brm := k.brm.trans h.brm
  latch := by
    rcases k.latch with e | ⟨e, r, f⟩
    · rw [e]; exact h.latch
    · rcases h.latch with e' | ⟨e', r', f'⟩
      · exact .inr ⟨e'.symm.trans e, r, f⟩
      · rw [f'] at e; cases e
  pif := h.pif.trans k.pif

/-- A change of the brake manager's own readings, with notices raised. -/
theorem State.follows_of_brm {s t : State} (odu : t.odu = s.odu)
    (dka : t.dka = s.dka) (vrl : t.vrl = s.vrl) (pst : t.pst = s.pst) (now : t.now = s.now)
    (pending : t.pending = s.pending) (brm : t.brm.inputs = s.brm.inputs)
    (latch : t.brm.latch = s.brm.latch ∨ (s.brm.latch = none ∧ ∃ r, t.brm.latch = some (.row r)))
    (pif : s.pif.Told t.pif) : s.Follows t :=
  ⟨odu, vrl, pst, now, pending, by rw [dka], brm, latch, pif⟩

/-! ## The profile store's reader -/

theorem State.compareOutdated_told (s : State) : s.pif.Told s.compareOutdated.pif := by
  unfold State.compareOutdated
  split
  · exact Pif.Told.refl _
  · exact State.raiseIf_told _ _ _

theorem State.takePending_follows (s : State) : s.Follows s.takePending := by
  refine State.follows_of_brm ?_ ?_ ?_ ?_ ?_ ?_ ?_ ?_ ?_ <;> try simp
  unfold State.takePending
  split
  · exact Pif.Told.trans
      (State.compareOutdated_told (State.flush { s with lps := s.lps.switchOver }))
      (State.raise_told _ _)
  · exact Pif.Told.refl _

/-! ## The brake manager's readers -/

theorem State.writeRow_follows (i : RowId) (v : Row) (s : State) : s.Follows (s.writeRow i v) := by
  refine State.follows_of_brm ?_ ?_ ?_ ?_ ?_ ?_ ?_ ?_ ?_ <;> try simp
  all_goals unfold State.writeRow
  · split
    · rfl
    · dsimp only; split
      · unfold State.setLatch; split <;> rfl
      · rfl
  · split
    · exact .inl rfl
    · dsimp only; split
      · unfold State.setLatch
        split
        · exact .inl rfl
        · next h => exact .inr ⟨by simpa using h, i, rfl⟩
      · exact .inl rfl
  · split
    · exact Pif.Told.refl _
    · dsimp only; split
      · unfold State.setLatch
        split
        · exact Pif.Told.refl _
        · exact State.raise_told _ _
      · exact Pif.Told.refl _

theorem State.writeRows_follows (s : State) : s.Follows s.writeRows := by
  unfold State.writeRows
  iterate 6 refine State.Follows.trans ?_ (State.writeRow_follows _ _ _)
  exact State.writeRow_follows _ _ _

theorem State.toLap_inputs (s : State) : s.toLap.brm.inputs = s.brm.inputs ∧ s.toLap.brm.latch = s.brm.latch := by
  unfold State.toLap; split <;> exact ⟨rfl, rfl⟩

theorem State.chooseOpen_inputs (o : OpenValve) (s : State) :
    (s.chooseOpen o).brm.inputs = s.brm.inputs ∧ (s.chooseOpen o).brm.latch = s.brm.latch := by
  unfold State.chooseOpen
  split
  · exact ⟨rfl, rfl⟩
  · split
    · split <;> exact ⟨rfl, rfl⟩
    · exact State.toLap_inputs s

theorem State.takeChoice_inputs (s : State) :
    s.takeChoice.brm.inputs = s.brm.inputs ∧ s.takeChoice.brm.latch = s.brm.latch := by
  unfold State.takeChoice
  split
  · exact ⟨rfl, rfl⟩
  · exact State.toLap_inputs s
  · exact State.chooseOpen_inputs _ s
  · exact State.chooseOpen_inputs _ s

theorem State.retarget_inputs (s : State) :
    s.retarget.brm.inputs = s.brm.inputs ∧ s.retarget.brm.latch = s.brm.latch :=
  State.takeChoice_inputs _

theorem State.refreshLevel_follows (s : State) : s.Follows s.refreshLevel := by
  refine State.follows_of_brm ?_ ?_ ?_ ?_ ?_ ?_ ?_ ?_ ?_ <;> try simp
  all_goals unfold State.refreshLevel; split
  · rfl
  · exact (State.retarget_inputs _).1
  · exact Pif.Told.refl _
  · rw [State.retarget_pif]; exact State.raise_told _ _

theorem State.reprove_follows (b : Bogie) (s : State) : s.Follows (s.reprove b) := by
  refine State.follows_of_brm ?_ ?_ ?_ ?_ ?_ ?_ ?_ ?_ ?_ <;> try simp
  all_goals unfold State.reprove; dsimp only; split
  · cases b <;> rfl
  · simp only [State.raiseIf_brm]; cases b <;> rfl
  · exact Pif.Told.refl _
  · exact State.raiseIf_told _ _ _

theorem State.refreshPinion_follows (s : State) : s.Follows s.refreshPinion := by
  unfold State.refreshPinion
  dsimp only
  have h : s.Follows { s with brm := { s.brm with
      pinion := s.pinionCommand
      energised := decide (s.pinionCommand = .released) && !s.brm.loopForced } } :=
    State.follows_of_brm rfl rfl rfl rfl rfl rfl rfl (.inl rfl) (Pif.Told.refl _)
  split
  · exact h
  · exact (h.trans (State.reprove_follows _ _)).trans (State.reprove_follows _ _)

theorem State.refreshHolding_follows (s : State) : s.Follows s.refreshHolding :=
  State.follows_of_brm rfl rfl rfl rfl rfl rfl rfl (.inl rfl) (Pif.Told.refl _)

theorem State.refreshProving_follows (s : State) : s.Follows s.refreshProving :=
  State.follows_of_brm rfl rfl rfl rfl rfl rfl rfl (.inl rfl) (Pif.Told.refl _)

theorem State.refreshDeparture_follows (s : State) : s.Follows s.refreshDeparture := by
  unfold State.refreshDeparture
  (repeat' split) <;>
    exact State.follows_of_brm rfl rfl rfl rfl rfl rfl rfl (.inl rfl) (Pif.Told.refl _)

theorem State.refreshTraction_follows (s : State) : s.Follows s.refreshTraction := by
  unfold State.refreshTraction
  (repeat' split) <;>
    exact State.follows_of_brm rfl rfl rfl rfl rfl rfl rfl (.inl rfl) (Pif.Told.refl _)

/-! ## The doors' and the desks' readers -/

theorem State.refreshDoors_drc (s : State) :
    s.refreshDoors.drc = { s.drc with summary := s.drc.allProven } := by
  unfold State.refreshDoors State.raiseIf; split <;> rfl

theorem State.refreshDoors_follows (s : State) : s.Follows s.refreshDoors := by
  exact ⟨by simp, by simp, by simp, by simp, by simp, by simp, by simp, by simp, State.raiseIf_told _ _ _⟩

theorem State.refreshOrphan_follows (s : State) : s.Follows s.refreshOrphan := by
  unfold State.refreshOrphan
  (repeat' split) <;>
    exact ⟨rfl, rfl, rfl, rfl, rfl, rfl, rfl, .inl rfl, Pif.Told.refl _⟩

theorem State.withdraw_follows (i : CarSide) (c : GrantCond) (s : State) :
    s.Follows (s.withdraw i (.cond c)) := by
  refine ⟨by simp, by simp, by simp, by simp, by simp, by simp, by simp, by simp, ?_⟩
  cases i <;> exact State.raise_told _ _

theorem State.retest_follows (i : CarSide) (s : State) : s.Follows (s.retest i) := by
  unfold State.retest
  split
  · exact State.Follows.refl s
  · unfold State.withdrawIfGranted
    split
    · exact State.withdraw_follows i _ s
    · exact State.Follows.refl s

/-! ## The end of an event -/

theorem State.readersPass_follows (s : State) : s.Follows s.readersPass := by
  unfold State.readersPass
  refine State.Follows.trans ?_ (State.refreshProving_follows _)
  refine State.Follows.trans ?_ (State.refreshHolding_follows _)
  refine State.Follows.trans ?_ (State.refreshPinion_follows _)
  refine State.Follows.trans ?_ (State.refreshLevel_follows _)
  refine State.Follows.trans ?_ (State.writeRows_follows _)
  refine State.Follows.trans ?_ (State.refreshOrphan_follows _)
  refine State.Follows.trans ?_ (State.refreshDoors_follows _)
  refine State.Follows.trans ?_ (State.retest_follows _ _)
  exact (State.takePending_follows s).trans (State.retest_follows _ _)

theorem State.settlePass_follows (s : State) : s.Follows s.settlePass :=
  s.readersPass_follows.trans (State.refreshDeparture_follows _)

theorem State.settle_follows (n : Nat) (s : State) : s.Follows (s.settle n) := by
  induction n generalizing s with
  | zero => exact State.Follows.refl s
  | succ n ih => exact (State.settlePass_follows s).trans (ih _)

theorem State.finish_follows (s : State) : s.Follows s.finish :=
  ((State.settle_follows _ s).trans (State.readersPass_follows _)).trans (State.refreshTraction_follows _)

end Sys2Proof.Machine
end

