-- ==== Sys2Proof/Laws/Rules.lean ====
section
/-! SUPPORT. The conditions that Safety.lean writes out from the rules are those that the machine reads: one
equation each. -/

namespace Sys2Proof.Machine

theorem State.still_iff (s : State) : s.still = true ↔ s.odu.motion = .standstill := by
  simp [State.still]

theorem State.located_iff (o : Odu) : o.located = true ↔ o.pos = .valid ∨ o.pos = .restored := by
  simp [Odu.located]

theorem Level.hold_le (l : Level) : Level.hold.rank ≤ l.rank ↔ l ≠ .none := by
  cases l <;> (simp [Level.rank]; try omega)

theorem Level.hold_lt (l : Level) : Level.hold.rank < l.rank ↔ l ≠ .none ∧ l ≠ .hold := by
  cases l <;> (simp [Level.rank]; try omega)

theorem State.demand_eq (s : State) : s.demand = s.dka.supplied := by
  unfold State.demand Dka.supplied Dka.activeCab
  cases s.dka.active with
  | none => rfl
  | some d =>
    simp only [CabRecord.isFresh, Option.map_some]
    by_cases h : (s.dka.cab d).fresh = none
    · simp [h]
    · simp [h, Option.isSome_iff_ne_none]

theorem Segment.meets_eq (g : Segment) (a b : Nat) :
    decide (g.start ≤ b ∧ (a < g.stop ∨ (g.final = true ∧ a = g.stop))) = g.meets a b := by
  simp [Segment.meets]

theorem State.serves_eq (s : State) (i : CarSide) : s.serves i = s.extentServed i := by
  unfold State.serves State.extentServed Profile.segmentsMeeting
  cases s.lps.profile with
  | none => rfl
  | some p =>
    simp only [Segment.meets_eq, State.extentHi]
    generalize List.filter _ p.segments = gs
    have e : ∀ (a : Prop) [Decidable a], decide (gs ≠ [] ∧ a) = (!gs.isEmpty && decide a) := by
      intro a _; cases gs <;> simp
    cases i <;> (simp [Segment.platform, e, Bool.beq_eq_decide_eq]; rfl)

theorem State.grantTable_eq (s : State) (i : CarSide) :
    s.grantTable i = GrantCond.all.map fun c => (c, s.grantHolds i c) := by
  simp only [State.grantTable, GrantCond.all, List.map, State.grantHolds, State.serves_eq, State.still,
    Odu.located, Level.hold_le]
  congr <;> simp [Bool.beq_eq_decide_eq]

theorem State.firstFailing_eq (s : State) (i : CarSide) : s.firstFailing i = s.grantFailure i := by
  unfold State.firstFailing State.grantFailure
  rw [State.grantTable_eq, List.find?_map, Option.map_map]
  cases h : GrantCond.all.find? fun c => !s.grantHolds i c with
  | none => exact (congrArg _ h)
  | some c => exact (congrArg _ h)

theorem State.relocks_eq (s : State) (d : Door) : s.relocks d = s.doorWithdrawn d := by
  unfold State.relocks State.doorWithdrawn State.doorAtRest State.doorWarning State.doorAtRest State.doorTimer
  cases d.state <;> rfl

theorem State.pressureAt_eq (s : State) (l : Level) : s.pressureAt l = s.targetFor l := by
  cases l <;> rfl

theorem Level.electric_eq (l : Level) : l.electric = ebrakeDuty l := by cases l <;> rfl

theorem Door.shut_iff (d : Door) : d.shut ↔ d.proven = true := by
  simp [Door.shut, Door.proven, and_assoc]

theorem Drc.allProven_iff (k : Drc) : k.allProven = true ↔ ∀ d, (k.door d).shut := by
  simp only [Drc.allProven, Bool.and_eq_true, Door.shut_iff]
  constructor
  · rintro ⟨⟨⟨a, b⟩, c⟩, d⟩ i; cases i <;> assumption
  · intro h; exact ⟨⟨⟨h .a1, h .a2⟩, h .b1⟩, h .b2⟩

theorem State.gateButLevel_iff (s : State) : s.GateButLevel ↔ s.gateButLevel = true := by
  have fresh : (∃ d, s.dka.active = some d ∧ (s.dka.cab d).fresh ≠ none) ↔
      s.dka.active.isSome = true ∧ (s.dka.activeCab.map CabRecord.isFresh).getD false = true := by
    unfold Dka.activeCab
    cases s.dka.active <;> simp [CabRecord.isFresh, Option.isSome_iff_ne_none]
  simp only [State.gateButLevel, GateCond.all, List.all_cons, List.all_nil, Bool.and_eq_true, Bool.or_eq_true,
    State.gateHolds, beq_iff_eq, reduceCtorEq, false_or, true_or, Option.isSome_iff_ne_none,
    Option.isNone_iff_eq_none, Bool.not_eq_true', and_true, true_and, bne_iff_ne]
  constructor
  · intro h
    have f := fresh.1 h.fresh
    simp only [Option.isSome_iff_ne_none] at f
    exact ⟨f.1, h.direction, f.2, h.lock, h.doors, h.latch, h.status, h.mode, h.faults⟩
  · rintro ⟨a, b, c, d, e, f, g, h, i⟩
    exact ⟨fresh.2 ⟨Option.isSome_iff_ne_none.2 a, c⟩, b, d, e, f, g, h, i⟩

theorem State.gate_iff (s : State) : s.Gate ↔ s.gateOpen = true := by
  have split : s.gateOpen = true ↔ s.gateButLevel = true ∧ s.gateHolds .level = true := by
    simp only [State.gateOpen, State.gateFailure, GateCond.all, Option.isNone_iff_eq_none,
      List.find?_eq_none, List.mem_cons, State.gateButLevel, List.all_eq_true]
    constructor
    · intro h
      refine ⟨fun c k => ?_, ?_⟩
      · have := h c k; simp at this; simp [this]
      · have := h .level (by simp); simpa using this
    · rintro ⟨h, l⟩ c k
      have := h c k
      by_cases e : c = .level
      · subst e; simp [l]
      · simpa [e] using this
  rw [split, ← State.gateButLevel_iff]
  constructor
  · intro h
    refine ⟨h.others, ?_⟩
    have := h.level
    simpa [State.gateHolds] using this
  · rintro ⟨h, l⟩
    exact ⟨h, by simpa [State.gateHolds] using l⟩

theorem State.neededEffort_eq (s : State) : s.neededEffort = s.requiredEffort := by
  unfold State.neededEffort State.requiredEffort Profile.segmentsMeeting
  cases s.dka.selected with
  | none => simp
  | some d =>
    cases s.lps.profile with
    | none => simp
    | some p =>
      simp only [Segment.meets_eq, ← State.located_iff]
      cases s.odu.located with
      | false => simp
      | true =>
        simp only [if_true, ceilDiv]
        cases d <;> rfl

/-! ## The rows -/

theorem Dka.cabRow_noDesk {k : Dka} (h : k.active = none) : k.cabRow = { level := .none, reason := none } := by
  simp [Dka.cabRow, Dka.activeCab, h, Row.clear]

theorem Dka.cabRow_desk {k : Dka} {d : Desk} (h : k.active = some d) : k.cabRow =
    match (k.cab d).handle with
    | .emergency => { level := .emergency, reason := some .handleEmergency }
    | .percent p =>
      if (k.cab d).fresh = none then { level := .fullService, reason := some .cabStale }
      else if p = 0 then { level := .none, reason := none }
      else if p < 100 then { level := .service p, reason := some .handle }
      else { level := .fullService, reason := some .handle } := by
  simp only [Dka.cabRow, Dka.activeCab, h, Option.map_some]
  cases (k.cab d).handle with
  | emergency => rfl
  | percent p =>
    simp only [CabRecord.isFresh, Row.at, Row.clear]
    by_cases f : (k.cab d).fresh = none
    · simp [f]
    · simp only [f, Option.isSome_iff_ne_none.2 f, Bool.not_true, Bool.false_eq_true, if_false]
      by_cases a : p = 0
      · simp [a]
      · by_cases b : p < 100
        · rw [if_neg a, if_neg (by omega), if_neg a, if_pos b]
        · rw [if_neg a, if_pos (by omega), if_neg a, if_neg b]

theorem State.called_iff (s : State) (v : Severity) : s.called v = true ↔ s.Calls v := by
  simp only [State.called, State.Calls, State.CallMeets, State.callMeets, Bool.or_eq_true, beq_iff_eq,
    List.any_eq_true, Bool.and_eq_true, decide_eq_true_iff, Bool.not_eq_true', State.extentHi,
    ← State.located_iff]
  constructor
  · rintro (h | ⟨c, a, b, d⟩)
    · exact .inl h
    · refine .inr ⟨c, a, b, fun l => ?_⟩
      rcases d with d | d
      · rw [l] at d; cases d
      · exact ⟨of_decide_eq_true d.1, d.2⟩
  · rintro (h | ⟨c, a, b, d⟩)
    · exact .inl h
    · refine .inr ⟨c, a, b, ?_⟩
      cases e : s.odu.located
      · exact .inl rfl
      · exact .inr ⟨decide_eq_true (d e).1, (d e).2⟩

/-- The rows as their writers give them are the rows that the rules state. -/
theorem State.rowsTrue_of {s : State} (cab : s.brm.rows.cab = s.dka.cabRow)
    (supervision : s.brm.rows.supervision = s.supervisionRow) (doors : s.brm.rows.doors = s.doorsRow)
    (loop : s.brm.rows.loop = s.loopRow) (hold : s.brm.rows.hold = s.holdRow)
    (summary : s.drc.summary = s.drc.allProven) : s.RowsTrue := by
  have all := s.drc.allProven_iff
  rw [← summary] at all
  refine ⟨fun h => cab.trans (Dka.cabRow_noDesk h), fun d h => cab.trans (Dka.cabRow_desk h), ?_, ?_, ?_, ?_,
    ?_, ?_⟩
  · rw [supervision, State.supervisionRow]; rfl
  · intro h; rw [doors, State.doorsRow, if_pos (all.2 h)]; rfl
  · rintro ⟨i, h⟩ m
    rw [doors, State.doorsRow, if_neg, if_pos (s.still_iff.2 m)]; rfl
    intro e; exact h (all.1 e i)
  · rintro ⟨i, h⟩ m
    rw [doors, State.doorsRow, if_neg, if_neg]; rfl
    · intro e; exact m (s.still_iff.1 e)
    · intro e; exact h (all.1 e i)
  · rw [loop, State.loopRow]; rfl
  · rw [hold, State.holdRow]
    simp only [State.still_iff, Row.at, Row.clear]

theorem State.lineRowsTrue_of {s : State} (radio : s.brm.rows.radio = s.radioRow)
    (odometry : s.brm.rows.odometry = s.odometryRow) : s.LineRowsTrue := by
  refine ⟨?_, ?_, ?_, ?_⟩
  · intro h; rw [radio, State.radioRow, if_pos ((s.called_iff _).2 h)]; rfl
  · intro h k
    rw [radio, State.radioRow, if_neg (fun e => h ((s.called_iff _).1 e)), if_pos ((s.called_iff _).2 k)]; rfl
  · intro h k
    rw [radio, State.radioRow, if_neg (fun e => h ((s.called_iff _).1 e)),
      if_neg (fun e => k ((s.called_iff _).1 e))]; rfl
  · rw [odometry, State.odometryRow]
    simp only [State.still_iff, Row.at, Row.clear, Odu.rollbackDm, ceilDiv]
    by_cases a : s.odu.motion = .standstill
    · rw [if_pos a, if_pos a]
    · rw [if_neg a, if_neg a]
      have e : (s.par .rMax < min 255 ((s.odu.rollback + 100000 - 1) / 100000)) ↔
          s.par .rMax < (s.odu.rollback + 99999) / 100000 ∧ s.par .rMax < 255 := by omega
      simp only [e]
      congr 1
      have f : (s.ssu.mode = .full ∧ (!s.odu.located) = true) ↔
          (s.ssu.mode = .full ∧ s.odu.pos ≠ .valid ∧ s.odu.pos ≠ .restored) := by
        simp [Odu.located]
      simp only [f]

end Sys2Proof.Machine
end

