-- ==== Sys2Proof/Laws/Settle.lean ====
section
/-! SUPPORT. How the end of an event leaves every reader (`finish_settled`), and how the brake manager's own
values follow (`finish_brakes`). -/

namespace Sys2Proof.Machine

/-! ## The profile store -/

theorem State.mayActivate_congr {s t : State} (h : t.odu = s.odu) (k : t.dka.active = s.dka.active) :
    t.mayActivate = s.mayActivate := by
  simp [State.mayActivate, State.still, h, k]

/-- A pending activation that has been looked at once is not taken again in the same event. -/
theorem State.takePending_settled {s t : State} (odu : t.odu = s.odu)
    (active : t.dka.active = s.dka.active) (lps : t.lps = s.takePending.lps) : t.takePending = t := by
  unfold State.takePending
  rw [State.mayActivate_congr odu active, lps]
  unfold State.takePending
  split
  · rw [if_neg]
    simp [State.switchOver, Lps.switchOver]
  · rfl

theorem State.Follows.active {s t : State} (h : s.Follows t) : t.dka.active = s.dka.active := by
  have e := congrArg Dka.active h.dka
  exact e

theorem State.readersPass_lps (s : State) :
    s.readersPass.lps = s.takePending.lps ∧ s.readersPass.ssu = s.takePending.ssu ∧
      s.readersPass.tgh = s.takePending.tgh := by
  simp [State.readersPass]

theorem State.settlePass_lps (s : State) :
    s.settlePass.lps = s.takePending.lps ∧ s.settlePass.ssu = s.takePending.ssu ∧
      s.settlePass.tgh = s.takePending.tgh := by
  simpa [State.settlePass] using s.readersPass_lps

theorem State.settle_succ (n : Nat) (s : State) : s.settle (n + 1) = s.settlePass.settle n := rfl

theorem State.settle_zero (s : State) : s.settle 0 = s := rfl

/-- The readers' part of the end of an event, before the traction output is driven. -/
def State.read (s : State) : State := (s.settle (5 + 1)).readersPass

theorem State.finish_eq (s : State) : s.finish = s.read.refreshTraction := rfl

theorem State.settle_lps (n : Nat) (s : State) :
    (s.settle (n + 1)).lps = s.takePending.lps ∧ (s.settle (n + 1)).ssu = s.takePending.ssu ∧
      (s.settle (n + 1)).tgh = s.takePending.tgh := by
  induction n generalizing s with
  | zero => rw [State.settle_succ, State.settle_zero]; exact State.settlePass_lps s
  | succ n ih =>
    have h := ih s.settlePass
    rw [← State.settle_succ] at h
    have f := State.settlePass_follows s
    rw [State.takePending_settled f.odu f.active (State.settlePass_lps s).1] at h
    exact ⟨h.1.trans (State.settlePass_lps s).1, h.2.1.trans (State.settlePass_lps s).2.1,
      h.2.2.trans (State.settlePass_lps s).2.2⟩

theorem State.read_lps (s : State) :
    s.read.lps = s.takePending.lps ∧ s.read.ssu = s.takePending.ssu ∧ s.read.tgh = s.takePending.tgh := by
  have h := State.settle_lps 5 s
  have f := State.settle_follows (5 + 1) s
  have r := State.readersPass_lps (s.settle (5 + 1))
  rw [State.takePending_settled f.odu f.active h.1] at r
  exact ⟨r.1.trans h.1, r.2.1.trans h.2.1, r.2.2.trans h.2.2⟩

/-! ## The orphan timer -/

theorem State.isOrphan_congr {s t : State} (odu : t.odu = s.odu)
    (dka : t.dka.rest = s.dka.rest) :
    t.isOrphan = s.isOrphan := by
  have h₁ := congrArg Dka.active dka
  have h₂ := congrArg Dka.cabU dka
  have h₃ := congrArg Dka.cabL dka
  simp only [Dka.rest] at h₁ h₂ h₃
  have h₄ : t.dka.activeCab = s.dka.activeCab := by
    simp only [Dka.activeCab, h₁]
    cases s.dka.active with
    | none => rfl
    | some d => cases d <;> simp [Dka.cab, h₂, h₃]
  simp [State.isOrphan, State.still, odu, h₄]

theorem State.refreshOrphan_orphan (s : State) : s.refreshOrphan.dka.orphan = s.orphanNext := by
  unfold State.refreshOrphan State.orphanNext
  split
  · split
    · next h => obtain ⟨x, hx⟩ := Option.isSome_iff_exists.1 h; simp [hx]
    · next h => simp at h; simp [h]
  · rfl

theorem State.orphanNext_congr {s t : State} (odu : t.odu = s.odu) (pst : t.pst = s.pst)
    (now : t.now = s.now) (dka : t.dka.rest = s.dka.rest) :
    t.orphanNext = if s.isOrphan then t.dka.orphan.or (s.startMs (s.par .tOrphan)) else none := by
  unfold State.orphanNext
  rw [State.isOrphan_congr odu dka]
  simp [State.startMs, State.par, now, pst]

theorem State.readersPass_orphan (s : State) : s.readersPass.dka.orphan = s.orphanNext := by
  have h : s.readersPass.dka = (State.refreshOrphan
      (((s.takePending).retest .a).retest .b).refreshDoors).dka := by simp [State.readersPass]
  rw [h, State.refreshOrphan_orphan, State.orphanNext_congr (s := s)] <;> simp [State.orphanNext]

theorem State.settlePass_orphan (s : State) : s.settlePass.dka.orphan = s.orphanNext := by
  rw [← s.readersPass_orphan]; simp [State.settlePass]

/-- The orphan timer, once taken, is not taken otherwise in the same event. -/
theorem State.Follows.orphanNext {s x : State} (f : s.Follows x) (h : x.dka.orphan = s.orphanNext) :
    x.orphanNext = s.orphanNext := by
  rw [State.orphanNext_congr f.odu f.pst f.now f.dka, h]
  unfold State.orphanNext
  split
  · rcases s.dka.orphan with _ | _ <;> rfl
  · rfl

theorem State.settle_orphan (n : Nat) (s : State) : (s.settle (n + 1)).dka.orphan = s.orphanNext := by
  induction n generalizing s with
  | zero => rw [State.settle_succ, State.settle_zero]; exact State.settlePass_orphan s
  | succ n ih =>
    have f := State.settlePass_follows s
    rw [State.settle_succ, ih s.settlePass]
    exact f.orphanNext s.settlePass_orphan

theorem State.read_orphan (s : State) : s.read.dka.orphan = s.orphanNext := by
  rw [State.read, State.readersPass_orphan]
  exact (State.settle_follows _ s).orphanNext (State.settle_orphan 5 s)

/-! ## How the readers are left -/

theorem Rows.get_set (r : Rows) (i j : RowId) (v : Row) :
    (r.set i v).get j = if j = i then v else r.get j := by
  cases i <;> cases j <;> rfl

theorem State.setLatch_rows (w : LatchCause) (s : State) : (s.setLatch w).brm.rows = s.brm.rows := by
  simp

theorem State.writeRow_get (i j : RowId) (v : Row) (s : State) :
    (s.writeRow i v).brm.rows.get j = if j = i then v else s.brm.rows.get j := by
  unfold State.writeRow
  split
  · next h => split <;> simp_all
  · dsimp only
    split
    · rw [State.setLatch_rows, Rows.get_set]
    · rw [Rows.get_set]

theorem State.par_congr {s t : State} (h : t.pst = s.pst) (p : Param) : t.par p = s.par p := by
  rw [State.par, h, State.par]

theorem State.supervisionRow_congr {s t : State} (h : t.ssu = s.ssu) :
    t.supervisionRow = s.supervisionRow := by
  simp [State.supervisionRow, h]

theorem State.doorsRow_congr {s t : State} (h : t.drc = s.drc) (k : t.odu = s.odu) :
    t.doorsRow = s.doorsRow := by
  simp [State.doorsRow, State.still, h, k]

theorem State.extentHi_congr {s t : State} (h : t.odu = s.odu) (k : t.pst = s.pst) :
    t.extentHi = s.extentHi := by
  rw [State.extentHi, State.extentHi, State.par_congr k, h]

theorem State.callMeets_congr {s t : State} (h : t.odu = s.odu) (k : t.pst = s.pst) :
    t.callMeets = s.callMeets := by
  funext c
  rw [State.callMeets, State.callMeets, State.extentHi_congr h k, h]

theorem State.called_congr {s t : State} (h : t.tgh = s.tgh) (k : t.odu = s.odu) (l : t.pst = s.pst)
    (v : Severity) : t.called v = s.called v := by
  rw [State.called, State.called, State.callMeets_congr k l, h]

theorem State.radioRow_congr {s t : State} (h : t.tgh = s.tgh) (k : t.odu = s.odu)
    (l : t.pst = s.pst) : t.radioRow = s.radioRow := by
  simp [State.radioRow, State.called_congr h k l, h]

theorem State.odometryRow_congr {s t : State} (h : t.odu = s.odu) (k : t.pst = s.pst)
    (l : t.ssu = s.ssu) : t.odometryRow = s.odometryRow := by
  simp [State.odometryRow, State.still, State.par, h, k, l]

theorem State.loopRow_congr {s t : State} (h : t.brm.senseOpen = s.brm.senseOpen) :
    t.loopRow = s.loopRow := by
  simp [State.loopRow, h]

/-- The six rows that no later reader of the same pass can change. -/
structure State.RowsWritten (s : State) : Prop where
  cab : s.brm.rows.cab = s.dka.cabRow
  supervision : s.brm.rows.supervision = s.supervisionRow
  doors : s.brm.rows.doors = s.doorsRow
  radio : s.brm.rows.radio = s.radioRow
  odometry : s.brm.rows.odometry = s.odometryRow
  loop : s.brm.rows.loop = s.loopRow

theorem State.RowsWritten.congr {s t : State} (h : s.RowsWritten) (rows : t.brm.rows = s.brm.rows)
    (odu : t.odu = s.odu) (ssu : t.ssu = s.ssu) (drc : t.drc = s.drc) (dka : t.dka = s.dka)
    (tgh : t.tgh = s.tgh) (pst : t.pst = s.pst) (sense : t.brm.senseOpen = s.brm.senseOpen) :
    t.RowsWritten := by
  refine ⟨?_, ?_, ?_, ?_, ?_, ?_⟩
  · rw [rows, dka]; exact h.cab
  · rw [rows, State.supervisionRow_congr ssu]; exact h.supervision
  · rw [rows, State.doorsRow_congr drc odu]; exact h.doors
  · rw [rows, State.radioRow_congr tgh odu pst]; exact h.radio
  · rw [rows, State.odometryRow_congr odu pst ssu]; exact h.odometry
  · rw [rows, State.loopRow_congr sense]; exact h.loop

theorem State.writeRows_written (s : State) : s.writeRows.RowsWritten := by
  have g : ∀ j, s.writeRows.brm.rows.get j =
      match j with
      | .cab => s.dka.cabRow
      | .supervision => s.supervisionRow
      | .doors => s.doorsRow
      | .radio => s.radioRow
      | .odometry => s.odometryRow
      | .loop => s.loopRow
      | .hold => s.holdRow := by
    intro j
    unfold State.writeRows
    cases j <;> simp [State.writeRow_get]
  refine ⟨?_, ?_, ?_, ?_, ?_, ?_⟩
  · rw [State.writeRows_dka]; exact g .cab
  · rw [State.supervisionRow_congr (State.writeRows_ssu s)]; exact g .supervision
  · rw [State.doorsRow_congr (State.writeRows_drc s) (State.writeRows_odu s)]; exact g .doors
  · rw [State.radioRow_congr (State.writeRows_tgh s) (State.writeRows_odu s) (State.writeRows_pst s)]
    exact g .radio
  · rw [State.odometryRow_congr (State.writeRows_odu s) (State.writeRows_pst s)
      (State.writeRows_ssu s)]
    exact g .odometry
  · rw [State.loopRow_congr (s := s) (by simp [State.writeRows])]
    exact g .loop

theorem State.effective_congr {a b : Brm} (h : a.rows = b.rows) (k : a.latch = b.latch) :
    a.effective = b.effective := by
  simp [Brm.effective, h, k]

theorem State.refreshLevel_level (s : State) : s.refreshLevel.brm.level = s.brm.effective := by
  unfold State.refreshLevel
  split
  · next h => exact h.symm
  · rw [State.retarget_brm_level, State.raise_brm]

theorem State.pinionCommand_congr {s t : State} (odu : t.odu = s.odu) (dka : t.dka = s.dka)
    (level : t.brm.level = s.brm.level) (fault : t.brm.frictionFault = s.brm.frictionFault) :
    t.pinionCommand = s.pinionCommand := by
  simp [State.pinionCommand, State.still, odu, dka, level, fault]

theorem State.refreshPinion_pinion (s : State) :
    s.refreshPinion.brm.pinion = s.pinionCommand ∧
      s.refreshPinion.brm.energised = (decide (s.pinionCommand = .released) && !s.brm.loopForced) := by
  unfold State.refreshPinion
  dsimp only
  split
  · exact ⟨rfl, rfl⟩
  · simp

theorem State.holdInputs_congr {s t : State} (odu : t.odu = s.odu)
    (pinion : t.brm.pinion = s.brm.pinion) (upper : t.brm.upper = s.brm.upper)
    (lower : t.brm.lower = s.brm.lower) (measured : t.brm.measured = s.brm.measured) :
    t.holdInputs = s.holdInputs := by
  simp only [State.holdInputs, odu, pinion, upper, lower, measured]

theorem Brm.proveInputs_congr {a b : Brm} (target : a.target = b.target)
    (forced : a.loopForced = b.loopForced) (fault : a.sensorFault = b.sensorFault)
    (measured : a.measured = b.measured) : a.proveInputs = b.proveInputs := by
  simp only [Brm.proveInputs, target, forced, fault, measured]

/-- HOLDING is a function of its inputs and the parameters. -/
theorem State.holdingNow_congr {s t : State} (h : t.holdInputs = s.holdInputs) (pst : t.pst = s.pst) :
    t.holdingNow = s.holdingNow := by
  simp only [State.holdInputs, HoldInputs.mk.injEq] at h
  obtain ⟨a, b, c, d, e⟩ := h
  simp only [State.holdingNow, State.par_congr pst, a, b, c, d, e]

/-- The proving condition is a function of its inputs and the parameters. -/
theorem State.provingCond_congr {s t : State} (h : t.brm.proveInputs = s.brm.proveInputs)
    (pst : t.pst = s.pst) : t.provingCond = s.provingCond := by
  simp only [Brm.proveInputs, ProveInputs.mk.injEq] at h
  obtain ⟨a, b, c, d⟩ := h
  simp only [State.provingCond, State.par_congr pst, a, b, c, d]

/-! ### Grants -/

theorem State.extentServed_congr {s t : State} (odu : t.odu = s.odu) (lps : t.lps = s.lps)
    (mode : t.ssu.mode = s.ssu.mode) (pst : t.pst = s.pst) (i : CarSide) :
    t.extentServed i = s.extentServed i := by
  rw [State.extentServed, State.extentServed, State.extentHi_congr odu pst, odu, lps, mode]

theorem State.grantHolds_congr {s t : State} (odu : t.odu = s.odu) (lps : t.lps = s.lps)
    (mode : t.ssu.mode = s.ssu.mode) (pst : t.pst = s.pst) (tgh : t.tgh.authority = s.tgh.authority)
    (i : CarSide) (c : GrantCond) (h : c ≠ .holding) : t.grantHolds i c = s.grantHolds i c := by
  cases c with
  | standstill => simp [State.grantHolds, State.still, odu]
  | holding => exact absurd rfl h
  | position => simp [State.grantHolds, odu]
  | platform => simp [State.grantHolds, State.extentServed_congr odu lps mode pst]
  | holdDoors => simp [State.grantHolds, mode, tgh]

/-- A side that is GRANTED has its grant conditions other than HOLDING. -/
def State.GrantHolds (s : State) (i : CarSide) : Prop :=
  s.isGranted i = true → ∀ c, c ≠ .holding → s.grantHolds i c = true

theorem State.grantsHold_iff (s : State) : s.GrantsHold ↔ ∀ i, s.GrantHolds i := by
  constructor
  · intro h i g c k
    refine h i g c _ ?_ k
    rw [State.grantTable_eq]
    exact List.mem_map.2 ⟨c, by cases c <;> simp [GrantCond.all], rfl⟩
  · intro h i g c x m k
    rw [State.grantTable_eq, List.mem_map] at m
    obtain ⟨c', -, e⟩ := m
    simp only [Prod.mk.injEq] at e
    rw [← e.2, e.1]
    exact h i g c k

theorem State.GrantHolds.congr {s t : State} {i : CarSide} (h : s.GrantHolds i) (odu : t.odu = s.odu)
    (lps : t.lps = s.lps) (mode : t.ssu.mode = s.ssu.mode) (pst : t.pst = s.pst)
    (tgh : t.tgh.authority = s.tgh.authority)
    (granted : t.isGranted i = true → s.isGranted i = true) : t.GrantHolds i := by
  intro g c k
  rw [State.grantHolds_congr odu lps mode pst tgh i c k]
  exact h (granted g) c k

theorem State.withdrawIfGranted_granted (i : CarSide) (w : WithdrawCause) (s : State) :
    (s.withdrawIfGranted i w).isGranted i = false := by
  unfold State.withdrawIfGranted
  split
  · cases i <;> rfl
  · next h => simpa using h

theorem State.withdrawIfGranted_other (i j : CarSide) (w : WithdrawCause) (s : State)
    (h : (s.withdrawIfGranted i w).isGranted j = true) : s.isGranted j = true := by
  unfold State.withdrawIfGranted at h
  split at h
  · cases i <;> cases j <;> first | exact h | exact absurd h Bool.false_ne_true
  · exact h

theorem State.retest_other (i j : CarSide) (s : State) (h : (s.retest i).isGranted j = true) :
    s.isGranted j = true := by
  unfold State.retest at h
  split at h
  · exact h
  · exact State.withdrawIfGranted_other i j _ s h

theorem State.retest_grantHolds (i : CarSide) (s : State) : (s.retest i).GrantHolds i := by
  unfold State.retest
  split
  · next h =>
    intro _ c _
    have := List.find?_eq_none.1 h c (by cases c <;> simp [GrantCond.all])
    simpa using this
  · intro g
    rw [State.withdrawIfGranted_granted] at g
    cases g

/-! ### One pass -/

/-- What one pass leaves settled: all but the traction output. -/
structure State.PassSettled (s : State) : Prop where
  rows : s.RowsWritten
  level : s.brm.level = s.brm.effective
  pinion : s.brm.pinion = s.pinionCommand
  energised : s.brm.energised = (decide (s.brm.pinion = .released) && !s.brm.loopForced)
  holding : s.brm.holdSeen = s.holdInputs
  proving : s.brm.proveSeen = s.brm.proveInputs
  summary : s.drc.summary = s.drc.allProven
  grants : ∀ i, s.GrantHolds i

theorem State.readersPass_settled (s : State) : s.readersPass.PassSettled := by
  have split : s.readersPass = ((((((((s.takePending.retest .a).retest .b).refreshDoors).refreshOrphan
      ).writeRows).refreshLevel).refreshPinion).refreshHolding).refreshProving := rfl
  have ga : ((s.takePending.retest .a).retest .b).GrantHolds .a :=
    (State.retest_grantHolds .a s.takePending).congr (by simp) (by simp) (by simp) (by simp) (by simp)
      (State.retest_other .b .a _)
  have gb := State.retest_grantHolds .b (s.takePending.retest .a)
  generalize (s.takePending.retest .a).retest .b = u at *
  refine ⟨?_, ?_, ?_, ?_, ?_, ?_, ?_, ?_⟩
  · rw [split]
    exact (State.writeRows_written u.refreshDoors.refreshOrphan).congr (by simp) (by simp) (by simp)
      (by simp) (by simp) (by simp) (by simp) (by simp)
  · rw [split]
    generalize u.refreshDoors.refreshOrphan.writeRows = x
    rw [State.effective_congr (b := x.brm) (by simp) (by simp)]
    simp [State.refreshLevel_level]
  · rw [split]
    generalize u.refreshDoors.refreshOrphan.writeRows.refreshLevel = x
    rw [State.pinionCommand_congr (s := x) (by simp) (by simp) (by simp) (by simp)]
    simp [(State.refreshPinion_pinion x).1]
  · rw [split]
    generalize u.refreshDoors.refreshOrphan.writeRows.refreshLevel = x
    simp [(State.refreshPinion_pinion x).1, (State.refreshPinion_pinion x).2]
  · rw [split]
    generalize u.refreshDoors.refreshOrphan.writeRows.refreshLevel.refreshPinion = x
    rw [State.holdInputs_congr (s := x) (by simp) (by simp) (by simp) (by simp) (by simp)]
    simp [State.refreshHolding]
  · rw [split]
    generalize u.refreshDoors.refreshOrphan.writeRows.refreshLevel.refreshPinion.refreshHolding = x
    rw [Brm.proveInputs_congr (b := x.brm) (by simp) (by simp) (by simp) (by simp)]
    simp [State.refreshProving, State.setProving]
  · rw [split]
    simp only [State.refreshProving_drc, State.refreshHolding_drc,
      State.refreshPinion_drc, State.refreshLevel_drc, State.writeRows_drc, State.refreshOrphan_drc]
    rw [State.refreshDoors_drc]
    rfl
  · rw [split]
    intro i
    cases i
    · refine ga.congr (by simp) (by simp) (by simp) (by simp) (by simp) ?_
      simp only [State.isGranted, State.refreshProving_drc,
        State.refreshHolding_drc, State.refreshPinion_drc, State.refreshLevel_drc,
        State.writeRows_drc, State.refreshOrphan_drc, State.refreshDoors_drc]
      exact id
    · refine gb.congr (by simp) (by simp) (by simp) (by simp) (by simp) ?_
      simp only [State.isGranted, State.refreshProving_drc,
        State.refreshHolding_drc, State.refreshPinion_drc, State.refreshLevel_drc,
        State.writeRows_drc, State.refreshOrphan_drc, State.refreshDoors_drc]
      exact id

/-- An evaluation of the departure leaves what the readers have made. -/
theorem State.PassSettled.departure {x : State} (h : x.PassSettled) : x.refreshDeparture.PassSettled := by
  refine ⟨h.rows.congr (by simp) (by simp) (by simp) (by simp) (by simp) (by simp) (by simp) (by simp),
    ?_, ?_, ?_, ?_, ?_, ?_, fun i => (h.grants i).congr (by simp) (by simp) (by simp) (by simp) (by simp)
      (by simp [State.isGranted])⟩
  · rw [State.effective_congr (b := x.brm) (by simp) (by simp)]; simpa using h.level
  · rw [State.pinionCommand_congr (s := x) (by simp) (by simp) (by simp) (by simp)]; simpa using h.pinion
  · simpa using h.energised
  · rw [State.holdInputs_congr (s := x) (by simp) (by simp) (by simp) (by simp) (by simp)]
    simpa using h.holding
  · rw [Brm.proveInputs_congr (b := x.brm) (by simp) (by simp) (by simp) (by simp)]
    simpa using h.proving
  · simpa using h.summary

theorem State.settlePass_settled (s : State) : s.settlePass.PassSettled := s.readersPass_settled.departure

theorem State.holdRow_congr {s t : State} (odu : t.odu = s.odu) (active : t.dka.active = s.dka.active)
    (elapsed : t.brm.holdElapsed = s.brm.holdElapsed) (departure : t.brm.departure = s.brm.departure) :
    t.holdRow = s.holdRow := by
  simp [State.holdRow, State.still, odu, active, elapsed, departure]

/-- R81: the HOLD row that the readers write is that of the departure as they find it. -/
theorem State.readersPass_hold (s : State) : s.readersPass.brm.rows.hold = s.readersPass.holdRow := by
  have split : s.readersPass = (((s.takePending.retest .a).retest .b).refreshDoors.refreshOrphan.writeRows
      ).refreshLevel.refreshPinion.refreshHolding.refreshProving := rfl
  rw [split]
  generalize ((s.takePending.retest .a).retest .b).refreshDoors.refreshOrphan = x
  rw [State.holdRow_congr (s := x) (by simp) (by simp) (by simp [State.writeRows])
    (by simp [State.writeRows])]
  have h : x.writeRows.brm.rows.get .hold = x.holdRow := by
    unfold State.writeRows
    rw [State.writeRow_get, if_pos rfl]
  simpa [Rows.get] using h

theorem State.settle_settled (n : Nat) (s : State) : (s.settle (n + 1)).PassSettled := by
  induction n generalizing s with
  | zero => rw [State.settle_succ, State.settle_zero]; exact State.settlePass_settled s
  | succ n ih => rw [State.settle_succ]; exact ih _

theorem State.gateHolds_traction (s : State) (w : Pwm) (c : GateCond) :
    ({ s with brm := { s.brm with traction := w } } : State).gateHolds c = s.gateHolds c := by
  cases c <;> rfl

theorem State.gateOpen_refreshTraction (s : State) : s.refreshTraction.gateOpen = s.gateOpen := by
  unfold State.refreshTraction
  (repeat' split) <;> simp [State.gateOpen, State.gateFailure, State.gateHolds_traction]

theorem State.refreshTraction_gated (s : State) : s.refreshTraction.TractionGated := by
  unfold State.TractionGated
  rw [State.gateOpen_refreshTraction, State.refreshTraction_dka]
  unfold State.refreshTraction
  constructor
  · intro h; rw [if_pos h]
  · intro h
    rw [if_neg (by simp [h])]
    split
    · next k => exact k
    · exact ⟨rfl, rfl⟩

/-- How the end of an event leaves every reader. -/
theorem State.finish_settled (s : State) : s.finish.Settled := by
  rw [State.finish_eq]
  have h : s.read.PassSettled := State.readersPass_settled _
  have hold : s.read.brm.rows.hold = s.read.holdRow := State.readersPass_hold _
  have g := State.refreshTraction_gated s.read
  generalize s.read = x at *
  have r : x.refreshTraction.RowsWritten := h.rows.congr (by simp) (by simp) (by simp) (by simp)
    (by simp) (by simp) (by simp) (by simp)
  refine ⟨r.cab, r.supervision, r.doors, r.radio, r.odometry, r.loop, ?_, ?_, ?_, ?_, ?_, ?_, ?_, ?_, g⟩
  · rw [State.holdRow_congr (s := x) (by simp) (by simp) (by simp) (by simp)]
    simpa using hold
  · rw [State.effective_congr (b := x.brm) (by simp) (by simp), State.refreshTraction_brm_level]
    exact h.level
  · rw [State.pinionCommand_congr (s := x) (by simp) (by simp) (by simp) (by simp)]
    simpa using h.pinion
  · simpa using h.energised
  · rw [State.holdInputs_congr (s := x) (by simp) (by simp) (by simp) (by simp) (by simp)]
    simpa using h.holding
  · rw [Brm.proveInputs_congr (b := x.brm) (by simp) (by simp) (by simp) (by simp)]
    simpa using h.proving
  · simpa using h.summary
  · exact (State.grantsHold_iff _).2 fun i => (h.grants i).congr (by simp) (by simp) (by simp) (by simp)
      (by simp) (by simp [State.isGranted])

/-! ## How the brake manager's own values follow -/

theorem State.targetFor_congr {s t : State} (effort : t.brm.effort = s.brm.effort) (pst : t.pst = s.pst)
    (l : Level) : t.targetFor l = s.targetFor l := by
  cases l <;> simp only [State.targetFor, Brm.achieved, State.par_congr pst, effort]

theorem State.requiredEffort_congr {s t : State} (selected : t.dka.selected = s.dka.selected)
    (lps : t.lps = s.lps) (odu : t.odu = s.odu) (pst : t.pst = s.pst) :
    t.requiredEffort = s.requiredEffort := by
  simp only [State.requiredEffort, State.par_congr pst, selected, lps, odu]

/-- What a re-evaluation of the level does to the target and the electric brake (R67, R75). -/
theorem State.refreshLevel_follows_level (s : State) :
    (s.refreshLevel.brm.level = s.brm.level ∧ s.refreshLevel.brm.ebrake = s.brm.ebrake ∧
        s.refreshLevel.brm.target = s.brm.target) ∨
      (s.refreshLevel.brm.ebrake = { s.brm.ebrake with latched := ebrakeDuty s.refreshLevel.brm.level } ∧
        s.refreshLevel.brm.target = s.refreshLevel.targetFor s.refreshLevel.brm.level) := by
  unfold State.refreshLevel
  split
  · exact .inl ⟨rfl, rfl, rfl⟩
  · refine .inr ⟨by simp, ?_⟩
    rw [State.targetFor_congr (s := s) (by simp) (by simp)]
    simp only [State.retarget, State.takeChoice_brm_target, State.takeChoice_brm_level,
      State.raise_brm]
    exact State.targetFor_congr (by simp) (by simp) _

theorem State.gateButLevel_asked {s : State} (supplied : 0 < s.dka.supplied)
    (h : s.gateButLevel = true) : s.departureAsked = true := by
  have g : ∀ c, c ≠ .level → s.gateHolds c = true := by
    intro c k
    have := List.all_eq_true.1 h c (by cases c <;> simp [GateCond.all])
    simpa [k] using this
  have a := g .direction (by simp)
  have b := g .reversalLock (by simp)
  have c := g .mode (by simp)
  simp only [State.gateHolds] at a b c
  simp only [State.departureAsked, a, b, c, supplied, decide_true, Bool.and_self]

theorem State.gateOpen_butLevel {s : State} (h : s.gateOpen = true) : s.gateButLevel = true := by
  have g : ∀ c ∈ GateCond.all, s.gateHolds c = true := by
    intro c k
    have := List.find?_eq_none.1 (Option.isNone_iff_eq_none.1 h) c k
    simpa using this
  exact List.all_eq_true.2 fun c k => by simp [g c k]

/-- R84, R85: no departure outlasts what it asks for. -/
theorem State.refreshDeparture_asked (s : State) (h : s.departureAsked = false) :
    s.refreshDeparture.brm.departure = .idle := by
  have may : s.mayDepart = false := by
    by_contra k
    simp only [Bool.not_eq_false, State.mayDepart, Bool.and_eq_true, decide_eq_true_eq] at k
    rw [State.gateButLevel_asked k.1.1.2 k.2] at h; cases h
  have must : s.mustAbandon = true := by
    by_contra k
    simp only [Bool.not_eq_true, State.mustAbandon, Bool.or_eq_false_iff, beq_eq_false_iff_ne, ne_eq,
      Bool.not_eq_false'] at k
    rw [State.gateButLevel_asked (Nat.pos_of_ne_zero k.1.1) k.1.2] at h; cases h
  have left : (!s.still || s.dka.supplied == 0 || !s.gateOpen) = true := by
    by_contra k
    simp only [Bool.not_eq_true, Bool.or_eq_false_iff, beq_eq_false_iff_ne, ne_eq,
      Bool.not_eq_false'] at k
    rw [State.gateButLevel_asked (Nat.pos_of_ne_zero k.1.2) (State.gateOpen_butLevel k.2)] at h; cases h
  unfold State.refreshDeparture
  split <;> simp_all

/-- R85: a car that moves has no departure to begin and no released hold. -/
theorem State.refreshDeparture_left (s : State) (h : s.still = false)
    (k : s.brm.departure = .idle ∨ s.brm.departure = .released) :
    s.refreshDeparture.brm.departure = .idle := by
  unfold State.refreshDeparture
  rcases k with k | k <;> simp [k, h, State.mayDepart]

theorem State.Follows.departureAsked {s t : State} (h : s.Follows t) (ssu : t.ssu.mode = s.ssu.mode)
    (tgh : t.tgh.authority = s.tgh.authority) : t.departureAsked = s.departureAsked := by
  have a := congrArg Dka.active h.dka
  have b := congrArg Dka.cabU h.dka
  have c := congrArg Dka.cabL h.dka
  have d := congrArg Dka.selected h.dka
  have e := congrArg Dka.lock h.dka
  simp only [Dka.rest] at a b c d e
  have f : t.dka.activeCab = s.dka.activeCab := by
    simp only [Dka.activeCab, a]
    cases s.dka.active with
    | none => rfl
    | some x => cases x <;> simp [Dka.cab, b, c]
  have g : t.dka.supplied = s.dka.supplied := by rw [Dka.supplied, Dka.supplied, f]
  simp only [State.departureAsked, g, d, e, ssu, tgh]

/-- An activation changes neither the mode nor the authority. -/
theorem State.takePending_mode (s : State) :
    s.takePending.ssu.mode = s.ssu.mode ∧ s.takePending.tgh.authority = s.tgh.authority := by
  unfold State.takePending State.switchOver State.compareOutdated State.flush State.raiseIf
  (repeat' split) <;> exact ⟨rfl, rfl⟩

/-- One pass, up to the rows. -/
def State.passRows (s : State) : State :=
  ((((s.takePending).retest .a).retest .b).refreshDoors).refreshOrphan.writeRows

theorem State.passRows_follows (s : State) : s.Follows s.passRows := by
  unfold State.passRows
  refine State.Follows.trans ?_ (State.writeRows_follows _)
  refine State.Follows.trans ?_ (State.refreshOrphan_follows _)
  refine State.Follows.trans ?_ (State.refreshDoors_follows _)
  refine State.Follows.trans ?_ (State.retest_follows _ _)
  exact (State.takePending_follows s).trans (State.retest_follows _ _)

/-- How the values that the readers alone make follow (R67, R71, R74, R75). -/
structure State.ReadingsFollow (s t : State) : Prop where
  electric : (t.brm.level = s.brm.level ∧ t.brm.ebrake = s.brm.ebrake) ∨
    t.brm.ebrake = { s.brm.ebrake with latched := ebrakeDuty t.brm.level }
  target : (t.brm.level = s.brm.level ∧ t.brm.target = s.brm.target) ∨
    t.brm.target = t.targetFor t.brm.level
  holding : t.brm.holding = t.holdingNow ∨
    (t.brm.holding = s.brm.holding ∧ t.holdInputs = s.brm.holdSeen)
  proving : t.brm.proving = t.provingCond ∨
    (t.brm.proving = s.brm.proving ∧ t.brm.proveInputs = s.brm.proveSeen)
  proveTimer : (t.brm.proving = s.brm.proving ∧ t.brm.proveTimer = s.brm.proveTimer) ∨
    t.brm.proveTimer = if t.brm.proving then s.startMs (s.par .tFprove) else none

/-- How a departure follows (R84, R85). -/
def State.DepartureFollows (s t : State) : Prop :=
  (s.departureAsked = false → t.brm.departure = .idle) ∧
    (s.still = false → s.brm.departure = .idle ∨ s.brm.departure = .released → t.brm.departure = .idle)

/-- The rows with what stands before them in a pass leave the brake manager's own values. -/
theorem State.passRows_brm (s : State) :
    s.passRows.brm.level = s.brm.level ∧ s.passRows.brm.ebrake = s.brm.ebrake ∧
      s.passRows.brm.target = s.brm.target ∧ s.passRows.brm.holding = s.brm.holding ∧
      s.passRows.brm.holdSeen = s.brm.holdSeen ∧ s.passRows.brm.proving = s.brm.proving ∧
      s.passRows.brm.proveSeen = s.brm.proveSeen ∧ s.passRows.brm.proveTimer = s.brm.proveTimer := by
  simp [State.passRows, State.writeRows]

theorem State.readersPass_readings (s : State) : s.ReadingsFollow s.readersPass := by
  have split : s.readersPass =
      s.passRows.refreshLevel.refreshPinion.refreshHolding.refreshProving := rfl
  have f := State.passRows_follows s
  obtain ⟨e₁, e₂, e₃, e₄, e₅, e₆, e₇, e₈⟩ := s.passRows_brm
  have now := f.now
  have pst := f.pst
  rw [split]
  generalize s.passRows = x at *
  refine ⟨?_, ?_, ?_, ?_, ?_⟩
  · rcases State.refreshLevel_follows_level x with ⟨a, b, _⟩ | ⟨a, _⟩
    · exact .inl ⟨by simp [a, e₁], by simp [b, e₂]⟩
    · exact .inr (by simp [a, e₂])
  · rcases State.refreshLevel_follows_level x with ⟨a, _, b⟩ | ⟨_, a⟩
    · exact .inl ⟨by simp [a, e₁], by simp [b, e₃]⟩
    · refine .inr ?_
      rw [State.targetFor_congr (s := x.refreshLevel) (by simp) (by simp)]
      simp [a]
  · generalize hy : x.refreshLevel.refreshPinion = y at *
    have a : y.brm.holding = s.brm.holding := by rw [← hy]; simp [e₄]
    have b : y.brm.holdSeen = s.brm.holdSeen := by rw [← hy]; simp [e₅]
    have c : y.refreshHolding.refreshProving.holdInputs = y.holdInputs :=
      State.holdInputs_congr (by simp) (by simp) (by simp) (by simp) (by simp)
    rw [c, State.holdingNow_congr c (by simp)]
    simp only [State.refreshProving_brm_holding, State.refreshHolding]
    by_cases h : y.brm.holdSeen = y.holdInputs
    · exact .inr ⟨by rw [if_pos h, a], by rw [← h, b]⟩
    · exact .inl (by rw [if_neg h])
  · generalize hy : x.refreshLevel.refreshPinion.refreshHolding = y at *
    have a : y.brm.proving = s.brm.proving := by rw [← hy]; simp [e₆]
    have b : y.brm.proveSeen = s.brm.proveSeen := by rw [← hy]; simp [e₇]
    by_cases h : y.brm.proveSeen = y.brm.proveInputs
    · refine .inr ⟨by simp [State.refreshProving, State.setProving, h, a], ?_⟩
      rw [Brm.proveInputs_congr (b := y.brm) (by simp) (by simp) (by simp) (by simp), ← h, b]
    · refine .inl ?_
      rw [State.provingCond_congr (s := y)
        (Brm.proveInputs_congr (by simp) (by simp) (by simp) (by simp)) (by simp)]
      simp [State.refreshProving, State.setProving, h]
  · generalize hy : x.refreshLevel.refreshPinion.refreshHolding = y at *
    have a : y.brm.proving = s.brm.proving := by rw [← hy]; simp [e₆]
    have b : y.brm.proveTimer = s.brm.proveTimer := by rw [← hy]; simp [e₈]
    have c : y.startMs (y.par .tFprove) = s.startMs (s.par .tFprove) := by
      rw [← hy]; simp [State.startMs, State.par, now, pst]
    have key : ∀ w : Bool, ((y.setProving w).brm.proving = s.brm.proving ∧
        (y.setProving w).brm.proveTimer = s.brm.proveTimer) ∨ (y.setProving w).brm.proveTimer =
          if (y.setProving w).brm.proving then s.startMs (s.par .tFprove) else none := by
      intro w
      by_cases h : w = y.brm.proving
      · exact .inl ⟨h.trans a, by simp [State.setProving, h, b]⟩
      · exact .inr (by simp [State.setProving, h, c])
    exact key _

theorem State.readersPass_departure (s : State) : s.readersPass.brm.departure = s.brm.departure := by
  simp [State.readersPass, State.writeRows]

theorem State.readersPass_asked (s : State) : s.readersPass.departureAsked = s.departureAsked :=
  s.readersPass_follows.departureAsked (by simp [State.readersPass, s.takePending_mode])
    (by simp [State.readersPass, s.takePending_mode])

theorem State.settlePass_departure (s : State) : s.DepartureFollows s.settlePass := by
  have split : s.settlePass = s.readersPass.refreshDeparture := rfl
  have asked := s.readersPass_asked
  have departure := s.readersPass_departure
  have odu := s.readersPass_follows.odu
  rw [split]
  generalize s.readersPass = x at *
  refine ⟨fun h => x.refreshDeparture_asked (asked.trans h), fun h k => ?_⟩
  refine x.refreshDeparture_left ?_ (by rw [departure]; exact k)
  rw [← h, State.still, State.still, odu]

/-- Values that a later step of the event leaves follow as they did. -/
theorem State.ReadingsFollow.keep {s x y : State} (h : s.ReadingsFollow x) (pst : y.pst = x.pst)
    (odu : y.odu = x.odu)
    (brm : ∃ d q t w, y.brm = { x.brm with departure := d, required := q, stallTimer := t, traction := w }) :
    s.ReadingsFollow y := by
  obtain ⟨d, q, t, w, e⟩ := brm
  have level : y.brm.level = x.brm.level := by rw [e]
  have hi : y.holdInputs = x.holdInputs :=
    State.holdInputs_congr odu (by rw [e]) (by rw [e]) (by rw [e]) (by rw [e])
  have pi : y.brm.proveInputs = x.brm.proveInputs := by rw [e]; rfl
  refine ⟨?_, ?_, ?_, ?_, ?_⟩
  · rw [level, show y.brm.ebrake = x.brm.ebrake by rw [e]]; exact h.electric
  · rw [State.targetFor_congr (s := x) (by rw [e]) pst, level,
      show y.brm.target = x.brm.target by rw [e]]
    exact h.target
  · rw [State.holdingNow_congr hi pst, hi, show y.brm.holding = x.brm.holding by rw [e]]; exact h.holding
  · rw [State.provingCond_congr pi pst, pi, show y.brm.proving = x.brm.proving by rw [e]]; exact h.proving
  · rw [show y.brm.proving = x.brm.proving by rw [e], show y.brm.proveTimer = x.brm.proveTimer by rw [e]]
    exact h.proveTimer

theorem State.ReadingsFollow.departure {s x : State} (h : s.ReadingsFollow x) :
    s.ReadingsFollow x.refreshDeparture := by
  refine h.keep (by simp) (by simp) ?_
  unfold State.refreshDeparture
  (repeat' split) <;> exact ⟨_, _, _, _, rfl⟩

theorem State.ReadingsFollow.traction {s x : State} (h : s.ReadingsFollow x) :
    s.ReadingsFollow x.refreshTraction := by
  refine h.keep (by simp) (by simp) ?_
  unfold State.refreshTraction
  (repeat' split) <;> exact ⟨_, _, _, _, rfl⟩

/-- What two passes, the first of them settled, make of these values. -/
theorem State.ReadingsFollow.trans {s x y : State} (h : s.ReadingsFollow x) (k : x.ReadingsFollow y)
    (f : s.Follows x) (g : x.Follows y) (p : x.PassSettled) : s.ReadingsFollow y := by
  have effort : y.brm.effort = x.brm.effort := by
    have e := g.brm
    simp only [Brm.inputs, Prod.mk.injEq] at e
    exact e.2.2.2.2.1
  refine ⟨?_, ?_, ?_, ?_, ?_⟩
  · rcases k.electric with ⟨a, b⟩ | a
    · rcases h.electric with ⟨c, d⟩ | c
      · exact .inl ⟨a.trans c, b.trans d⟩
      · exact .inr (by rw [b, c, a])
    · rcases h.electric with ⟨_, d⟩ | d
      · exact .inr (by rw [a, d])
      · exact .inr (by rw [a, d])
  · rcases k.target with ⟨a, b⟩ | a
    · rcases h.target with ⟨c, d⟩ | c
      · exact .inl ⟨a.trans c, b.trans d⟩
      · exact .inr (by rw [b, c, a, State.targetFor_congr effort g.pst])
    · exact .inr a
  · rcases k.holding with a | ⟨a, b⟩
    · exact .inl a
    · have e : y.holdInputs = x.holdInputs := b.trans p.holding
      rcases h.holding with c | ⟨c, d⟩
      · exact .inl (by rw [a, c, State.holdingNow_congr e g.pst])
      · exact .inr ⟨a.trans c, e.trans d⟩
  · rcases k.proving with a | ⟨a, b⟩
    · exact .inl a
    · have e : y.brm.proveInputs = x.brm.proveInputs := b.trans p.proving
      rcases h.proving with c | ⟨c, d⟩
      · exact .inl (by rw [a, c, State.provingCond_congr e g.pst])
      · exact .inr ⟨a.trans c, e.trans d⟩
  · rcases k.proveTimer with ⟨a, b⟩ | a
    · rcases h.proveTimer with ⟨c, d⟩ | c
      · exact .inl ⟨a.trans c, b.trans d⟩
      · exact .inr (by rw [b, c, a])
    · exact .inr (by rw [a, State.startMs, State.startMs, f.now, State.par_congr f.pst])

theorem State.settle_readings (n : Nat) (s : State) : s.ReadingsFollow (s.settle (n + 1)) := by
  induction n generalizing s with
  | zero =>
    rw [State.settle_succ, State.settle_zero]
    exact s.readersPass_readings.departure
  | succ n ih =>
    rw [State.settle_succ]
    have h : s.ReadingsFollow s.settlePass := s.readersPass_readings.departure
    exact h.trans (ih s.settlePass) s.settlePass_follows
      (State.settle_follows _ _) s.settlePass_settled

theorem State.settle_departure (n : Nat) (s : State) : s.DepartureFollows (s.settle (n + 1)) := by
  induction n generalizing s with
  | zero => rw [State.settle_succ, State.settle_zero]; exact s.settlePass_departure
  | succ n ih =>
    rw [State.settle_succ]
    have h := s.settlePass_departure
    have k := ih s.settlePass
    have f := s.settlePass_follows
    have mode : s.settlePass.ssu.mode = s.ssu.mode := by
      rw [(State.settlePass_lps s).2.1]; exact s.takePending_mode.1
    have auth : s.settlePass.tgh.authority = s.tgh.authority := by
      rw [(State.settlePass_lps s).2.2]; exact s.takePending_mode.2
    refine ⟨fun q => k.1 ((f.departureAsked mode auth).trans q), fun q r => k.2 ?_ (.inl (h.2 q r))⟩
    rw [State.still, f.odu]; exact q

/-- How the brake manager's own values follow at the end of an event. -/
theorem State.finish_brakes (s : State) : s.BrakesFollow s.finish := by
  have r : s.ReadingsFollow s.finish :=
    ((State.settle_readings 5 s).trans (State.readersPass_readings _) (State.settle_follows _ _)
      (State.readersPass_follows _) (State.settle_settled 5 s)).traction
  have d : s.finish.brm.departure = (s.settle (5 + 1)).brm.departure := by
    rw [State.finish_eq, State.refreshTraction_brm_departure]
    exact State.readersPass_departure _
  have k := State.settle_departure 5 s
  exact ⟨r.electric, r.target, r.holding, r.proving, r.proveTimer, fun q => d.trans (k.1 q),
    fun q x => d.trans (k.2 q x)⟩

end Sys2Proof.Machine
end

