-- ==== Sys2Proof/Laws/Pass.lean ====
section
/-! SUPPORT. One pass of the readers does what the rules say of it (`readersPass_reads`), and so does each
evaluation of the departure and of the traction output. -/

namespace Sys2Proof.Machine

/-! ## Notices -/

/-- Kinds raised on a port. -/
def PortState.tell (m : NoticeSet) (q : PortState) : PortState := { q with pending := q.pending ||| m }

/-- Kinds raised on the three ports. -/
def Pif.tell (m : NoticeSet) (f : Pif) : Pif := { f with u := f.u.tell m, l := f.l.tell m, c := f.c.tell m }

/-- A kind, if a condition holds. -/
def Notice.when (k : Notice) (p : Prop) [Decidable p] : NoticeSet := if p then k.bit else 0

theorem Pif.tell_tell (f : Pif) (a b : NoticeSet) : (f.tell a).tell b = f.tell (a ||| b) := by
  simp [Pif.tell, PortState.tell, BitVec.or_assoc]

theorem Pif.tell_zero (f : Pif) : f.tell 0 = f := by
  have h : ∀ x : NoticeSet, x ||| 0 = x := fun x => BitVec.or_zero
  simp only [Pif.tell, PortState.tell, h]

theorem State.raise_tell (k : Notice) (s : State) : (s.raise k).pif = s.pif.tell k.bit := rfl

theorem State.raiseIf_tell (c : Bool) (k : Notice) (s : State) :
    (s.raiseIf c k).pif = s.pif.tell (k.when (c = true)) := by
  cases c
  · exact (Pif.tell_zero _).symm
  · rfl

theorem Notice.when_or (k : Notice) (p q : Prop) [Decidable p] [Decidable q] :
    k.when p ||| k.when q = k.when (p ∨ q) := by
  unfold Notice.when
  by_cases a : p <;> by_cases b : q <;> simp [a, b]

theorem Notice.when_congr (k : Notice) {p q : Prop} [Decidable p] [Decidable q] (h : p ↔ q) :
    k.when p = k.when q := by
  unfold Notice.when
  by_cases a : p
  · rw [if_pos a, if_pos (h.1 a)]
  · rw [if_neg a, if_neg (fun b => a (h.2 b))]

/-! ## The pending activation -/

theorem Lps.switchOver_profile (l : Lps) :
    l.switchOver.profile = some (decodeProfile l.standby.image) := by
  unfold Lps.profile Lps.active Lps.activeId Lps.switchOver
  cases h : l.standbyId <;> simp [Lps.setBank, Lps.bank, BankId.other, Lps.standby, h]

theorem Memory.field_two (m : Memory) (a : Nat) :
    m.field a 2 = (m.read a).toNat * 256 + (m.read (a + 1)).toNat := by
  simp [Memory.field, Memory.bytes, beNat, List.range_succ]

theorem State.compareOutdated_tgh (s : State) : s.compareOutdated.tgh =
    { s.tgh with outdated := match s.tgh.beacon with
      | none => s.tgh.outdated
      | some (lineId, version) => s.isOutdated lineId version } := by
  unfold State.compareOutdated
  cases h : s.tgh.beacon with
  | none => simp
  | some b => rw [State.raiseIf_tgh]

theorem State.takePending_activates (s : State) : s.Activates s.takePending := by
  have may : s.mayActivate = true ↔ s.odu.motion = .standstill ∨ s.dka.active = none := by
    simp [State.mayActivate, State.still]
  have cond : (s.lps.pendingAct.isSome && s.lps.standby.state == .checked && s.mayActivate) = true ↔
      s.lps.pendingAct ≠ none ∧ s.lps.standby.state = .checked ∧
        (s.odu.motion = .standstill ∨ s.dka.active = none) := by
    rw [← may]
    simp [Option.isSome_iff_ne_none, and_assoc]
  refine ⟨fun h => ?_, fun a b c => ?_⟩
  · rw [State.takePending, if_neg (fun k => h (cond.1 k))]
    exact ⟨rfl, rfl, rfl⟩
  · rw [State.takePending, if_pos (cond.2 ⟨a, b, c⟩)]
    refine ⟨by simp [State.switchOver, Lps.switchOver, Lps.standby, crc32Init],
      by simp [State.switchOver, State.flush, wrapSucc], ?_⟩
    unfold State.switchOver
    rw [State.raise_tgh, State.compareOutdated_tgh]
    simp only [State.flush, State.isOutdated, Lps.switchOver_profile, decodeProfile, rawHeader,
      Memory.field_two, bne, Bool.decide_or, Bool.beq_eq_decide_eq, decide_not] <;> rfl

theorem State.takePending_tell (s : State) :
    s.takePending.pif = s.pif.tell (Notice.profile.when (s.takePending.lps.pendingAct ≠ s.lps.pendingAct)) := by
  unfold State.takePending
  split
  · next h =>
    have n : s.lps.pendingAct ≠ none := by
      intro e; simp [e] at h
    have e : s.switchOver.lps.pendingAct = none := by simp [State.switchOver, Lps.switchOver]
    rw [e, Notice.when, if_pos (fun x => n x.symm)]
    unfold State.switchOver
    rw [State.raise_tell]
    unfold State.compareOutdated
    split
    · rfl
    · rw [State.raiseIf_tell, Pif.tell_tell, Notice.when]
      split
      · show s.pif.tell _ = _
        rw [BitVec.or_self]
      · show s.pif.tell (0 ||| _) = _
        rw [show (0 : NoticeSet) ||| Notice.profile.bit = Notice.profile.bit from BitVec.zero_or]
  · rw [Notice.when, if_neg (by simp), Pif.tell_zero]

/-! ## The sides -/

theorem State.grantHolds_congr' {s t : State} (odu : t.odu = s.odu) (lps : t.lps = s.lps)
    (mode : t.ssu.mode = s.ssu.mode) (pst : t.pst = s.pst) (tgh : t.tgh.authority = s.tgh.authority)
    (holding : t.brm.holding = s.brm.holding) (level : t.brm.level = s.brm.level) (i : CarSide) :
    t.grantHolds i = s.grantHolds i := by
  funext c
  by_cases h : c = .holding
  · subst h; simp [State.grantHolds, holding, level]
  · exact State.grantHolds_congr odu lps mode pst tgh i c h

theorem State.retest_kept (i : CarSide) (s : State)
    (h : (s.drc.side i).granted = none ∨ s.grantFailure i = none) : s.retest i = s := by
  unfold State.retest State.withdrawIfGranted State.isGranted
  rcases h with h | h
  · split
    · rfl
    · simp [h]
  · simp [h]

theorem State.retest_withdrawn (i : CarSide) (s : State) (c : GrantCond)
    (h : (s.drc.side i).granted ≠ none) (k : s.grantFailure i = some c) :
    s.retest i = s.withdraw i (.cond c) := by
  unfold State.retest State.withdrawIfGranted State.isGranted
  simp [k, Option.isSome_iff_ne_none, h]

theorem State.withdraw_side (i : CarSide) (w : WithdrawCause) (s : State) :
    (s.withdraw i w).drc.side i = { s.drc.side i with granted := none, cause := some w } ∧
      ∀ d, doorSide d = i → (s.withdraw i w).drc.door d = s.relocks (s.drc.door d) := by
  refine ⟨by cases i <;> rfl, fun d e => ?_⟩
  rw [State.relocks_eq]
  cases i <;> cases d <;> simp [doorSide] at e <;> rfl

/-- A retest of a side leaves the other with its doors. -/
theorem State.retest_across (i j : CarSide) (n : i ≠ j) (s : State) :
    (s.retest i).drc.side j = s.drc.side j ∧
      (∀ d, doorSide d = j → (s.retest i).drc.door d = s.drc.door d) := by
  unfold State.retest
  split
  · exact ⟨rfl, fun _ _ => rfl⟩
  · unfold State.withdrawIfGranted
    split
    · refine ⟨by cases i <;> cases j <;> first | exact absurd rfl n | rfl, fun d e => ?_⟩
      cases i <;> cases j <;> cases d <;> simp [doorSide] at e n <;> rfl
    · exact ⟨rfl, fun _ _ => rfl⟩

theorem State.retest_tell (i : CarSide) (s : State) : (s.retest i).pif =
    s.pif.tell (Notice.door.when (((s.retest i).drc.side i).granted ≠ (s.drc.side i).granted)) := by
  by_cases h : (s.drc.side i).granted = none ∨ s.grantFailure i = none
  · rw [State.retest_kept i s h, Notice.when, if_neg (by simp), Pif.tell_zero]
  · rw [not_or] at h
    obtain ⟨c, e⟩ := Option.ne_none_iff_exists'.1 h.2
    rw [State.retest_withdrawn i s c h.1 e, (State.withdraw_side i _ s).1, Notice.when,
      if_pos (fun x => h.1 x.symm)]
    cases i <;> rfl

/-- The two sides tested. -/
def State.retests (s : State) : State := (s.retest .a).retest .b

theorem State.retests_side (s : State) (i : CarSide) :
    ((s.drc.side i).granted = none ∨ s.grantFailure i = none →
      s.retests.drc.side i = s.drc.side i ∧ ∀ d, doorSide d = i → s.retests.drc.door d = s.drc.door d) ∧
    (∀ c, (s.drc.side i).granted ≠ none → s.grantFailure i = some c →
      s.retests.drc.side i = { s.drc.side i with granted := none, cause := some (.cond c) } ∧
        ∀ d, doorSide d = i → s.retests.drc.door d = s.relocks (s.drc.door d)) := by
  have fail : (s.retest .a).grantFailure .b = s.grantFailure .b := by
    unfold State.grantFailure
    rw [State.grantHolds_congr' (s := s) (by simp) (by simp) (by simp) (by simp) (by simp) (by simp)
      (by simp)]
  have across := State.retest_across .a .b (by simp) s
  have back := State.retest_across .b .a (by simp) (s.retest .a)
  unfold State.retests
  cases i with
  | a =>
    rw [back.1]
    refine ⟨fun h => ?_, fun c h k => ?_⟩
    · refine ⟨by rw [State.retest_kept _ _ h], fun d e => ?_⟩
      rw [back.2 d e, State.retest_kept _ _ h]
    · have w := State.withdraw_side .a (.cond c) s
      refine ⟨by rw [State.retest_withdrawn _ _ c h k]; exact w.1, fun d e => ?_⟩
      rw [back.2 d e, State.retest_withdrawn _ _ c h k]; exact w.2 d e
  | b =>
    refine ⟨fun h => ?_, fun c h k => ?_⟩
    · rw [← across.1, ← fail] at h
      rw [State.retest_kept _ _ h]
      exact across
    · rw [← across.1] at h
      rw [← fail] at k
      have w := State.withdraw_side .b (.cond c) (s.retest .a)
      rw [State.retest_withdrawn _ _ c h k]
      refine ⟨w.1.trans (by rw [across.1]), fun d e => ?_⟩
      rw [w.2 d e, across.2 d e]
      have n : (s.retest .a).now = s.now := by simp
      have p : (s.retest .a).pst = s.pst := by simp
      simp only [State.relocks, State.par, n, p]

theorem State.retests_tell (s : State) : s.retests.pif = s.pif.tell
    (Notice.door.when (s.retests.drc.sideA.granted ≠ s.drc.sideA.granted ∨
      s.retests.drc.sideB.granted ≠ s.drc.sideB.granted)) := by
  have across := (State.retest_across .a .b (by simp) s).1
  have back := (State.retest_across .b .a (by simp) (s.retest .a)).1
  unfold State.retests
  rw [State.retest_tell, State.retest_tell, Pif.tell_tell, Notice.when_or]
  congr 1
  refine Notice.when_congr _ ?_
  simp only [Drc.side] at across back ⊢
  rw [across, back]

/-! ## The rows and the latch -/

/-- The cause that a row written gives the latch (R65). -/
def RowId.sets (before after : Rows) (r : RowId) : Option LatchCause :=
  if (after.get r).level = .emergency ∧ (before.get r).level ≠ .emergency then some (.row r) else none

theorem State.writeRow_latch (i : RowId) (v : Row) (s : State) : (s.writeRow i v).brm.latch =
    s.brm.latch.or (RowId.sets s.brm.rows (s.writeRow i v).brm.rows i) := by
  have get : (s.writeRow i v).brm.rows.get i = v := by rw [State.writeRow_get, if_pos rfl]
  unfold RowId.sets
  rw [get]
  unfold State.writeRow
  split
  · next h => rw [h, if_neg (by rintro ⟨a, b⟩; exact b a)]; simp
  · dsimp only
    split
    · unfold State.setLatch
      split
      · next k =>
        obtain ⟨x, e⟩ := Option.isSome_iff_exists.1 k
        dsimp only at e ⊢
        rw [e]; rfl
      · next k =>
        rw [State.raise_brm]
        have k : s.brm.latch = none := by simpa using k
        rw [k]; rfl
    · simp

theorem RowId.find_or (q : RowId → Bool) (r : RowId) (l : List RowId) :
    (((r :: l).find? q).map LatchCause.row) =
      (if q r then some (LatchCause.row r) else none).or ((l.find? q).map LatchCause.row) := by
  rw [List.find?_cons]
  cases q r <;> rfl

theorem State.writeRows_latch (s : State) : s.writeRows.brm.latch = s.brm.latch.or ((rowOrder.find? fun r =>
    decide ((s.writeRows.brm.rows.get r).level = .emergency ∧ (s.brm.rows.get r).level ≠ .emergency)).map
      .row) := by
  have one : ∀ (i : RowId) (v : Row) (x : State) (after : Rows), after.get i = v →
      x.brm.rows.get i = s.brm.rows.get i → (x.writeRow i v).brm.latch = x.brm.latch.or
        (if decide ((after.get i).level = .emergency ∧ (s.brm.rows.get i).level ≠ .emergency) then
          some (.row i) else none) := by
    intro i v x after a b
    rw [State.writeRow_latch, RowId.sets, State.writeRow_get, if_pos rfl, a, b]
    simp only [decide_eq_true_eq]
  simp only [rowOrder, RowId.find_or, List.find?_nil, Option.map_none, Option.or_none, ← Option.or_assoc]
  generalize ha : s.writeRows.brm.rows = after
  have g : ∀ j, after.get j = match j with
      | .cab => s.dka.cabRow
      | .supervision => s.supervisionRow
      | .doors => s.doorsRow
      | .radio => s.radioRow
      | .odometry => s.odometryRow
      | .loop => s.loopRow
      | .hold => s.holdRow := by
    intro j
    rw [← ha]
    unfold State.writeRows
    cases j <;> simp [State.writeRow_get]
  unfold State.writeRows
  rw [one .hold _ _ after (g .hold) (by simp [State.writeRow_get]),
    one .loop _ _ after (g .loop) (by simp [State.writeRow_get]),
    one .odometry _ _ after (g .odometry) (by simp [State.writeRow_get]),
    one .radio _ _ after (g .radio) (by simp [State.writeRow_get]),
    one .doors _ _ after (g .doors) (by simp [State.writeRow_get]),
    one .supervision _ _ after (g .supervision) (by simp [State.writeRow_get]),
    one .cab _ _ after (g .cab) rfl]

/-- The notices of the rows: BRAKE, where the latch has been set, and a latch that is set stands (R65). -/
def State.LatchTold (s t : State) : Prop :=
  t.pif = s.pif.tell (Notice.brake.when (t.brm.latch ≠ s.brm.latch)) ∧
    (s.brm.latch ≠ none → t.brm.latch = s.brm.latch)

theorem State.LatchTold.trans {s t u : State} (h : s.LatchTold t) (k : t.LatchTold u) : s.LatchTold u := by
  refine ⟨?_, fun n => ?_⟩
  · rw [k.1, h.1, Pif.tell_tell, Notice.when_or]
    congr 1
    refine Notice.when_congr _ ⟨?_, fun n => ?_⟩
    · rintro (a | a) e
      · by_cases c : s.brm.latch = none
        · by_cases d : t.brm.latch = none
          · exact a (d.trans c.symm)
          · exact a ((k.2 d).symm.trans e)
        · exact a (h.2 c)
      · by_cases c : t.brm.latch = none
        · by_cases d : s.brm.latch = none
          · exact a (e.trans (d.trans c.symm))
          · exact d ((h.2 d).symm.trans c)
        · exact a (k.2 c)
    · by_cases a : t.brm.latch = s.brm.latch
      · exact .inr (fun e => n (e.trans a))
      · exact .inl a
  · have a := h.2 n
    exact (k.2 (fun e => n (a.symm.trans e))).trans a

theorem State.writeRow_told (i : RowId) (v : Row) (s : State) : s.LatchTold (s.writeRow i v) := by
  have same : ∀ t : State, t.pif = s.pif → t.brm.latch = s.brm.latch → s.LatchTold t := by
    intro t a b
    refine ⟨?_, fun _ => b⟩
    rw [a, Notice.when, if_neg (fun n => n b), Pif.tell_zero]
  unfold State.writeRow
  split
  · exact same _ rfl rfl
  · dsimp only
    split
    · unfold State.setLatch
      split
      · exact same _ rfl rfl
      · next k =>
        have k : s.brm.latch = none := by simpa using k
        refine ⟨?_, fun n => absurd k n⟩
        rw [Notice.when, if_pos]
        · rfl
        · rw [State.raise_brm, k]; simp
    · exact same _ rfl rfl

theorem State.writeRows_told (s : State) : s.LatchTold s.writeRows := by
  unfold State.writeRows
  iterate 6 refine State.LatchTold.trans ?_ (State.writeRow_told _ _ _)
  exact State.writeRow_told _ _ _

/-! ## The level, the valves and the pinion brakes -/

theorem Level.max_rank (a b : Level) : (a.max b).rank = Nat.max a.rank b.rank := by
  unfold Level.max
  split
  · next h => exact (Nat.max_eq_right (Nat.le_of_lt h)).symm
  · next h => exact (Nat.max_eq_left (Nat.not_lt.1 h)).symm

theorem Level.max_mem (a b : Level) : a.max b = a ∨ a.max b = b := by
  unfold Level.max; split <;> simp

theorem Rows.highest_of (r : Rows) (l : List RowId) (a : Level) :
    let h := l.foldl (fun m i => m.max (r.get i).level) a
    a.rank ≤ h.rank ∧ (∀ i ∈ l, (r.get i).level.rank ≤ h.rank) ∧ (h = a ∨ ∃ i, (r.get i).level = h) := by
  induction l generalizing a with
  | nil => simp
  | cons i l ih =>
    have k := ih (a.max (r.get i).level)
    simp only [List.foldl_cons]
    dsimp only at k
    rw [Level.max_rank] at k
    refine ⟨Nat.le_trans (Nat.le_max_left _ _) k.1, ?_, ?_⟩
    · intro j m
      rcases List.mem_cons.1 m with e | m
      · rw [e]; exact Nat.le_trans (Nat.le_max_right _ _) k.1
      · exact k.2.1 j m
    · rcases k.2.2 with e | e
      · rcases Level.max_mem a (r.get i).level with m | m
        · exact .inl (e.trans m)
        · exact .inr ⟨i, (e.trans m).symm⟩
      · exact .inr e

/-- R64: the highest of the rows. -/
theorem Rows.highest_spec (r : Rows) : (∀ i, (r.get i).level.rank ≤ r.highest.rank) ∧
    (r.highest = .none ∨ ∃ i, (r.get i).level = r.highest) := by
  have h := Rows.highest_of r RowId.all .none
  exact ⟨fun i => h.2.1 i (by cases i <;> simp [RowId.all]), h.2.2⟩


theorem State.takeChoice_valves (s : State) : s.takeChoice.brm.valves =
    s.brm.valvesAfter s.valveChoice (s.now + s.par .tDead * 1000) := by
  unfold State.takeChoice Brm.valvesAfter
  rcases s.valveChoice with _ | c
  · rfl
  · cases c <;> rcases h : s.brm.valve <;>
      simp only [State.toLap, State.chooseOpen, State.openValve, Brm.valves, OpenValve.valve, h, State.startMs,
        reduceCtorEq, if_true, if_false] <;> (try split) <;> simp

theorem State.valveChoice_eq {s t : State} {l : Level} (level : t.brm.level = l)
    (target : t.brm.target = s.pressureAt l) (forced : t.brm.loopForced = s.brm.loopForced)
    (fault : t.brm.sensorFault = s.brm.sensorFault) (measured : t.brm.measured = s.brm.measured)
    (pst : t.pst = s.pst) : t.valveChoice = s.choiceAt l := by
  unfold State.valveChoice State.choiceAt
  rw [level, target, forced, fault, measured, State.par_congr pst]
  split
  · rfl
  · split
    · by_cases h : l = .none
      · subst h; rfl
      · rw [if_pos ((Level.hold_le l).2 h), if_neg h]
    · cases s.brm.measured with
      | none => rfl
      | some m => simp only [Option.map_some]; split <;> [rfl; split <;> rfl]

theorem State.refreshLevel_same (s : State) (h : s.brm.effective = s.brm.level) : s.refreshLevel = s := by
  rw [State.refreshLevel, if_pos h]

theorem State.refreshLevel_other (s : State) (h : s.brm.effective ≠ s.brm.level) :
    s.refreshLevel.brm.target = s.pressureAt s.brm.effective ∧
      s.refreshLevel.brm.ebrake = { s.brm.ebrake with latched := s.brm.effective.electric } ∧
      s.refreshLevel.brm.valves =
        s.brm.valvesAfter (s.choiceAt s.brm.effective) (s.now + s.par .tDead * 1000) := by
  have target : ∀ t : State, t.brm.effort = s.brm.effort → t.pst = s.pst →
      t.targetFor s.brm.effective = s.pressureAt s.brm.effective := by
    intro t a b
    rw [State.pressureAt_eq]; exact State.targetFor_congr a b _
  have step : ∀ (x : State) (e : Pwm), x.now = s.now → x.pst = s.pst →
      x.brm = { s.brm with
        level := s.brm.effective, target := s.pressureAt s.brm.effective, ebrake := e } →
      x.takeChoice.brm.valves =
        s.brm.valvesAfter (s.choiceAt s.brm.effective) (s.now + s.par .tDead * 1000) := by
    intro x e n p b
    rw [State.takeChoice_valves, State.valveChoice_eq (s := s) (l := s.brm.effective) (by rw [b])
      (by rw [b]) (by rw [b]) (by rw [b]) (by rw [b]) p, n, State.par_congr p, b]
    rfl
  rw [State.refreshLevel, if_neg h, State.retarget]
  refine ⟨?_, ?_, ?_⟩
  · rw [State.takeChoice_brm_target]; exact target _ rfl rfl
  · rw [State.takeChoice_brm_ebrake, Level.electric_eq]; rfl
  · refine step _ { s.brm.ebrake with latched := ebrakeDuty s.brm.effective } rfl rfl ?_
    rw [← target s rfl rfl]
    rfl

theorem State.refreshLevel_tell (s : State) : s.refreshLevel.pif =
    s.pif.tell (Notice.brake.when (s.brm.effective ≠ s.brm.level)) := by
  unfold State.refreshLevel
  split
  · next h => rw [Notice.when, if_neg (fun n => n h), Pif.tell_zero]
  · next h => rw [State.retarget_pif, State.raise_tell, Notice.when, if_pos h]

/-- A band brake and the notice of its proving, after its output has changed (R73). -/
theorem State.reprove_spec (i : Bogie) (s : State) :
    (s.reprove i).brm = s.brm.setBand i
        ((s.brm.bandOf i).reproved s.brm.energised (s.now + s.par .tPprove * 1000)) ∧
      (s.reprove i).pif = s.pif.tell
        (Notice.brake.when (((s.reprove i).brm.bandOf i).fault ≠ (s.brm.bandOf i).fault)) := by
  unfold State.reprove Band.reproved Band.disagrees
  dsimp only
  by_cases h : (s.brm.bandOf i).applied = s.brm.energised
  · simp only [h, beq_self_eq_true, if_true]
    refine ⟨by rw [State.startMs], ?_⟩
    rw [Notice.when, if_neg, Pif.tell_zero]
    cases i <;> exact fun n => n rfl
  · have e : ((s.brm.bandOf i).applied == s.brm.energised) = false := by simpa using h
    simp only [e, h, if_false, Bool.false_eq_true]
    refine ⟨by rw [State.raiseIf_brm], ?_⟩
    rw [State.raiseIf_tell]
    dsimp only
    congr 1
    refine Notice.when_congr _ ?_
    rw [State.raiseIf_brm]
    cases i <;> simp only [Brm.bandOf, Brm.setBand] <;> rw [Option.isSome_iff_ne_none] <;>
      exact ⟨Ne.symm, Ne.symm⟩

/-- R72, R79: the command, the outputs, the band brakes and the notice of their provings. -/
theorem State.refreshPinion_spec (s : State) :
    let out := decide (s.pinionCommand = .released) && !s.brm.loopForced
    s.refreshPinion.brm = { s.brm with
        pinion := s.pinionCommand, energised := out
        upper := if out = s.brm.energised then s.brm.upper
          else s.brm.upper.reproved out (s.now + s.par .tPprove * 1000)
        lower := if out = s.brm.energised then s.brm.lower
          else s.brm.lower.reproved out (s.now + s.par .tPprove * 1000) } ∧
      s.refreshPinion.pif = s.pif.tell (Notice.brake.when
        (s.refreshPinion.brm.upper.fault ≠ s.brm.upper.fault ∨
          s.refreshPinion.brm.lower.fault ≠ s.brm.lower.fault)) := by
  unfold State.refreshPinion
  dsimp only
  split
  · next h =>
    refine ⟨by simp [h], ?_⟩
    rw [Notice.when, if_neg (by simp), Pif.tell_zero]
  · next h =>
    generalize hx : ({ s with brm := { s.brm with
      pinion := s.pinionCommand
      energised := decide (s.pinionCommand = .released) && !s.brm.loopForced } } : State) = x
    have a := x.reprove_spec .upper
    have b := (x.reprove .upper).reprove_spec .lower
    have e : ((x.reprove .upper).reprove .lower).brm = { x.brm with
        upper := x.brm.upper.reproved x.brm.energised (x.now + x.par .tPprove * 1000)
        lower := x.brm.lower.reproved x.brm.energised (x.now + x.par .tPprove * 1000) } := by
      rw [b.1, a.1]
      simp [Brm.setBand, Brm.bandOf, State.par]
    refine ⟨by rw [e, ← hx]; simp [State.par], ?_⟩
    rw [b.2, a.2, Pif.tell_tell, Notice.when_or, ← hx]
    congr 1
    refine Notice.when_congr _ ?_
    rw [hx, e, a.1, ← hx]
    rfl

/-! ## The pass -/

theorem State.readersPass_split (s : State) : s.readersPass =
    s.passRows.refreshLevel.refreshPinion.refreshHolding.refreshProving := rfl

theorem State.passRows_split (s : State) :
    s.passRows = s.takePending.retests.refreshDoors.refreshOrphan.writeRows := rfl

theorem State.readersPass_drc (s : State) :
    s.readersPass.drc = { s.takePending.retests.drc with summary := s.takePending.retests.drc.allProven } := by
  rw [State.readersPass_split, State.passRows_split]
  simp only [State.refreshProving_drc, State.refreshHolding_drc, State.refreshPinion_drc,
    State.refreshLevel_drc, State.writeRows_drc, State.refreshOrphan_drc, State.refreshDoors_drc]

theorem Drc.door_summary (k : Drc) (b : Bool) (d : DoorId) :
    ({ k with summary := b } : Drc).door d = k.door d := by cases d <;> rfl

theorem Drc.side_summary (k : Drc) (b : Bool) (i : CarSide) :
    ({ k with summary := b } : Drc).side i = k.side i := by cases i <;> rfl

theorem State.firstFailing_with {s p : State} {l : Lps} {u : Ssu} {g : Tgh} (i : CarSide) (lps : l = p.lps)
    (ssu : u = p.ssu) (tgh : g = p.tgh) (odu : p.odu = s.odu) (pst : p.pst = s.pst) (brm : p.brm = s.brm) :
    State.firstFailing { s with lps := l, ssu := u, tgh := g } i = p.grantFailure i := by
  subst lps ssu tgh
  have e : State.grantHolds { s with lps := p.lps, ssu := p.ssu, tgh := p.tgh } i = p.grantHolds i :=
    State.grantHolds_congr' (t := { s with lps := p.lps, ssu := p.ssu, tgh := p.tgh }) odu.symm rfl rfl
      pst.symm rfl (by rw [brm]) (by rw [brm]) i
  rw [State.firstFailing_eq, State.grantFailure, e, State.grantFailure]

theorem State.readersPass_releases (s : State) : s.Releases s.readersPass := by
  obtain ⟨lps, ssu, tgh⟩ := s.readersPass_lps
  have drc := s.readersPass_drc
  have same : s.takePending.drc = s.drc := by simp
  have now : s.takePending.now = s.now := by simp
  have pst : s.takePending.pst = s.pst := by simp
  have fail : ∀ i, State.firstFailing
      { s with lps := s.readersPass.lps, ssu := s.readersPass.ssu, tgh := s.readersPass.tgh } i =
        s.takePending.grantFailure i := by
    intro i
    exact State.firstFailing_with i lps ssu tgh (by simp) (by simp) (by simp)
  have sides := s.takePending.retests_side
  have relocks : s.takePending.relocks = s.relocks := by
    funext d; simp only [State.relocks, State.par, now, pst]
  rw [relocks, same] at sides
  refine ⟨?_, ?_, ?_⟩
  · intro i p h
    have := (sides i).1 (by rw [← fail i]; exact h)
    rw [drc, Drc.side_summary]
    exact ⟨this.1, fun d e => (Drc.door_summary _ _ d).trans (this.2 d e)⟩
  · intro i c p h k
    have := (sides i).2 c h ((fail i).symm.trans k)
    rw [drc, Drc.side_summary]
    exact ⟨this.1, fun d e => (Drc.door_summary _ _ d).trans (this.2 d e)⟩
  · rw [drc]
    simp only [Drc.door_summary, Drc.allProven_iff]

/-- What stands in the brake manager before the level is taken: the rows and the latch are written, and no
more. -/
theorem State.passRows_only (s : State) :
    s.passRows.brm = { s.brm with rows := s.passRows.brm.rows, latch := s.passRows.brm.latch } := by
  rw [State.passRows_split]
  generalize hx : s.takePending.retests.refreshDoors.refreshOrphan = x
  have h : x.brm = s.brm := by rw [← hx]; simp [State.retests]
  have k : ∀ (i : RowId) (v : Row) (y : State), ∃ a b, (y.writeRow i v).brm = { y.brm with rows := a, latch := b } := by
    intro i v y
    unfold State.writeRow
    split
    · exact ⟨_, _, rfl⟩
    · dsimp only; split
      · unfold State.setLatch; split
        · exact ⟨_, _, rfl⟩
        · exact ⟨_, _, rfl⟩
      · exact ⟨_, _, rfl⟩
  have l : ∀ y : State, ∃ a b, y.writeRows.brm = { y.brm with rows := a, latch := b } := by
    intro y
    unfold State.writeRows
    obtain ⟨_, _, e₁⟩ := k .cab y.dka.cabRow y
    generalize y.writeRow .cab y.dka.cabRow = y₁ at *
    obtain ⟨_, _, e₂⟩ := k .supervision y.supervisionRow y₁
    generalize y₁.writeRow .supervision y.supervisionRow = y₂ at *
    obtain ⟨_, _, e₃⟩ := k .doors y.doorsRow y₂
    generalize y₂.writeRow .doors y.doorsRow = y₃ at *
    obtain ⟨_, _, e₄⟩ := k .radio y.radioRow y₃
    generalize y₃.writeRow .radio y.radioRow = y₄ at *
    obtain ⟨_, _, e₅⟩ := k .odometry y.odometryRow y₄
    generalize y₄.writeRow .odometry y.odometryRow = y₅ at *
    obtain ⟨_, _, e₆⟩ := k .loop y.loopRow y₅
    generalize y₅.writeRow .loop y.loopRow = y₆ at *
    obtain ⟨a, b, e₇⟩ := k .hold y.holdRow y₆
    exact ⟨a, b, by rw [e₇, e₆, e₅, e₄, e₃, e₂, e₁]⟩
  obtain ⟨a, b, e⟩ := l x
  rw [e, h]

theorem State.passRows_latch (s : State) : s.passRows.brm.latch = s.brm.latch.or ((rowOrder.find? fun r =>
    decide ((s.passRows.brm.rows.get r).level = .emergency ∧ (s.brm.rows.get r).level ≠ .emergency)).map
      .row) := by
  have h : s.takePending.retests.refreshDoors.refreshOrphan.brm = s.brm := by simp [State.retests]
  rw [State.passRows_split, State.writeRows_latch, h]

theorem State.readersPass_rows (s : State) : s.readersPass.brm.rows = s.passRows.brm.rows ∧
    s.readersPass.brm.latch = s.passRows.brm.latch := by
  rw [State.readersPass_split]
  generalize s.passRows = x
  simp

theorem State.readersPass_levels (s : State) : s.Levels s.readersPass := by
  have level := s.readersPass_settled.level
  obtain ⟨rows, latch⟩ := s.readersPass_rows
  refine ⟨by rw [rows, latch]; exact s.passRows_latch, fun h => ?_, fun h => ?_⟩
  · rw [level, Brm.effective, if_pos (Option.isSome_iff_ne_none.2 h)]
  · rw [level, Brm.effective, if_neg (by simp [h])]
    exact Rows.highest_spec _

/-- What the pass leaves of the level's step. -/
theorem State.readersPass_level (s : State) :
    s.readersPass.brm.level = s.passRows.brm.effective ∧
      s.readersPass.brm.target = s.passRows.refreshLevel.brm.target ∧
      s.readersPass.brm.ebrake = s.passRows.refreshLevel.brm.ebrake ∧
      s.readersPass.brm.valves = s.passRows.refreshLevel.brm.valves := by
  have e : s.passRows.refreshLevel.brm.level = s.passRows.brm.effective := State.refreshLevel_level _
  rw [State.readersPass_split, ← e]
  generalize s.passRows.refreshLevel = z
  simp [Brm.valves]

/-- The values of the level that stand before it is taken are those of the state. -/
theorem State.passRows_values (s : State) :
    s.passRows.brm.level = s.brm.level ∧ s.passRows.brm.target = s.brm.target ∧
      s.passRows.brm.ebrake = s.brm.ebrake ∧ s.passRows.brm.valves = s.brm.valves ∧
      (∀ l, s.passRows.pressureAt l = s.pressureAt l) ∧ (∀ l, s.passRows.choiceAt l = s.choiceAt l) ∧
      (∀ c n, s.passRows.brm.valvesAfter c n = s.brm.valvesAfter c n) := by
  have f := s.passRows_follows
  obtain ⟨r, l, e⟩ : ∃ r l, s.passRows.brm = { s.brm with rows := r, latch := l } := ⟨_, _, s.passRows_only⟩
  have pst := f.pst
  generalize s.passRows = x at *
  have p : ∀ l, x.pressureAt l = s.pressureAt l := by
    intro l
    rw [State.pressureAt_eq, State.pressureAt_eq]
    exact State.targetFor_congr (by rw [e]) pst l
  refine ⟨by rw [e], by rw [e], by rw [e], by rw [e]; rfl, p, ?_, ?_⟩
  · intro l
    simp only [State.choiceAt, p, State.par_congr pst, e]
  · intro c n
    rw [e]; rfl

theorem State.readersPass_taken (s : State) : s.Brakes s.readersPass := by
  have only := s.passRows_only
  have f := s.passRows_follows
  obtain ⟨level, target, ebrake, valves⟩ := s.readersPass_level
  obtain ⟨same, target', ebrake', valves', press, choice, after⟩ := s.passRows_values
  have settled := s.readersPass_settled
  have rf := s.readersPass_follows
  have active := rf.active
  have par : ∀ p, s.passRows.par p = s.par p := State.par_congr f.pst
  have inputs := rf.brm
  simp only [Brm.inputs, Prod.mk.injEq] at inputs
  have z : s.readersPass.brm.upper = s.passRows.refreshLevel.refreshPinion.brm.upper ∧
      s.readersPass.brm.lower = s.passRows.refreshLevel.refreshPinion.brm.lower ∧
      s.readersPass.brm.energised = s.passRows.refreshLevel.refreshPinion.brm.energised := by
    rw [State.readersPass_split]
    generalize s.passRows.refreshLevel = y
    simp
  have y : s.passRows.refreshLevel.brm.upper = s.brm.upper ∧
      s.passRows.refreshLevel.brm.lower = s.brm.lower ∧
      s.passRows.refreshLevel.brm.energised = s.brm.energised ∧
      s.passRows.refreshLevel.now = s.now ∧ s.passRows.refreshLevel.pst = s.pst := by
    have a : s.passRows.brm.upper = s.brm.upper := by rw [only]
    have b : s.passRows.brm.lower = s.brm.lower := by rw [only]
    have c : s.passRows.brm.energised = s.brm.energised := by rw [only]
    simp [a, b, c, f.now, f.pst]
  refine ⟨fun h => ?_, fun h => ?_, ?_, ?_, ?_⟩
  · rw [level, ← same] at h
    rw [target, ebrake, valves, State.refreshLevel_same _ h]
    exact ⟨target', ebrake', valves'⟩
  · rw [level] at h ⊢
    have o := State.refreshLevel_other s.passRows (by rw [same]; exact h)
    rw [target, ebrake, valves, o.1, o.2.1, o.2.2, press, choice, after, f.now, par, ebrake']
    exact ⟨rfl, rfl, rfl⟩
  · rw [settled.pinion, State.pinionCommand, ← rf.odu, ← inputs.2.2.1, ← active]
    simp only [State.still, Level.hold_le, beq_iff_eq]
    split
    · next h => exact ⟨fun _ => h, fun _ => rfl⟩
    · next h => exact ⟨(nomatch ·), fun e => absurd e h⟩
  · rw [settled.energised, inputs.2.2.2.2.2.2.2.2.1]
    simp
  · have p := (s.passRows.refreshLevel.refreshPinion_spec).1
    have e : s.passRows.refreshLevel.refreshPinion.brm.energised =
        (decide (s.passRows.refreshLevel.pinionCommand = .released) &&
          !s.passRows.refreshLevel.brm.loopForced) := by rw [p]
    have pu := congrArg Brm.upper p
    have pl := congrArg Brm.lower p
    dsimp only at pu pl
    rw [← e, y.2.2.1, y.1, y.2.2.2.1, State.par_congr y.2.2.2.2] at pu
    rw [← e, y.2.2.1, y.2.1, y.2.2.2.1, State.par_congr y.2.2.2.2] at pl
    intro b
    cases b with
    | upper => simp only [Brm.bandOf]; rw [z.1, z.2.2, pu]
    | lower => simp only [Brm.bandOf]; rw [z.2.1, z.2.2, pl]

theorem State.readersPass_finds (s : State) : s.Finds s.readersPass := by
  have settled := s.readersPass_settled
  have rf := s.readersPass_follows
  have par : ∀ p, s.readersPass.par p = s.par p := State.par_congr rf.pst
  have inputs := rf.brm
  simp only [Brm.inputs, Prod.mk.injEq] at inputs
  obtain ⟨measured, fault, -, -, -, -, -, -, forced, -⟩ := inputs
  have odu := rf.odu
  have now := rf.now
  -- what the two findings are made from, and of
  have made : (s.readersPass.brm.holding =
        if s.readersPass.brm.holdSeen = s.brm.holdSeen then s.brm.holding else s.readersPass.holdingNow) ∧
      (s.readersPass.brm.proving =
        if s.readersPass.brm.proveSeen = s.brm.proveSeen then s.brm.proving else s.readersPass.provingCond) ∧
      (s.readersPass.brm.proveTimer =
        if s.readersPass.brm.proving = s.brm.proving then s.brm.proveTimer
        else if s.readersPass.brm.proving then s.readersPass.startMs (s.readersPass.par .tFprove) else none) := by
    have before : s.passRows.refreshLevel.refreshPinion.brm.holding = s.brm.holding ∧
        s.passRows.refreshLevel.refreshPinion.brm.holdSeen = s.brm.holdSeen ∧
        s.passRows.refreshLevel.refreshPinion.brm.proving = s.brm.proving ∧
        s.passRows.refreshLevel.refreshPinion.brm.proveSeen = s.brm.proveSeen ∧
        s.passRows.refreshLevel.refreshPinion.brm.proveTimer = s.brm.proveTimer := by
      obtain ⟨-, -, -, h₁, h₂, h₃, h₄, h₅⟩ := s.passRows_brm
      simp [h₁, h₂, h₃, h₄, h₅]
    rw [State.readersPass_split]
    generalize s.passRows.refreshLevel.refreshPinion = y at before ⊢
    obtain ⟨h₁, h₂, h₃, h₄, h₅⟩ := before
    have hi : y.refreshHolding.refreshProving.holdInputs = y.holdInputs := rfl
    have pi : y.refreshHolding.refreshProving.brm.proveInputs = y.brm.proveInputs := rfl
    rw [State.holdingNow_congr hi rfl, State.provingCond_congr pi rfl]
    refine ⟨?_, ?_, ?_⟩
    · show (if y.brm.holdSeen = y.holdInputs then _ else _) = if y.holdInputs = _ then _ else _
      rw [h₁, h₂]; simp only [eq_comm]
    · show (if y.brm.proveSeen = y.brm.proveInputs then y.brm.proving else y.provingCond) =
        if y.brm.proveInputs = _ then _ else _
      rw [h₃, h₄]; simp only [eq_comm]
    · rw [← h₃, ← h₅]; rfl
  obtain ⟨hold, prove, timer⟩ := made
  refine ⟨?_, fun h => by rw [hold, if_pos h], fun h r => ?_, fun h r => ?_, ?_,
    fun h => by rw [prove, if_pos h], fun h => ?_, ?_⟩
  · rw [settled.holding, State.holdInputs, odu, measured]
  · rw [hold, if_neg h, State.holdingNow, odu, r]; simp [and_assoc]
  · rw [hold, if_neg h, State.holdingNow, odu, r, measured, par, par]
    cases s.brm.measured <;> simp
  · rw [settled.proving, Brm.proveInputs, forced, fault, measured]
  · rw [prove, if_neg h, State.provingCond, forced, fault, measured, par, par]
    cases s.brm.measured <;> simp [and_assoc]
  · rw [timer, State.startMs, now, par]

theorem State.retest_summary (i : CarSide) (s : State) : (s.retest i).drc.summary = s.drc.summary := by
  unfold State.retest
  split
  · rfl
  · unfold State.withdrawIfGranted
    split
    · cases i <;> rfl
    · rfl

theorem State.refreshDoors_tell (s : State) : s.refreshDoors.pif =
    s.pif.tell (Notice.door.when (s.drc.allProven ≠ s.drc.summary)) := by
  rw [State.refreshDoors, State.raiseIf_tell]
  exact congrArg (fun m => s.pif.tell m) (Notice.when_congr _ bne_iff_ne)

theorem State.noticesOf_eq (s t : State) : s.noticesOf t =
    Notice.brake.when (t.brm.level ≠ s.brm.level ∨ t.brm.latch ≠ s.brm.latch ∨
      t.brm.upper.fault ≠ s.brm.upper.fault ∨ t.brm.lower.fault ≠ s.brm.lower.fault) |||
    Notice.door.when (t.drc.sideA.granted ≠ s.drc.sideA.granted ∨
      t.drc.sideB.granted ≠ s.drc.sideB.granted ∨ t.drc.summary ≠ s.drc.summary) |||
    Notice.profile.when (t.lps.pendingAct ≠ s.lps.pendingAct) := rfl

/-- The notices of a pass. -/
theorem State.readersPass_tell (s : State) : s.readersPass.pif = s.pif.tell (s.noticesOf s.readersPass) := by
  have values := s.passRows_values
  have rows := s.readersPass_rows
  have level := s.readersPass_level
  have drc := s.readersPass_drc
  have lps := (s.readersPass_lps).1
  have same : s.takePending.retests.drc.summary = s.drc.summary := by
    rw [State.retests, State.retest_summary, State.retest_summary, s.takePending_drc]
  have side : s.takePending.drc = s.drc := by simp
  -- the kinds, reader by reader
  have profile := s.takePending_tell
  have sides := s.takePending.retests_tell
  have doors : s.takePending.retests.refreshDoors.pif = s.takePending.retests.pif.tell
      (Notice.door.when (s.readersPass.drc.summary ≠ s.drc.summary)) := by
    rw [State.refreshDoors_tell, same, congrArg Drc.summary drc]
  have orphan : s.takePending.retests.refreshDoors.refreshOrphan.pif =
      s.takePending.retests.refreshDoors.pif := by simp
  have latch := (s.takePending.retests.refreshDoors.refreshOrphan.writeRows_told).1
  have before : s.takePending.retests.refreshDoors.refreshOrphan.brm.latch = s.brm.latch := by
    simp [State.retests]
  have higher := s.passRows.refreshLevel_tell
  have bands := (s.passRows.refreshLevel.refreshPinion_spec).2
  have faults : s.passRows.refreshLevel.brm.upper = s.brm.upper ∧
      s.passRows.refreshLevel.brm.lower = s.brm.lower := by
    have a : s.passRows.brm.upper = s.brm.upper := by rw [s.passRows_only]
    have b : s.passRows.brm.lower = s.brm.lower := by rw [s.passRows_only]
    simp [a, b]
  have left : s.readersPass.pif = s.passRows.refreshLevel.refreshPinion.pif ∧
      s.readersPass.brm.upper = s.passRows.refreshLevel.refreshPinion.brm.upper ∧
      s.readersPass.brm.lower = s.passRows.refreshLevel.refreshPinion.brm.lower := by
    rw [State.readersPass_split]
    generalize s.passRows.refreshLevel = y
    simp
  rw [left.1, bands, higher, State.passRows_split, latch, orphan, doors, sides, profile, before,
    ← State.passRows_split, ← rows.2, faults.1, faults.2, ← left.2.1, ← left.2.2, values.1, ← level.1, side,
    ← lps]
  have da : s.takePending.retests.drc.sideA.granted = s.readersPass.drc.sideA.granted := by rw [drc]
  have db : s.takePending.retests.drc.sideB.granted = s.readersPass.drc.sideB.granted := by rw [drc]
  rw [da, db]
  generalize s.readersPass = t
  simp only [Pif.tell_tell]
  refine congrArg (fun m => s.pif.tell m) ?_
  rw [State.noticesOf_eq]
  simp only [← Notice.when_or]
  ac_rfl

/-- R121: the orphan timer that the end of an event leaves. -/
theorem State.orphanNext_eq (s : State) : s.orphanNext =
    if s.odu.motion = .standstill ∧ s.dka.active.any (fun d => decide ((s.dka.cab d).fresh = none)) = true then
      some (s.dka.orphan.getD (s.now + s.par .tOrphan * 1000))
    else none := by
  have c : s.isOrphan = true ↔ s.odu.motion = .standstill ∧
      s.dka.active.any (fun d => decide ((s.dka.cab d).fresh = none)) = true := by
    rw [State.isOrphan, Bool.and_eq_true, State.still_iff, Dka.activeCab]
    cases s.dka.active with
    | none => simp
    | some d => simp [CabRecord.isFresh]
  unfold State.orphanNext
  simp only [c]
  split
  · cases s.dka.orphan <;> rfl
  · rfl

/-- One pass of the readers is as the rules say. -/
theorem State.readersPass_reads (s : State) : s.Reads s.readersPass := by
  have f := s.readersPass_follows
  have l := s.readersPass_lps
  have p := s.readersPass_settled
  have a := s.takePending_activates
  have tell := s.readersPass_tell
  have orphan := s.readersPass_orphan
  have inputs := f.brm
  simp only [Brm.inputs, Prod.mk.injEq] at inputs
  refine ⟨?_, ?_, ?_, s.readersPass_releases, by rw [orphan, State.orphanNext_eq],
    State.rowsTrue_of p.rows.cab p.rows.supervision p.rows.doors p.rows.loop s.readersPass_hold p.summary,
    State.lineRowsTrue_of p.rows.radio p.rows.odometry, s.readersPass_levels, s.readersPass_taken,
    s.readersPass_finds, tell⟩
  · have d := f.dka
    have odu := f.odu
    have vrl := f.vrl
    have pst := f.pst
    have now := f.now
    have pending := f.pending
    clear f l p a tell orphan inputs
    generalize s.readersPass = t at *
    obtain ⟨_, _, _, _, _, k, _, _, _, _, _, _⟩ := t
    simp only at d odu vrl pst now pending
    subst odu vrl pst now pending
    simp only [Dka.rest, Dka.mk.injEq] at d
    congr 1
    cases k
    simp_all
  · have dep : s.readersPass.brm.departure = s.brm.departure ∧
        s.readersPass.brm.required = s.brm.required ∧ s.readersPass.brm.stallTimer = s.brm.stallTimer ∧
        s.readersPass.brm.traction = s.brm.traction := by simp [State.readersPass, State.writeRows]
    clear f l p a tell orphan
    generalize s.readersPass = t at *
    generalize t.brm = b at *
    cases b
    simp_all
  · refine ⟨fun h => ?_, fun h k m => ?_⟩
    · rw [l.1, l.2.1, l.2.2]; exact a.waits h
    · have := a.taken h k m
      rw [l.1, l.2.1, l.2.2]
      exact this

/-! ## The departure and the traction output -/

/-- An evaluation of the departure is as the rules say. -/
theorem State.refreshDeparture_departs (s : State) : s.Departs s.refreshDeparture := by
  have may : s.mayDepart = true ↔ s.MayDepart := by
    rw [State.mayDepart, State.MayDepart, ← State.demand_eq, Bool.and_eq_true, Bool.and_eq_true,
      Bool.and_eq_true, State.still_iff, ← State.gateButLevel_iff, beq_iff_eq, decide_eq_true_eq, and_assoc,
      and_assoc]
  have must : s.mustAbandon = true ↔ s.MustAbandon := by
    rw [State.mustAbandon, State.MustAbandon, ← State.demand_eq, Bool.or_eq_true, Bool.or_eq_true,
      State.gateButLevel_iff, decide_eq_true_eq, Level.hold_lt, beq_iff_eq, or_assoc, Bool.not_eq_true',
      Bool.not_eq_true]
  have reached : s.effortReached = true ↔ s.EffortReached := by
    rw [State.effortReached, State.EffortReached, Bool.and_eq_true, decide_eq_true_eq]
  have lasts : (!s.still || s.dka.supplied == 0 || !s.gateOpen) = true ↔
      ¬(s.odu.motion = .standstill ∧ 0 < s.demand ∧ s.Gate) := by
    rw [← State.demand_eq, State.gate_iff, ← State.still_iff, Bool.or_eq_true, Bool.or_eq_true, beq_iff_eq,
      Bool.not_eq_true', Bool.not_eq_true', Nat.pos_iff_ne_zero, not_and_or, not_and_or, or_assoc,
      Bool.not_eq_true, Bool.not_eq_true, not_ne_iff]
  have needed := s.neededEffort_eq
  -- PULLING and STALLED are evaluated alike
  have under : s.brm.departure = .pulling ∨ s.brm.departure = .stalled → s.refreshDeparture =
      if s.mustAbandon then { s with brm := { s.brm with departure := .idle, stallTimer := none } }
      else if s.effortReached then { s with brm := { s.brm with departure := .released, stallTimer := none } }
      else s := by
    unfold State.refreshDeparture
    rintro (h | h) <;> rw [h]
  refine ⟨fun h k => ?_, fun h k => ?_, fun h k => ?_, fun h k r => ?_, fun h k r => ?_, fun h k => ?_,
    fun h k => ?_⟩
  · rw [State.refreshDeparture, h, State.withDeparture, needed]; exact if_pos (may.2 k)
  · rw [State.refreshDeparture, h]; exact if_neg (fun e => k (may.1 e))
  · rw [under h, if_pos (must.2 k)]; rfl
  · rw [under h, if_neg (fun e => k (must.1 e)), if_pos (reached.2 r)]; rfl
  · rw [under h, if_neg (fun e => k (must.1 e)), if_neg (fun e => r (reached.1 e))]
  · rw [State.refreshDeparture, h]; exact if_neg (fun e => (lasts.1 e) k)
  · rw [State.refreshDeparture, h]; exact if_pos (lasts.2 k)

/-- The traction output is driven as the rules say. -/
theorem State.refreshTraction_drives (s : State) : s.Drives s.refreshTraction := by
  unfold State.refreshTraction
  refine ⟨fun h => ?_, fun h => ?_⟩
  · rw [if_pos (s.gate_iff.1 h), State.demand_eq]
  · rw [if_neg (fun e => h (s.gate_iff.2 e))]
    split <;> rfl

theorem State.settle_passes (n : Nat) (s : State) : s.Passes n (s.settle n) := by
  induction n generalizing s with
  | zero => rfl
  | succ n ih =>
    exact ⟨s.readersPass, s.settlePass, s.readersPass_reads, s.readersPass.refreshDeparture_departs,
      ih s.settlePass⟩

/-- What the end of an event makes of the state, pass by pass. -/
theorem State.finish_followedBy (u : State) : u.FollowedBy u.finish :=
  ⟨u.settle 6, (u.settle 6).readersPass, State.settle_passes 6 u, State.readersPass_reads _,
    State.refreshTraction_drives _⟩

end Sys2Proof.Machine
end

