-- ==== Sys2Proof/Laws/Ends.lean ====
section
/-! SUPPORT. The end of an event, said once: what it may change (`finish_handedOn`), and with how it leaves the
readers and how each of them follows, `finish_ends`. -/

namespace Sys2Proof.Machine

/-! ## The latch -/

/-- The latch is as it was, or has been set by a row that stands at EMERGENCY. -/
def State.LatchKept (s x : State) : Prop :=
  x.brm.latch = s.brm.latch ∨ (s.brm.latch = none ∧ ∃ r,
    x.brm.latch = some (.row r) ∧ (x.brm.rows.get r).level = .emergency)

theorem State.readersPass_latchKept (s : State) : s.LatchKept s.readersPass := by
  have h := s.readersPass_levels.latch
  cases k : s.brm.latch with
  | some c => exact .inl (by rw [h, k]; rfl)
  | none =>
    rw [k, Option.none_or] at h
    cases e : rowOrder.find? fun r => decide ((s.readersPass.brm.rows.get r).level = .emergency ∧
        (s.brm.rows.get r).level ≠ .emergency) with
    | none => rw [e] at h; exact .inl (h.trans k.symm)
    | some r =>
      rw [e] at h
      have m := List.find?_some e
      simp only [decide_eq_true_eq] at m
      exact .inr ⟨k, r, h, m.1⟩

theorem Row.hold_level {s : State} (h : s.brm.rows.hold = s.holdRow) : s.brm.rows.hold.level ≠ .emergency := by
  rw [h, State.holdRow]
  split
  · simp [Row.at]
  · split <;> simp [Row.at, Row.clear]

/-- Doors that a pass has left do not move again while the car is not at STANDSTILL. -/
theorem State.PassSettled.doors {x : State} (h : x.PassSettled) (moving : x.still = false) :
    x.readersPass.drc.summary = x.drc.summary := by
  have r := x.readersPass_releases
  have free : ∀ i, (x.drc.side i).granted = none := by
    intro i
    by_contra g
    have s := h.grants i (Option.isSome_iff_ne_none.2 g) .standstill (by simp)
    rw [State.grantHolds, moving] at s
    cases s
  have doors : ∀ d, x.readersPass.drc.door d = x.drc.door d := fun d =>
    (r.kept (doorSide d) (.inl (free _))).2 d rfl
  have a := r.summary
  have b := x.drc.allProven_iff
  simp only [doors] at a
  rw [← h.summary] at b
  exact Bool.eq_iff_iff.2 (a.trans b.symm)

theorem Dka.cabRow_congr {k l : Dka} (h : l.rest = k.rest) : l.cabRow = k.cabRow := by
  have a := congrArg Dka.active h
  have u := congrArg Dka.cabU h
  have v := congrArg Dka.cabL h
  simp only [Dka.rest] at a u v
  have b : l.activeCab = k.activeCab := by
    simp only [Dka.activeCab, a]
    cases k.active with
    | none => rfl
    | some d => cases d <;> simp [Dka.cab, u, v]
  rw [Dka.cabRow, Dka.cabRow, b]

/-- A row that a pass has left at EMERGENCY is there after the next one. -/
theorem State.PassSettled.emergency {x : State} (h : x.PassSettled) (hold : x.brm.rows.hold.level ≠ .emergency)
    (lps : x.takePending = x) (r : RowId) (e : (x.brm.rows.get r).level = .emergency) :
    (x.readersPass.brm.rows.get r).level = .emergency := by
  have k := x.readersPass_settled.rows
  have f := x.readersPass_follows
  have l := x.readersPass_lps
  rw [lps] at l
  have inputs := f.brm
  simp only [Brm.inputs, Prod.mk.injEq] at inputs
  have doors := h.doors
  generalize x.readersPass = y at *
  cases r with
  | cab =>
    simp only [Rows.get] at e ⊢
    rw [k.cab, Dka.cabRow_congr f.dka, ← h.rows.cab]; exact e
  | supervision =>
    simp only [Rows.get] at e ⊢
    rw [k.supervision, State.supervisionRow_congr l.2.1, ← h.rows.supervision]; exact e
  | doors =>
    simp only [Rows.get] at e ⊢
    have moving : x.still = false := by
      rw [h.rows.doors, State.doorsRow] at e
      by_contra s
      simp only [Bool.not_eq_false] at s
      split at e <;> simp [Row.clear, Row.at] at e
    rw [k.doors, State.doorsRow, doors moving, State.still, f.odu, ← State.still, ← State.doorsRow,
      ← h.rows.doors]
    exact e
  | radio =>
    simp only [Rows.get] at e ⊢
    rw [k.radio, State.radioRow_congr l.2.2 f.odu f.pst, ← h.rows.radio]; exact e
  | odometry =>
    simp only [Rows.get] at e ⊢
    rw [k.odometry, State.odometryRow_congr f.odu f.pst l.2.1, ← h.rows.odometry]; exact e
  | loop =>
    simp only [Rows.get] at e ⊢
    rw [k.loop, State.loopRow_congr inputs.2.2.2.2.2.2.2.1, ← h.rows.loop]; exact e
  | hold => exact absurd e hold

/-! ## The sides -/

theorem State.causeOf_iff (s : State) (i : CarSide) (c : GrantCond) : s.CauseOf i c ↔
    ∃ held : Bool, (GrantCond.all.find? fun d => !(if d = .holding then held else s.grantHolds i d)) = some c := by
  unfold State.CauseOf
  refine exists_congr fun held => ?_
  rw [State.grantTable_eq, List.map_map, List.find?_map, Option.map_map]
  have e : (fun d : GrantCond => !(if d = .holding then held else s.grantHolds i d)) =
      ((fun x : GrantCond × Bool => !x.2) ∘
        ((fun x : GrantCond × Bool => (x.1, if x.1 = .holding then held else x.2)) ∘
          fun c => (c, s.grantHolds i c))) := rfl
  rw [← e]
  cases GrantCond.all.find? _ <;> simp

theorem State.CauseOf.congr {s t : State} {i : CarSide} {c : GrantCond} (h : s.CauseOf i c)
    (odu : t.odu = s.odu) (lps : t.lps = s.lps) (mode : t.ssu.mode = s.ssu.mode) (pst : t.pst = s.pst)
    (tgh : t.tgh.authority = s.tgh.authority) : t.CauseOf i c := by
  obtain ⟨held, e⟩ := (s.causeOf_iff i c).1 h
  refine (t.causeOf_iff i c).2 ⟨held, ?_⟩
  rw [← e]
  congr 1
  funext d
  split
  · rfl
  · next n => rw [State.grantHolds_congr odu lps mode pst tgh i d n]

theorem State.causeOf_failure {s : State} {i : CarSide} {c : GrantCond} (h : s.grantFailure i = some c) :
    s.CauseOf i c := by
  refine (s.causeOf_iff i c).2 ⟨s.grantHolds i .holding, ?_⟩
  rw [← h, State.grantFailure]
  congr 1
  funext d
  split
  · next e => rw [e]
  · rfl

/-- One pass withdraws a side for the cause that its end shows. -/
theorem State.readersPass_sideKept (s : State) (i : CarSide) : s.SideKept s.readersPass i := by
  obtain ⟨lps, ssu, tgh⟩ := s.readersPass_lps
  have f := s.readersPass_follows
  have r := s.readersPass_releases
  have fail := State.firstFailing_with (s := s) (p := s.takePending) i lps ssu tgh (by simp) (by simp) (by simp)
  by_cases g : (s.drc.side i).granted = none
  · exact .inl (r.kept i (.inl g))
  · cases e : s.takePending.grantFailure i with
    | none => exact .inl (r.kept i (.inr (fail.trans e)))
    | some c =>
      have w := r.withdrawn i c g (fail.trans e)
      refine .inr ⟨g, c, ?_, w⟩
      exact (State.causeOf_failure e).congr (by rw [f.odu]; simp) lps (by rw [ssu]) (by rw [f.pst]; simp)
        (by rw [tgh])

/-! ## Every state that the passes of an event reach -/

/-- A state that the passes of an event of `s` have reached. -/
structure State.Reached (s x : State) : Prop where
  follows : s.Follows x
  settled : x.PassSettled
  hold : x.brm.rows.hold.level ≠ .emergency
  lps : x.takePending = x
  latch : s.LatchKept x
  sides : ∀ i, s.SideKept x i

theorem State.readersPass_reached (s : State) : s.Reached s.readersPass :=
  ⟨s.readersPass_follows, s.readersPass_settled, Row.hold_level s.readersPass_hold,
    State.takePending_settled s.readersPass_follows.odu s.readersPass_follows.active s.readersPass_lps.1,
    s.readersPass_latchKept, s.readersPass_sideKept⟩

theorem State.SideKept.congr {s x y : State} {i : CarSide} (h : s.SideKept x i) (drc : y.drc = x.drc)
    (odu : y.odu = x.odu) (lps : y.lps = x.lps) (ssu : y.ssu = x.ssu) (pst : y.pst = x.pst)
    (tgh : y.tgh = x.tgh) : s.SideKept y i := by
  rcases h with h | ⟨g, c, a, b⟩
  · exact .inl (by rw [drc]; exact h)
  · exact .inr ⟨g, c, a.congr odu lps (by rw [ssu]) pst (by rw [tgh]), by rw [drc]; exact b⟩

theorem State.Reached.departure {s x : State} (h : s.Reached x) : s.Reached x.refreshDeparture := by
  refine ⟨h.follows.trans x.refreshDeparture_follows, h.settled.departure, by simpa using h.hold, ?_, ?_,
    fun i => (h.sides i).congr (by simp) (by simp) (by simp) (by simp) (by simp) (by simp)⟩
  · refine State.takePending_settled (s := x) (by simp) (by simp) ?_
    rw [h.lps]; simp
  · simpa [State.LatchKept] using h.latch

theorem State.Reached.pass {s x : State} (h : s.Reached x) : s.Reached x.readersPass := by
  have r := x.readersPass_reached
  have l := x.readersPass_lps
  rw [h.lps] at l
  refine ⟨h.follows.trans r.follows, r.settled, r.hold, r.lps, ?_, fun i => ?_⟩
  · rcases h.latch with a | ⟨a, q, b, c⟩
    · rcases r.latch with d | ⟨d, e⟩
      · exact .inl (d.trans a)
      · exact .inr ⟨a.symm.trans d, e⟩
    · refine .inr ⟨a, q, ?_, h.settled.emergency h.hold h.lps q c⟩
      rcases r.latch with d | ⟨d, -⟩
      · exact d.trans b
      · rw [b] at d; cases d
  · rcases r.sides i with ⟨a, b⟩ | ⟨g, c, w, a, b⟩
    · rcases h.sides i with ⟨d, e⟩ | ⟨g, c, w, d, e⟩
      · exact .inl ⟨a.trans d, fun k m => (b k m).trans (e k m)⟩
      · exact .inr ⟨g, c, w.congr r.follows.odu l.1 (by rw [l.2.1]) r.follows.pst (by rw [l.2.2]),
          a.trans d, fun k m => (b k m).trans (e k m)⟩
    · rcases h.sides i with ⟨d, e⟩ | ⟨_, _, _, d, _⟩
      · rw [d] at g a
        refine .inr ⟨g, c, w, a, fun k m => ?_⟩
        rw [b k m, e k m]
        simp only [State.relocks, State.par, h.follows.now, h.follows.pst]
      · rw [d] at g; exact absurd rfl g

theorem State.settle_reached (n : Nat) (s : State) {x : State} (h : s.Reached x) : s.Reached (x.settle n) := by
  induction n generalizing x with
  | zero => exact h
  | succ n ih => rw [State.settle_succ]; exact ih h.pass.departure

theorem State.read_reached (s : State) : s.Reached s.read := by
  have h : s.Reached s.settlePass := s.readersPass_reached.departure
  exact (State.settle_reached 5 s h).pass

/-! ## The end of an event -/

/-- What the end of an event may change. -/
theorem State.finish_handedOn (s : State) : s.HandedOn s.finish := by
  have f := State.finish_follows s
  have l := s.read_lps
  have o := s.read_orphan
  have r := s.read_reached
  refine ⟨f.odu, f.vrl, f.pst, f.now, f.pending, ?_, ?_, ?_, ?_, f.brm, ?_, s.finish_brakes, fun i => ?_, f.pif⟩
  · rw [State.finish_eq, State.refreshTraction_lps]; exact l.1
  · rw [State.finish_eq, State.refreshTraction_ssu]; exact l.2.1
  · rw [State.finish_eq, State.refreshTraction_tgh]; exact l.2.2
  · have h : s.finish.dka.orphan = s.orphanNext := by
      rw [State.finish_eq, State.refreshTraction_dka]; exact o
    rw [← h]
    have d := f.dka
    generalize s.finish.dka = x at d ⊢
    cases x
    simp only [Dka.rest, Dka.mk.injEq] at d
    simp [d]
  · rw [State.finish_eq]; simpa [State.LatchKept] using r.latch
  · rw [State.finish_eq]
    exact (r.sides i).congr (by simp) (by simp) (by simp) (by simp) (by simp) (by simp)

/-- The end of an event that has made `u` of the state. -/
theorem State.finish_ends (u : State) : u.Ends u.finish :=
  ⟨u.finish_handedOn, u.finish_settled, u.finish_followedBy⟩

/-- A command that makes `u` of the state and hands it on. -/
theorem exec_ends {c : Instr} {s u : State} (h : exec c s = .next u.finish) :
    ∃ t, exec c s = .next t ∧ u.Ends t := ⟨_, h, u.finish_ends⟩

end Sys2Proof.Machine
end

