-- ==== Sys2Proof/Laws/Requests.lean ====
section
/-! SUPPORT. Requests, said once: a refused request changes nothing but the result cell, and an accepted
one hands its effect on before the result is written. -/

namespace Sys2Proof.Machine

@[simp] theorem State.setPort_port (s : State) (p : Port) (q : PortState) : (s.setPort p q).port p = q := by
  cases p <;> rfl

@[simp] theorem State.setPort_setPort (s : State) (p : Port) (q r : PortState) :
    (s.setPort p q).setPort p r = s.setPort p r := by
  cases p <;> rfl

/-- A result overwrites the request it answers (R166). -/
theorem State.place_writeResult (s : State) (k : ReqKind) (p : Port) (a b c : Word) (r : ResultCode)
    (d : Option Word) : (s.place p k a b).writeResult p c r d = s.writeResult p c r d := by
  cases p <;> rfl

@[simp] theorem State.refuse_finished (s : State) (r : ResultCode) (h : r ≠ .accepted) :
    (s.refuse r).finished = s.refuse r := by
  simp [Answer.finished, State.refuse, h]

@[simp] theorem State.accept_finished (s : State) : s.accept.finished = s.finish.accept := rfl

/-- A request that its port is not listed for (R166). -/
theorem State.serve_not_permitted {s : State} {k : ReqKind} {p : Port} (a b : Word)
    (h : k.permits p = false) : s.serve k p a b = s.writeResult p k.code .notPermitted none := by
  simp [State.serve, h]

/-- A request refused with nothing else changed. -/
theorem State.serve_refused {s : State} {k : ReqKind} {p : Port} {a b : Word} {r : ResultCode}
    (h : k.permits p = true)
    (e : (s.place p k a b).answer k p a b = (s.place p k a b).refuse r) :
    s.serve k p a b = s.writeResult p k.code r none := by
  simp only [State.serve, h, if_true, e]
  exact State.place_writeResult s k p a b k.code r none

/-- A request accepted whose effect is handed on. -/
theorem State.serve_accepted {s u : State} {k : ReqKind} {p : Port} {a b : Word}
    (h : k.permits p = true)
    (e : (s.place p k a b).answer k p a b = u.finish.accept) :
    u.Answered (s.serve k p a b) p k.code .accepted := by
  refine ⟨u.finish, u.finish_ends, ?_⟩
  simp only [State.serve, h, if_true, e, State.accept]

/-- A request accepted whose effect nothing follows. -/
theorem State.serve_accepted_only {s u : State} {k : ReqKind} {p : Port} {a b : Word}
    (h : k.permits p = true)
    (e : (s.place p k a b).answer k p a b = u.accept) :
    s.serve k p a b = u.writeResult p k.code .accepted none := by
  simp [State.serve, h, e, State.accept]

end Sys2Proof.Machine
end

