-- ==== Sys2Proof/Laws/Cells.lean ====
section
/-! SUPPORT. A request does not depend on the words that it does not use (R166): what the request cell holds is
carried along by every operation up to the answer, which empties it. -/

namespace Sys2Proof.Machine

/-- A port's request cell replaced. -/
def State.withCell (p : Port) (r : Option Request) (s : State) : State :=
  s.setPort p { s.port p with request := r }

section
variable (p : Port) (r : Option Request) (s : State)

theorem State.raise_withCell (k : Notice) :
    (s.withCell p r).raise k = (s.raise k).withCell p r := by cases p <;> rfl

theorem State.raiseIf_withCell (c : Bool) (k : Notice) :
    (s.withCell p r).raiseIf c k = (s.raiseIf c k).withCell p r := by
  cases c
  · rfl
  · exact s.raise_withCell p r k

theorem State.flush_withCell : (s.withCell p r).flush = s.flush.withCell p r := by cases p <;> rfl

theorem State.compareOutdated_withCell :
    (s.withCell p r).compareOutdated = s.compareOutdated.withCell p r := by
  have h : (s.withCell p r).tgh.beacon = s.tgh.beacon := by cases p <;> rfl
  unfold State.compareOutdated
  rw [h]
  cases s.tgh.beacon with
  | none => rfl
  | some b => exact Eq.trans (by cases p <;> rfl) (State.raiseIf_withCell p r _ _ _)

theorem State.switchOver_withCell : (s.withCell p r).switchOver = s.switchOver.withCell p r := by
  unfold State.switchOver
  rw [← State.raise_withCell, ← State.compareOutdated_withCell]
  cases p <;> rfl

theorem State.takePending_withCell : (s.withCell p r).takePending = s.takePending.withCell p r := by
  unfold State.takePending
  rw [State.switchOver_withCell, apply_ite (State.withCell p r)]
  cases p <;> rfl

theorem State.withdraw_withCell (i : CarSide) (w : WithdrawCause) :
    (s.withCell p r).withdraw i w = (s.withdraw i w).withCell p r := by
  cases p <;> cases i <;> rfl

theorem State.withdrawIfGranted_withCell (i : CarSide) (w : WithdrawCause) :
    (s.withCell p r).withdrawIfGranted i w = (s.withdrawIfGranted i w).withCell p r := by
  unfold State.withdrawIfGranted
  rw [State.withdraw_withCell, apply_ite (State.withCell p r)]
  cases p <;> rfl

theorem State.retest_withCell (i : CarSide) :
    (s.withCell p r).retest i = (s.retest i).withCell p r := by
  have h : (s.withCell p r).grantFailure i = s.grantFailure i := by cases p <;> rfl
  unfold State.retest
  rw [h]
  cases s.grantFailure i with
  | none => rfl
  | some c => exact s.withdrawIfGranted_withCell p r i _

theorem State.refreshDoors_withCell : (s.withCell p r).refreshDoors = s.refreshDoors.withCell p r := by
  unfold State.refreshDoors
  rw [← State.raiseIf_withCell]
  cases p <;> rfl

theorem State.refreshOrphan_withCell :
    (s.withCell p r).refreshOrphan = s.refreshOrphan.withCell p r := by
  unfold State.refreshOrphan
  rw [apply_ite (State.withCell p r), apply_ite (State.withCell p r)]
  cases p <;> rfl

theorem State.setLatch_withCell (w : LatchCause) :
    (s.withCell p r).setLatch w = (s.setLatch w).withCell p r := by
  unfold State.setLatch
  rw [apply_ite (State.withCell p r)]
  cases p <;> rfl

theorem State.writeRow_withCell (i : RowId) (v : Row) :
    (s.withCell p r).writeRow i v = (s.writeRow i v).withCell p r := by
  unfold State.writeRow
  dsimp only
  rw [apply_ite (State.withCell p r), apply_ite (State.withCell p r), ← State.setLatch_withCell]
  cases p <;> rfl

theorem State.writeRows_withCell : (s.withCell p r).writeRows = s.writeRows.withCell p r := by
  unfold State.writeRows
  simp only [← State.writeRow_withCell]
  cases p <;> rfl

theorem State.toLap_withCell : (s.withCell p r).toLap = s.toLap.withCell p r := by
  have h : (s.withCell p r).brm.valve = s.brm.valve := by cases p <;> rfl
  unfold State.toLap
  rw [h]
  cases s.brm.valve <;> cases p <;> rfl

theorem State.openValve_withCell (o : OpenValve) :
    (s.withCell p r).openValve o = (s.openValve o).withCell p r := by cases p <;> rfl

theorem State.chooseOpen_withCell (o : OpenValve) :
    (s.withCell p r).chooseOpen o = (s.chooseOpen o).withCell p r := by
  have h := s.toLap_withCell p r
  unfold State.chooseOpen
  dsimp only
  rw [h]
  simp only [apply_ite (State.withCell p r), ← State.openValve_withCell]
  cases p <;> rfl

theorem State.takeChoice_withCell : (s.withCell p r).takeChoice = s.takeChoice.withCell p r := by
  have h : (s.withCell p r).valveChoice = s.valveChoice := by cases p <;> rfl
  unfold State.takeChoice
  rw [h]
  cases s.valveChoice with
  | none => rfl
  | some v =>
    cases v
    · exact s.chooseOpen_withCell p r _
    · exact s.toLap_withCell p r
    · exact s.chooseOpen_withCell p r _

theorem State.retarget_withCell : (s.withCell p r).retarget = s.retarget.withCell p r := by
  unfold State.retarget
  rw [← State.takeChoice_withCell]
  cases p <;> rfl

theorem State.refreshLevel_withCell : (s.withCell p r).refreshLevel = s.refreshLevel.withCell p r := by
  unfold State.refreshLevel
  rw [apply_ite (State.withCell p r), ← State.retarget_withCell, ← State.raise_withCell]
  cases p <;> rfl

theorem State.reprove_withCell (b : Bogie) : (s.withCell p r).reprove b = (s.reprove b).withCell p r := by
  unfold State.reprove
  dsimp only
  rw [apply_ite (State.withCell p r), ← State.raiseIf_withCell]
  cases p <;> rfl

theorem State.refreshPinion_withCell :
    (s.withCell p r).refreshPinion = s.refreshPinion.withCell p r := by
  unfold State.refreshPinion
  dsimp only
  rw [apply_ite (State.withCell p r), ← State.reprove_withCell, ← State.reprove_withCell]
  cases p <;> rfl

theorem State.refreshDeparture_withCell :
    (s.withCell p r).refreshDeparture = s.refreshDeparture.withCell p r := by
  have h : (s.withCell p r).brm.departure = s.brm.departure := by cases p <;> rfl
  unfold State.refreshDeparture
  rw [h]
  cases s.brm.departure <;> simp only [apply_ite (State.withCell p r)] <;> cases p <;> rfl

theorem State.refreshTraction_withCell :
    (s.withCell p r).refreshTraction = s.refreshTraction.withCell p r := by
  unfold State.refreshTraction
  simp only [apply_ite (State.withCell p r)]
  cases p <;> rfl

theorem State.readersPass_withCell : (s.withCell p r).readersPass = s.readersPass.withCell p r := by
  have hold : ∀ s : State, (s.withCell p r).refreshHolding = s.refreshHolding.withCell p r := fun s => by
    cases p <;> rfl
  have prove : ∀ s : State, (s.withCell p r).refreshProving = s.refreshProving.withCell p r := fun s => by
    cases p <;> rfl
  simp only [State.readersPass, State.takePending_withCell, State.retest_withCell,
    State.refreshDoors_withCell, State.refreshOrphan_withCell, State.writeRows_withCell,
    State.refreshLevel_withCell, State.refreshPinion_withCell, hold, prove]

theorem State.settle_withCell (n : Nat) : ∀ s : State, (s.withCell p r).settle n = (s.settle n).withCell p r := by
  induction n with
  | zero => exact fun s => rfl
  | succ n ih =>
    intro s
    simp only [State.settle_succ, State.settlePass, State.readersPass_withCell,
      State.refreshDeparture_withCell, ih]

/-- What is in a request cell plays no part in the end of an event. -/
theorem State.finish_withCell : (s.withCell p r).finish = s.finish.withCell p r := by
  simp only [State.finish, State.settle_withCell, State.readersPass_withCell,
    State.refreshTraction_withCell]


/-- An answer whose state has a request cell replaced. -/
def Answer.withCell (p : Port) (r : Option Request) (a : Answer) : Answer :=
  { a with state := a.state.withCell p r }

theorem State.refuse_withCell (c : ResultCode) :
    (s.withCell p r).refuse c = (s.refuse c).withCell p r := rfl

theorem State.accept_withCell : (s.withCell p r).accept = s.accept.withCell p r := rfl

theorem Answer.finished_withCell (a : Answer) :
    (a.withCell p r).finished = a.finished.withCell p r := by
  unfold Answer.finished
  rw [apply_ite (Answer.withCell p r)]
  have h := a.state.finish_withCell p r
  simp only [Answer.withCell, h]

/-- An answer that finishes an event does so whatever is in the request cell. -/
theorem Answer.finished_of {f : State → Answer}
    (h : f (s.withCell p r) = (f s).withCell p r) :
    (f (s.withCell p r)).finished = (f s).finished.withCell p r := by
  rw [h, Answer.finished_withCell]

theorem State.setMode_withCell (m : Mode) : (s.withCell p r).setMode m = (s.setMode m).withCell p r := by
  unfold State.setMode
  rw [← State.raise_withCell, ← State.flush_withCell]
  cases p <;> rfl

theorem State.deactivateDesk_withCell :
    (s.withCell p r).deactivateDesk = s.deactivateDesk.withCell p r := by
  unfold State.deactivateDesk
  simp only [← State.setMode_withCell, ← State.withdrawIfGranted_withCell]
  cases p <;> rfl

theorem State.requestActivate_withCell (d : Desk) :
    (s.withCell p r).requestActivate d = (s.requestActivate d).withCell p r := by
  have h : (s.withCell p r).activateDesk d = (s.activateDesk d).withCell p r := by
    unfold State.activateDesk
    simp only [← State.setMode_withCell, ← State.raiseIf_withCell]
    cases p <;> rfl
  unfold State.requestActivate
  rw [h]
  simp only [apply_ite (Answer.withCell p r)]
  cases p <;> rfl

theorem State.requestDeactivate_withCell (q : Port) :
    (s.withCell p r).requestDeactivate q = (s.requestDeactivate q).withCell p r := by
  unfold State.requestDeactivate
  rw [State.deactivateDesk_withCell]
  simp only [apply_ite (Answer.withCell p r)]
  cases p <;> rfl

theorem State.requestForce_withCell :
    (s.withCell p r).requestForce = s.requestForce.withCell p r := by
  unfold State.requestForce
  rw [State.deactivateDesk_withCell]
  simp only [apply_ite (Answer.withCell p r)]
  cases p <;> rfl

theorem State.requestMode_withCell (q : Port) (m : Mode) :
    (s.withCell p r).requestMode q m = (s.requestMode q m).withCell p r := by
  unfold State.requestMode
  rw [State.setMode_withCell]
  simp only [apply_ite (Answer.withCell p r)]
  cases p <;> rfl

theorem State.acknowledge_withCell (q : Port) :
    (s.withCell p r).acknowledge q = (s.acknowledge q).withCell p r := by
  unfold State.acknowledge
  simp only [apply_ite (Answer.withCell p r), ← State.accept_withCell, ← State.raiseIf_withCell]
  cases p <;> rfl

theorem State.requestBrakeReset_withCell (q : Port) :
    (s.withCell p r).requestBrakeReset q = (s.requestBrakeReset q).withCell p r := by
  unfold State.requestBrakeReset
  simp only [apply_ite (Answer.withCell p r), ← State.accept_withCell, ← State.raise_withCell]
  cases p <;> rfl

theorem State.requestRelease_withCell (q : Port) (w : Word) :
    (s.withCell p r).requestRelease q w = (s.requestRelease q w).withCell p r := by
  have g : ∀ i d, (s.withCell p r).grant i d = (s.grant i d).withCell p r := by
    intro i d; cases p <;> cases i <;> rfl
  have h : ∀ i, (s.withCell p r).grantFailure i = s.grantFailure i := by intro i; cases p <;> rfl
  unfold State.requestRelease
  rw [apply_ite (Answer.withCell p r)]
  cases argSide w with
  | none => cases p <;> rfl
  | some i =>
    cases portDesk q with
    | none => cases p <;> rfl
    | some d =>
      dsimp only
      rw [h i, g i d]
      cases s.grantFailure i with
      | none =>
        dsimp only
        rw [apply_ite (Answer.withCell p r)]
        cases p <;> rfl
      | some c => cases p <;> rfl

theorem State.requestClose_withCell (q : Port) (w : Word) :
    (s.withCell p r).requestClose q w = (s.requestClose q w).withCell p r := by
  unfold State.requestClose
  rw [apply_ite (Answer.withCell p r)]
  cases argSide w with
  | none => cases p <;> rfl
  | some i =>
    dsimp only
    rw [State.withdrawIfGranted_withCell]
    cases p <;> rfl

theorem State.requestIsolate_withCell (d w : Word) :
    (s.withCell p r).requestIsolate d w = (s.requestIsolate d w).withCell p r := by
  have t : ∀ i, (s.withCell p r).toService i = (s.toService i).withCell p r := by
    intro i
    unfold State.toService
    dsimp only
    rw [apply_ite (State.withCell p r)]
    unfold State.doorFault
    rw [← State.raise_withCell]
    cases p <;> cases i <;> rfl
  have h : ∀ i, (s.withCell p r).isolate i = (s.isolate i).withCell p r := by
    intro i; cases p <;> cases i <;> rfl
  unfold State.requestIsolate
  cases argDoor d with
  | none => rfl
  | some i =>
    cases argSetting w with
    | none => rfl
    | some on =>
      dsimp only
      rw [t i, h i]
      simp only [apply_ite (Answer.withCell p r), State.raise_withCell]
      cases p <;> rfl

theorem State.setPosition_withCell (x : Position) :
    (s.withCell p r).setPosition x = (s.setPosition x).withCell p r := by
  unfold State.setPosition
  rw [apply_ite (State.withCell p r), ← State.raise_withCell]
  cases p <;> rfl

theorem State.restorePos_withCell (a b : Word) :
    (s.withCell p r).restorePos a b = (s.restorePos a b).withCell p r := by
  have set : ∀ (s : State) x y, (s.withCell p r).setBounds x y = (s.setBounds x y).withCell p r := by
    intro s x y
    unfold State.setBounds
    dsimp only
    rw [apply_ite (State.withCell p r), ← State.setPosition_withCell]
    cases p <;> rfl
  have h : ∀ x y, (s.withCell p r).restored x y = (s.restored x y).withCell p r := by
    intro x y
    unfold State.restored
    rw [← set, ← State.setPosition_withCell]
    cases p <;> rfl
  unfold State.restorePos
  rw [h]
  simp only [apply_ite (Answer.withCell p r)]
  cases p <;> rfl

theorem State.openProfile_withCell (w : Writer) (v n : Nat) :
    (s.withCell p r).openProfile w v n = (s.openProfile w v n).withCell p r := by
  unfold State.openProfile
  simp only [apply_ite (Answer.withCell p r)]
  cases p <;> rfl

theorem State.closeProfile_withCell (w : Writer) (v : Nat) (k : BitVec 32) :
    (s.withCell p r).closeProfile w v k = (s.closeProfile w v k).withCell p r := by
  have h : (s.withCell p r).lps = s.lps := by cases p <;> rfl
  unfold State.closeProfile
  rw [h]
  cases s.lps.claim with
  | none => rfl
  | some c =>
    dsimp only
    simp only [apply_ite (Answer.withCell p r), ← State.accept_withCell, ← State.raiseIf_withCell]
    cases p <;> rfl

theorem State.abortProfile_withCell :
    (s.withCell p r).abortProfile = s.abortProfile.withCell p r := by
  unfold State.abortProfile
  simp only [apply_ite (Answer.withCell p r), ← State.accept_withCell, ← State.raiseIf_withCell]
  cases p <;> rfl

theorem State.activateProfile_withCell (w : Writer) (v : Nat) :
    (s.withCell p r).activateProfile w v = (s.activateProfile w v).withCell p r := by
  unfold State.activateProfile
  rw [State.switchOver_withCell]
  simp only [apply_ite (Answer.withCell p r)]
  cases p <;> rfl

theorem State.testWaiting_withCell : (s.withCell p r).testWaiting = s.testWaiting.withCell p r := by
  have h : (s.withCell p r).textDue = s.textDue := by cases p <;> rfl
  have n : (s.withCell p r).notifyTexts = s.notifyTexts.withCell p r := by cases p <;> rfl
  unfold State.testWaiting
  rw [h, n]
  cases s.textDue with
  | none => rfl
  | some d =>
    dsimp only
    rw [apply_ite (State.withCell p r)]
    cases p <;> rfl

theorem State.popHead_withCell : (s.withCell p r).popHead = s.popHead.withCell p r := by
  have h : (s.withCell p r).tgh = s.tgh := by cases p <;> rfl
  unfold State.popHead
  rw [h]
  cases s.tgh.rxTexts with
  | nil => rfl
  | cons x t =>
    dsimp only
    rw [← State.accept_withCell, ← State.testWaiting_withCell]
    cases p <;> rfl

theorem State.queueText_withCell : (s.withCell p r).queueText = s.queueText.withCell p r := by
  unfold State.queueText
  simp only [apply_ite (Answer.withCell p r)]
  cases p <;> rfl

theorem State.requestFreeze_withCell : (s.withCell p r).requestFreeze = s.requestFreeze.withCell p r := by
  have h : (s.withCell p r).freezeFailure = s.freezeFailure := by cases p <;> rfl
  unfold State.requestFreeze
  rw [apply_ite (Answer.withCell p r), h]
  cases s.freezeFailure with
  | none => cases p <;> rfl
  | some x => cases p <;> rfl

/-- What is in a request cell plays no part in what the owner of a request answers; a car restart, which
empties the cells (R172), aside. -/
theorem State.answer_withCell (k : ReqKind) (n : k ≠ .carRestart) (q : Port) (a b : Word) :
    (s.withCell p r).answer k q a b = (s.answer k q a b).withCell p r := by
  cases k with
  | activate =>
    cases h : portDesk q with
    | none => simp only [State.answer, State.forDesk, h]; rfl
    | some d =>
      simp only [State.answer, State.forDesk, h]
      rw [State.requestActivate_withCell, Answer.finished_withCell]
  | deactivate =>
    exact Answer.finished_of p r s (f := fun x => x.requestDeactivate q)
      (s.requestDeactivate_withCell p r q)
  | forceDeactivate =>
    exact Answer.finished_of p r s (f := fun x => x.requestForce)
      (s.requestForce_withCell p r)
  | shunt =>
    exact Answer.finished_of p r s (f := fun x => x.requestMode q .shunt)
      (s.requestMode_withCell p r q _)
  | full =>
    exact Answer.finished_of p r s (f := fun x => x.requestMode q .full)
      (s.requestMode_withCell p r q _)
  | acknowledge =>
    exact Answer.finished_of p r s (f := fun x => x.acknowledge q)
      (s.acknowledge_withCell p r q)
  | brakeReset =>
    exact Answer.finished_of p r s (f := fun x => x.requestBrakeReset q)
      (s.requestBrakeReset_withCell p r q)
  | doorRelease =>
    exact Answer.finished_of p r s (f := fun x => x.requestRelease q a)
      (s.requestRelease_withCell p r q a)
  | doorClose =>
    exact Answer.finished_of p r s (f := fun x => x.requestClose q a)
      (s.requestClose_withCell p r q a)
  | isolateDoor =>
    exact Answer.finished_of p r s (f := fun x => x.requestIsolate a b)
      (s.requestIsolate_withCell p r a b)
  | positionRestore =>
    exact Answer.finished_of p r s (f := fun x => x.restorePos a b)
      (s.restorePos_withCell p r a b)
  | profileOpen => exact s.openProfile_withCell p r _ _ _
  | profileClose =>
    have h : (s.withCell p r).pif.closeCheck = s.pif.closeCheck := by cases p <;> rfl
    simp only [State.answer, State.requestProfileClose, h]
    exact s.closeProfile_withCell p r _ _ _
  | profileAbort => exact s.abortProfile_withCell p r
  | profileActivate =>
    exact Answer.finished_of p r s (f := fun x => x.activateProfile .portC a.toNat)
      (s.activateProfile_withCell p r _ _)
  | sendText => exact s.queueText_withCell p r
  | popText => exact s.popHead_withCell p r
  | freeze => exact s.requestFreeze_withCell p r
  | carRestart => exact absurd rfl n

theorem State.withCell_writeResult (c : Word) (x : ResultCode) (d : Option Word) :
    (s.withCell p r).writeResult p c x d = s.writeResult p c x d := by
  cases p <;> rfl

/-- Beside a car restart, which empties the cells, an answer written to the port of the request is the same
whatever is in its request cell. -/
theorem State.answer_written (k : ReqKind) (a b : Word) :
    (let w := (s.withCell p r).answer k p a b; w.state.writeResult p k.code w.result w.detail) =
      (let w := s.answer k p a b; w.state.writeResult p k.code w.result w.detail) := by
  by_cases n : k = .carRestart
  · subst n
    have h : (s.withCell p r).restart = s.restart := by cases p <;> rfl
    have g : (s.withCell p r).still = s.still ∧ (s.withCell p r).dka = s.dka := by cases p <;> exact ⟨rfl, rfl⟩
    simp only [State.answer, State.requestRestart, h, g.1, g.2]
    (repeat' split) <;> first | rfl | exact State.withCell_writeResult p r s _ _ _
  · simp only [State.answer_withCell p r s k n]
    exact State.withCell_writeResult p r _ _ _ _

end

/-- R166: a request is taken by the words that its kind uses, whatever its other words are. -/
theorem State.serve_words {s : State} {k : ReqKind} {p : Port} {a b a' b' : Word}
    (h : ∀ t : State, t.answer k p a b = t.answer k p a' b') : s.serve k p a b = s.serve k p a' b' := by
  have g : ∀ x y, s.place p k x y = s.withCell p (some { code := k.code, arg1 := x, arg2 := y }) :=
    fun x y => rfl
  unfold State.serve
  split
  · rw [g, g]
    rw [h]
    exact (State.answer_written p _ s k a' b').trans (State.answer_written p _ s k a' b').symm
  · rfl

end Sys2Proof.Machine
end

