-- ==== Sys2Proof/Laws/Frames.lean ====
section
/-! SUPPORT. The frame of every operation that is not part of the end of an event: the blocks it leaves
exactly as they were. Each lemma is a conjunction that `simp` takes apart. -/

namespace Sys2Proof.Machine

@[simp] theorem State.refuse_state (s : State) (r : ResultCode) : (s.refuse r).state = s := rfl

@[simp] theorem State.accept_state (s : State) : s.accept.state = s := rfl

@[simp] theorem State.raiseOn_frame (p : Port) (k : Notice) (s : State) :
    (State.raiseOn p k s).odu = s.odu ∧ (State.raiseOn p k s).lps = s.lps ∧ (State.raiseOn p k
    s).ssu = s.ssu ∧ (State.raiseOn p k s).brm = s.brm ∧ (State.raiseOn p k s).drc = s.drc ∧
    (State.raiseOn p k s).dka = s.dka ∧ (State.raiseOn p k s).vrl = s.vrl ∧ (State.raiseOn p k
    s).tgh = s.tgh ∧ (State.raiseOn p k s).pst = s.pst ∧ (State.raiseOn p k s).now = s.now ∧
    (State.raiseOn p k s).pending = s.pending := by
  simp [State.raiseOn]

@[simp] theorem State.atTimer_frame (t : Timer) (s : State) :
    (State.atTimer t s).odu = s.odu ∧ (State.atTimer t s).lps = s.lps ∧ (State.atTimer t s).ssu
    = s.ssu ∧ (State.atTimer t s).dka = s.dka ∧ (State.atTimer t s).tgh = s.tgh ∧ (State.atTimer
    t s).pif = s.pif ∧ (State.atTimer t s).pst = s.pst ∧ (State.atTimer t s).pending = s.pending := by
  unfold State.atTimer; split <;> simp

@[simp] theorem State.leaveStandstill_frame (m : Motion) (s : State) :
    (State.leaveStandstill m s).lps = s.lps ∧ (State.leaveStandstill m s).ssu = s.ssu ∧
    (State.leaveStandstill m s).drc = s.drc ∧ (State.leaveStandstill m s).vrl = s.vrl ∧
    (State.leaveStandstill m s).tgh = s.tgh ∧ (State.leaveStandstill m s).pif = s.pif ∧
    (State.leaveStandstill m s).pst = s.pst ∧ (State.leaveStandstill m s).now = s.now ∧
    (State.leaveStandstill m s).pending = s.pending := by
  simp [State.leaveStandstill]

@[simp] theorem State.startHold_frame (s : State) :
    (State.startHold s).odu = s.odu ∧ (State.startHold s).lps = s.lps ∧ (State.startHold s).ssu
    = s.ssu ∧ (State.startHold s).drc = s.drc ∧ (State.startHold s).dka = s.dka ∧
    (State.startHold s).vrl = s.vrl ∧ (State.startHold s).tgh = s.tgh ∧ (State.startHold s).pif
    = s.pif ∧ (State.startHold s).pst = s.pst ∧ (State.startHold s).now = s.now ∧
    (State.startHold s).pending = s.pending := by
  unfold State.startHold; split <;> simp

@[simp] theorem State.enterStandstill_frame (s : State) :
    (State.enterStandstill s).lps = s.lps ∧ (State.enterStandstill s).ssu = s.ssu ∧
    (State.enterStandstill s).drc = s.drc ∧ (State.enterStandstill s).vrl = s.vrl ∧
    (State.enterStandstill s).tgh = s.tgh ∧ (State.enterStandstill s).pif = s.pif ∧
    (State.enterStandstill s).pst = s.pst ∧ (State.enterStandstill s).now = s.now ∧
    (State.enterStandstill s).pending = s.pending := by
  simp [State.enterStandstill]

@[simp] theorem State.restartStand_frame (s : State) :
    (State.restartStand s).lps = s.lps ∧ (State.restartStand s).ssu = s.ssu ∧
    (State.restartStand s).brm = s.brm ∧ (State.restartStand s).drc = s.drc ∧
    (State.restartStand s).dka = s.dka ∧ (State.restartStand s).vrl = s.vrl ∧
    (State.restartStand s).tgh = s.tgh ∧ (State.restartStand s).pif = s.pif ∧
    (State.restartStand s).pst = s.pst ∧ (State.restartStand s).now = s.now ∧
    (State.restartStand s).pending = s.pending := by
  simp [State.restartStand]

@[simp] theorem State.addLeaving_frame (i : SourceId) (d l : Int) (s : State) :
    (State.addLeaving i d l s).lps = s.lps ∧ (State.addLeaving i d l s).ssu = s.ssu ∧
    (State.addLeaving i d l s).drc = s.drc ∧ (State.addLeaving i d l s).vrl = s.vrl ∧
    (State.addLeaving i d l s).tgh = s.tgh ∧ (State.addLeaving i d l s).pif = s.pif ∧
    (State.addLeaving i d l s).pst = s.pst ∧ (State.addLeaving i d l s).now = s.now ∧
    (State.addLeaving i d l s).pending = s.pending := by
  unfold State.addLeaving; dsimp only; (repeat' split) <;> simp

@[simp] theorem State.count_frame (i : Bogie) (d : Dir) (s : State) :
    (State.count i d s).lps = s.lps ∧ (State.count i d s).ssu = s.ssu ∧ (State.count i d s).drc
    = s.drc ∧ (State.count i d s).vrl = s.vrl ∧ (State.count i d s).tgh = s.tgh ∧ (State.count i
    d s).pif = s.pif ∧ (State.count i d s).pst = s.pst ∧ (State.count i d s).now = s.now ∧
    (State.count i d s).pending = s.pending := by
  unfold State.count; dsimp only; split <;> simp

@[simp] theorem State.illegal_frame (i : Bogie) (s : State) :
    (State.illegal i s).lps = s.lps ∧ (State.illegal i s).ssu = s.ssu ∧ (State.illegal i s).brm
    = s.brm ∧ (State.illegal i s).drc = s.drc ∧ (State.illegal i s).dka = s.dka ∧ (State.illegal
    i s).vrl = s.vrl ∧ (State.illegal i s).tgh = s.tgh ∧ (State.illegal i s).pif = s.pif ∧
    (State.illegal i s).pst = s.pst ∧ (State.illegal i s).now = s.now ∧ (State.illegal i
    s).pending = s.pending := by
  simp [State.illegal]

@[simp] theorem State.setPhases_frame (i : Bogie) (a b : Bool) (s : State) :
    (State.setPhases i a b s).lps = s.lps ∧ (State.setPhases i a b s).ssu = s.ssu ∧
    (State.setPhases i a b s).brm = s.brm ∧ (State.setPhases i a b s).drc = s.drc ∧
    (State.setPhases i a b s).dka = s.dka ∧ (State.setPhases i a b s).vrl = s.vrl ∧
    (State.setPhases i a b s).tgh = s.tgh ∧ (State.setPhases i a b s).pif = s.pif ∧
    (State.setPhases i a b s).pst = s.pst ∧ (State.setPhases i a b s).now = s.now ∧
    (State.setPhases i a b s).pending = s.pending := by
  simp [State.setPhases]

@[simp] theorem State.encoderStep_frame (i : Bogie) (a b : Bool) (s : State) :
    (State.encoderStep i a b s).lps = s.lps ∧ (State.encoderStep i a b s).ssu = s.ssu ∧
    (State.encoderStep i a b s).drc = s.drc ∧ (State.encoderStep i a b s).vrl = s.vrl ∧
    (State.encoderStep i a b s).tgh = s.tgh ∧ (State.encoderStep i a b s).pif = s.pif ∧
    (State.encoderStep i a b s).pst = s.pst ∧ (State.encoderStep i a b s).now = s.now ∧
    (State.encoderStep i a b s).pending = s.pending := by
  unfold State.encoderStep; split <;> simp

@[simp] theorem State.toothTravel_frame (s : State) :
    (State.toothTravel s).lps = s.lps ∧ (State.toothTravel s).ssu = s.ssu ∧ (State.toothTravel
    s).brm = s.brm ∧ (State.toothTravel s).drc = s.drc ∧ (State.toothTravel s).dka = s.dka ∧
    (State.toothTravel s).vrl = s.vrl ∧ (State.toothTravel s).tgh = s.tgh ∧ (State.toothTravel
    s).pif = s.pif ∧ (State.toothTravel s).pst = s.pst ∧ (State.toothTravel s).now = s.now ∧
    (State.toothTravel s).pending = s.pending := by
  unfold State.toothTravel; split <;> simp

@[simp] theorem State.toothMotion_frame (s : State) :
    (State.toothMotion s).lps = s.lps ∧ (State.toothMotion s).ssu = s.ssu ∧ (State.toothMotion
    s).drc = s.drc ∧ (State.toothMotion s).vrl = s.vrl ∧ (State.toothMotion s).tgh = s.tgh ∧
    (State.toothMotion s).pif = s.pif ∧ (State.toothMotion s).pst = s.pst ∧ (State.toothMotion
    s).now = s.now ∧ (State.toothMotion s).pending = s.pending := by
  unfold State.toothMotion; split <;> simp

@[simp] theorem State.takeTooth_frame (s : State) :
    (State.takeTooth s).lps = s.lps ∧ (State.takeTooth s).ssu = s.ssu ∧ (State.takeTooth s).drc
    = s.drc ∧ (State.takeTooth s).vrl = s.vrl ∧ (State.takeTooth s).tgh = s.tgh ∧
    (State.takeTooth s).pif = s.pif ∧ (State.takeTooth s).pst = s.pst ∧ (State.takeTooth s).now
    = s.now ∧ (State.takeTooth s).pending = s.pending := by
  simp [State.takeTooth]

@[simp] theorem State.setPosition_frame (p : Position) (s : State) :
    (State.setPosition p s).lps = s.lps ∧ (State.setPosition p s).ssu = s.ssu ∧
    (State.setPosition p s).brm = s.brm ∧ (State.setPosition p s).drc = s.drc ∧
    (State.setPosition p s).dka = s.dka ∧ (State.setPosition p s).vrl = s.vrl ∧
    (State.setPosition p s).tgh = s.tgh ∧ (State.setPosition p s).pst = s.pst ∧
    (State.setPosition p s).now = s.now ∧ (State.setPosition p s).pending = s.pending := by
  unfold State.setPosition; split <;> simp

@[simp] theorem State.setBounds_frame (a b : Int) (s : State) :
    (State.setBounds a b s).lps = s.lps ∧ (State.setBounds a b s).ssu = s.ssu ∧ (State.setBounds
    a b s).brm = s.brm ∧ (State.setBounds a b s).drc = s.drc ∧ (State.setBounds a b s).dka =
    s.dka ∧ (State.setBounds a b s).vrl = s.vrl ∧ (State.setBounds a b s).tgh = s.tgh ∧
    (State.setBounds a b s).pst = s.pst ∧ (State.setBounds a b s).now = s.now ∧ (State.setBounds
    a b s).pending = s.pending := by
  unfold State.setBounds; dsimp only; split <;> simp

@[simp] theorem State.setRegime_frame (s : State) :
    (State.setRegime s).lps = s.lps ∧ (State.setRegime s).ssu = s.ssu ∧ (State.setRegime s).brm
    = s.brm ∧ (State.setRegime s).drc = s.drc ∧ (State.setRegime s).dka = s.dka ∧
    (State.setRegime s).vrl = s.vrl ∧ (State.setRegime s).tgh = s.tgh ∧ (State.setRegime s).pif
    = s.pif ∧ (State.setRegime s).pst = s.pst ∧ (State.setRegime s).now = s.now ∧
    (State.setRegime s).pending = s.pending := by
  unfold State.setRegime; dsimp only; split <;> simp

@[simp] theorem State.updateInterval_frame (u : Used) (s : State) :
    (State.updateInterval u s).lps = s.lps ∧ (State.updateInterval u s).ssu = s.ssu ∧
    (State.updateInterval u s).brm = s.brm ∧ (State.updateInterval u s).drc = s.drc ∧
    (State.updateInterval u s).dka = s.dka ∧ (State.updateInterval u s).vrl = s.vrl ∧
    (State.updateInterval u s).tgh = s.tgh ∧ (State.updateInterval u s).pst = s.pst ∧
    (State.updateInterval u s).now = s.now ∧ (State.updateInterval u s).pending = s.pending := by
  simp [State.updateInterval]

@[simp] theorem State.setHealth_frame (o : Odu) (s : State) :
    (State.setHealth o s).lps = s.lps ∧ (State.setHealth o s).ssu = s.ssu ∧ (State.setHealth o
    s).brm = s.brm ∧ (State.setHealth o s).drc = s.drc ∧ (State.setHealth o s).dka = s.dka ∧
    (State.setHealth o s).vrl = s.vrl ∧ (State.setHealth o s).tgh = s.tgh ∧ (State.setHealth o
    s).pst = s.pst ∧ (State.setHealth o s).now = s.now ∧ (State.setHealth o s).pending =
    s.pending := by
  simp [State.setHealth]

@[simp] theorem State.medianCheck_frame (s : State) :
    (State.medianCheck s).lps = s.lps ∧ (State.medianCheck s).ssu = s.ssu ∧ (State.medianCheck
    s).brm = s.brm ∧ (State.medianCheck s).drc = s.drc ∧ (State.medianCheck s).dka = s.dka ∧
    (State.medianCheck s).vrl = s.vrl ∧ (State.medianCheck s).tgh = s.tgh ∧ (State.medianCheck
    s).pst = s.pst ∧ (State.medianCheck s).now = s.now ∧ (State.medianCheck s).pending =
    s.pending := by
  unfold State.medianCheck; split <;> simp

@[simp] theorem State.pairCheck_frame (s : State) :
    (State.pairCheck s).lps = s.lps ∧ (State.pairCheck s).ssu = s.ssu ∧ (State.pairCheck s).brm
    = s.brm ∧ (State.pairCheck s).drc = s.drc ∧ (State.pairCheck s).dka = s.dka ∧
    (State.pairCheck s).vrl = s.vrl ∧ (State.pairCheck s).tgh = s.tgh ∧ (State.pairCheck s).pif
    = s.pif ∧ (State.pairCheck s).pst = s.pst ∧ (State.pairCheck s).now = s.now ∧
    (State.pairCheck s).pending = s.pending := by
  unfold State.pairCheck; dsimp only; split <;> simp

@[simp] theorem State.illegalCheck_frame (s : State) :
    (State.illegalCheck s).lps = s.lps ∧ (State.illegalCheck s).ssu = s.ssu ∧
    (State.illegalCheck s).brm = s.brm ∧ (State.illegalCheck s).drc = s.drc ∧
    (State.illegalCheck s).dka = s.dka ∧ (State.illegalCheck s).vrl = s.vrl ∧
    (State.illegalCheck s).tgh = s.tgh ∧ (State.illegalCheck s).pst = s.pst ∧
    (State.illegalCheck s).now = s.now ∧ (State.illegalCheck s).pending = s.pending := by
  simp [State.illegalCheck]

@[simp] theorem State.sourceTest_frame (s : State) :
    (State.sourceTest s).lps = s.lps ∧ (State.sourceTest s).ssu = s.ssu ∧ (State.sourceTest
    s).brm = s.brm ∧ (State.sourceTest s).drc = s.drc ∧ (State.sourceTest s).dka = s.dka ∧
    (State.sourceTest s).vrl = s.vrl ∧ (State.sourceTest s).tgh = s.tgh ∧ (State.sourceTest
    s).pst = s.pst ∧ (State.sourceTest s).now = s.now ∧ (State.sourceTest s).pending = s.pending := by
  unfold State.sourceTest; split <;> simp

@[simp] theorem State.addRollback_frame (s : State) :
    (State.addRollback s).lps = s.lps ∧ (State.addRollback s).ssu = s.ssu ∧ (State.addRollback
    s).brm = s.brm ∧ (State.addRollback s).drc = s.drc ∧ (State.addRollback s).dka = s.dka ∧
    (State.addRollback s).vrl = s.vrl ∧ (State.addRollback s).tgh = s.tgh ∧ (State.addRollback
    s).pif = s.pif ∧ (State.addRollback s).pst = s.pst ∧ (State.addRollback s).now = s.now ∧
    (State.addRollback s).pending = s.pending := by
  unfold State.addRollback; (repeat' split) <;> simp

@[simp] theorem State.samplePosition_frame (s : State) :
    (State.samplePosition s).lps = s.lps ∧ (State.samplePosition s).ssu = s.ssu ∧
    (State.samplePosition s).brm = s.brm ∧ (State.samplePosition s).drc = s.drc ∧
    (State.samplePosition s).dka = s.dka ∧ (State.samplePosition s).vrl = s.vrl ∧
    (State.samplePosition s).tgh = s.tgh ∧ (State.samplePosition s).pst = s.pst ∧
    (State.samplePosition s).now = s.now ∧ (State.samplePosition s).pending = s.pending := by
  simp [State.samplePosition]

@[simp] theorem State.sampleHealth_frame (s : State) :
    (State.sampleHealth s).lps = s.lps ∧ (State.sampleHealth s).ssu = s.ssu ∧
    (State.sampleHealth s).brm = s.brm ∧ (State.sampleHealth s).drc = s.drc ∧
    (State.sampleHealth s).dka = s.dka ∧ (State.sampleHealth s).vrl = s.vrl ∧
    (State.sampleHealth s).tgh = s.tgh ∧ (State.sampleHealth s).pst = s.pst ∧
    (State.sampleHealth s).now = s.now ∧ (State.sampleHealth s).pending = s.pending := by
  simp [State.sampleHealth]

@[simp] theorem State.sampleMotion_frame (s : State) :
    (State.sampleMotion s).lps = s.lps ∧ (State.sampleMotion s).ssu = s.ssu ∧
    (State.sampleMotion s).brm = s.brm ∧ (State.sampleMotion s).drc = s.drc ∧
    (State.sampleMotion s).dka = s.dka ∧ (State.sampleMotion s).vrl = s.vrl ∧
    (State.sampleMotion s).tgh = s.tgh ∧ (State.sampleMotion s).pif = s.pif ∧
    (State.sampleMotion s).pst = s.pst ∧ (State.sampleMotion s).now = s.now ∧
    (State.sampleMotion s).pending = s.pending := by
  simp [State.sampleMotion]

@[simp] theorem State.sample_frame (s : State) :
    (State.sample s).lps = s.lps ∧ (State.sample s).ssu = s.ssu ∧ (State.sample s).brm = s.brm ∧
    (State.sample s).drc = s.drc ∧ (State.sample s).dka = s.dka ∧ (State.sample s).vrl = s.vrl ∧
    (State.sample s).tgh = s.tgh ∧ (State.sample s).pst = s.pst ∧ (State.sample s).now = s.now ∧
    (State.sample s).pending = s.pending := by
  simp [State.sample]

@[simp] theorem State.invalidRead_frame (n : ReaderState) (s : State) :
    (State.invalidRead n s).lps = s.lps ∧ (State.invalidRead n s).ssu = s.ssu ∧
    (State.invalidRead n s).brm = s.brm ∧ (State.invalidRead n s).drc = s.drc ∧
    (State.invalidRead n s).dka = s.dka ∧ (State.invalidRead n s).vrl = s.vrl ∧
    (State.invalidRead n s).tgh = s.tgh ∧ (State.invalidRead n s).pif = s.pif ∧
    (State.invalidRead n s).pst = s.pst ∧ (State.invalidRead n s).now = s.now ∧
    (State.invalidRead n s).pending = s.pending := by
  simp [State.invalidRead]

@[simp] theorem State.acceptMarker_frame (n : Nat) (v : Int × Int) (s : State) :
    (State.acceptMarker n v s).lps = s.lps ∧ (State.acceptMarker n v s).ssu = s.ssu ∧
    (State.acceptMarker n v s).brm = s.brm ∧ (State.acceptMarker n v s).drc = s.drc ∧
    (State.acceptMarker n v s).dka = s.dka ∧ (State.acceptMarker n v s).vrl = s.vrl ∧
    (State.acceptMarker n v s).tgh = s.tgh ∧ (State.acceptMarker n v s).pst = s.pst ∧
    (State.acceptMarker n v s).now = s.now ∧ (State.acceptMarker n v s).pending = s.pending := by
  simp [State.acceptMarker]

@[simp] theorem State.useMarker_frame (k : Marker) (s : State) :
    (State.useMarker k s).lps = s.lps ∧ (State.useMarker k s).ssu = s.ssu ∧ (State.useMarker k
    s).brm = s.brm ∧ (State.useMarker k s).drc = s.drc ∧ (State.useMarker k s).dka = s.dka ∧
    (State.useMarker k s).vrl = s.vrl ∧ (State.useMarker k s).tgh = s.tgh ∧ (State.useMarker k
    s).pst = s.pst ∧ (State.useMarker k s).now = s.now ∧ (State.useMarker k s).pending =
    s.pending := by
  unfold State.useMarker; dsimp only; (repeat' split) <;> simp

@[simp] theorem State.lookupMarker_frame (n : Nat) (s : State) :
    (State.lookupMarker n s).lps = s.lps ∧ (State.lookupMarker n s).ssu = s.ssu ∧
    (State.lookupMarker n s).brm = s.brm ∧ (State.lookupMarker n s).drc = s.drc ∧
    (State.lookupMarker n s).dka = s.dka ∧ (State.lookupMarker n s).vrl = s.vrl ∧
    (State.lookupMarker n s).tgh = s.tgh ∧ (State.lookupMarker n s).pst = s.pst ∧
    (State.lookupMarker n s).now = s.now ∧ (State.lookupMarker n s).pending = s.pending := by
  unfold State.lookupMarker; dsimp only; (repeat' split) <;> simp

@[simp] theorem State.completeRead_frame (n c : Nat) (s : State) :
    (State.completeRead n c s).lps = s.lps ∧ (State.completeRead n c s).ssu = s.ssu ∧
    (State.completeRead n c s).brm = s.brm ∧ (State.completeRead n c s).drc = s.drc ∧
    (State.completeRead n c s).dka = s.dka ∧ (State.completeRead n c s).vrl = s.vrl ∧
    (State.completeRead n c s).tgh = s.tgh ∧ (State.completeRead n c s).pst = s.pst ∧
    (State.completeRead n c s).now = s.now ∧ (State.completeRead n c s).pending = s.pending := by
  unfold State.completeRead; split <;> simp

@[simp] theorem State.appendBit_frame (r : Reader) (n : Nat) (s : State) :
    (State.appendBit r n s).lps = s.lps ∧ (State.appendBit r n s).ssu = s.ssu ∧ (State.appendBit
    r n s).brm = s.brm ∧ (State.appendBit r n s).drc = s.drc ∧ (State.appendBit r n s).dka =
    s.dka ∧ (State.appendBit r n s).vrl = s.vrl ∧ (State.appendBit r n s).tgh = s.tgh ∧
    (State.appendBit r n s).pst = s.pst ∧ (State.appendBit r n s).now = s.now ∧ (State.appendBit
    r n s).pending = s.pending := by
  unfold State.appendBit; dsimp only; (repeat' split) <;> simp

@[simp] theorem State.startBurst_frame (s : State) :
    (State.startBurst s).lps = s.lps ∧ (State.startBurst s).ssu = s.ssu ∧ (State.startBurst
    s).brm = s.brm ∧ (State.startBurst s).drc = s.drc ∧ (State.startBurst s).dka = s.dka ∧
    (State.startBurst s).vrl = s.vrl ∧ (State.startBurst s).tgh = s.tgh ∧ (State.startBurst
    s).pif = s.pif ∧ (State.startBurst s).pst = s.pst ∧ (State.startBurst s).now = s.now ∧
    (State.startBurst s).pending = s.pending := by
  simp [State.startBurst]

@[simp] theorem State.readerEdge_frame (r : Reader) (b : Bool) (n : Nat) (s : State) :
    (State.readerEdge r b n s).lps = s.lps ∧ (State.readerEdge r b n s).ssu = s.ssu ∧
    (State.readerEdge r b n s).brm = s.brm ∧ (State.readerEdge r b n s).drc = s.drc ∧
    (State.readerEdge r b n s).dka = s.dka ∧ (State.readerEdge r b n s).vrl = s.vrl ∧
    (State.readerEdge r b n s).tgh = s.tgh ∧ (State.readerEdge r b n s).pst = s.pst ∧
    (State.readerEdge r b n s).now = s.now ∧ (State.readerEdge r b n s).pending = s.pending := by
  unfold State.readerEdge; (repeat' split) <;> simp

@[simp] theorem State.restartCollection_frame (n : Nat) (s : State) :
    (State.restartCollection n s).lps = s.lps ∧ (State.restartCollection n s).ssu = s.ssu ∧
    (State.restartCollection n s).brm = s.brm ∧ (State.restartCollection n s).drc = s.drc ∧
    (State.restartCollection n s).dka = s.dka ∧ (State.restartCollection n s).vrl = s.vrl ∧
    (State.restartCollection n s).tgh = s.tgh ∧ (State.restartCollection n s).pif = s.pif ∧
    (State.restartCollection n s).pst = s.pst ∧ (State.restartCollection n s).now = s.now ∧
    (State.restartCollection n s).pending = s.pending := by
  simp [State.restartCollection]

@[simp] theorem State.capture_frame (b : Bool) (n : Nat) (s : State) :
    (State.capture b n s).lps = s.lps ∧ (State.capture b n s).ssu = s.ssu ∧ (State.capture b n
    s).brm = s.brm ∧ (State.capture b n s).drc = s.drc ∧ (State.capture b n s).dka = s.dka ∧
    (State.capture b n s).vrl = s.vrl ∧ (State.capture b n s).tgh = s.tgh ∧ (State.capture b n
    s).pst = s.pst ∧ (State.capture b n s).now = s.now ∧ (State.capture b n s).pending =
    s.pending := by
  simp [State.capture]

@[simp] theorem State.endCollection_frame (s : State) :
    (State.endCollection s).lps = s.lps ∧ (State.endCollection s).ssu = s.ssu ∧
    (State.endCollection s).brm = s.brm ∧ (State.endCollection s).drc = s.drc ∧
    (State.endCollection s).dka = s.dka ∧ (State.endCollection s).vrl = s.vrl ∧
    (State.endCollection s).tgh = s.tgh ∧ (State.endCollection s).pif = s.pif ∧
    (State.endCollection s).pst = s.pst ∧ (State.endCollection s).now = s.now ∧
    (State.endCollection s).pending = s.pending := by
  unfold State.endCollection; split <;> simp

@[simp] theorem State.restored_frame (a b : Nat) (s : State) :
    (State.restored a b s).lps = s.lps ∧ (State.restored a b s).ssu = s.ssu ∧ (State.restored a
    b s).brm = s.brm ∧ (State.restored a b s).drc = s.drc ∧ (State.restored a b s).dka = s.dka ∧
    (State.restored a b s).vrl = s.vrl ∧ (State.restored a b s).tgh = s.tgh ∧ (State.restored a
    b s).pst = s.pst ∧ (State.restored a b s).now = s.now ∧ (State.restored a b s).pending =
    s.pending := by
  simp [State.restored]

@[simp] theorem State.markerRead_frame (i : BitVec 12) (c : BitVec 4) (s : State) :
    (State.markerRead i c s).lps = s.lps ∧ (State.markerRead i c s).ssu = s.ssu ∧
    (State.markerRead i c s).brm = s.brm ∧ (State.markerRead i c s).drc = s.drc ∧
    (State.markerRead i c s).dka = s.dka ∧ (State.markerRead i c s).vrl = s.vrl ∧
    (State.markerRead i c s).tgh = s.tgh ∧ (State.markerRead i c s).pst = s.pst ∧
    (State.markerRead i c s).now = s.now ∧ (State.markerRead i c s).pending = s.pending := by
  simp [State.markerRead]

@[simp] theorem State.sampleClock_frame (s : State) :
    (State.sampleClock s).lps = s.lps ∧ (State.sampleClock s).ssu = s.ssu ∧ (State.sampleClock
    s).dka = s.dka ∧ (State.sampleClock s).tgh = s.tgh ∧ (State.sampleClock s).pif = s.pif ∧
    (State.sampleClock s).pst = s.pst ∧ (State.sampleClock s).pending = s.pending := by
  simp [State.sampleClock]

@[simp] theorem State.standExpiry_frame (s : State) :
    (State.standExpiry s).lps = s.lps ∧ (State.standExpiry s).ssu = s.ssu ∧ (State.standExpiry
    s).drc = s.drc ∧ (State.standExpiry s).vrl = s.vrl ∧ (State.standExpiry s).tgh = s.tgh ∧
    (State.standExpiry s).pif = s.pif ∧ (State.standExpiry s).pst = s.pst ∧ (State.standExpiry
    s).now = s.now ∧ (State.standExpiry s).pending = s.pending := by
  unfold State.standExpiry; split <;> simp

@[simp] theorem State.abortRadioLoad_frame (s : State) :
    (State.abortRadioLoad s).odu = s.odu ∧ (State.abortRadioLoad s).ssu = s.ssu ∧
    (State.abortRadioLoad s).brm = s.brm ∧ (State.abortRadioLoad s).drc = s.drc ∧
    (State.abortRadioLoad s).dka = s.dka ∧ (State.abortRadioLoad s).vrl = s.vrl ∧
    (State.abortRadioLoad s).tgh = s.tgh ∧ (State.abortRadioLoad s).pst = s.pst ∧
    (State.abortRadioLoad s).now = s.now ∧ (State.abortRadioLoad s).pending = s.pending := by
  unfold State.abortRadioLoad; (repeat' split) <;> simp

@[simp] theorem State.checkStep_frame (s : State) :
    (State.checkStep s).odu = s.odu ∧ (State.checkStep s).ssu = s.ssu ∧ (State.checkStep s).brm
    = s.brm ∧ (State.checkStep s).drc = s.drc ∧ (State.checkStep s).dka = s.dka ∧
    (State.checkStep s).vrl = s.vrl ∧ (State.checkStep s).tgh = s.tgh ∧ (State.checkStep s).pst
    = s.pst ∧ (State.checkStep s).now = s.now ∧ (State.checkStep s).pending = s.pending := by
  unfold State.checkStep; dsimp only; (repeat' split) <;> simp

@[simp] theorem State.scrubStep_frame (s : State) :
    (State.scrubStep s).odu = s.odu ∧ (State.scrubStep s).brm = s.brm ∧ (State.scrubStep s).drc
    = s.drc ∧ (State.scrubStep s).dka = s.dka ∧ (State.scrubStep s).vrl = s.vrl ∧
    (State.scrubStep s).pst = s.pst ∧ (State.scrubStep s).now = s.now ∧ (State.scrubStep
    s).pending = s.pending := by
  unfold State.scrubStep; dsimp only; (repeat' split) <;> simp

@[simp] theorem State.lpsClock_frame (s : State) :
    (State.lpsClock s).odu = s.odu ∧ (State.lpsClock s).ssu = s.ssu ∧ (State.lpsClock s).dka =
    s.dka ∧ (State.lpsClock s).tgh = s.tgh ∧ (State.lpsClock s).pif = s.pif ∧ (State.lpsClock
    s).pst = s.pst ∧ (State.lpsClock s).pending = s.pending := by
  simp [State.lpsClock]

@[simp] theorem State.setMode_frame (m : Mode) (s : State) :
    (State.setMode m s).odu = s.odu ∧ (State.setMode m s).lps = s.lps ∧ (State.setMode m s).brm
    = s.brm ∧ (State.setMode m s).drc = s.drc ∧ (State.setMode m s).dka = s.dka ∧ (State.setMode
    m s).vrl = s.vrl ∧ (State.setMode m s).tgh = s.tgh ∧ (State.setMode m s).pst = s.pst ∧
    (State.setMode m s).now = s.now ∧ (State.setMode m s).pending = s.pending := by
  simp [State.setMode]

@[simp] theorem State.changeRestrictions_frame (l : List Restriction) (c : Option Nat) (s : State) :
    (State.changeRestrictions l c s).odu = s.odu ∧ (State.changeRestrictions l c s).lps = s.lps
    ∧ (State.changeRestrictions l c s).brm = s.brm ∧ (State.changeRestrictions l c s).drc =
    s.drc ∧ (State.changeRestrictions l c s).dka = s.dka ∧ (State.changeRestrictions l c s).vrl
    = s.vrl ∧ (State.changeRestrictions l c s).tgh = s.tgh ∧ (State.changeRestrictions l c
    s).pst = s.pst ∧ (State.changeRestrictions l c s).now = s.now ∧ (State.changeRestrictions l
    c s).pending = s.pending := by
  simp [State.changeRestrictions]

@[simp] theorem State.restrictionSet_frame (i a b v : Nat) (x : Option Applies) (s : State) :
    (State.restrictionSet i a b v x s).odu = s.odu ∧ (State.restrictionSet i a b v x s).lps =
    s.lps ∧ (State.restrictionSet i a b v x s).brm = s.brm ∧ (State.restrictionSet i a b v x
    s).drc = s.drc ∧ (State.restrictionSet i a b v x s).dka = s.dka ∧ (State.restrictionSet i a
    b v x s).vrl = s.vrl ∧ (State.restrictionSet i a b v x s).tgh = s.tgh ∧
    (State.restrictionSet i a b v x s).pst = s.pst ∧ (State.restrictionSet i a b v x s).now =
    s.now ∧ (State.restrictionSet i a b v x s).pending = s.pending := by
  unfold State.restrictionSet; dsimp only; (repeat' split) <;> simp

@[simp] theorem State.restrictionClear_frame (i : Nat) (s : State) :
    (State.restrictionClear i s).odu = s.odu ∧ (State.restrictionClear i s).lps = s.lps ∧
    (State.restrictionClear i s).brm = s.brm ∧ (State.restrictionClear i s).drc = s.drc ∧
    (State.restrictionClear i s).dka = s.dka ∧ (State.restrictionClear i s).vrl = s.vrl ∧
    (State.restrictionClear i s).tgh = s.tgh ∧ (State.restrictionClear i s).pst = s.pst ∧
    (State.restrictionClear i s).now = s.now ∧ (State.restrictionClear i s).pending = s.pending := by
  unfold State.restrictionClear; dsimp only; (repeat' split) <;> simp

@[simp] theorem State.setTravelDir_frame (s : State) :
    (State.setTravelDir s).odu = s.odu ∧ (State.setTravelDir s).lps = s.lps ∧
    (State.setTravelDir s).brm = s.brm ∧ (State.setTravelDir s).drc = s.drc ∧
    (State.setTravelDir s).dka = s.dka ∧ (State.setTravelDir s).vrl = s.vrl ∧
    (State.setTravelDir s).tgh = s.tgh ∧ (State.setTravelDir s).pif = s.pif ∧
    (State.setTravelDir s).pst = s.pst ∧ (State.setTravelDir s).now = s.now ∧
    (State.setTravelDir s).pending = s.pending := by
  unfold State.setTravelDir; split <;> simp

@[simp] theorem State.takeComputed_frame (c : Computed) (s : State) :
    (State.takeComputed c s).odu = s.odu ∧ (State.takeComputed c s).lps = s.lps ∧
    (State.takeComputed c s).brm = s.brm ∧ (State.takeComputed c s).drc = s.drc ∧
    (State.takeComputed c s).dka = s.dka ∧ (State.takeComputed c s).vrl = s.vrl ∧
    (State.takeComputed c s).tgh = s.tgh ∧ (State.takeComputed c s).pst = s.pst ∧
    (State.takeComputed c s).now = s.now ∧ (State.takeComputed c s).pending = s.pending := by
  simp [State.takeComputed]

@[simp] theorem State.steepNotice_frame (s : State) :
    (State.steepNotice s).odu = s.odu ∧ (State.steepNotice s).lps = s.lps ∧ (State.steepNotice
    s).brm = s.brm ∧ (State.steepNotice s).drc = s.drc ∧ (State.steepNotice s).dka = s.dka ∧
    (State.steepNotice s).vrl = s.vrl ∧ (State.steepNotice s).tgh = s.tgh ∧ (State.steepNotice
    s).pst = s.pst ∧ (State.steepNotice s).now = s.now ∧ (State.steepNotice s).pending =
    s.pending := by
  unfold State.steepNotice; split <;> simp

@[simp] theorem State.overrunTest_frame (s : State) :
    (State.overrunTest s).odu = s.odu ∧ (State.overrunTest s).lps = s.lps ∧ (State.overrunTest
    s).brm = s.brm ∧ (State.overrunTest s).drc = s.drc ∧ (State.overrunTest s).dka = s.dka ∧
    (State.overrunTest s).vrl = s.vrl ∧ (State.overrunTest s).tgh = s.tgh ∧ (State.overrunTest
    s).pst = s.pst ∧ (State.overrunTest s).now = s.now ∧ (State.overrunTest s).pending =
    s.pending := by
  unfold State.overrunTest; dsimp only; split <;> simp

@[simp] theorem State.cycleNone_frame (s : State) :
    (State.cycleNone s).odu = s.odu ∧ (State.cycleNone s).lps = s.lps ∧ (State.cycleNone s).brm
    = s.brm ∧ (State.cycleNone s).drc = s.drc ∧ (State.cycleNone s).dka = s.dka ∧
    (State.cycleNone s).vrl = s.vrl ∧ (State.cycleNone s).tgh = s.tgh ∧ (State.cycleNone s).pst
    = s.pst ∧ (State.cycleNone s).now = s.now ∧ (State.cycleNone s).pending = s.pending := by
  simp [State.cycleNone]

@[simp] theorem State.cycle_frame (s : State) :
    (State.cycle s).odu = s.odu ∧ (State.cycle s).lps = s.lps ∧ (State.cycle s).brm = s.brm ∧
    (State.cycle s).drc = s.drc ∧ (State.cycle s).dka = s.dka ∧ (State.cycle s).vrl = s.vrl ∧
    (State.cycle s).tgh = s.tgh ∧ (State.cycle s).pst = s.pst ∧ (State.cycle s).now = s.now ∧
    (State.cycle s).pending = s.pending := by
  unfold State.cycle; split <;> simp

@[simp] theorem State.cycleClock_frame (s : State) :
    (State.cycleClock s).odu = s.odu ∧ (State.cycleClock s).lps = s.lps ∧ (State.cycleClock
    s).dka = s.dka ∧ (State.cycleClock s).tgh = s.tgh ∧ (State.cycleClock s).pif = s.pif ∧
    (State.cycleClock s).pst = s.pst ∧ (State.cycleClock s).pending = s.pending := by
  simp [State.cycleClock]

@[simp] theorem State.gateClock_frame (s : State) :
    (State.gateClock s).odu = s.odu ∧ (State.gateClock s).lps = s.lps ∧ (State.gateClock s).ssu
    = s.ssu ∧ (State.gateClock s).dka = s.dka ∧ (State.gateClock s).tgh = s.tgh ∧
    (State.gateClock s).pif = s.pif ∧ (State.gateClock s).pst = s.pst ∧ (State.gateClock
    s).pending = s.pending := by
  simp [State.gateClock]

@[simp] theorem State.measure_frame (s : State) :
    (State.measure s).odu = s.odu ∧ (State.measure s).lps = s.lps ∧ (State.measure s).ssu =
    s.ssu ∧ (State.measure s).drc = s.drc ∧ (State.measure s).dka = s.dka ∧ (State.measure
    s).vrl = s.vrl ∧ (State.measure s).tgh = s.tgh ∧ (State.measure s).pst = s.pst ∧
    (State.measure s).now = s.now ∧ (State.measure s).pending = s.pending := by
  simp [State.measure]

@[simp] theorem State.clearFriction_frame (s : State) :
    (State.clearFriction s).odu = s.odu ∧ (State.clearFriction s).lps = s.lps ∧
    (State.clearFriction s).ssu = s.ssu ∧ (State.clearFriction s).drc = s.drc ∧
    (State.clearFriction s).dka = s.dka ∧ (State.clearFriction s).vrl = s.vrl ∧
    (State.clearFriction s).tgh = s.tgh ∧ (State.clearFriction s).pst = s.pst ∧
    (State.clearFriction s).now = s.now ∧ (State.clearFriction s).pending = s.pending := by
  unfold State.clearFriction; split <;> simp

@[simp] theorem State.takeWaiting_frame (s : State) :
    (State.takeWaiting s).odu = s.odu ∧ (State.takeWaiting s).lps = s.lps ∧ (State.takeWaiting
    s).ssu = s.ssu ∧ (State.takeWaiting s).drc = s.drc ∧ (State.takeWaiting s).dka = s.dka ∧
    (State.takeWaiting s).vrl = s.vrl ∧ (State.takeWaiting s).tgh = s.tgh ∧ (State.takeWaiting
    s).pif = s.pif ∧ (State.takeWaiting s).pst = s.pst ∧ (State.takeWaiting s).now = s.now ∧
    (State.takeWaiting s).pending = s.pending := by
  unfold State.takeWaiting; (repeat' split) <;> simp

@[simp] theorem State.pinionFails_frame (b : Bogie) (s : State) :
    (State.pinionFails b s).odu = s.odu ∧ (State.pinionFails b s).lps = s.lps ∧
    (State.pinionFails b s).ssu = s.ssu ∧ (State.pinionFails b s).drc = s.drc ∧
    (State.pinionFails b s).dka = s.dka ∧ (State.pinionFails b s).vrl = s.vrl ∧
    (State.pinionFails b s).tgh = s.tgh ∧ (State.pinionFails b s).pst = s.pst ∧
    (State.pinionFails b s).now = s.now ∧ (State.pinionFails b s).pending = s.pending := by
  unfold State.pinionFails; split <;> simp

@[simp] theorem State.setApplied_frame (b : Bogie) (a : Bool) (s : State) :
    (State.setApplied b a s).odu = s.odu ∧ (State.setApplied b a s).lps = s.lps ∧
    (State.setApplied b a s).ssu = s.ssu ∧ (State.setApplied b a s).drc = s.drc ∧
    (State.setApplied b a s).dka = s.dka ∧ (State.setApplied b a s).vrl = s.vrl ∧
    (State.setApplied b a s).tgh = s.tgh ∧ (State.setApplied b a s).pif = s.pif ∧
    (State.setApplied b a s).pst = s.pst ∧ (State.setApplied b a s).now = s.now ∧
    (State.setApplied b a s).pending = s.pending := by
  simp [State.setApplied]

@[simp] theorem State.takeEffort_frame (e : Option Int) (s : State) :
    (State.takeEffort e s).odu = s.odu ∧ (State.takeEffort e s).lps = s.lps ∧ (State.takeEffort
    e s).ssu = s.ssu ∧ (State.takeEffort e s).drc = s.drc ∧ (State.takeEffort e s).dka = s.dka ∧
    (State.takeEffort e s).vrl = s.vrl ∧ (State.takeEffort e s).tgh = s.tgh ∧ (State.takeEffort
    e s).pif = s.pif ∧ (State.takeEffort e s).pst = s.pst ∧ (State.takeEffort e s).now = s.now ∧
    (State.takeEffort e s).pending = s.pending := by
  simp [State.takeEffort]

@[simp] theorem State.openLoop_frame (s : State) :
    (State.openLoop s).odu = s.odu ∧ (State.openLoop s).lps = s.lps ∧ (State.openLoop s).ssu =
    s.ssu ∧ (State.openLoop s).drc = s.drc ∧ (State.openLoop s).dka = s.dka ∧ (State.openLoop
    s).vrl = s.vrl ∧ (State.openLoop s).tgh = s.tgh ∧ (State.openLoop s).pst = s.pst ∧
    (State.openLoop s).now = s.now ∧ (State.openLoop s).pending = s.pending := by
  simp [State.openLoop]

@[simp] theorem State.stall_frame (s : State) :
    (State.stall s).odu = s.odu ∧ (State.stall s).lps = s.lps ∧ (State.stall s).ssu = s.ssu ∧
    (State.stall s).drc = s.drc ∧ (State.stall s).dka = s.dka ∧ (State.stall s).vrl = s.vrl ∧
    (State.stall s).tgh = s.tgh ∧ (State.stall s).pst = s.pst ∧ (State.stall s).now = s.now ∧
    (State.stall s).pending = s.pending := by
  unfold State.stall; split <;> simp

@[simp] theorem State.countedReversal_frame (i : DoorId) (s : State) :
    (State.countedReversal i s).odu = s.odu ∧ (State.countedReversal i s).lps = s.lps ∧
    (State.countedReversal i s).ssu = s.ssu ∧ (State.countedReversal i s).brm = s.brm ∧
    (State.countedReversal i s).dka = s.dka ∧ (State.countedReversal i s).vrl = s.vrl ∧
    (State.countedReversal i s).tgh = s.tgh ∧ (State.countedReversal i s).pst = s.pst ∧
    (State.countedReversal i s).now = s.now ∧ (State.countedReversal i s).pending = s.pending := by
  unfold State.countedReversal; split <;> simp

@[simp] theorem State.startClosing_frame (i : DoorId) (s : State) :
    (State.startClosing i s).odu = s.odu ∧ (State.startClosing i s).lps = s.lps ∧
    (State.startClosing i s).ssu = s.ssu ∧ (State.startClosing i s).brm = s.brm ∧
    (State.startClosing i s).dka = s.dka ∧ (State.startClosing i s).vrl = s.vrl ∧
    (State.startClosing i s).tgh = s.tgh ∧ (State.startClosing i s).pst = s.pst ∧
    (State.startClosing i s).now = s.now ∧ (State.startClosing i s).pending = s.pending := by
  unfold State.startClosing; dsimp only; (repeat' split) <;> simp

@[simp] theorem State.grant_frame (i : CarSide) (d : Desk) (s : State) :
    (State.grant i d s).odu = s.odu ∧ (State.grant i d s).lps = s.lps ∧ (State.grant i d s).ssu
    = s.ssu ∧ (State.grant i d s).brm = s.brm ∧ (State.grant i d s).dka = s.dka ∧ (State.grant i
    d s).vrl = s.vrl ∧ (State.grant i d s).tgh = s.tgh ∧ (State.grant i d s).pst = s.pst ∧
    (State.grant i d s).now = s.now ∧ (State.grant i d s).pending = s.pending := by
  simp [State.grant]

@[simp] theorem State.lkSet_frame (i : DoorId) (s : State) :
    (State.lkSet i s).odu = s.odu ∧ (State.lkSet i s).lps = s.lps ∧ (State.lkSet i s).ssu =
    s.ssu ∧ (State.lkSet i s).brm = s.brm ∧ (State.lkSet i s).dka = s.dka ∧ (State.lkSet i
    s).vrl = s.vrl ∧ (State.lkSet i s).tgh = s.tgh ∧ (State.lkSet i s).pst = s.pst ∧
    (State.lkSet i s).now = s.now ∧ (State.lkSet i s).pending = s.pending := by
  unfold State.lkSet; dsimp only; (repeat' split) <;> simp

@[simp] theorem State.lkCleared_frame (i : DoorId) (s : State) :
    (State.lkCleared i s).odu = s.odu ∧ (State.lkCleared i s).lps = s.lps ∧ (State.lkCleared i
    s).ssu = s.ssu ∧ (State.lkCleared i s).brm = s.brm ∧ (State.lkCleared i s).dka = s.dka ∧
    (State.lkCleared i s).vrl = s.vrl ∧ (State.lkCleared i s).tgh = s.tgh ∧ (State.lkCleared i
    s).pst = s.pst ∧ (State.lkCleared i s).now = s.now ∧ (State.lkCleared i s).pending =
    s.pending := by
  unfold State.lkCleared; dsimp only; split <;> simp

@[simp] theorem State.opSet_frame (i : DoorId) (s : State) :
    (State.opSet i s).odu = s.odu ∧ (State.opSet i s).lps = s.lps ∧ (State.opSet i s).ssu =
    s.ssu ∧ (State.opSet i s).brm = s.brm ∧ (State.opSet i s).dka = s.dka ∧ (State.opSet i
    s).vrl = s.vrl ∧ (State.opSet i s).tgh = s.tgh ∧ (State.opSet i s).pst = s.pst ∧
    (State.opSet i s).now = s.now ∧ (State.opSet i s).pending = s.pending := by
  unfold State.opSet; dsimp only; (repeat' split) <;> simp

@[simp] theorem State.opCleared_frame (i : DoorId) (s : State) :
    (State.opCleared i s).odu = s.odu ∧ (State.opCleared i s).lps = s.lps ∧ (State.opCleared i
    s).ssu = s.ssu ∧ (State.opCleared i s).brm = s.brm ∧ (State.opCleared i s).dka = s.dka ∧
    (State.opCleared i s).vrl = s.vrl ∧ (State.opCleared i s).tgh = s.tgh ∧ (State.opCleared i
    s).pif = s.pif ∧ (State.opCleared i s).pst = s.pst ∧ (State.opCleared i s).now = s.now ∧
    (State.opCleared i s).pending = s.pending := by
  simp [State.opCleared]

@[simp] theorem State.edLevel_frame (i : DoorId) (a : Bool) (s : State) :
    (State.edLevel i a s).odu = s.odu ∧ (State.edLevel i a s).lps = s.lps ∧ (State.edLevel i a
    s).ssu = s.ssu ∧ (State.edLevel i a s).brm = s.brm ∧ (State.edLevel i a s).dka = s.dka ∧
    (State.edLevel i a s).vrl = s.vrl ∧ (State.edLevel i a s).tgh = s.tgh ∧ (State.edLevel i a
    s).pst = s.pst ∧ (State.edLevel i a s).now = s.now ∧ (State.edLevel i a s).pending =
    s.pending := by
  unfold State.edLevel; split <;> simp

@[simp] theorem State.pressed_frame (i : DoorId) (s : State) :
    (State.pressed i s).odu = s.odu ∧ (State.pressed i s).lps = s.lps ∧ (State.pressed i s).ssu
    = s.ssu ∧ (State.pressed i s).brm = s.brm ∧ (State.pressed i s).dka = s.dka ∧ (State.pressed
    i s).vrl = s.vrl ∧ (State.pressed i s).tgh = s.tgh ∧ (State.pressed i s).pif = s.pif ∧
    (State.pressed i s).pst = s.pst ∧ (State.pressed i s).now = s.now ∧ (State.pressed i
    s).pending = s.pending := by
  unfold State.pressed; dsimp only; (repeat' split) <;> simp

@[simp] theorem State.pbLevel_frame (i : DoorId) (a : Bool) (s : State) :
    (State.pbLevel i a s).odu = s.odu ∧ (State.pbLevel i a s).lps = s.lps ∧ (State.pbLevel i a
    s).ssu = s.ssu ∧ (State.pbLevel i a s).brm = s.brm ∧ (State.pbLevel i a s).dka = s.dka ∧
    (State.pbLevel i a s).vrl = s.vrl ∧ (State.pbLevel i a s).tgh = s.tgh ∧ (State.pbLevel i a
    s).pif = s.pif ∧ (State.pbLevel i a s).pst = s.pst ∧ (State.pbLevel i a s).now = s.now ∧
    (State.pbLevel i a s).pending = s.pending := by
  unfold State.pbLevel; split <;> simp

@[simp] theorem State.isolate_frame (i : DoorId) (s : State) :
    (State.isolate i s).odu = s.odu ∧ (State.isolate i s).lps = s.lps ∧ (State.isolate i s).ssu
    = s.ssu ∧ (State.isolate i s).brm = s.brm ∧ (State.isolate i s).dka = s.dka ∧ (State.isolate
    i s).vrl = s.vrl ∧ (State.isolate i s).tgh = s.tgh ∧ (State.isolate i s).pif = s.pif ∧
    (State.isolate i s).pst = s.pst ∧ (State.isolate i s).now = s.now ∧ (State.isolate i
    s).pending = s.pending := by
  simp [State.isolate]

@[simp] theorem State.toService_frame (i : DoorId) (s : State) :
    (State.toService i s).odu = s.odu ∧ (State.toService i s).lps = s.lps ∧ (State.toService i
    s).ssu = s.ssu ∧ (State.toService i s).brm = s.brm ∧ (State.toService i s).dka = s.dka ∧
    (State.toService i s).vrl = s.vrl ∧ (State.toService i s).tgh = s.tgh ∧ (State.toService i
    s).pst = s.pst ∧ (State.toService i s).now = s.now ∧ (State.toService i s).pending =
    s.pending := by
  unfold State.toService; dsimp only; split <;> simp

@[simp] theorem State.goStale_frame (d : Desk) (s : State) :
    (State.goStale d s).odu = s.odu ∧ (State.goStale d s).lps = s.lps ∧ (State.goStale d s).ssu
    = s.ssu ∧ (State.goStale d s).brm = s.brm ∧ (State.goStale d s).drc = s.drc ∧ (State.goStale
    d s).vrl = s.vrl ∧ (State.goStale d s).tgh = s.tgh ∧ (State.goStale d s).pst = s.pst ∧
    (State.goStale d s).now = s.now ∧ (State.goStale d s).pending = s.pending := by
  simp [State.goStale]

@[simp] theorem State.activateDesk_frame (d : Desk) (s : State) :
    (State.activateDesk d s).odu = s.odu ∧ (State.activateDesk d s).lps = s.lps ∧
    (State.activateDesk d s).brm = s.brm ∧ (State.activateDesk d s).drc = s.drc ∧
    (State.activateDesk d s).vrl = s.vrl ∧ (State.activateDesk d s).tgh = s.tgh ∧
    (State.activateDesk d s).pst = s.pst ∧ (State.activateDesk d s).now = s.now ∧
    (State.activateDesk d s).pending = s.pending := by
  simp [State.activateDesk]

@[simp] theorem State.deactivateDesk_frame (s : State) :
    (State.deactivateDesk s).odu = s.odu ∧ (State.deactivateDesk s).lps = s.lps ∧
    (State.deactivateDesk s).brm = s.brm ∧ (State.deactivateDesk s).vrl = s.vrl ∧
    (State.deactivateDesk s).tgh = s.tgh ∧ (State.deactivateDesk s).pst = s.pst ∧
    (State.deactivateDesk s).now = s.now ∧ (State.deactivateDesk s).pending = s.pending := by
  simp [State.deactivateDesk]

@[simp] theorem State.orphaned_frame (s : State) :
    (State.orphaned s).odu = s.odu ∧ (State.orphaned s).lps = s.lps ∧ (State.orphaned s).brm =
    s.brm ∧ (State.orphaned s).vrl = s.vrl ∧ (State.orphaned s).tgh = s.tgh ∧ (State.orphaned
    s).pst = s.pst ∧ (State.orphaned s).now = s.now ∧ (State.orphaned s).pending = s.pending := by
  simp [State.orphaned]

@[simp] theorem State.formatError_frame (s : State) :
    (State.formatError s).odu = s.odu ∧ (State.formatError s).lps = s.lps ∧ (State.formatError
    s).ssu = s.ssu ∧ (State.formatError s).brm = s.brm ∧ (State.formatError s).drc = s.drc ∧
    (State.formatError s).dka = s.dka ∧ (State.formatError s).vrl = s.vrl ∧ (State.formatError
    s).pif = s.pif ∧ (State.formatError s).pst = s.pst ∧ (State.formatError s).now = s.now ∧
    (State.formatError s).pending = s.pending := by
  simp [State.formatError]

@[simp] theorem State.foreignTelegram_frame (s : State) :
    (State.foreignTelegram s).odu = s.odu ∧ (State.foreignTelegram s).lps = s.lps ∧
    (State.foreignTelegram s).ssu = s.ssu ∧ (State.foreignTelegram s).brm = s.brm ∧
    (State.foreignTelegram s).drc = s.drc ∧ (State.foreignTelegram s).dka = s.dka ∧
    (State.foreignTelegram s).vrl = s.vrl ∧ (State.foreignTelegram s).pif = s.pif ∧
    (State.foreignTelegram s).pst = s.pst ∧ (State.foreignTelegram s).now = s.now ∧
    (State.foreignTelegram s).pending = s.pending := by
  simp [State.foreignTelegram]

@[simp] theorem State.setLink_frame (l : Link) (s : State) :
    (State.setLink l s).odu = s.odu ∧ (State.setLink l s).ssu = s.ssu ∧ (State.setLink l s).brm
    = s.brm ∧ (State.setLink l s).drc = s.drc ∧ (State.setLink l s).dka = s.dka ∧ (State.setLink
    l s).vrl = s.vrl ∧ (State.setLink l s).pst = s.pst ∧ (State.setLink l s).now = s.now ∧
    (State.setLink l s).pending = s.pending := by
  unfold State.setLink; (repeat' split) <;> simp

@[simp] theorem State.evaluateLink_frame (s : State) :
    (State.evaluateLink s).odu = s.odu ∧ (State.evaluateLink s).ssu = s.ssu ∧
    (State.evaluateLink s).brm = s.brm ∧ (State.evaluateLink s).drc = s.drc ∧
    (State.evaluateLink s).dka = s.dka ∧ (State.evaluateLink s).vrl = s.vrl ∧
    (State.evaluateLink s).pst = s.pst ∧ (State.evaluateLink s).now = s.now ∧
    (State.evaluateLink s).pending = s.pending := by
  simp [State.evaluateLink]

@[simp] theorem State.hearValley_frame (s : State) :
    (State.hearValley s).odu = s.odu ∧ (State.hearValley s).ssu = s.ssu ∧ (State.hearValley
    s).brm = s.brm ∧ (State.hearValley s).drc = s.drc ∧ (State.hearValley s).dka = s.dka ∧
    (State.hearValley s).vrl = s.vrl ∧ (State.hearValley s).pst = s.pst ∧ (State.hearValley
    s).now = s.now ∧ (State.hearValley s).pending = s.pending := by
  simp [State.hearValley]

@[simp] theorem State.silentCycle_frame (s : State) :
    (State.silentCycle s).odu = s.odu ∧ (State.silentCycle s).ssu = s.ssu ∧ (State.silentCycle
    s).brm = s.brm ∧ (State.silentCycle s).drc = s.drc ∧ (State.silentCycle s).dka = s.dka ∧
    (State.silentCycle s).vrl = s.vrl ∧ (State.silentCycle s).pst = s.pst ∧ (State.silentCycle
    s).now = s.now ∧ (State.silentCycle s).pending = s.pending := by
  simp [State.silentCycle]

@[simp] theorem State.takeBeacon_frame (bs : List Byte) (s : State) :
    (State.takeBeacon bs s).odu = s.odu ∧ (State.takeBeacon bs s).lps = s.lps ∧
    (State.takeBeacon bs s).ssu = s.ssu ∧ (State.takeBeacon bs s).brm = s.brm ∧
    (State.takeBeacon bs s).drc = s.drc ∧ (State.takeBeacon bs s).dka = s.dka ∧
    (State.takeBeacon bs s).vrl = s.vrl ∧ (State.takeBeacon bs s).pst = s.pst ∧
    (State.takeBeacon bs s).now = s.now ∧ (State.takeBeacon bs s).pending = s.pending := by
  simp [State.takeBeacon]

@[simp] theorem State.changeAuthority_frame (a : Option Authority) (s : State) :
    (State.changeAuthority a s).odu = s.odu ∧ (State.changeAuthority a s).lps = s.lps ∧
    (State.changeAuthority a s).brm = s.brm ∧ (State.changeAuthority a s).drc = s.drc ∧
    (State.changeAuthority a s).dka = s.dka ∧ (State.changeAuthority a s).vrl = s.vrl ∧
    (State.changeAuthority a s).pst = s.pst ∧ (State.changeAuthority a s).now = s.now ∧
    (State.changeAuthority a s).pending = s.pending := by
  simp [State.changeAuthority]

@[simp] theorem State.ignoreAuthority_frame (s : State) :
    (State.ignoreAuthority s).odu = s.odu ∧ (State.ignoreAuthority s).lps = s.lps ∧
    (State.ignoreAuthority s).ssu = s.ssu ∧ (State.ignoreAuthority s).brm = s.brm ∧
    (State.ignoreAuthority s).drc = s.drc ∧ (State.ignoreAuthority s).dka = s.dka ∧
    (State.ignoreAuthority s).vrl = s.vrl ∧ (State.ignoreAuthority s).pif = s.pif ∧
    (State.ignoreAuthority s).pst = s.pst ∧ (State.ignoreAuthority s).now = s.now ∧
    (State.ignoreAuthority s).pending = s.pending := by
  simp [State.ignoreAuthority]

@[simp] theorem State.acceptAuthority_frame (a : Authority) (s : State) :
    (State.acceptAuthority a s).odu = s.odu ∧ (State.acceptAuthority a s).lps = s.lps ∧
    (State.acceptAuthority a s).brm = s.brm ∧ (State.acceptAuthority a s).drc = s.drc ∧
    (State.acceptAuthority a s).dka = s.dka ∧ (State.acceptAuthority a s).vrl = s.vrl ∧
    (State.acceptAuthority a s).pst = s.pst ∧ (State.acceptAuthority a s).now = s.now ∧
    (State.acceptAuthority a s).pending = s.pending := by
  simp [State.acceptAuthority]

@[simp] theorem State.takeAuthority_frame (bs : List Byte) (s : State) :
    (State.takeAuthority bs s).odu = s.odu ∧ (State.takeAuthority bs s).lps = s.lps ∧
    (State.takeAuthority bs s).brm = s.brm ∧ (State.takeAuthority bs s).drc = s.drc ∧
    (State.takeAuthority bs s).dka = s.dka ∧ (State.takeAuthority bs s).vrl = s.vrl ∧
    (State.takeAuthority bs s).pst = s.pst ∧ (State.takeAuthority bs s).now = s.now ∧
    (State.takeAuthority bs s).pending = s.pending := by
  unfold State.takeAuthority; dsimp only; (repeat' split) <;> simp

@[simp] theorem State.takeRevoke_frame (bs : List Byte) (s : State) :
    (State.takeRevoke bs s).odu = s.odu ∧ (State.takeRevoke bs s).lps = s.lps ∧
    (State.takeRevoke bs s).brm = s.brm ∧ (State.takeRevoke bs s).drc = s.drc ∧
    (State.takeRevoke bs s).dka = s.dka ∧ (State.takeRevoke bs s).vrl = s.vrl ∧
    (State.takeRevoke bs s).pst = s.pst ∧ (State.takeRevoke bs s).now = s.now ∧
    (State.takeRevoke bs s).pending = s.pending := by
  unfold State.takeRevoke; (repeat' split) <;> simp

@[simp] theorem State.takeRestrictSet_frame (bs : List Byte) (s : State) :
    (State.takeRestrictSet bs s).odu = s.odu ∧ (State.takeRestrictSet bs s).lps = s.lps ∧
    (State.takeRestrictSet bs s).brm = s.brm ∧ (State.takeRestrictSet bs s).drc = s.drc ∧
    (State.takeRestrictSet bs s).dka = s.dka ∧ (State.takeRestrictSet bs s).vrl = s.vrl ∧
    (State.takeRestrictSet bs s).tgh = s.tgh ∧ (State.takeRestrictSet bs s).pst = s.pst ∧
    (State.takeRestrictSet bs s).now = s.now ∧ (State.takeRestrictSet bs s).pending = s.pending := by
  simp [State.takeRestrictSet]

@[simp] theorem State.takeRestrictClear_frame (bs : List Byte) (s : State) :
    (State.takeRestrictClear bs s).odu = s.odu ∧ (State.takeRestrictClear bs s).lps = s.lps ∧
    (State.takeRestrictClear bs s).brm = s.brm ∧ (State.takeRestrictClear bs s).drc = s.drc ∧
    (State.takeRestrictClear bs s).dka = s.dka ∧ (State.takeRestrictClear bs s).vrl = s.vrl ∧
    (State.takeRestrictClear bs s).tgh = s.tgh ∧ (State.takeRestrictClear bs s).pst = s.pst ∧
    (State.takeRestrictClear bs s).now = s.now ∧ (State.takeRestrictClear bs s).pending =
    s.pending := by
  simp [State.takeRestrictClear]

@[simp] theorem State.setCalls_frame (l : List Call) (w : Option Severity) (s : State) :
    (State.setCalls l w s).odu = s.odu ∧ (State.setCalls l w s).lps = s.lps ∧ (State.setCalls l
    w s).ssu = s.ssu ∧ (State.setCalls l w s).brm = s.brm ∧ (State.setCalls l w s).drc = s.drc ∧
    (State.setCalls l w s).dka = s.dka ∧ (State.setCalls l w s).vrl = s.vrl ∧ (State.setCalls l
    w s).pst = s.pst ∧ (State.setCalls l w s).now = s.now ∧ (State.setCalls l w s).pending =
    s.pending := by
  unfold State.setCalls; split <;> simp

@[simp] theorem State.takeCall_frame (c : Call) (s : State) :
    (State.takeCall c s).odu = s.odu ∧ (State.takeCall c s).lps = s.lps ∧ (State.takeCall c
    s).ssu = s.ssu ∧ (State.takeCall c s).brm = s.brm ∧ (State.takeCall c s).drc = s.drc ∧
    (State.takeCall c s).dka = s.dka ∧ (State.takeCall c s).vrl = s.vrl ∧ (State.takeCall c
    s).pst = s.pst ∧ (State.takeCall c s).now = s.now ∧ (State.takeCall c s).pending = s.pending := by
  unfold State.takeCall; (repeat' split) <;> simp

@[simp] theorem State.takeEmergencyCall_frame (bs : List Byte) (s : State) :
    (State.takeEmergencyCall bs s).odu = s.odu ∧ (State.takeEmergencyCall bs s).lps = s.lps ∧
    (State.takeEmergencyCall bs s).ssu = s.ssu ∧ (State.takeEmergencyCall bs s).brm = s.brm ∧
    (State.takeEmergencyCall bs s).drc = s.drc ∧ (State.takeEmergencyCall bs s).dka = s.dka ∧
    (State.takeEmergencyCall bs s).vrl = s.vrl ∧ (State.takeEmergencyCall bs s).pst = s.pst ∧
    (State.takeEmergencyCall bs s).now = s.now ∧ (State.takeEmergencyCall bs s).pending =
    s.pending := by
  unfold State.takeEmergencyCall; dsimp only; (repeat' split) <;> simp

@[simp] theorem State.takeCallCancel_frame (bs : List Byte) (s : State) :
    (State.takeCallCancel bs s).odu = s.odu ∧ (State.takeCallCancel bs s).lps = s.lps ∧
    (State.takeCallCancel bs s).ssu = s.ssu ∧ (State.takeCallCancel bs s).brm = s.brm ∧
    (State.takeCallCancel bs s).drc = s.drc ∧ (State.takeCallCancel bs s).dka = s.dka ∧
    (State.takeCallCancel bs s).vrl = s.vrl ∧ (State.takeCallCancel bs s).pst = s.pst ∧
    (State.takeCallCancel bs s).now = s.now ∧ (State.takeCallCancel bs s).pending = s.pending := by
  unfold State.takeCallCancel; dsimp only; split <;> simp

@[simp] theorem State.openProfile_frame (w : Writer) (v n : Nat) (s : State) :
    (State.openProfile w v n s).state.odu = s.odu ∧ (State.openProfile w v n s).state.ssu =
    s.ssu ∧ (State.openProfile w v n s).state.brm = s.brm ∧ (State.openProfile w v n
    s).state.drc = s.drc ∧ (State.openProfile w v n s).state.dka = s.dka ∧ (State.openProfile w
    v n s).state.vrl = s.vrl ∧ (State.openProfile w v n s).state.tgh = s.tgh ∧
    (State.openProfile w v n s).state.pif = s.pif ∧ (State.openProfile w v n s).state.pst =
    s.pst ∧ (State.openProfile w v n s).state.now = s.now ∧ (State.openProfile w v n
    s).state.pending = s.pending := by
  unfold State.openProfile; (repeat' split) <;> simp

@[simp] theorem State.radioBlock_frame (o : Nat) (bs : List Byte) (s : State) :
    (State.radioBlock o bs s).state.odu = s.odu ∧ (State.radioBlock o bs s).state.ssu = s.ssu ∧
    (State.radioBlock o bs s).state.brm = s.brm ∧ (State.radioBlock o bs s).state.drc = s.drc ∧
    (State.radioBlock o bs s).state.dka = s.dka ∧ (State.radioBlock o bs s).state.vrl = s.vrl ∧
    (State.radioBlock o bs s).state.tgh = s.tgh ∧ (State.radioBlock o bs s).state.pif = s.pif ∧
    (State.radioBlock o bs s).state.pst = s.pst ∧ (State.radioBlock o bs s).state.now = s.now ∧
    (State.radioBlock o bs s).state.pending = s.pending := by
  unfold State.radioBlock; (repeat' split) <;> simp

@[simp] theorem State.closeProfile_frame (w : Writer) (v : Nat) (c : BitVec 32) (s : State) :
    (State.closeProfile w v c s).state.odu = s.odu ∧ (State.closeProfile w v c s).state.ssu =
    s.ssu ∧ (State.closeProfile w v c s).state.brm = s.brm ∧ (State.closeProfile w v c
    s).state.drc = s.drc ∧ (State.closeProfile w v c s).state.dka = s.dka ∧ (State.closeProfile
    w v c s).state.vrl = s.vrl ∧ (State.closeProfile w v c s).state.tgh = s.tgh ∧
    (State.closeProfile w v c s).state.pst = s.pst ∧ (State.closeProfile w v c s).state.now =
    s.now ∧ (State.closeProfile w v c s).state.pending = s.pending := by
  unfold State.closeProfile; (repeat' split) <;> simp

@[simp] theorem State.abortProfile_frame (s : State) :
    (State.abortProfile s).state.odu = s.odu ∧ (State.abortProfile s).state.ssu = s.ssu ∧
    (State.abortProfile s).state.brm = s.brm ∧ (State.abortProfile s).state.drc = s.drc ∧
    (State.abortProfile s).state.dka = s.dka ∧ (State.abortProfile s).state.vrl = s.vrl ∧
    (State.abortProfile s).state.tgh = s.tgh ∧ (State.abortProfile s).state.pst = s.pst ∧
    (State.abortProfile s).state.now = s.now ∧ (State.abortProfile s).state.pending = s.pending := by
  unfold State.abortProfile; split <;> simp

@[simp] theorem State.activateProfile_frame (w : Writer) (v : Nat) (s : State) :
    (State.activateProfile w v s).state.odu = s.odu ∧ (State.activateProfile w v s).state.brm =
    s.brm ∧ (State.activateProfile w v s).state.drc = s.drc ∧ (State.activateProfile w v
    s).state.dka = s.dka ∧ (State.activateProfile w v s).state.vrl = s.vrl ∧
    (State.activateProfile w v s).state.pst = s.pst ∧ (State.activateProfile w v s).state.now =
    s.now ∧ (State.activateProfile w v s).state.pending = s.pending := by
  unfold State.activateProfile; (repeat' split) <;> simp

@[simp] theorem State.takeProfileOpen_frame (bs : List Byte) (s : State) :
    (State.takeProfileOpen bs s).odu = s.odu ∧ (State.takeProfileOpen bs s).ssu = s.ssu ∧
    (State.takeProfileOpen bs s).brm = s.brm ∧ (State.takeProfileOpen bs s).drc = s.drc ∧
    (State.takeProfileOpen bs s).dka = s.dka ∧ (State.takeProfileOpen bs s).vrl = s.vrl ∧
    (State.takeProfileOpen bs s).pif = s.pif ∧ (State.takeProfileOpen bs s).pst = s.pst ∧
    (State.takeProfileOpen bs s).now = s.now ∧ (State.takeProfileOpen bs s).pending = s.pending := by
  simp [State.takeProfileOpen, State.recordProfile]

@[simp] theorem State.takeProfileBlock_frame (bs : List Byte) (s : State) :
    (State.takeProfileBlock bs s).odu = s.odu ∧ (State.takeProfileBlock bs s).ssu = s.ssu ∧
    (State.takeProfileBlock bs s).brm = s.brm ∧ (State.takeProfileBlock bs s).drc = s.drc ∧
    (State.takeProfileBlock bs s).dka = s.dka ∧ (State.takeProfileBlock bs s).vrl = s.vrl ∧
    (State.takeProfileBlock bs s).pif = s.pif ∧ (State.takeProfileBlock bs s).pst = s.pst ∧
    (State.takeProfileBlock bs s).now = s.now ∧ (State.takeProfileBlock bs s).pending =
    s.pending := by
  simp [State.takeProfileBlock, State.recordProfile]

@[simp] theorem State.takeProfileClose_frame (bs : List Byte) (s : State) :
    (State.takeProfileClose bs s).odu = s.odu ∧ (State.takeProfileClose bs s).ssu = s.ssu ∧
    (State.takeProfileClose bs s).brm = s.brm ∧ (State.takeProfileClose bs s).drc = s.drc ∧
    (State.takeProfileClose bs s).dka = s.dka ∧ (State.takeProfileClose bs s).vrl = s.vrl ∧
    (State.takeProfileClose bs s).pst = s.pst ∧ (State.takeProfileClose bs s).now = s.now ∧
    (State.takeProfileClose bs s).pending = s.pending := by
  simp [State.takeProfileClose, State.recordProfile]

@[simp] theorem State.takeProfileActivate_frame (bs : List Byte) (s : State) :
    (State.takeProfileActivate bs s).odu = s.odu ∧ (State.takeProfileActivate bs s).brm = s.brm
    ∧ (State.takeProfileActivate bs s).drc = s.drc ∧ (State.takeProfileActivate bs s).dka =
    s.dka ∧ (State.takeProfileActivate bs s).vrl = s.vrl ∧ (State.takeProfileActivate bs s).pst
    = s.pst ∧ (State.takeProfileActivate bs s).now = s.now ∧ (State.takeProfileActivate bs
    s).pending = s.pending := by
  simp [State.takeProfileActivate, State.recordProfile]

@[simp] theorem State.notifyTexts_frame (s : State) :
    (State.notifyTexts s).odu = s.odu ∧ (State.notifyTexts s).lps = s.lps ∧ (State.notifyTexts
    s).ssu = s.ssu ∧ (State.notifyTexts s).brm = s.brm ∧ (State.notifyTexts s).drc = s.drc ∧
    (State.notifyTexts s).dka = s.dka ∧ (State.notifyTexts s).vrl = s.vrl ∧ (State.notifyTexts
    s).pst = s.pst ∧ (State.notifyTexts s).now = s.now ∧ (State.notifyTexts s).pending =
    s.pending := by
  simp [State.notifyTexts]

@[simp] theorem State.takeText_frame (e : Envelope) (s : State) :
    (State.takeText e s).odu = s.odu ∧ (State.takeText e s).lps = s.lps ∧ (State.takeText e
    s).ssu = s.ssu ∧ (State.takeText e s).brm = s.brm ∧ (State.takeText e s).drc = s.drc ∧
    (State.takeText e s).dka = s.dka ∧ (State.takeText e s).vrl = s.vrl ∧ (State.takeText e
    s).pst = s.pst ∧ (State.takeText e s).now = s.now ∧ (State.takeText e s).pending = s.pending := by
  unfold State.takeText; dsimp only; (repeat' split) <;> simp

@[simp] theorem State.testWaiting_frame (s : State) :
    (State.testWaiting s).odu = s.odu ∧ (State.testWaiting s).lps = s.lps ∧ (State.testWaiting
    s).ssu = s.ssu ∧ (State.testWaiting s).brm = s.brm ∧ (State.testWaiting s).drc = s.drc ∧
    (State.testWaiting s).dka = s.dka ∧ (State.testWaiting s).vrl = s.vrl ∧ (State.testWaiting
    s).pst = s.pst ∧ (State.testWaiting s).now = s.now ∧ (State.testWaiting s).pending =
    s.pending := by
  unfold State.testWaiting; (repeat' split) <;> simp

@[simp] theorem State.actOn_frame (k : TelegramKind) (e : Envelope) (s : State) :
    (State.actOn k e s).odu = s.odu ∧ (State.actOn k e s).brm = s.brm ∧ (State.actOn k e s).drc
    = s.drc ∧ (State.actOn k e s).dka = s.dka ∧ (State.actOn k e s).vrl = s.vrl ∧ (State.actOn k
    e s).pst = s.pst ∧ (State.actOn k e s).now = s.now ∧ (State.actOn k e s).pending = s.pending := by
  unfold State.actOn; split <;> simp

@[simp] theorem State.takeTelegram_frame (t : Telegram) (s : State) :
    (State.takeTelegram t s).odu = s.odu ∧ (State.takeTelegram t s).brm = s.brm ∧
    (State.takeTelegram t s).drc = s.drc ∧ (State.takeTelegram t s).dka = s.dka ∧
    (State.takeTelegram t s).vrl = s.vrl ∧ (State.takeTelegram t s).pst = s.pst ∧
    (State.takeTelegram t s).now = s.now ∧ (State.takeTelegram t s).pending = s.pending := by
  unfold State.takeTelegram; (repeat' split) <;> simp

@[simp] theorem State.popHead_frame (s : State) :
    (State.popHead s).state.odu = s.odu ∧ (State.popHead s).state.lps = s.lps ∧ (State.popHead
    s).state.ssu = s.ssu ∧ (State.popHead s).state.brm = s.brm ∧ (State.popHead s).state.drc =
    s.drc ∧ (State.popHead s).state.dka = s.dka ∧ (State.popHead s).state.vrl = s.vrl ∧
    (State.popHead s).state.pst = s.pst ∧ (State.popHead s).state.now = s.now ∧ (State.popHead
    s).state.pending = s.pending := by
  unfold State.popHead; split <;> simp

@[simp] theorem State.queueText_frame (s : State) :
    (State.queueText s).state.odu = s.odu ∧ (State.queueText s).state.lps = s.lps ∧
    (State.queueText s).state.ssu = s.ssu ∧ (State.queueText s).state.brm = s.brm ∧
    (State.queueText s).state.drc = s.drc ∧ (State.queueText s).state.dka = s.dka ∧
    (State.queueText s).state.vrl = s.vrl ∧ (State.queueText s).state.pif = s.pif ∧
    (State.queueText s).state.pst = s.pst ∧ (State.queueText s).state.now = s.now ∧
    (State.queueText s).state.pending = s.pending := by
  unfold State.queueText; (repeat' split) <;> simp

@[simp] theorem State.txClock_frame (s : State) :
    (State.txClock s).odu = s.odu ∧ (State.txClock s).lps = s.lps ∧ (State.txClock s).ssu =
    s.ssu ∧ (State.txClock s).dka = s.dka ∧ (State.txClock s).tgh = s.tgh ∧ (State.txClock
    s).pif = s.pif ∧ (State.txClock s).pst = s.pst ∧ (State.txClock s).pending = s.pending := by
  simp [State.txClock]

@[simp] theorem State.endTransmission_frame (s : State) :
    (State.endTransmission s).odu = s.odu ∧ (State.endTransmission s).lps = s.lps ∧
    (State.endTransmission s).ssu = s.ssu ∧ (State.endTransmission s).brm = s.brm ∧
    (State.endTransmission s).drc = s.drc ∧ (State.endTransmission s).dka = s.dka ∧
    (State.endTransmission s).tgh = s.tgh ∧ (State.endTransmission s).pif = s.pif ∧
    (State.endTransmission s).pst = s.pst ∧ (State.endTransmission s).now = s.now ∧
    (State.endTransmission s).pending = s.pending := by
  simp [State.endTransmission]

@[simp] theorem State.shiftTx_frame (s : State) :
    (State.shiftTx s).odu = s.odu ∧ (State.shiftTx s).lps = s.lps ∧ (State.shiftTx s).ssu =
    s.ssu ∧ (State.shiftTx s).brm = s.brm ∧ (State.shiftTx s).drc = s.drc ∧ (State.shiftTx
    s).dka = s.dka ∧ (State.shiftTx s).tgh = s.tgh ∧ (State.shiftTx s).pif = s.pif ∧
    (State.shiftTx s).pst = s.pst ∧ (State.shiftTx s).now = s.now ∧ (State.shiftTx s).pending =
    s.pending := by
  unfold State.shiftTx; dsimp only; (repeat' split) <;> simp

@[simp] theorem State.startTransmission_frame (s : State) :
    (State.startTransmission s).odu = s.odu ∧ (State.startTransmission s).lps = s.lps ∧
    (State.startTransmission s).ssu = s.ssu ∧ (State.startTransmission s).brm = s.brm ∧
    (State.startTransmission s).drc = s.drc ∧ (State.startTransmission s).dka = s.dka ∧
    (State.startTransmission s).pif = s.pif ∧ (State.startTransmission s).pst = s.pst ∧
    (State.startTransmission s).now = s.now ∧ (State.startTransmission s).pending = s.pending := by
  simp [State.startTransmission]

@[simp] theorem State.ownSlot_frame (s : State) :
    (State.ownSlot s).odu = s.odu ∧ (State.ownSlot s).lps = s.lps ∧ (State.ownSlot s).ssu =
    s.ssu ∧ (State.ownSlot s).brm = s.brm ∧ (State.ownSlot s).drc = s.drc ∧ (State.ownSlot
    s).dka = s.dka ∧ (State.ownSlot s).pif = s.pif ∧ (State.ownSlot s).pst = s.pst ∧
    (State.ownSlot s).now = s.now ∧ (State.ownSlot s).pending = s.pending := by
  unfold State.ownSlot; split <;> simp

@[simp] theorem State.setSync_frame (y : Sync) (s : State) :
    (State.setSync y s).odu = s.odu ∧ (State.setSync y s).lps = s.lps ∧ (State.setSync y s).ssu
    = s.ssu ∧ (State.setSync y s).brm = s.brm ∧ (State.setSync y s).drc = s.drc ∧ (State.setSync
    y s).dka = s.dka ∧ (State.setSync y s).tgh = s.tgh ∧ (State.setSync y s).pst = s.pst ∧
    (State.setSync y s).now = s.now ∧ (State.setSync y s).pending = s.pending := by
  unfold State.setSync; split <;> simp

@[simp] theorem State.missedTest_frame (s : State) :
    (State.missedTest s).odu = s.odu ∧ (State.missedTest s).lps = s.lps ∧ (State.missedTest
    s).ssu = s.ssu ∧ (State.missedTest s).brm = s.brm ∧ (State.missedTest s).drc = s.drc ∧
    (State.missedTest s).dka = s.dka ∧ (State.missedTest s).tgh = s.tgh ∧ (State.missedTest
    s).pst = s.pst ∧ (State.missedTest s).now = s.now ∧ (State.missedTest s).pending = s.pending := by
  unfold State.missedTest; split <;> simp

@[simp] theorem State.slotZero_frame (s : State) :
    (State.slotZero s).odu = s.odu ∧ (State.slotZero s).ssu = s.ssu ∧ (State.slotZero s).brm =
    s.brm ∧ (State.slotZero s).drc = s.drc ∧ (State.slotZero s).dka = s.dka ∧ (State.slotZero
    s).pst = s.pst ∧ (State.slotZero s).now = s.now ∧ (State.slotZero s).pending = s.pending := by
  simp [State.slotZero]

@[simp] theorem State.slotEvents_frame (s : State) :
    (State.slotEvents s).odu = s.odu ∧ (State.slotEvents s).ssu = s.ssu ∧ (State.slotEvents
    s).brm = s.brm ∧ (State.slotEvents s).drc = s.drc ∧ (State.slotEvents s).dka = s.dka ∧
    (State.slotEvents s).pst = s.pst ∧ (State.slotEvents s).now = s.now ∧ (State.slotEvents
    s).pending = s.pending := by
  unfold State.slotEvents; (repeat' split) <;> simp

@[simp] theorem State.arrive_frame (s : State) :
    (State.arrive s).odu = s.odu ∧ (State.arrive s).ssu = s.ssu ∧ (State.arrive s).brm = s.brm ∧
    (State.arrive s).drc = s.drc ∧ (State.arrive s).dka = s.dka ∧ (State.arrive s).pst = s.pst ∧
    (State.arrive s).now = s.now ∧ (State.arrive s).pending = s.pending := by
  simp [State.arrive]

@[simp] theorem State.txEvent_frame (s : State) :
    (State.txEvent s).odu = s.odu ∧ (State.txEvent s).ssu = s.ssu ∧ (State.txEvent s).dka =
    s.dka ∧ (State.txEvent s).pst = s.pst ∧ (State.txEvent s).pending = s.pending := by
  simp [State.txEvent]

@[simp] theorem State.txEventAt_frame (a b : Nat) (s : State) :
    (State.txEventAt a b s).odu = s.odu ∧ (State.txEventAt a b s).ssu = s.ssu ∧ (State.txEventAt
    a b s).dka = s.dka ∧ (State.txEventAt a b s).pst = s.pst ∧ (State.txEventAt a b s).pending =
    s.pending := by
  simp [State.txEventAt]

@[simp] theorem State.txLastEvent_frame (s : State) :
    (State.txLastEvent s).odu = s.odu ∧ (State.txLastEvent s).ssu = s.ssu ∧ (State.txLastEvent
    s).dka = s.dka ∧ (State.txLastEvent s).pst = s.pst ∧ (State.txLastEvent s).pending =
    s.pending := by
  simp [State.txLastEvent]

@[simp] theorem State.takeSync_frame (s : State) :
    (State.takeSync s).odu = s.odu ∧ (State.takeSync s).lps = s.lps ∧ (State.takeSync s).ssu =
    s.ssu ∧ (State.takeSync s).brm = s.brm ∧ (State.takeSync s).drc = s.drc ∧ (State.takeSync
    s).dka = s.dka ∧ (State.takeSync s).tgh = s.tgh ∧ (State.takeSync s).pst = s.pst ∧
    (State.takeSync s).now = s.now ∧ (State.takeSync s).pending = s.pending := by
  simp [State.takeSync]

@[simp] theorem State.deliver_frame (t : Telegram) (s : State) :
    (State.deliver t s).odu = s.odu ∧ (State.deliver t s).brm = s.brm ∧ (State.deliver t s).drc
    = s.drc ∧ (State.deliver t s).dka = s.dka ∧ (State.deliver t s).pst = s.pst ∧ (State.deliver
    t s).now = s.now ∧ (State.deliver t s).pending = s.pending := by
  unfold State.deliver; split <;> simp

@[simp] theorem State.noiseBit_frame (s : State) :
    (State.noiseBit s).odu = s.odu ∧ (State.noiseBit s).lps = s.lps ∧ (State.noiseBit s).ssu =
    s.ssu ∧ (State.noiseBit s).brm = s.brm ∧ (State.noiseBit s).drc = s.drc ∧ (State.noiseBit
    s).dka = s.dka ∧ (State.noiseBit s).tgh = s.tgh ∧ (State.noiseBit s).pif = s.pif ∧
    (State.noiseBit s).pst = s.pst ∧ (State.noiseBit s).now = s.now ∧ (State.noiseBit s).pending
    = s.pending := by
  simp [State.noiseBit]

@[simp] theorem State.headerBit_frame (b : Bool) (s : State) :
    (State.headerBit b s).odu = s.odu ∧ (State.headerBit b s).lps = s.lps ∧ (State.headerBit b
    s).ssu = s.ssu ∧ (State.headerBit b s).brm = s.brm ∧ (State.headerBit b s).drc = s.drc ∧
    (State.headerBit b s).dka = s.dka ∧ (State.headerBit b s).tgh = s.tgh ∧ (State.headerBit b
    s).pif = s.pif ∧ (State.headerBit b s).pst = s.pst ∧ (State.headerBit b s).now = s.now ∧
    (State.headerBit b s).pending = s.pending := by
  unfold State.headerBit; dsimp only; (repeat' split) <;> simp

@[simp] theorem State.checkBit_frame (b : Bool) (s : State) :
    (State.checkBit b s).odu = s.odu ∧ (State.checkBit b s).brm = s.brm ∧ (State.checkBit b
    s).drc = s.drc ∧ (State.checkBit b s).dka = s.dka ∧ (State.checkBit b s).pst = s.pst ∧
    (State.checkBit b s).now = s.now ∧ (State.checkBit b s).pending = s.pending := by
  unfold State.checkBit; dsimp only; (repeat' split) <;> simp

@[simp] theorem State.takeBit_frame (b : Option Bool) (s : State) :
    (State.takeBit b s).odu = s.odu ∧ (State.takeBit b s).brm = s.brm ∧ (State.takeBit b s).drc
    = s.drc ∧ (State.takeBit b s).dka = s.dka ∧ (State.takeBit b s).pst = s.pst ∧ (State.takeBit
    b s).now = s.now ∧ (State.takeBit b s).pending = s.pending := by
  unfold State.takeBit; dsimp only; (repeat' split) <;> simp

@[simp] theorem State.decideBit_frame (t : Nat) (s : State) :
    (State.decideBit t s).odu = s.odu ∧ (State.decideBit t s).brm = s.brm ∧ (State.decideBit t
    s).drc = s.drc ∧ (State.decideBit t s).dka = s.dka ∧ (State.decideBit t s).pst = s.pst ∧
    (State.decideBit t s).now = s.now ∧ (State.decideBit t s).pending = s.pending := by
  simp [State.decideBit]

@[simp] theorem State.settleBit_frame (t : Nat) (s : State) :
    (State.settleBit t s).odu = s.odu ∧ (State.settleBit t s).brm = s.brm ∧ (State.settleBit t
    s).drc = s.drc ∧ (State.settleBit t s).dka = s.dka ∧ (State.settleBit t s).pst = s.pst ∧
    (State.settleBit t s).now = s.now ∧ (State.settleBit t s).pending = s.pending := by
  unfold State.settleBit; split <;> simp

@[simp] theorem State.rephase_frame (t : Nat) (b : Bool) (s : State) :
    (State.rephase t b s).odu = s.odu ∧ (State.rephase t b s).brm = s.brm ∧ (State.rephase t b
    s).drc = s.drc ∧ (State.rephase t b s).dka = s.dka ∧ (State.rephase t b s).pst = s.pst ∧
    (State.rephase t b s).now = s.now ∧ (State.rephase t b s).pending = s.pending := by
  simp [State.rephase]

@[simp] theorem State.halfPeriod_frame (t : Nat) (b : Tone) (s : State) :
    (State.halfPeriod t b s).odu = s.odu ∧ (State.halfPeriod t b s).brm = s.brm ∧
    (State.halfPeriod t b s).drc = s.drc ∧ (State.halfPeriod t b s).dka = s.dka ∧
    (State.halfPeriod t b s).pst = s.pst ∧ (State.halfPeriod t b s).now = s.now ∧
    (State.halfPeriod t b s).pending = s.pending := by
  unfold State.halfPeriod; (repeat' split) <;> simp

@[simp] theorem State.comparator_frame (t : Nat) (s : State) :
    (State.comparator t s).odu = s.odu ∧ (State.comparator t s).brm = s.brm ∧ (State.comparator
    t s).drc = s.drc ∧ (State.comparator t s).dka = s.dka ∧ (State.comparator t s).pst = s.pst ∧
    (State.comparator t s).now = s.now ∧ (State.comparator t s).pending = s.pending := by
  unfold State.comparator; (repeat' split) <;> simp

@[simp] theorem State.rxEvent_frame (s : State) :
    (State.rxEvent s).odu = s.odu ∧ (State.rxEvent s).dka = s.dka ∧ (State.rxEvent s).pst =
    s.pst ∧ (State.rxEvent s).pending = s.pending := by
  unfold State.rxEvent; split <;> simp

@[simp] theorem State.dropFrame_frame (c : DropCause) (s : State) :
    (State.dropFrame c s).odu = s.odu ∧ (State.dropFrame c s).lps = s.lps ∧ (State.dropFrame c
    s).ssu = s.ssu ∧ (State.dropFrame c s).brm = s.brm ∧ (State.dropFrame c s).drc = s.drc ∧
    (State.dropFrame c s).dka = s.dka ∧ (State.dropFrame c s).tgh = s.tgh ∧ (State.dropFrame c
    s).pif = s.pif ∧ (State.dropFrame c s).pst = s.pst ∧ (State.dropFrame c s).now = s.now ∧
    (State.dropFrame c s).pending = s.pending := by
  unfold State.dropFrame; split <;> simp

@[simp] theorem State.loadPointer_frame (p : Port) (a : Nat) (s : State) :
    (State.loadPointer p a s).odu = s.odu ∧ (State.loadPointer p a s).lps = s.lps ∧
    (State.loadPointer p a s).ssu = s.ssu ∧ (State.loadPointer p a s).brm = s.brm ∧
    (State.loadPointer p a s).drc = s.drc ∧ (State.loadPointer p a s).dka = s.dka ∧
    (State.loadPointer p a s).vrl = s.vrl ∧ (State.loadPointer p a s).tgh = s.tgh ∧
    (State.loadPointer p a s).pst = s.pst ∧ (State.loadPointer p a s).now = s.now ∧
    (State.loadPointer p a s).pending = s.pending := by
  simp [State.loadPointer]

@[simp] theorem State.stepPointer_frame (p : Port) (s : State) :
    (State.stepPointer p s).odu = s.odu ∧ (State.stepPointer p s).lps = s.lps ∧
    (State.stepPointer p s).ssu = s.ssu ∧ (State.stepPointer p s).brm = s.brm ∧
    (State.stepPointer p s).drc = s.drc ∧ (State.stepPointer p s).dka = s.dka ∧
    (State.stepPointer p s).vrl = s.vrl ∧ (State.stepPointer p s).tgh = s.tgh ∧
    (State.stepPointer p s).pst = s.pst ∧ (State.stepPointer p s).now = s.now ∧
    (State.stepPointer p s).pending = s.pending := by
  simp [State.stepPointer]

@[simp] theorem State.shiftOut_frame (p : Port) (w : List Word) (s : State) :
    (State.shiftOut p w s).odu = s.odu ∧ (State.shiftOut p w s).lps = s.lps ∧ (State.shiftOut p
    w s).ssu = s.ssu ∧ (State.shiftOut p w s).brm = s.brm ∧ (State.shiftOut p w s).drc = s.drc ∧
    (State.shiftOut p w s).dka = s.dka ∧ (State.shiftOut p w s).vrl = s.vrl ∧ (State.shiftOut p
    w s).tgh = s.tgh ∧ (State.shiftOut p w s).pst = s.pst ∧ (State.shiftOut p w s).now = s.now ∧
    (State.shiftOut p w s).pending = s.pending := by
  simp [State.shiftOut]

@[simp] theorem State.readOut_frame (p : Port) (n : Nat) (s : State) :
    (State.readOut p n s).2.odu = s.odu ∧ (State.readOut p n s).2.lps = s.lps ∧ (State.readOut p
    n s).2.ssu = s.ssu ∧ (State.readOut p n s).2.brm = s.brm ∧ (State.readOut p n s).2.drc =
    s.drc ∧ (State.readOut p n s).2.dka = s.dka ∧ (State.readOut p n s).2.vrl = s.vrl ∧
    (State.readOut p n s).2.tgh = s.tgh ∧ (State.readOut p n s).2.pst = s.pst ∧ (State.readOut p
    n s).2.now = s.now ∧ (State.readOut p n s).2.pending = s.pending := by
  induction n generalizing s with
  | zero => simp [State.readOut]
  | succ n ih => simp [State.readOut, ih]

@[simp] theorem State.readWords_frame (p : Port) (n : Nat) (s : State) :
    (State.readWords p n s).odu = s.odu ∧ (State.readWords p n s).lps = s.lps ∧ (State.readWords
    p n s).ssu = s.ssu ∧ (State.readWords p n s).brm = s.brm ∧ (State.readWords p n s).drc =
    s.drc ∧ (State.readWords p n s).dka = s.dka ∧ (State.readWords p n s).vrl = s.vrl ∧
    (State.readWords p n s).tgh = s.tgh ∧ (State.readWords p n s).pst = s.pst ∧ (State.readWords
    p n s).now = s.now ∧ (State.readWords p n s).pending = s.pending := by
  simp [State.readWords]

@[simp] theorem State.framingError_frame (p : Port) (s : State) :
    (State.framingError p s).odu = s.odu ∧ (State.framingError p s).lps = s.lps ∧
    (State.framingError p s).ssu = s.ssu ∧ (State.framingError p s).brm = s.brm ∧
    (State.framingError p s).drc = s.drc ∧ (State.framingError p s).dka = s.dka ∧
    (State.framingError p s).vrl = s.vrl ∧ (State.framingError p s).tgh = s.tgh ∧
    (State.framingError p s).pst = s.pst ∧ (State.framingError p s).now = s.now ∧
    (State.framingError p s).pending = s.pending := by
  simp [State.framingError]

@[simp] theorem State.takeWords_frame (p : Port) (ws : List Word) (s : State) :
    (State.takeWords p ws s).2.odu = s.odu ∧ (State.takeWords p ws s).2.lps = s.lps ∧
    (State.takeWords p ws s).2.ssu = s.ssu ∧ (State.takeWords p ws s).2.brm = s.brm ∧
    (State.takeWords p ws s).2.drc = s.drc ∧ (State.takeWords p ws s).2.dka = s.dka ∧
    (State.takeWords p ws s).2.vrl = s.vrl ∧ (State.takeWords p ws s).2.tgh = s.tgh ∧
    (State.takeWords p ws s).2.pst = s.pst ∧ (State.takeWords p ws s).2.now = s.now ∧
    (State.takeWords p ws s).2.pending = s.pending := by
  induction ws generalizing s with
  | nil => simp [State.takeWords]
  | cons w ws ih => simp only [State.takeWords]; split <;> simp [ih]

@[simp] theorem State.handStaging_frame (ks : List Kept) (s : State) :
    (State.handStaging ks s).odu = s.odu ∧ (State.handStaging ks s).ssu = s.ssu ∧
    (State.handStaging ks s).brm = s.brm ∧ (State.handStaging ks s).drc = s.drc ∧
    (State.handStaging ks s).dka = s.dka ∧ (State.handStaging ks s).vrl = s.vrl ∧
    (State.handStaging ks s).tgh = s.tgh ∧ (State.handStaging ks s).pif = s.pif ∧
    (State.handStaging ks s).pst = s.pst ∧ (State.handStaging ks s).now = s.now ∧
    (State.handStaging ks s).pending = s.pending := by
  simp [State.handStaging]

@[simp] theorem State.handCloseCheck_frame (ks : List Kept) (s : State) :
    (State.handCloseCheck ks s).odu = s.odu ∧ (State.handCloseCheck ks s).lps = s.lps ∧
    (State.handCloseCheck ks s).ssu = s.ssu ∧ (State.handCloseCheck ks s).brm = s.brm ∧
    (State.handCloseCheck ks s).drc = s.drc ∧ (State.handCloseCheck ks s).dka = s.dka ∧
    (State.handCloseCheck ks s).vrl = s.vrl ∧ (State.handCloseCheck ks s).tgh = s.tgh ∧
    (State.handCloseCheck ks s).pst = s.pst ∧ (State.handCloseCheck ks s).now = s.now ∧
    (State.handCloseCheck ks s).pending = s.pending := by
  simp [State.handCloseCheck]

@[simp] theorem State.handTextOut_frame (ks : List Kept) (s : State) :
    (State.handTextOut ks s).odu = s.odu ∧ (State.handTextOut ks s).lps = s.lps ∧
    (State.handTextOut ks s).ssu = s.ssu ∧ (State.handTextOut ks s).brm = s.brm ∧
    (State.handTextOut ks s).drc = s.drc ∧ (State.handTextOut ks s).dka = s.dka ∧
    (State.handTextOut ks s).vrl = s.vrl ∧ (State.handTextOut ks s).pif = s.pif ∧
    (State.handTextOut ks s).pst = s.pst ∧ (State.handTextOut ks s).now = s.now ∧
    (State.handTextOut ks s).pending = s.pending := by
  simp [State.handTextOut]

@[simp] theorem State.handParams_frame (ks : List Kept) (s : State) :
    (State.handParams ks s).odu = s.odu ∧ (State.handParams ks s).lps = s.lps ∧
    (State.handParams ks s).ssu = s.ssu ∧ (State.handParams ks s).brm = s.brm ∧
    (State.handParams ks s).drc = s.drc ∧ (State.handParams ks s).dka = s.dka ∧
    (State.handParams ks s).vrl = s.vrl ∧ (State.handParams ks s).tgh = s.tgh ∧
    (State.handParams ks s).pif = s.pif ∧ (State.handParams ks s).now = s.now ∧
    (State.handParams ks s).pending = s.pending := by
  simp [State.handParams]

@[simp] theorem State.readTransaction_frame (p : Port) (c : Word) (s : State) :
    (State.readTransaction p c s).odu = s.odu ∧ (State.readTransaction p c s).lps = s.lps ∧
    (State.readTransaction p c s).ssu = s.ssu ∧ (State.readTransaction p c s).brm = s.brm ∧
    (State.readTransaction p c s).drc = s.drc ∧ (State.readTransaction p c s).dka = s.dka ∧
    (State.readTransaction p c s).vrl = s.vrl ∧ (State.readTransaction p c s).tgh = s.tgh ∧
    (State.readTransaction p c s).pst = s.pst ∧ (State.readTransaction p c s).now = s.now ∧
    (State.readTransaction p c s).pending = s.pending := by
  unfold State.readTransaction; split <;> simp

@[simp] theorem State.statusOut_frame (p : Port) (s : State) :
    (State.statusOut p s).odu = s.odu ∧ (State.statusOut p s).lps = s.lps ∧ (State.statusOut p
    s).ssu = s.ssu ∧ (State.statusOut p s).brm = s.brm ∧ (State.statusOut p s).drc = s.drc ∧
    (State.statusOut p s).dka = s.dka ∧ (State.statusOut p s).vrl = s.vrl ∧ (State.statusOut p
    s).tgh = s.tgh ∧ (State.statusOut p s).pst = s.pst ∧ (State.statusOut p s).now = s.now ∧
    (State.statusOut p s).pending = s.pending := by
  simp [State.statusOut]

@[simp] theorem State.clearMask_frame (p : Port) (m : Word) (s : State) :
    (State.clearMask p m s).odu = s.odu ∧ (State.clearMask p m s).lps = s.lps ∧ (State.clearMask
    p m s).ssu = s.ssu ∧ (State.clearMask p m s).brm = s.brm ∧ (State.clearMask p m s).drc =
    s.drc ∧ (State.clearMask p m s).dka = s.dka ∧ (State.clearMask p m s).vrl = s.vrl ∧
    (State.clearMask p m s).tgh = s.tgh ∧ (State.clearMask p m s).pst = s.pst ∧ (State.clearMask
    p m s).now = s.now ∧ (State.clearMask p m s).pending = s.pending := by
  simp [State.clearMask]

@[simp] theorem State.enableMask_frame (p : Port) (m : Word) (s : State) :
    (State.enableMask p m s).odu = s.odu ∧ (State.enableMask p m s).lps = s.lps ∧
    (State.enableMask p m s).ssu = s.ssu ∧ (State.enableMask p m s).brm = s.brm ∧
    (State.enableMask p m s).drc = s.drc ∧ (State.enableMask p m s).dka = s.dka ∧
    (State.enableMask p m s).vrl = s.vrl ∧ (State.enableMask p m s).tgh = s.tgh ∧
    (State.enableMask p m s).pst = s.pst ∧ (State.enableMask p m s).now = s.now ∧
    (State.enableMask p m s).pending = s.pending := by
  simp [State.enableMask]

@[simp] theorem State.place_frame (p : Port) (k : ReqKind) (a b : Word) (s : State) :
    (State.place p k a b s).odu = s.odu ∧ (State.place p k a b s).lps = s.lps ∧ (State.place p k
    a b s).ssu = s.ssu ∧ (State.place p k a b s).brm = s.brm ∧ (State.place p k a b s).drc =
    s.drc ∧ (State.place p k a b s).dka = s.dka ∧ (State.place p k a b s).vrl = s.vrl ∧
    (State.place p k a b s).tgh = s.tgh ∧ (State.place p k a b s).pst = s.pst ∧ (State.place p k
    a b s).now = s.now ∧ (State.place p k a b s).pending = s.pending := by
  simp [State.place]

@[simp] theorem State.requestMode_frame (p : Port) (m : Mode) (s : State) :
    (s.requestMode p m).state.odu = s.odu ∧ (s.requestMode p m).state.lps = s.lps ∧
    (s.requestMode p m).state.brm = s.brm ∧ (s.requestMode p m).state.drc = s.drc ∧
    (s.requestMode p m).state.dka = s.dka ∧ (s.requestMode p m).state.vrl = s.vrl ∧
    (s.requestMode p m).state.tgh = s.tgh ∧ (s.requestMode p m).state.pst = s.pst ∧
    (s.requestMode p m).state.now = s.now ∧ (s.requestMode p m).state.pending = s.pending := by
  unfold State.requestMode; (repeat' split) <;> simp

@[simp] theorem State.acknowledge_frame (p : Port) (s : State) :
    (s.acknowledge p).state.odu = s.odu ∧ (s.acknowledge p).state.lps = s.lps ∧ (s.acknowledge
    p).state.brm = s.brm ∧ (s.acknowledge p).state.drc = s.drc ∧ (s.acknowledge p).state.dka =
    s.dka ∧ (s.acknowledge p).state.vrl = s.vrl ∧ (s.acknowledge p).state.tgh = s.tgh ∧
    (s.acknowledge p).state.pst = s.pst ∧ (s.acknowledge p).state.now = s.now ∧ (s.acknowledge
    p).state.pending = s.pending := by
  unfold State.acknowledge; (repeat' split) <;> simp

@[simp] theorem State.requestBrakeReset_frame (p : Port) (s : State) :
    (s.requestBrakeReset p).state.odu = s.odu ∧ (s.requestBrakeReset p).state.lps = s.lps ∧
    (s.requestBrakeReset p).state.ssu = s.ssu ∧ (s.requestBrakeReset p).state.drc = s.drc ∧
    (s.requestBrakeReset p).state.dka = s.dka ∧ (s.requestBrakeReset p).state.vrl = s.vrl ∧
    (s.requestBrakeReset p).state.tgh = s.tgh ∧ (s.requestBrakeReset p).state.pst = s.pst ∧
    (s.requestBrakeReset p).state.now = s.now ∧ (s.requestBrakeReset p).state.pending =
    s.pending := by
  unfold State.requestBrakeReset; (repeat' split) <;> simp

@[simp] theorem State.requestRelease_frame (p : Port) (w : Word) (s : State) :
    (s.requestRelease p w).state.odu = s.odu ∧ (s.requestRelease p w).state.lps = s.lps ∧
    (s.requestRelease p w).state.ssu = s.ssu ∧ (s.requestRelease p w).state.brm = s.brm ∧
    (s.requestRelease p w).state.dka = s.dka ∧ (s.requestRelease p w).state.vrl = s.vrl ∧
    (s.requestRelease p w).state.tgh = s.tgh ∧ (s.requestRelease p w).state.pst = s.pst ∧
    (s.requestRelease p w).state.now = s.now ∧ (s.requestRelease p w).state.pending = s.pending := by
  unfold State.requestRelease; (repeat' split) <;> simp

@[simp] theorem State.requestClose_frame (p : Port) (w : Word) (s : State) :
    (s.requestClose p w).state.odu = s.odu ∧ (s.requestClose p w).state.lps = s.lps ∧
    (s.requestClose p w).state.ssu = s.ssu ∧ (s.requestClose p w).state.brm = s.brm ∧
    (s.requestClose p w).state.dka = s.dka ∧ (s.requestClose p w).state.vrl = s.vrl ∧
    (s.requestClose p w).state.tgh = s.tgh ∧ (s.requestClose p w).state.pst = s.pst ∧
    (s.requestClose p w).state.now = s.now ∧ (s.requestClose p w).state.pending = s.pending := by
  unfold State.requestClose; (repeat' split) <;> simp

@[simp] theorem State.requestIsolate_frame (d w : Word) (s : State) :
    (s.requestIsolate d w).state.odu = s.odu ∧ (s.requestIsolate d w).state.lps = s.lps ∧
    (s.requestIsolate d w).state.ssu = s.ssu ∧ (s.requestIsolate d w).state.brm = s.brm ∧
    (s.requestIsolate d w).state.dka = s.dka ∧ (s.requestIsolate d w).state.vrl = s.vrl ∧
    (s.requestIsolate d w).state.tgh = s.tgh ∧ (s.requestIsolate d w).state.pst = s.pst ∧
    (s.requestIsolate d w).state.now = s.now ∧ (s.requestIsolate d w).state.pending = s.pending := by
  unfold State.requestIsolate; (repeat' split) <;> simp

@[simp] theorem State.restorePos_frame (a b : Word) (s : State) :
    (s.restorePos a b).state.lps = s.lps ∧ (s.restorePos a b).state.ssu = s.ssu ∧ (s.restorePos
    a b).state.brm = s.brm ∧ (s.restorePos a b).state.drc = s.drc ∧ (s.restorePos a b).state.dka
    = s.dka ∧ (s.restorePos a b).state.vrl = s.vrl ∧ (s.restorePos a b).state.tgh = s.tgh ∧
    (s.restorePos a b).state.pst = s.pst ∧ (s.restorePos a b).state.now = s.now ∧ (s.restorePos
    a b).state.pending = s.pending := by
  unfold State.restorePos; (repeat' split) <;> simp

@[simp] theorem State.requestProfileClose_frame (v : Word) (s : State) :
    (s.requestProfileClose v).state.odu = s.odu ∧ (s.requestProfileClose v).state.ssu = s.ssu ∧
    (s.requestProfileClose v).state.brm = s.brm ∧ (s.requestProfileClose v).state.drc = s.drc ∧
    (s.requestProfileClose v).state.dka = s.dka ∧ (s.requestProfileClose v).state.vrl = s.vrl ∧
    (s.requestProfileClose v).state.tgh = s.tgh ∧ (s.requestProfileClose v).state.pst = s.pst ∧
    (s.requestProfileClose v).state.now = s.now ∧ (s.requestProfileClose v).state.pending =
    s.pending := by
  simp [State.requestProfileClose]

@[simp] theorem State.requestFreeze_frame (s : State) :
    s.requestFreeze.state.odu = s.odu ∧ s.requestFreeze.state.lps = s.lps ∧
    s.requestFreeze.state.ssu = s.ssu ∧ s.requestFreeze.state.brm = s.brm ∧
    s.requestFreeze.state.drc = s.drc ∧ s.requestFreeze.state.dka = s.dka ∧
    s.requestFreeze.state.vrl = s.vrl ∧ s.requestFreeze.state.tgh = s.tgh ∧
    s.requestFreeze.state.pif = s.pif ∧ s.requestFreeze.state.now = s.now ∧
    s.requestFreeze.state.pending = s.pending := by
  unfold State.requestFreeze; (repeat' split) <;> simp

@[simp] theorem State.requestActivate_frame (d : Desk) (s : State) :
    (s.requestActivate d).state.odu = s.odu ∧ (s.requestActivate d).state.lps = s.lps ∧
    (s.requestActivate d).state.brm = s.brm ∧ (s.requestActivate d).state.drc = s.drc ∧
    (s.requestActivate d).state.vrl = s.vrl ∧ (s.requestActivate d).state.tgh = s.tgh ∧
    (s.requestActivate d).state.pst = s.pst ∧ (s.requestActivate d).state.now = s.now ∧
    (s.requestActivate d).state.pending = s.pending := by
  unfold State.requestActivate; (repeat' split) <;> simp

@[simp] theorem State.requestDeactivate_frame (p : Port) (s : State) :
    (s.requestDeactivate p).state.odu = s.odu ∧ (s.requestDeactivate p).state.lps = s.lps ∧
    (s.requestDeactivate p).state.brm = s.brm ∧ (s.requestDeactivate p).state.vrl = s.vrl ∧
    (s.requestDeactivate p).state.tgh = s.tgh ∧ (s.requestDeactivate p).state.pst = s.pst ∧
    (s.requestDeactivate p).state.now = s.now ∧ (s.requestDeactivate p).state.pending =
    s.pending := by
  unfold State.requestDeactivate; (repeat' split) <;> simp

@[simp] theorem State.requestForce_frame (s : State) :
    s.requestForce.state.odu = s.odu ∧ s.requestForce.state.lps = s.lps ∧
    s.requestForce.state.brm = s.brm ∧ s.requestForce.state.vrl = s.vrl ∧
    s.requestForce.state.tgh = s.tgh ∧ s.requestForce.state.pst = s.pst ∧
    s.requestForce.state.now = s.now ∧ s.requestForce.state.pending = s.pending := by
  unfold State.requestForce; (repeat' split) <;> simp

@[simp] theorem State.restartBlocks_frame (s : State) :
    (State.restartBlocks s).pst = s.pst ∧ (State.restartBlocks s).now = s.now ∧
    (State.restartBlocks s).pending = s.pending := by
  simp [State.restartBlocks]

@[simp] theorem State.restart_frame (s : State) :
    (State.restart s).pst = s.pst ∧ (State.restart s).now = s.now ∧ (State.restart s).pending =
    s.pending := by
  simp [State.restart]

@[simp] theorem State.requestRestart_frame (s : State) :
    s.requestRestart.state.pst = s.pst ∧ s.requestRestart.state.now = s.now ∧
    s.requestRestart.state.pending = s.pending := by
  unfold State.requestRestart; (repeat' split) <;> simp

end Sys2Proof.Machine
end

