-- ==== Sys2Proof/Laws/Memory.lean ====
section
/-! SUPPORT. The laws of the byte memory: every write keeps the canonical form, a read after a write
gives what was written, and a write leaves every other address alone. -/

namespace Sys2Proof.Machine

/-- The first address of a memory is above `a`, or there is none. -/
def Memory.above (a : Nat) : Memory → Prop
  | [] => True
  | (k, _) :: _ => a < k

theorem Memory.wf_cons {k : Nat} {v : Byte} {t : Memory} :
    Memory.wf ((k, v) :: t) = true ↔ v ≠ Memory.blankByte ∧ Memory.above k t ∧ Memory.wf t = true := by
  cases t with
  | nil => simp [Memory.wf, Memory.above]
  | cons x t => obtain ⟨k', v'⟩ := x; simp [Memory.wf, Memory.above, and_assoc]

theorem Memory.above_mono {a b : Nat} {m : Memory} (h : Memory.above b m) (l : a < b) :
    Memory.above a m := by
  match m with
  | [] => trivial
  | (_, _) :: _ => exact l.trans h

theorem Memory.above_write {a k : Nat} {v : Byte} {m : Memory} (h : Memory.above a m) (w : m.wf)
    (l : a < k) : Memory.above a (m.write k v) := by
  match m with
  | [] => simp only [Memory.write]; split <;> simp [Memory.above, l]
  | (j, x) :: t =>
    have g := Memory.wf_cons.1 w
    simp only [Memory.write]
    split
    · split
      · exact h
      · exact l
    · split
      · split
        · exact Memory.above_mono g.2.1 h
        · exact l
      · exact h

/-- A write keeps the canonical form. -/
theorem Memory.wf_write (m : Memory) (k : Nat) (v : Byte) (w : m.wf) : (m.write k v).wf := by
  induction m with
  | nil => simp only [Memory.write]; split <;> simp_all [Memory.wf]
  | cons x t ih =>
    obtain ⟨j, x⟩ := x
    have g := Memory.wf_cons.1 w
    simp only [Memory.write]
    split
    · split
      · exact w
      · next h _ => exact Memory.wf_cons.2 ⟨by assumption, h, w⟩
    · split
      · split
        · exact g.2.2
        · next e _ => subst e; exact Memory.wf_cons.2 ⟨by assumption, g.2.1, g.2.2⟩
      · next h e =>
        exact Memory.wf_cons.2 ⟨g.1, Memory.above_write g.2.1 g.2.2 (by omega), ih g.2.2⟩

theorem Memory.read_above {a : Nat} {m : Memory} (h : Memory.above a m) (w : m.wf) :
    m.read a = Memory.blankByte := by
  induction m with
  | nil => rfl
  | cons x t ih =>
    obtain ⟨j, x⟩ := x
    have g := Memory.wf_cons.1 w
    simp only [Memory.above] at h
    simp only [Memory.read, Nat.ne_of_gt h, if_false]
    exact ih (Memory.above_mono g.2.1 h) g.2.2

/-- A read after a write: the byte written at its address, and every other byte as before. -/
theorem Memory.read_write (m : Memory) (k a : Nat) (v : Byte) (w : m.wf) :
    (m.write k v).read a = if a = k then v else m.read a := by
  induction m with
  | nil =>
    simp only [Memory.write]
    split
    · next h => simp [Memory.read, h]
    · simp [Memory.read, eq_comm]
  | cons x t ih =>
    obtain ⟨j, x⟩ := x
    have g := Memory.wf_cons.1 w
    simp only [Memory.write]
    split
    · next h =>
      split
      · next e =>
        split
        · next q => subst q; rw [Memory.read_above (m := (j, x) :: t) h w, e]
        · rfl
      · by_cases q : a = k
        · simp [Memory.read, q]
        · simp [Memory.read, q, Ne.symm q]
    · split
      · next e =>
        subst e
        split
        · next z =>
          split
          · next q => subst q; rw [Memory.read_above g.2.1 g.2.2, z]
          · next q => simp [Memory.read, Ne.symm q]
        · by_cases q : a = k
          · simp [Memory.read, q]
          · simp [Memory.read, q, Ne.symm q]
      · next h e =>
        by_cases q : j = a
        · simp only [Memory.read, q, if_true]
          rw [if_neg (by omega)]
        · simp only [Memory.read, q, if_false]
          exact ih g.2.2

/-- Writing a run of bytes keeps the canonical form. -/
theorem Memory.wf_writeAll (m : Memory) (a : Nat) (bs : List Byte) (w : m.wf) : (m.writeAll a bs).wf := by
  induction bs generalizing m a with
  | nil => exact w
  | cons b bs ih => exact ih _ _ (Memory.wf_write m a b w)

/-- A read after a run of bytes is written at `k`: the byte of the run at its own addresses, and every
other byte as before. -/
theorem Memory.read_writeAll (m : Memory) (k a : Nat) (bs : List Byte) (w : m.wf) :
    (m.writeAll k bs).read a = if k ≤ a ∧ a < k + bs.length then bs.getD (a - k) 0 else m.read a := by
  induction bs generalizing m k with
  | nil =>
    rw [if_neg (by simp)]
    rfl
  | cons b bs ih =>
    simp only [Memory.writeAll]
    rw [ih _ _ (Memory.wf_write m k b w), Memory.read_write m k a b w]
    by_cases h : a = k
    · subst h
      rw [if_neg (by omega), if_pos rfl, if_pos (by simp)]
      simp
    · rw [if_neg h]
      by_cases g : k + 1 ≤ a ∧ a < k + 1 + bs.length
      · rw [if_pos g, if_pos (by simp; omega)]
        have e : a - k = (a - (k + 1)) + 1 := by omega
        rw [e, List.getD_cons_succ]
      · rw [if_neg g, if_neg (by simp; omega)]

/-- The image of an empty bank is canonical. -/
theorem Memory.wf_nil : Memory.wf [] := rfl

end Sys2Proof.Machine
end

