-- ==== Sys2Proof/Laws/Motion.lean ====
section
/-! SUPPORT. What the operations of chapter 1 can do, said once: those between the reading of an input and
the end of the event change the ODU alone and raise notices, and here is what they leave in it and when they
raise POSITION. -/

namespace Sys2Proof.Machine

theorem State.OnlyOdu.trans {s t u : State} (h : s.OnlyOdu t) (k : t.OnlyOdu u) : s.OnlyOdu u := by
  refine ⟨?_, h.2.trans k.2⟩
  have a := h.1
  have b := k.1
  rw [b]
  rw [a]

theorem State.OnlyOdu.mk' (s : State) (o : Odu) : s.OnlyOdu { s with odu := o } :=
  ⟨rfl, Pif.Told.refl _⟩

theorem State.OnlyOdu.raise (s : State) (o : Odu) (k : Notice) :
    s.OnlyOdu (State.raise k { s with odu := o }) := ⟨rfl, State.raise_told k s⟩

theorem State.setPosition_only (p : Position) (s : State) : s.OnlyOdu (s.setPosition p) := by
  unfold State.setPosition
  split
  · exact State.OnlyOdu.mk' s s.odu
  · exact State.OnlyOdu.raise _ _ _

theorem State.setBounds_only (a b : Int) (s : State) : s.OnlyOdu (s.setBounds a b) := by
  unfold State.setBounds
  dsimp only
  split
  · exact (State.OnlyOdu.mk' s _).trans (State.setPosition_only _ _)
  · exact State.OnlyOdu.mk' s _

theorem State.updateInterval_only (u : Used) (s : State) : s.OnlyOdu (s.updateInterval u) :=
  (State.OnlyOdu.mk' s _).trans (State.setBounds_only _ _ _)

theorem State.acceptMarker_only (n : Nat) (iv : Int × Int) (s : State) :
    s.OnlyOdu (s.acceptMarker n iv) :=
  ((State.OnlyOdu.mk' s _).trans (State.setPosition_only _ _)).trans (State.setBounds_only _ _ _)

theorem State.useMarker_only (k : Marker) (s : State) : s.OnlyOdu (s.useMarker k) := by
  unfold State.useMarker
  dsimp only
  (repeat' split) <;> first | exact State.acceptMarker_only _ _ _ | exact State.setPosition_only _ _

theorem State.lookupMarker_only (n : Nat) (s : State) : s.OnlyOdu (s.lookupMarker n) := by
  unfold State.lookupMarker
  dsimp only
  have h := State.updateInterval_only s.odu.choose s
  split
  · exact h
  · split
    · exact h.trans (State.OnlyOdu.mk' _ _)
    · exact h.trans (State.useMarker_only _ _)

theorem State.completeRead_only (n c : Nat) (s : State) : s.OnlyOdu (s.completeRead n c) := by
  unfold State.completeRead
  split
  · exact (State.OnlyOdu.mk' s _).trans (State.lookupMarker_only _ _)
  · exact State.OnlyOdu.mk' s _

theorem State.setHealth_only (o : Odu) (s : State) : s.OnlyOdu (s.setHealth o) := by
  unfold State.setHealth State.raiseIf
  split
  · exact State.OnlyOdu.raise _ _ _
  · exact State.OnlyOdu.mk' s _

theorem State.medianCheck_only (s : State) : s.OnlyOdu s.medianCheck := by
  unfold State.medianCheck
  split
  · exact State.setHealth_only _ _
  · exact State.OnlyOdu.mk' s s.odu

theorem State.pairCheck_only (s : State) : s.OnlyOdu s.pairCheck := by
  unfold State.pairCheck
  dsimp only
  split
  · exact State.OnlyOdu.mk' s _
  · exact State.OnlyOdu.mk' s s.odu

theorem State.sourceTest_only (s : State) : s.OnlyOdu s.sourceTest := by
  unfold State.sourceTest
  split
  · exact State.setPosition_only _ _
  · exact State.OnlyOdu.mk' s s.odu

theorem State.setRegime_only (s : State) : s.OnlyOdu s.setRegime := by
  unfold State.setRegime
  dsimp only
  split
  · exact State.OnlyOdu.mk' s s.odu
  · exact State.OnlyOdu.mk' s _

theorem State.addRollback_only (s : State) : s.OnlyOdu s.addRollback := by
  unfold State.addRollback
  split
  · exact State.OnlyOdu.mk' s s.odu
  · split
    · exact State.OnlyOdu.mk' s s.odu
    · exact State.OnlyOdu.mk' s _

/-- One sample changes the ODU alone, and raises notices. -/
theorem State.sample_only (s : State) : s.OnlyOdu s.sample := by
  have h₁ : s.OnlyOdu s.samplePosition :=
    ((State.setRegime_only s).trans (State.OnlyOdu.mk' _ _)).trans (State.updateInterval_only _ _)
  have h₂ : s.samplePosition.OnlyOdu s.samplePosition.sampleHealth :=
    ((((State.OnlyOdu.mk' _ _).trans (State.medianCheck_only _)).trans (State.pairCheck_only _)).trans
      (State.setHealth_only _ _)).trans (State.sourceTest_only _)
  have h₃ : ∀ t : State, t.OnlyOdu t.sampleMotion := fun t =>
    ((State.OnlyOdu.mk' t _).trans (State.addRollback_only _)).trans (State.OnlyOdu.mk' _ _)
  exact (h₁.trans h₂).trans (h₃ _)

theorem State.setPosition_odu (p : Position) (s : State) :
    (s.setPosition p).odu = { s.odu with pos := p } := by
  unfold State.setPosition
  split
  · next h => rw [← h]
  · rfl

/-- R10: the bounds are clamped, and the position state is as before or INVALID for its width. -/
theorem State.setBounds_odu (a b : Int) (s : State) :
    (s.setBounds a b).odu = { s.odu with lo := clampUm a, hi := clampUm b } ∨
      (s.setBounds a b).odu =
        { s.odu with lo := clampUm a, hi := clampUm b, pos := .invalid .width } := by
  unfold State.setBounds
  dsimp only
  split
  · exact .inr (State.setPosition_odu _ _)
  · exact .inl rfl

/-- R10: an interval not wider than U_max leaves the position state as it was. -/
theorem State.setBounds_narrow (a b : Int) (s : State)
    (h : ceilDiv (clampUm b) 100000 ≤ clampUm a / 100000 + s.par .uMax) :
    (s.setBounds a b).odu = { s.odu with lo := clampUm a, hi := clampUm b } := by
  unfold State.setBounds
  dsimp only
  rw [if_neg]
  rintro ⟨-, k⟩
  have h' : ceilDiv (clampUm b) 100000 ≤ clampUm a / 100000 +
      State.par { s with odu := { s.odu with lo := clampUm a, hi := clampUm b } } .uMax := h
  simp only [Odu.pLo, Odu.pHi] at k
  omega

/-- R9, R10: what an interval update can leave in the ODU. -/
theorem State.updateInterval_odu (u : Used) (s : State) :
    ∃ a b p m d, (s.updateInterval u).odu =
      { s.odu.clearInterval with lo := a, hi := b, pos := p, midSum := m, distHalf := d } := by
  rcases State.setBounds_odu _ _ _ with h | h
  · exact ⟨_, _, _, _, _, h⟩
  · exact ⟨_, _, _, _, _, h⟩

/-- R18 to R20: what a marker in the list can leave in the ODU. -/
theorem State.useMarker_odu (k : Marker) (s : State) :
    ∃ a b p m d, (s.useMarker k).odu =
      { s.odu with lo := a, hi := b, pos := p, lastMarker := m, distHalf := d } := by
  have g : ∀ n iv, ∃ a b p m d, (s.acceptMarker n iv).odu =
      { s.odu with lo := a, hi := b, pos := p, lastMarker := m, distHalf := d } := by
    intro n iv
    unfold State.acceptMarker
    rcases State.setBounds_odu _ _ _ with h | h <;>
      (rw [State.setPosition_odu] at h; exact ⟨_, _, _, _, _, h⟩)
  unfold State.useMarker
  dsimp only
  (repeat' split)
  · exact g _ _
  · exact g _ _
  · exact ⟨_, _, _, _, _, State.setPosition_odu _ _⟩
  · exact g _ _

theorem State.setPosition_tells (p : Position) (s : State) :
    s.Tells (s.setPosition p) .position (s.odu.pos ≠ p) := by
  unfold State.setPosition
  split
  · next h => exact ⟨fun g => absurd h g, fun _ => rfl⟩
  · next h => exact ⟨fun _ => rfl, fun g => absurd h g⟩

theorem State.setBounds_tells (a b : Int) (s : State) :
    s.Tells (s.setBounds a b) .position ((s.setBounds a b).odu.pos ≠ s.odu.pos) := by
  unfold State.setBounds
  dsimp only
  split
  · refine ((State.setPosition_tells (.invalid .width) _).from rfl).congr ?_
    rw [State.setPosition_odu]
    exact ⟨Ne.symm, Ne.symm⟩
  · exact ⟨fun g => absurd rfl g, fun _ => rfl⟩

/-- R10: an interval update raises POSITION just where it changes the position state. -/
theorem State.updateInterval_tells (u : Used) (s : State) :
    s.Tells (s.updateInterval u) .position ((s.updateInterval u).odu.pos ≠ s.odu.pos) :=
  (State.setBounds_tells _ _ _).from rfl

theorem State.acceptMarker_tells (n : Nat) (iv : Int × Int) (s : State) :
    s.Tells (s.acceptMarker n iv) .position (s.odu.pos ≠ .valid ∨ (s.acceptMarker n iv).odu.pos ≠ s.odu.pos) := by
  refine ((((State.setPosition_tells .valid _).from rfl).trans (State.setBounds_tells _ _ _))).congr ?_
  rw [State.setPosition_odu]
  change _ ↔ s.odu.pos ≠ .valid ∨ (s.acceptMarker n iv).odu.pos ≠ Position.valid
  by_cases h : s.odu.pos = .valid <;> simp [h]

/-- R19, R20: a marker raises POSITION where the position was not VALID, and where it changes. -/
theorem State.useMarker_tells (k : Marker) (s : State) :
    s.Tells (s.useMarker k) .position (s.odu.pos ≠ .valid ∨ (s.useMarker k).odu.pos ≠ s.odu.pos) := by
  unfold State.useMarker
  dsimp only
  (repeat' split) <;> first | exact State.acceptMarker_tells _ _ _ | skip
  next h _ _ =>
    refine (State.setPosition_tells _ s).congr ?_
    rw [State.setPosition_odu, h]
    simp

/-- R18 to R20: a read that passed its check raises POSITION where the update changes the position state, where
what follows changes it, and where a marker held finds it not VALID. -/
theorem State.lookupMarker_tells (n : Nat) (s : State) :
    s.Tells (s.lookupMarker n) .position
      ((s.updateInterval s.odu.choose).odu.pos ≠ s.odu.pos ∨
        (s.lookupMarker n).odu.pos ≠ (s.updateInterval s.odu.choose).odu.pos ∨
        ((s.updateInterval s.odu.choose).odu.pos ≠ .valid ∧
          ∃ p k, s.lps.profile = some p ∧ p.marker n = some k)) := by
  have h := State.updateInterval_tells s.odu.choose s
  have l : (s.updateInterval s.odu.choose).lps = s.lps := by rw [(s.updateInterval_only _).1]
  unfold State.lookupMarker
  dsimp only
  generalize s.updateInterval s.odu.choose = v at h l
  rw [l]
  cases hp : s.lps.profile with
  | none => exact h.congr (by simp)
  | some p =>
    cases hk : p.marker n with
    | none =>
      simp only [hk]
      have g : v.Tells { v with odu := { v.odu with unknownMarkers := satSucc 65535 v.odu.unknownMarkers } }
          .position False := ⟨False.elim, fun _ => rfl⟩
      rw [l] at g
      refine (h.trans g).congr ?_
      simp [hk]
    | some k =>
      simp only [hk]
      refine (h.trans (v.useMarker_tells k)).congr ?_
      simp [hk]
      tauto

/-- R12, R14: a change of health that isolates sources for good raises POSITION where it isolates one. -/
theorem State.setHealth_tells (o : Odu) (s : State)
    (stays : ∀ i, (s.odu.src i).health = .isolated → (o.src i).health = .isolated) :
    s.Tells (s.setHealth o) .position
      (∃ i, (s.odu.src i).health ≠ .isolated ∧ (o.src i).health = .isolated) := by
  refine (State.Tells.of_raiseIf _ _ _ _ ?_).from rfl
  have hu := stays .upper
  have hl := stays .lower
  have ht := stays .tooth
  have e : ∀ P : SourceId → Prop, (∃ i, P i) ↔ P .upper ∨ P .lower ∨ P .tooth := fun P =>
    ⟨fun ⟨i, h⟩ => by cases i <;> simp [h], fun h => by
      rcases h with h | h | h <;> exact ⟨_, h⟩⟩
  have c : ∀ x : Odu, x.isolated = (if (x.src .upper).health = .isolated then 1 else 0) +
      (if (x.src .lower).health = .isolated then 1 else 0) +
      (if (x.src .tooth).health = .isolated then 1 else 0) := by
    intro x
    simp only [Odu.isolated, SourceId.all, Source.usable, List.filter_cons, List.filter_nil]
    by_cases hu : (x.src .upper).health = .isolated <;> by_cases hl : (x.src .lower).health = .isolated <;>
      by_cases ht : (x.src .tooth).health = .isolated <;> simp [hu, hl, ht]
  rw [e, decide_eq_true_iff, c, c]
  clear c e
  by_cases au : (s.odu.src .upper).health = .isolated <;>
    by_cases al : (s.odu.src .lower).health = .isolated <;>
    by_cases at' : (s.odu.src .tooth).health = .isolated <;>
    simp only [au, al, at', hu, hl, ht, not_true, ne_eq, false_and, not_false_eq_true, true_and,
      if_true, if_false, false_or, or_false] <;> (repeat' split) <;> simp_all
theorem Source.judge_isolated (m : Int) (n : Nat) (v : Source) (h : v.health = .isolated) :
    (v.judge m n).health = .isolated := by
  simp [Source.judge, h]

theorem Encoder.illegalCheck_isolated (e : Encoder) (h : e.src.health = .isolated) :
    e.illegalCheck.src.health = .isolated := by
  unfold Encoder.illegalCheck
  split
  · rfl
  · exact h

/-- What may happen to the health and the position over one of the checks of a sample. -/
structure State.Isolates (s t : State) : Prop where
  pos : t.odu.pos = s.odu.pos
  stays : ∀ i, (s.odu.src i).health = .isolated → (t.odu.src i).health = .isolated
  tells : s.Tells t .position (∃ i, (s.odu.src i).health ≠ .isolated ∧ (t.odu.src i).health = .isolated)

theorem State.Isolates.trans {s t u : State} (h : s.Isolates t) (g : t.Isolates u) : s.Isolates u where
  pos := g.pos.trans h.pos
  stays i a := g.stays i (h.stays i a)
  tells := (h.tells.trans g.tells).congr <| by
    constructor
    · rintro ⟨i, a, b⟩
      by_cases c : (t.odu.src i).health = .isolated
      · exact .inl ⟨i, a, c⟩
      · exact .inr ⟨i, c, b⟩
    · rintro (⟨i, a, b⟩ | ⟨i, a, b⟩)
      · exact ⟨i, a, g.stays i b⟩
      · exact ⟨i, fun c => a (h.stays i c), b⟩

theorem State.Isolates.same {s t : State} (pos : t.odu.pos = s.odu.pos)
    (health : ∀ i, (t.odu.src i).health = (s.odu.src i).health) (pif : t.pif = s.pif) : s.Isolates t where
  pos := pos
  stays i h := (health i).trans h
  tells := ⟨fun ⟨i, a, b⟩ => absurd ((health i).symm.trans b) a, fun _ => pif⟩

theorem State.setHealth_isolates (o : Odu) (s : State) (pos : o.pos = s.odu.pos)
    (stays : ∀ i, (s.odu.src i).health = .isolated → (o.src i).health = .isolated) :
    s.Isolates (s.setHealth o) := by
  have e : (s.setHealth o).odu = s.odu.clearSlipIfIsolated o := by
    simp only [State.setHealth, State.raiseIf_odu]
  have c : (s.odu.clearSlipIfIsolated o).pos = o.pos ∧
      ∀ i, (s.odu.clearSlipIfIsolated o).src i = o.src i := by
    unfold Odu.clearSlipIfIsolated
    split
    · exact ⟨rfl, fun i => by cases i <;> rfl⟩
    · exact ⟨rfl, fun _ => rfl⟩
  refine ⟨by rw [e, c.1, pos], fun i h => by rw [e, c.2]; exact stays i h,
    (s.setHealth_tells o stays).congr ?_⟩
  simp only [e, c.2]

theorem State.medianCheck_isolates (s : State) : s.Isolates s.medianCheck := by
  unfold State.medianCheck
  split
  · exact s.setHealth_isolates _ rfl fun i h => by cases i <;> exact Source.judge_isolated _ _ _ h
  · exact .same rfl (fun _ => rfl) rfl

theorem State.pairCheck_isolates (s : State) : s.Isolates s.pairCheck := by
  unfold State.pairCheck
  dsimp only
  split
  · exact .same rfl (fun i => by cases i <;> rfl) rfl
  · exact .same rfl (fun _ => rfl) rfl

theorem State.illegalCheck_isolates (s : State) : s.Isolates s.illegalCheck :=
  s.setHealth_isolates _ rfl fun i h => by
    cases i
    · exact Encoder.illegalCheck_isolated _ h
    · exact Encoder.illegalCheck_isolated _ h
    · exact h

/-- R10: an interval that is too wide makes the position INVALID, and nothing else changes its state. -/
theorem State.setBounds_pos (a b : Int) (s : State) :
    (s.setBounds a b).odu.pos = s.odu.pos ∨ (s.setBounds a b).odu.pos = .invalid .width := by
  rcases State.setBounds_odu a b s with h | h <;> rw [h]
  · exact .inl rfl
  · exact .inr rfl

theorem State.sourceTest_tells (s : State) : s.Tells s.sourceTest .position (s.sourceTest.odu.pos ≠ s.odu.pos) := by
  unfold State.sourceTest
  split
  · refine (State.setPosition_tells _ s).congr ?_
    rw [State.setPosition_odu]
    exact ⟨Ne.symm, Ne.symm⟩
  · exact ⟨fun g => absurd rfl g, fun _ => rfl⟩

theorem State.sourceTest_health (s : State) (i : SourceId) : (s.sourceTest.odu.src i) = s.odu.src i := by
  unfold State.sourceTest
  split
  · rw [State.setPosition_odu]; cases i <;> rfl
  · rfl

theorem State.setRegime_kept (s : State) : s.setRegime.odu.pos = s.odu.pos ∧ s.setRegime.pif = s.pif ∧
    ∀ i, (s.setRegime.odu.src i).health = (s.odu.src i).health := by
  unfold State.setRegime
  dsimp only
  split
  · exact ⟨rfl, rfl, fun _ => rfl⟩
  · exact ⟨rfl, rfl, fun i => by cases i <;> rfl⟩

theorem State.updateInterval_src (u : Used) (s : State) (i : SourceId) :
    ((s.updateInterval u).odu.src i).health = (s.odu.src i).health := by
  obtain ⟨a, b, p, m, d, e⟩ := s.updateInterval_odu u
  rw [e]
  cases i <;> rfl

theorem State.samplePosition_kept (s : State) :
    s.Tells s.samplePosition .position (s.samplePosition.odu.pos ≠ s.odu.pos) ∧
      (s.samplePosition.odu.pos = s.odu.pos ∨ s.samplePosition.odu.pos = .invalid .width) ∧
      ∀ i, (s.samplePosition.odu.src i).health = (s.odu.src i).health := by
  have g : ∀ (r : State) (u : Used), r.odu.pos = s.odu.pos → r.pif = s.pif →
      (∀ i, (r.odu.src i).health = (s.odu.src i).health) →
      s.Tells (r.updateInterval u) .position ((r.updateInterval u).odu.pos ≠ s.odu.pos) ∧
      ((r.updateInterval u).odu.pos = s.odu.pos ∨ (r.updateInterval u).odu.pos = .invalid .width) ∧
      ∀ i, ((r.updateInterval u).odu.src i).health = (s.odu.src i).health := by
    intro r u p f h
    refine ⟨(State.updateInterval_tells u r).from f |>.congr (by rw [p]), ?_, fun i =>
      (State.updateInterval_src u r i).trans (h i)⟩
    rw [← p]
    exact State.setBounds_pos _ _ _
  obtain ⟨rp, rf, rh⟩ := s.setRegime_kept
  unfold State.samplePosition
  exact g _ _ rp rf fun i => Eq.trans (by cases i <;> rfl) (rh i)

theorem Odu.pushSamples_health (o : Odu) (i : SourceId) : (o.pushSamples.src i).health = (o.src i).health := by
  cases i <;> rfl

theorem State.addRollback_kept (s : State) : s.addRollback.odu.pos = s.odu.pos ∧ s.addRollback.pif = s.pif ∧
    ∀ i, (s.addRollback.odu.src i).health = (s.odu.src i).health := by
  unfold State.addRollback
  (repeat' split) <;> exact ⟨rfl, rfl, fun i => by cases i <;> rfl⟩

theorem Odu.setMotion_kept (o : Odu) : o.setSpeed.setMotion.pos = o.pos ∧
    ∀ i, o.setSpeed.setMotion.src i = o.src i := by
  unfold Odu.setSpeed
  (repeat' split) <;> exact ⟨rfl, fun i => by cases i <;> rfl⟩

theorem Odu.clearSample_health (o : Odu) (i : SourceId) : (o.clearSample.src i).health = (o.src i).health := by
  cases i <;> rfl

theorem State.sampleMotion_kept (s : State) : s.sampleMotion.odu.pos = s.odu.pos ∧ s.sampleMotion.pif = s.pif ∧
    ∀ i, (s.sampleMotion.odu.src i).health = (s.odu.src i).health := by
  obtain ⟨a, b, c⟩ := State.addRollback_kept { s with odu := s.odu.setSpeed.setMotion }
  obtain ⟨d, e⟩ := s.odu.setMotion_kept
  exact ⟨a.trans d, b, fun i => (Odu.clearSample_health _ i).trans ((c i).trans (congrArg _ (e i)))⟩

/-- R8, R11 to R14: the health checks of a sample. -/
theorem State.sampleHealth_tells (s : State) :
    s.Tells s.sampleHealth .position (s.sampleHealth.odu.pos ≠ s.odu.pos ∨
      ∃ i, (s.odu.src i).health ≠ .isolated ∧ (s.sampleHealth.odu.src i).health = .isolated) ∧
    (s.odu.located = false → s.sampleHealth.odu.pos = s.odu.pos) := by
  have h₀ : s.Isolates { s with odu := s.odu.pushSamples } :=
    State.Isolates.same rfl s.odu.pushSamples_health rfl
  have h := ((h₀.trans (State.medianCheck_isolates _)).trans (State.pairCheck_isolates _)).trans
    (State.illegalCheck_isolates _)
  unfold State.sampleHealth
  generalize (((({ s with odu := s.odu.pushSamples } : State).medianCheck).pairCheck).illegalCheck) = k at h
  constructor
  · refine (h.tells.trans k.sourceTest_tells).congr ?_
    simp only [k.sourceTest_health, h.pos]
    exact or_comm
  · intro n
    unfold State.sourceTest
    rw [if_neg, h.pos]
    rintro ⟨-, l⟩
    unfold Odu.located at l n
    rw [h.pos] at l
    exact absurd (l.symm.trans n) (by decide)

/-- R8, R10, R12, R14: a sample raises POSITION just where it changes the position state or isolates a
source. -/
theorem State.sample_tells (s : State) : s.Tells s.sample .position (s.sample.odu.pos ≠ s.odu.pos ∨
    ∃ i, (s.odu.src i).health ≠ .isolated ∧ (s.sample.odu.src i).health = .isolated) := by
  obtain ⟨h₁, p₁, i₁⟩ := s.samplePosition_kept
  unfold State.sample
  generalize s.samplePosition = a at h₁ p₁ i₁
  obtain ⟨h₂, l₂⟩ := a.sampleHealth_tells
  generalize a.sampleHealth = b at h₂ l₂
  obtain ⟨m₁, m₂, m₃⟩ := b.sampleMotion_kept
  generalize b.sampleMotion = c at m₁ m₂ m₃
  have f := h₁.trans h₂
  refine State.Tells.congr  ⟨fun x => m₂.trans (f.1 x), fun x => m₂.trans (f.2 x)⟩ ?_
  simp only [m₁, m₃, i₁]
  rcases p₁ with w | w
  · rw [w]; tauto
  · rw [l₂ (by unfold Odu.located; rw [w]; rfl), w]
    tauto

end Sys2Proof.Machine
end

