-- ==== Sys2Proof/Laws/Queue.lean ====
section
/-! SUPPORT. What the port operations leave alone: the waiting commands, and with a cab control record the
blocks that its words do not reach. -/

namespace Sys2Proof.Machine

theorem State.switchStanding_core (w : DirSwitch) (s : State) :
    (s.switchStanding w).odu = s.odu ∧ (s.switchStanding w).vrl = s.vrl ∧ (s.switchStanding w).pst = s.pst ∧
    (s.switchStanding w).now = s.now ∧ (s.switchStanding w).pending = s.pending := by
  unfold State.switchStanding; dsimp only; split <;> simp

theorem State.takeSwitch_core (d : Desk) (w : DirSwitch) (s : State) :
    (s.takeSwitch d w).odu = s.odu ∧ (s.takeSwitch d w).vrl = s.vrl ∧ (s.takeSwitch d w).pst = s.pst ∧
    (s.takeSwitch d w).now = s.now ∧ (s.takeSwitch d w).pending = s.pending := by
  unfold State.takeSwitch; split
  · simp
  · split
    · exact State.switchStanding_core w s
    · simp

theorem State.takeCab_core (d : Desk) (w : CabWords) (s : State) :
    (s.takeCab d w).odu = s.odu ∧ (s.takeCab d w).vrl = s.vrl ∧ (s.takeCab d w).pst = s.pst ∧
    (s.takeCab d w).now = s.now ∧ (s.takeCab d w).pending = s.pending := by
  unfold State.takeCab; dsimp only; split
  · exact State.takeSwitch_core _ _ _
  · simp

theorem State.handOver_pending (p : Port) (ks : List Kept) (s : State) : (s.handOver p ks).pending = s.pending := by
  cases p
  · simp only [State.handOver, State.handCab]; split <;> simp [State.takeCab_core]
  · simp only [State.handOver, State.handCab]; split <;> simp [State.takeCab_core]
  · simp only [State.handOver]; (repeat' split) <;> simp

theorem State.writeTransaction_pending (p : Port) (ws : List Word) (s : State) :
    (s.writeTransaction p ws).pending = s.pending := by
  cases ws
  · simp [State.writeTransaction]
  · simp [State.writeTransaction, State.writeWords, State.handOver_pending]

theorem Answer.finished_pending (a : Answer) : a.finished.state.pending = a.state.pending := by
  unfold Answer.finished; split <;> simp

theorem State.answer_pending (k : ReqKind) (p : Port) (a b : Word) (s : State) :
    (s.answer k p a b).state.pending = s.pending := by
  cases k <;> simp [State.answer, Answer.finished_pending, State.forDesk]
  · split <;> simp

theorem State.serve_pending (k : ReqKind) (p : Port) (a b : Word) (s : State) :
    (s.serve k p a b).pending = s.pending := by
  unfold State.serve; split <;> simp [State.answer_pending]

theorem State.request_pending (p : Port) (c a b : Word) (s : State) :
    (s.request p c a b).pending = s.pending := by
  unfold State.request; split <;> simp [State.serve_pending]

end Sys2Proof.Machine
end

