-- ==== Sys2Proof/Laws/Readings.lean ====
section
/-! SUPPORT. The small readings of the commands' conditions: the active desk's port, request arguments, a
granted side, a door replaced. -/

namespace Sys2Proof.Machine

theorem State.isActivePort_iff (s : State) (p : Port) :
    s.isActivePort p = decide (p ≠ .c ∧ s.dka.active = portDesk p) := by
  unfold State.isActivePort
  cases p <;> cases h : s.dka.active <;> simp [portDesk] <;> rename_i d <;> cases d <;> simp

theorem State.isGranted_iff (s : State) (i : CarSide) :
    s.isGranted i = true ↔ (s.drc.side i).granted ≠ none := by
  unfold State.isGranted; cases (s.drc.side i).granted <;> simp

theorem argSide_none (w : Word) (h : 2 ≤ w.toNat) : argSide w = none := by
  unfold argSide
  rw [if_neg, if_neg] <;> rintro rfl <;> revert h <;> decide

theorem argSide_some (w : Word) (i : CarSide) (h : w.toNat = i.code) : argSide w = some i := by
  have e : w = BitVec.ofNat 16 i.code := by rw [← h]; simp
  subst e; cases i <;> decide

theorem argDoor_none (w : Word) (h : 4 ≤ w.toNat) : argDoor w = none := by
  unfold argDoor
  rw [if_neg, if_neg, if_neg, if_neg] <;> rintro rfl <;> revert h <;> decide

theorem argDoor_some (w : Word) (i : DoorId) (h : w.toNat = doorCode i) : argDoor w = some i := by
  have e : w = BitVec.ofNat 16 (doorCode i) := by rw [← h]; simp
  subst e; cases i <;> decide

theorem argSetting_none (w : Word) (h : 2 ≤ w.toNat) : argSetting w = none := by
  unfold argSetting
  rw [if_neg, if_neg] <;> rintro rfl <;> revert h <;> decide

theorem argSetting_some (w : Word) (h : w.toNat < 2) :
    argSetting w = some (decide (w.toNat = 1)) := by
  have e : w = BitVec.ofNat 16 w.toNat := by simp
  have k : w.toNat = 0 ∨ w.toNat = 1 := by omega
  rcases k with k | k <;> rw [e, k] <;> decide

@[simp] theorem State.setDoor_door (i : DoorId) (d : Door) (s : State) : (s.setDoor i d).door i = d := by
  cases i <;> rfl

@[simp] theorem State.setDoor_setDoor (i : DoorId) (d e : Door) (s : State) :
    (s.setDoor i d).setDoor i e = s.setDoor i e := by cases i <;> rfl

@[simp] theorem State.setDoor_isGranted (i : DoorId) (d : Door) (s : State) (j : CarSide) :
    (s.setDoor i d).isGranted j = s.isGranted j := by cases i <;> cases j <;> rfl

theorem State.place_par (s : State) (k : ReqKind) (p : Port) (a b : Word) (q : Param) :
    (s.place p k a b).par q = s.par q := by cases p <;> rfl

/-- The shape of a restriction list: an entry takes its place among the others. -/
theorem insertRestriction_perm (r : Restriction) (l : List Restriction) :
    (insertRestriction r l).Perm (r :: l) := by
  induction l with
  | nil => exact .refl _
  | cons x t ih =>
    simp only [insertRestriction]
    split
    · exact .refl _
    · exact (ih.cons x).trans (.swap r x t)

end Sys2Proof.Machine
end

