-- ==== Sys2Proof/Laws/Time.lean ====
section
/-! SUPPORT. What the clock's advance does, said once: the clock never goes back, and beside it only the
PWM outputs and the tone output follow it. -/

namespace Sys2Proof.Machine

theorem State.advanceTo_now (s : State) (t : Nat) : (s.advanceTo t).now = max s.now t := by
  unfold State.advanceTo
  split
  · next h => exact (Nat.max_eq_left h).symm
  · next h => exact (Nat.max_eq_right (Nat.le_of_not_le h)).symm

/-- The brake manager but for its two PWM outputs. -/
def Brm.butPwm (b : Brm) : Brm := { b with ebrake := Brm.reset.ebrake, traction := Brm.reset.traction }

/-- A door but for its motor. -/
def Door.butMotor (d : Door) : Door := { d with motor := Door.reset.motor }

/-- The door controller but for the motors. -/
def Drc.butMotors (k : Drc) : Drc :=
  { k with a1 := k.a1.butMotor, a2 := k.a2.butMotor, b1 := k.b1.butMotor, b2 := k.b2.butMotor }

/-- The radio but for the transmitter. -/
def Vrl.butTx (v : Vrl) : Vrl := { v with tx := Transmitter.reset }

/-- Everything that the clock's advance leaves as it was, beside the blocks it does not touch. -/
theorem State.advanceTo_rest (s : State) (t : Nat) :
    (s.advanceTo t).brm.butPwm = s.brm.butPwm ∧ (s.advanceTo t).drc.butMotors = s.drc.butMotors ∧
      (s.advanceTo t).vrl.butTx = s.vrl.butTx := by
  unfold State.advanceTo
  split <;> exact ⟨rfl, rfl, rfl⟩

theorem Transmitter.toneRoll_rest (w : Bool → Bool → Nat) (now n : Nat) (t : Transmitter) :
    { Transmitter.toneRoll w now n t with
      tone := t.tone, halfStart := t.halfStart, halfEnd := t.halfEnd } = t := by
  induction n generalizing t with
  | zero => rfl
  | succ n ih =>
    unfold Transmitter.toneRoll
    split
    · rfl
    · split
      · rfl
      · next e _ _ =>
        have h := ih { t with
          tone := !t.tone, halfStart := e, halfEnd := some (e + w (!t.tone) t.current) }
        have k := congrArg (fun x : Transmitter =>
          { x with tone := t.tone, halfStart := t.halfStart, halfEnd := t.halfEnd }) h
        exact k

@[simp] theorem State.advanceTo_tx (s : State) (t : Nat) :
    (s.advanceTo t).vrl.tx.state = s.vrl.tx.state ∧ (s.advanceTo t).vrl.tx.current = s.vrl.tx.current ∧
      (s.advanceTo t).vrl.tx.next = s.vrl.tx.next ∧ (s.advanceTo t).vrl.tx.stream = s.vrl.tx.stream ∧
      (s.advanceTo t).vrl.tx.count = s.vrl.tx.count := by
  have h : { (s.advanceTo t).vrl.tx with
      tone := s.vrl.tx.tone, halfStart := s.vrl.tx.halfStart, halfEnd := s.vrl.tx.halfEnd } =
      s.vrl.tx := by
    unfold State.advanceTo
    split
    · rfl
    · unfold State.rollTone
      split
      · rfl
      · exact Transmitter.toneRoll_rest _ _ _ _
  have h₁ := congrArg Transmitter.state h
  have h₂ := congrArg Transmitter.current h
  have h₃ := congrArg Transmitter.next h
  have h₄ := congrArg Transmitter.stream h
  have h₅ := congrArg Transmitter.count h
  exact ⟨h₁, h₂, h₃, h₄, h₅⟩

@[simp] theorem State.advanceTo_brm (s : State) (t : Nat) :
    (s.advanceTo t).brm.rows = s.brm.rows ∧ (s.advanceTo t).brm.level = s.brm.level ∧
    (s.advanceTo t).brm.latch = s.brm.latch ∧ (s.advanceTo t).brm.target = s.brm.target ∧
    (s.advanceTo t).brm.measured = s.brm.measured ∧ (s.advanceTo t).brm.sensorFault =
    s.brm.sensorFault ∧ (s.advanceTo t).brm.frictionFault = s.brm.frictionFault ∧ (s.advanceTo
    t).brm.pulses = s.brm.pulses ∧ (s.advanceTo t).brm.valve = s.brm.valve ∧ (s.advanceTo
    t).brm.lastOpen = s.brm.lastOpen ∧ (s.advanceTo t).brm.waiting = s.brm.waiting ∧
    (s.advanceTo t).brm.deadTimer = s.brm.deadTimer ∧ (s.advanceTo t).brm.proving =
    s.brm.proving ∧ (s.advanceTo t).brm.proveTimer = s.brm.proveTimer ∧ (s.advanceTo
    t).brm.pinion = s.brm.pinion ∧ (s.advanceTo t).brm.energised = s.brm.energised ∧
    (s.advanceTo t).brm.upper = s.brm.upper ∧ (s.advanceTo t).brm.lower = s.brm.lower ∧
    (s.advanceTo t).brm.holding = s.brm.holding ∧ (s.advanceTo t).brm.holdSeen = s.brm.holdSeen ∧
    (s.advanceTo t).brm.proveSeen = s.brm.proveSeen ∧ (s.advanceTo t).brm.effort = s.brm.effort ∧
    (s.advanceTo t).brm.effortValid = s.brm.effortValid ∧ (s.advanceTo t).brm.feedbackTimer =
    s.brm.feedbackTimer ∧ (s.advanceTo t).brm.senseOpen = s.brm.senseOpen ∧ (s.advanceTo
    t).brm.loopForced = s.brm.loopForced ∧ (s.advanceTo t).brm.departure = s.brm.departure ∧
    (s.advanceTo t).brm.required = s.brm.required ∧ (s.advanceTo t).brm.stallTimer =
    s.brm.stallTimer ∧ (s.advanceTo t).brm.holdElapsed = s.brm.holdElapsed ∧ (s.advanceTo
    t).brm.holdTimer = s.brm.holdTimer ∧ (s.advanceTo t).brm.gateTimer = s.brm.gateTimer := by
  unfold State.advanceTo; split <;> simp

@[simp] theorem State.advanceTo_drc (s : State) (t : Nat) :
    (s.advanceTo t).drc.sideA = s.drc.sideA ∧ (s.advanceTo t).drc.sideB = s.drc.sideB ∧
    (s.advanceTo t).drc.summary = s.drc.summary := by
  unfold State.advanceTo; split <;> simp

@[simp] theorem State.advanceTo_door_a1 (s : State) (t : Nat) :
    (s.advanceTo t).drc.a1.state = s.drc.a1.state ∧ (s.advanceTo t).drc.a1.reversals =
    s.drc.a1.reversals ∧ (s.advanceTo t).drc.a1.timer = s.drc.a1.timer ∧ (s.advanceTo
    t).drc.a1.lk = s.drc.a1.lk ∧ (s.advanceTo t).drc.a1.op = s.drc.a1.op ∧ (s.advanceTo
    t).drc.a1.ed = s.drc.a1.ed ∧ (s.advanceTo t).drc.a1.pb = s.drc.a1.pb := by
  unfold State.advanceTo; split <;> simp

@[simp] theorem State.advanceTo_door_a2 (s : State) (t : Nat) :
    (s.advanceTo t).drc.a2.state = s.drc.a2.state ∧ (s.advanceTo t).drc.a2.reversals =
    s.drc.a2.reversals ∧ (s.advanceTo t).drc.a2.timer = s.drc.a2.timer ∧ (s.advanceTo
    t).drc.a2.lk = s.drc.a2.lk ∧ (s.advanceTo t).drc.a2.op = s.drc.a2.op ∧ (s.advanceTo
    t).drc.a2.ed = s.drc.a2.ed ∧ (s.advanceTo t).drc.a2.pb = s.drc.a2.pb := by
  unfold State.advanceTo; split <;> simp

@[simp] theorem State.advanceTo_door_b1 (s : State) (t : Nat) :
    (s.advanceTo t).drc.b1.state = s.drc.b1.state ∧ (s.advanceTo t).drc.b1.reversals =
    s.drc.b1.reversals ∧ (s.advanceTo t).drc.b1.timer = s.drc.b1.timer ∧ (s.advanceTo
    t).drc.b1.lk = s.drc.b1.lk ∧ (s.advanceTo t).drc.b1.op = s.drc.b1.op ∧ (s.advanceTo
    t).drc.b1.ed = s.drc.b1.ed ∧ (s.advanceTo t).drc.b1.pb = s.drc.b1.pb := by
  unfold State.advanceTo; split <;> simp

@[simp] theorem State.advanceTo_door_b2 (s : State) (t : Nat) :
    (s.advanceTo t).drc.b2.state = s.drc.b2.state ∧ (s.advanceTo t).drc.b2.reversals =
    s.drc.b2.reversals ∧ (s.advanceTo t).drc.b2.timer = s.drc.b2.timer ∧ (s.advanceTo
    t).drc.b2.lk = s.drc.b2.lk ∧ (s.advanceTo t).drc.b2.op = s.drc.b2.op ∧ (s.advanceTo
    t).drc.b2.ed = s.drc.b2.ed ∧ (s.advanceTo t).drc.b2.pb = s.drc.b2.pb := by
  unfold State.advanceTo; split <;> simp

@[simp] theorem State.advanceTo_vrl (s : State) (t : Nat) :
    (s.advanceTo t).vrl.sync = s.vrl.sync ∧ (s.advanceTo t).vrl.slot = s.vrl.slot ∧ (s.advanceTo
    t).vrl.bit = s.vrl.bit ∧ (s.advanceTo t).vrl.cycle = s.vrl.cycle ∧ (s.advanceTo
    t).vrl.missed = s.vrl.missed ∧ (s.advanceTo t).vrl.resync = s.vrl.resync ∧ (s.advanceTo
    t).vrl.mark = s.vrl.mark ∧ (s.advanceTo t).vrl.rx = s.vrl.rx ∧ (s.advanceTo t).vrl.txTimer =
    s.vrl.txTimer ∧ (s.advanceTo t).vrl.aborts = s.vrl.aborts ∧ (s.advanceTo t).vrl.lengthErrors
    = s.vrl.lengthErrors ∧ (s.advanceTo t).vrl.crcErrors = s.vrl.crcErrors ∧ (s.advanceTo
    t).vrl.received = s.vrl.received ∧ (s.advanceTo t).vrl.transmitted = s.vrl.transmitted := by
  unfold State.advanceTo; split <;> simp

end Sys2Proof.Machine
end

