-- ==== Sys2Proof/Laws/Supervision.lean ====
section
/-! SUPPORT. What a supervision cycle in SHUNT or FULL can do, said once (`State.cycle_supervised`): what it
sets, what it keeps and what it raises. -/

namespace Sys2Proof.Machine

theorem State.setTravelDir_spec (s : State) :
    s.setTravelDir = { s with ssu := { s.ssu with
      dir := s.travelDir
      authSide := if s.travelDir = s.ssu.dir then s.ssu.authSide else none
      window := if s.travelDir = s.ssu.dir then s.ssu.window else []
      horizon := if s.travelDir = s.ssu.dir then s.ssu.horizon else none
      steepMark := s.ssu.steepMark && decide (s.travelDir = s.ssu.dir)
      flushCount :=
        if s.travelDir = s.ssu.dir then s.ssu.flushCount else (s.ssu.flushCount + 1) % 65536 } } := by
  unfold State.setTravelDir
  by_cases h : s.travelDir = s.ssu.dir
  · simp [h]
  · simp only [State.flush, h, decide_false, Bool.and_false]
    rfl

theorem State.computeFrom_given (s : State) (q : Option Prereqs) (p : Option Profile) (m : Nat) :
    (s.computeFrom q p m).prereqs = q ∧ (s.computeFrom q p m).front = s.frontFor s.ssu.dir ∧
      (s.computeFrom q p m).buildUp = ceilDiv (s.odu.speed * s.par .tB) 100 := by
  unfold State.computeFrom
  dsimp only
  split <;> exact ⟨rfl, rfl, rfl⟩

/-- R42, R48, R53: the prerequisites, the front and the build-up distance that a cycle computes. -/
theorem State.compute_given (s : State) :
    s.compute.prereqs = (if s.ssu.mode = .full then some s.prereqsNow else none) ∧
      s.compute.front = s.frontFor s.ssu.dir ∧
      s.compute.buildUp = ceilDiv (s.odu.speed * s.par .tB) 100 := by
  unfold State.compute
  (repeat' split) <;> first | exact s.computeFrom_given _ _ _ | exact ⟨rfl, rfl, rfl⟩

theorem Lps.profile_isSome (l : Lps) :
    l.profile.isSome = decide (l.x.role = .active ∨ l.y.role = .active) := by
  unfold Lps.profile Lps.active Lps.activeId
  split
  · next h => simp [h]
  · next h => split <;> simp_all

theorem State.prereqsNow_eq (s : State) : s.prereqsNow =
    { profile := decide (s.lps.x.role = .active ∨ s.lps.y.role = .active)
      position := decide (s.odu.pos = .valid ∨ s.odu.pos = .restored)
      authority := match s.tgh.authority with
        | none => false
        | some a => decide (s.dka.selected = none ∨ s.dka.selected = some a.dir) } := by
  unfold State.prereqsNow Odu.located
  rw [Lps.profile_isSome]
  congr 1
  · cases s.odu.pos <;> simp
  · cases s.tgh.authority with
    | none => rfl
    | some a => cases h : s.dka.selected <;> simp [beq_eq_decide]

/-- R48 to R57: what a cycle's computation makes of the state. -/
theorem State.takeComputed_spec (c : Computed) (s : State) :
    let t := s.takeComputed c
    let st := statusFor s.odu.speed c.curves s.ssu.status
    t = { s with ssu := t.ssu, pif := t.pif } ∧ s.Tells t .supervision (t.ssu.status ≠ s.ssu.status) ∧
    t.ssu = { s.ssu with
      status := st, warning := s.ssu.warning || decide (s.ssu.status.rank < st.rank)
      prereqs := c.prereqs, front := c.front, mrsp := some c.mrsp, buildUp := some c.buildUp
      curves := some c.curves, governing := c.governing, window := c.built.pieces
      horizon := c.built.horizon, truncated := c.built.truncated
      steep := c.built.pieces.any fun q => q.decel == 0 } := by
  refine ⟨?_, ?_, ?_⟩
  · unfold State.takeComputed State.raiseIf
    dsimp only
    split <;> rfl
  · exact State.Tells.of_raiseIf _ _ _ _ (by simp [State.takeComputed])
  · simp [State.takeComputed]

/-- R51: what the steep notice makes of the state. -/
theorem State.steepNotice_spec (s : State) :
    let t := s.steepNotice
    t = { s with ssu := t.ssu, pif := t.pif } ∧
      s.Tells t .supervision (s.ssu.steep = true ∧ s.ssu.steepMark = false) ∧
      t.ssu = { s.ssu with steepMark := s.ssu.steep || s.ssu.steepMark } := by
  intro t
  by_cases c : s.ssu.steep = true ∧ s.ssu.steepMark = false
  · have e : t = _ := if_pos (by simp [c])
    rw [e]
    exact ⟨rfl, ⟨fun _ => rfl, fun n => absurd c n⟩, by simp [c]⟩
  · have e : t = _ := if_neg (by simpa using c)
    rw [e]
    refine ⟨rfl, ⟨fun n => absurd n c, fun _ => rfl⟩, ?_⟩
    have m : (s.ssu.steep || s.ssu.steepMark) = s.ssu.steepMark := by
      cases h : s.ssu.steep <;> simp_all
    rw [m]

/-- R59: what the overrun test makes of the state. -/
theorem State.overrunTest_spec (s : State) :
    let t := s.overrunTest
    let crossed := s.ssu.authSide = some .ahead ∧ s.newSide = some .beyond ∧ s.odu.motion ≠ .standstill
    t = { s with ssu := t.ssu, pif := t.pif } ∧ s.Tells t .supervision crossed ∧
      t.ssu = { s.ssu with
        authSide := s.newSide, overrun := s.ssu.overrun || decide crossed
        warning := s.ssu.warning || decide crossed } := by
  intro t crossed
  have g : (s.ssu.authSide = some .ahead ∧ s.newSide = some .beyond ∧ (!s.still) = true) ↔ crossed := by
    have : (!s.still) = true ↔ s.odu.motion ≠ .standstill := by simp [State.still]
    exact and_congr_right fun _ => and_congr_right fun _ => this
  by_cases c : crossed
  · have e : t = _ := if_pos (g.2 c)
    rw [e]
    exact ⟨rfl, ⟨fun _ => rfl, fun n => absurd c n⟩, by simp [c]⟩
  · have e : t = _ := if_neg fun n => c (g.1 n)
    rw [e]
    exact ⟨rfl, ⟨fun n => absurd n c, fun _ => rfl⟩, by simp [c]⟩

theorem State.frontFor_eq (s : State) (d : Option Dir) : s.frontFor d = match d with
    | none => none
    | some .up => some (s.odu.pHi + s.par .lCar)
    | some .down => some s.odu.pLo := by
  cases d with
  | none => rfl
  | some d => cases d <;> rfl

theorem State.travelDir_eq (s : State) : s.travelDir = match s.dka.selected, s.odu.motion with
    | some d, _ => some d
    | none, .movingUp => some .up
    | none, .movingDown => some .down
    | none, .standstill => none := by
  unfold State.travelDir
  cases s.dka.selected <;> cases s.odu.motion <;> rfl

/-- R59: the side that a state finds, and where it finds none. -/
theorem State.newSide_some (s : State) (a : Authority) (d : Dir) :
    s.ssu.mode = .full → s.prereqsNow.met = true → s.tgh.authority = some a → s.ssu.dir = some d →
    a.dir = d →
    s.newSide = some (match d with
      | .up => if a.limit < s.odu.pHi + s.par .lCar then .beyond else .ahead
      | .down => if s.odu.pLo < a.limit then .beyond else .ahead) := by
  intro h q ha hd e
  unfold State.newSide
  rw [hd, ha]
  cases d <;> simp [State.frontFor, State.extentHi, h, q, e, sideOf]

theorem State.newSide_none {s : State}
    (h : s.ssu.mode = .full → s.prereqsNow.met = true → ∀ a, s.tgh.authority = some a →
      s.ssu.dir ≠ some a.dir) :
    s.newSide = none := by
  unfold State.newSide
  split
  · next d a f hd ha hf =>
    rw [if_neg]
    rintro ⟨m, q, e⟩
    exact h m q a ha (by rw [hd, e])
  · rfl

theorem Prereqs.met_iff (q : Prereqs) :
    q.met = true ↔ q = { profile := true, position := true, authority := true } := by
  obtain ⟨a, b, c⟩ := q
  cases a <;> cases b <;> cases c <;> simp [Prereqs.met]

/-- R42, R47 to R59: a cycle in SHUNT or FULL. -/
theorem State.cycle_supervised (s : State) (h : s.ssu.mode ≠ .none) :
    s.Supervised (State.cycle { s with ssu := { s.ssu with timer := s.ssu.timer + 50000 } }) := by
  generalize hy : ({ s with ssu := { s.ssu with timer := s.ssu.timer + 50000 } } : State) = y
  have hc : y.cycle = ((y.setTravelDir.takeComputed y.setTravelDir.compute).steepNotice).overrunTest := by
    unfold State.cycle
    rw [if_neg (by rw [← hy]; exact h)]
  rw [hc]
  have ea := State.setTravelDir_spec y
  have td : y.travelDir = s.travelDir := by rw [← hy]; rfl
  rw [td] at ea
  generalize y.setTravelDir = a at *
  obtain ⟨fb, nb, sb⟩ := State.takeComputed_spec a.compute a
  obtain ⟨pb, frb, bub⟩ := a.compute_given
  generalize a.takeComputed a.compute = b at *
  obtain ⟨fc, nc, sc⟩ := b.steepNotice_spec
  generalize b.steepNotice = c at *
  obtain ⟨fu, nu, su⟩ := c.overrunTest_spec
  generalize c.overrunTest = u at *
  generalize a.compute = k at *
  subst hy
  have mode : c.ssu.mode = s.ssu.mode := by rw [sc, sb, ea]
  have dir : c.ssu.dir = s.travelDir := by rw [sc, sb, ea]
  have same : c = { s with ssu := c.ssu, pif := c.pif } := by rw [fc, fb, ea]
  have pre : a.prereqsNow = s.prereqsNow := by rw [ea]; rfl
  have preC : c.prereqsNow = s.prereqsNow := by rw [same]; rfl
  have tgh : c.tgh = s.tgh := by rw [same]
  have odu : c.odu = s.odu := by rw [same]
  have par : ∀ p, c.par p = s.par p := by intro p; rw [same]; rfl
  have udir : u.ssu.dir = s.travelDir := by rw [su]; exact dir
  have upre : u.ssu.prereqs = if s.ssu.mode = .full then some s.prereqsNow else none := by
    rw [su, sc, sb, pb, pre, ea]
  have met : u.ssu.prereqs = some { profile := true, position := true, authority := true } ↔
      s.ssu.mode = .full ∧ s.prereqsNow.met = true := by
    rw [upre, Prereqs.met_iff]
    by_cases m : s.ssu.mode = .full <;> simp [m]
  have side : c.ssu.authSide = if s.travelDir = s.ssu.dir then s.ssu.authSide else none := by
    rw [sc, sb, ea]
  have uside : u.ssu.authSide = c.newSide := by rw [su]
  have crossed : s.Crosses u ↔
      c.ssu.authSide = some .ahead ∧ c.newSide = some .beyond ∧ c.odu.motion ≠ .standstill := by
    unfold State.Crosses
    rw [side, uside, udir, odu]
    by_cases e : s.travelDir = s.ssu.dir <;> simp [e]
  have status : u.ssu.status = statusFor s.odu.speed k.curves s.ssu.status := by
    rw [su, sc, sb, ea]
  constructor
  · rw [fu, same]
  · rw [su, sc, sb, ea]
  · exact udir.trans s.travelDir_eq
  · rw [udir, su, sc, sb, ea]
  · rw [upre, State.prereqsNow_eq] <;> rfl
  · rw [udir, su, sc, sb, frb, State.frontFor_eq, ea]
    rfl
  · rw [su, sc, sb, bub, ea]
    rfl
  · rw [su, sc, sb]
  · rw [udir, su, sc, sb, ea]
  · intro q hq
    rw [su, sc, sb] at hq
    obtain rfl := Option.some.inj hq
    rw [status]
    rfl
  · intro x d hp ha hd e
    rw [met] at hp
    rw [uside, State.newSide_some c x d (mode.trans hp.1) (preC ▸ hp.2) (tgh ▸ ha)
      (dir.trans (udir ▸ hd)) e, odu, par] <;> rfl
  · intro n
    rw [uside]
    refine State.newSide_none fun m q x ha => ?_
    rw [dir, ← udir]
    exact n (met.2 ⟨mode ▸ m, preC ▸ q⟩) x (tgh ▸ ha)
  · rw [crossed, su]
    simp [sc, sb, ea]
  · rw [crossed, status, su]
    simp [sc, sb, ea, or_assoc]
  · refine (((nb.trans nc).trans nu).from (by rw [ea])).congr ?_
    rw [crossed]
    have st : u.ssu.status = b.ssu.status := by rw [su, sc]
    have sm : (b.ssu.steep = true ∧ b.ssu.steepMark = false) ↔
        (u.ssu.steep = true ∧ ¬(s.ssu.steepMark = true ∧ u.ssu.dir = s.ssu.dir)) := by
      rw [udir, su, sc, sb, ea]
      by_cases e : s.travelDir = s.ssu.dir <;> simp [e]
    have sa : a.ssu.status = s.ssu.status := by rw [ea]
    rw [sm, st, sa]
    rw [or_assoc]
    exact or_congr_right or_comm

end Sys2Proof.Machine
end

