-- ==== Sys2Proof/Laws/Writes.lean ====
section
/-! SUPPORT. What a WRITE does with its words, said once (`takeWords_wrote`): which words it keeps, by the masks
written out in Safety.lean, and how it leaves the port; and which owner takes what. -/

namespace Sys2Proof.Machine

/-! ## The masks -/

/-- The mask of a port at an address, as the record map gives it, from the two conditions that move it. -/
def maskAt (loading frozen : Bool) (p : Port) (b : Nat) : Bool :=
  match placeOf b with
  | none => false
  | some r =>
    match p, r.record with
    | .u, .cab .u => decide (b - r.base < 3)
    | .l, .cab .l => decide (b - r.base < 3)
    | .c, .staging => loading
    | .c, .closeCheck => loading
    | .c, .textOut => true
    | .c, .parameters _ => !frozen
    | _, _ => false

theorem State.keeps_maskAt (s : State) (p : Port) (b : Nat) :
    s.keeps p b = maskAt s.lps.stagingOpen s.pst.frozen p b := by
  unfold State.keeps maskAt State.admits
  cases placeOf b <;> rfl

/-- The masks of the table of 9.3, from the two conditions that move them. -/
def tableMask (loading frozen : Bool) (p : Port) (b : Nat) : Bool :=
  match p with
  | .u => decide (0x020 ≤ b ∧ b < 0x023)
  | .l => decide (0x028 ≤ b ∧ b < 0x02B)
  | .c => (loading && decide ((0x248 ≤ b ∧ b < 0x24D) ∨ (0x250 ≤ b ∧ b < 0x252))) ||
      decide (0x318 ≤ b ∧ b < 0x31F) || (!frozen && decide (0x410 ≤ b ∧ b < 0x44E))

/-- Where the records that a port may write lie (11.3). -/
def RecordId.within : RecordId → Nat → Nat → Bool
  | .cab .u, base, n => base == 0x020 && n == 5
  | .cab .l, base, n => base == 0x028 && n == 5
  | .staging, base, n => base == 0x248 && n == 5
  | .closeCheck, base, n => base == 0x250 && n == 2
  | .textOut, base, n => base == 0x318 && n == 7
  | .parameters _, base, n => decide (0x410 ≤ base) && decide (base + n ≤ 0x44E)
  | _, _, _ => true

theorem recordMap_within : (recordMap.all fun r => r.record.within r.base r.words) = true := by
  decide +kernel

/-- A record covers each word of the stretches that a port may write. -/
theorem placeOf_writable :
    ([0x020, 0x021, 0x022].all fun b => placeOf b == some ⟨.cab .u, 0x020, 5⟩) = true ∧
      ([0x028, 0x029, 0x02A].all fun b => placeOf b == some ⟨.cab .l, 0x028, 5⟩) = true ∧
      ((List.range 5).all fun j => placeOf (0x248 + j) == some ⟨.staging, 0x248, 5⟩) = true ∧
      ((List.range 2).all fun j => placeOf (0x250 + j) == some ⟨.closeCheck, 0x250, 2⟩) = true ∧
      ((List.range 7).all fun j => placeOf (0x318 + j) == some ⟨.textOut, 0x318, 7⟩) = true ∧
      ((List.range 62).all fun j => (placeOf (0x410 + j)).any fun r => match r.record with
        | .parameters _ => true
        | _ => false) = true := by
  decide +kernel

theorem placeOf_some {b : Nat} {r : Place} (h : placeOf b = some r) :
    r.record.within r.base r.words = true ∧ r.base ≤ b ∧ b < r.base + r.words := by
  have m := List.mem_of_find?_eq_some h
  have i := List.find?_some h
  simp only [Bool.and_eq_true, decide_eq_true_eq] at i
  exact ⟨List.all_eq_true.1 recordMap_within r m, i⟩

/-- A stretch of the record map, by the offset in it. -/
theorem placeOf_stretch {f : Option Place → Bool} {base n b : Nat}
    (h : ((List.range n).all fun j => f (placeOf (base + j))) = true) (l : base ≤ b) (u : b < base + n) :
    f (placeOf b) = true := by
  have := List.all_eq_true.1 h (b - base) (List.mem_range.2 (by omega))
  rwa [Nat.add_sub_cancel' l] at this

theorem maskAt_eq (loading frozen : Bool) (p : Port) (b : Nat) :
    maskAt loading frozen p b = tableMask loading frozen p b := by
  obtain ⟨cu, cl, st, cc, tx, pa⟩ := placeOf_writable
  rw [Bool.eq_iff_iff]
  constructor
  · intro h
    unfold maskAt at h
    cases e : placeOf b with
    | none => simp [e] at h
    | some r =>
      obtain ⟨record, base, n⟩ := r
      obtain ⟨w, l, u⟩ := placeOf_some e
      rw [e] at h
      dsimp only at h l u w
      split at h <;> simp_all [RecordId.within, tableMask] <;> omega
  · intro h
    unfold maskAt
    cases p
    · simp only [tableMask, decide_eq_true_eq] at h
      have e := eq_of_beq (List.all_eq_true.1 cu b (by simp; omega))
      rw [e]; simp; omega
    · simp only [tableMask, decide_eq_true_eq] at h
      have e := eq_of_beq (List.all_eq_true.1 cl b (by simp; omega))
      rw [e]; simp; omega
    · simp only [tableMask, Bool.or_eq_true, Bool.and_eq_true, decide_eq_true_eq] at h
      obtain (⟨o, ⟨l, u⟩ | ⟨l, u⟩⟩ | ⟨l, u⟩) | ⟨o, l, u⟩ := h
      · rw [eq_of_beq (placeOf_stretch (f := (· == _)) st l (by omega))]; exact o
      · rw [eq_of_beq (placeOf_stretch (f := (· == _)) cc l (by omega))]; exact o
      · rw [eq_of_beq (placeOf_stretch (f := (· == _)) tx l (by omega))]
      · have e := placeOf_stretch pa l (by omega)
        cases k : placeOf b with
        | none => simp [k] at e
        | some r =>
          obtain ⟨record, base, n⟩ := r
          rw [k] at e
          cases record <;> simp_all

theorem Lps.stagingOpen_eq (l : Lps) : l.stagingOpen =
    (decide (l.standby.state = .opened) && l.claim.any fun k => decide (k.holder = .portC)) := by
  unfold Lps.stagingOpen
  cases l.claim with
  | none => simp
  | some k => simp [Bool.and_comm, Bool.beq_eq_decide_eq]

/-- The words that the machine keeps are those that the masks of 9.3 admit. -/
theorem State.keeps_eq (s : State) (p : Port) (b : Nat) : s.keeps p b = s.admitted p b := by
  rw [State.keeps_maskAt, maskAt_eq, Lps.stagingOpen_eq]
  cases p <;> rfl

/-! ## The words of a WRITE -/

theorem runAddress_succ (a j : Nat) : runAddress a (j + 1) = runAddress ((a + 1) % 4096) j := by
  unfold runAddress
  cases j with
  | zero => simp
  | succ j => simp only [Nat.add_eq_zero_iff, one_ne_zero, and_false, if_false]; omega

/-- The address of the last word that a run brings to an address. -/
def lastFor (a : Nat) (ws : List Word) (b : Nat) : Option Word :=
  ((List.range ws.length).reverse.find? fun j => runAddress a j == b).bind fun j => ws[j]?

theorem lastFor_cons (a : Nat) (w : Word) (ws : List Word) (b : Nat) :
    lastFor a (w :: ws) b =
      (lastFor ((a + 1) % 4096) ws b).or (if a = b then some w else none) := by
  unfold lastFor
  rw [List.length_cons, List.range_succ_eq_map, List.reverse_cons, List.find?_append,
    ← List.map_reverse, List.find?_map]
  have e : ((fun j => runAddress a j == b) ∘ Nat.succ) = fun j => runAddress ((a + 1) % 4096) j == b := by
    funext j; simp [runAddress_succ]
  rw [e]
  cases h : (List.range ws.length).reverse.find? fun j => runAddress ((a + 1) % 4096) j == b with
  | none => by_cases k : a = b <;> simp [runAddress, k]
  | some j =>
    have m := List.mem_of_find?_eq_some h
    have l : j < ws.length := by simpa using m
    simp [l]

theorem State.wordFor_lastFor (s : State) (p : Port) (ws : List Word) (b : Nat) :
    s.wordFor p ws b = if s.admitted p b then lastFor (s.port p).pointer ws b else none := rfl

theorem keptAt_cons (a : Nat) (w : Word) (ks : List Kept) (b : Nat) :
    keptAt ((a, w) :: ks) b = (keptAt ks b).or (if a = b then some w else none) := by
  unfold keptAt
  rw [List.reverse_cons, List.find?_append]
  cases ks.reverse.find? fun k => k.1 == b with
  | none => by_cases k : a = b <;> simp [k]
  | some x => simp

theorem keptAt_nil (b : Nat) : keptAt [] b = none := rfl

/-- The masks do not move while a WRITE is under way. -/
theorem State.admitted_congr {s t : State} (l : t.lps = s.lps) (k : t.pst = s.pst) (p : Port) (b : Nat) :
    t.admitted p b = s.admitted p b := by
  unfold State.admitted; rw [l, k]

/-- No record shows what a port holds of its own. -/
theorem State.setPort_recordWords (s : State) (p : Port) (q : PortState) (r : RecordId) :
    (s.setPort p q).recordWords r = s.recordWords r := by
  cases p <;> cases r <;> rfl

/-- The port behind one word, dropped or kept. -/
def State.behind (s : State) (p : Port) (kept : Bool) : State :=
  State.stepPointer p (if kept then s
    else s.setPort p { s.port p with refused := satSucc 255 (s.port p).refused })

theorem State.behind_lps (s : State) (p : Port) (kept : Bool) : (s.behind p kept).lps = s.lps := by
  cases kept <;> simp [State.behind, State.stepPointer]

theorem State.behind_pst (s : State) (p : Port) (kept : Bool) : (s.behind p kept).pst = s.pst := by
  cases kept <;> simp [State.behind, State.stepPointer]

theorem State.behind_port (s : State) (p : Port) (kept : Bool) :
    s.behind p kept = s.setPort p { s.port p with
      pointer := ((s.port p).pointer + 1) % 4096
      snapshot := match placeAt (((s.port p).pointer + 1) % 4096) with
        | none => (s.port p).snapshot
        | some r => some { base := r.base, words := s.recordWords r.record }
      refused := if kept then (s.port p).refused else satSucc 255 (s.port p).refused } := by
  cases kept <;>
    simp only [State.behind, State.stepPointer, State.snapshotAt, State.setPort_recordWords, recordSpace,
      State.setPort_port, State.setPort_setPort, if_true, Bool.false_eq_true, if_false] <;>
    cases placeAt (((s.port p).pointer + 1) % 4096) <;> rfl

theorem State.behind_pointer (s : State) (p : Port) (kept : Bool) :
    ((s.behind p kept).port p).pointer = ((s.port p).pointer + 1) % 4096 := by
  rw [State.behind_port, State.setPort_port]

theorem State.takeWords_cons (s : State) (p : Port) (w : Word) (ws : List Word) :
    State.takeWords p (w :: ws) s =
      let r := State.takeWords p ws (s.behind p (s.keeps p (s.port p).pointer))
      (if s.keeps p (s.port p).pointer then ((s.port p).pointer, w) :: r.1 else r.1, r.2) := by
  simp only [State.takeWords, State.behind]
  cases s.keeps p (s.port p).pointer <;> rfl

theorem State.wrote_cons (s : State) (p : Port) (w : Word) (ws : List Word) :
    (s.behind p (s.admitted p (s.port p).pointer)).wrote p ws = s.wrote p (w :: ws) := by
  have mask := State.admitted_congr (State.behind_lps s p (s.admitted p (s.port p).pointer))
    (State.behind_pst s p (s.admitted p (s.port p).pointer)) p
  simp only [State.wrote, mask, List.length_cons, List.range_succ_eq_map, List.countP_cons, List.countP_map,
    List.foldl_cons, List.foldl_map]
  rw [State.behind_port]
  simp only [State.setPort_port, State.setPort_setPort, State.setPort_recordWords, Function.comp_def,
    Nat.succ_eq_add_one, runAddress_succ]
  congr 2
  have zero : runAddress (s.port p).pointer 0 = (s.port p).pointer := rfl
  rw [zero]
  cases s.admitted p (s.port p).pointer <;> simp only [satSucc, Bool.not_true, Bool.not_false, if_true,
    Bool.false_eq_true, if_false] <;> (try split) <;> omega

/-- A WRITE takes its words one by one: it leaves the port as `wrote` says, and hands on, for each address, the
last word that the mask admits there. -/
theorem State.takeWords_wrote (p : Port) (ws : List Word) (s : State) :
    (State.takeWords p ws s).2 = s.wrote p ws ∧
      ∀ b, keptAt (State.takeWords p ws s).1 b = s.wordFor p ws b := by
  induction ws generalizing s with
  | nil =>
    refine ⟨?_, fun b => ?_⟩
    · cases p <;> simp [State.takeWords, State.wrote, runAddress] <;> rfl
    · simp [State.takeWords, keptAt_nil, State.wordFor]
  | cons w ws ih =>
    obtain ⟨left, kept⟩ := ih (s.behind p (s.keeps p (s.port p).pointer))
    rw [State.takeWords_cons]
    dsimp only
    refine ⟨?_, fun b => ?_⟩
    · rw [left, State.keeps_eq, State.wrote_cons]
    · have next := kept b
      rw [State.wordFor_lastFor, State.admitted_congr (State.behind_lps _ _ _) (State.behind_pst _ _ _),
        State.behind_pointer] at next
      rw [State.wordFor_lastFor, lastFor_cons]
      split
      · next k =>
        rw [keptAt_cons, next]
        by_cases e : (s.port p).pointer = b
        · rw [State.keeps_eq, e] at k
          simp [k]
        · by_cases a : s.admitted p b = true <;> simp [a, e]
      · next k =>
        rw [next]
        by_cases e : (s.port p).pointer = b
        · rw [State.keeps_eq, e] at k
          simp [k]
        · by_cases a : s.admitted p b = true <;> simp [a, e]

/-! ## What the owners take -/

theorem anyKept_iff (ks : List Kept) (base n : Nat) :
    anyKept ks base n = true ↔ ∃ i < n, keptAt ks (base + i) ≠ none := by
  simp only [anyKept, List.any_eq_true, Bool.and_eq_true, decide_eq_true_eq, keptAt, ne_eq,
    Option.map_eq_none_iff, List.find?_eq_none, not_forall, List.mem_reverse, beq_iff_eq, not_not]
  constructor
  · rintro ⟨k, m, l, u⟩
    exact ⟨k.1 - base, by omega, k, m, by omega⟩
  · rintro ⟨i, l, k, m, e⟩
    exact ⟨k, m, by omega, by omega⟩

theorem Param.idx_inj {p q : Param} (h : p.idx = q.idx) : p = q := by
  have e : ∀ p : Param, Param.all[p.idx.val]? = some p := by intro p; cases p <;> rfl
  exact Option.some.inj ((e p).symm.trans (h ▸ e q))

theorem Param.mem_all (p : Param) : p ∈ Param.all := by cases p <;> decide

theorem Param.all_nodup : Param.all.Nodup := by decide +kernel

theorem Param.clamp_eq (p : Param) (v : Nat) : p.clamp v = max p.least (min p.greatest v) := by
  have h : p.least ≤ p.greatest := by cases p <;> decide
  unfold Param.clamp
  split
  · omega
  · split <;> omega

theorem Pst.setParam_get (t : Pst) (p q : Param) (v : Nat) :
    (t.setParam p v).params.get q.idx = if q = p then p.clamp v else t.params.get q.idx := by
  by_cases h : q = p
  · subst h; simp [Pst.setParam, Vector.get_eq_getElem]
  · have : p.idx.val ≠ q.idx.val := fun e => h (Param.idx_inj (Fin.ext e.symm))
    simp [Pst.setParam, Vector.get_eq_getElem, h, this]

theorem Pst.setParam_clamped (t : Pst) (p : Param) (v j : Nat) :
    (t.setParam p v).clamped.getLsbD j =
      if j = p.idx.val then p.isClamped v else t.clamped.getLsbD j := by
  have i : p.idx.val < 64 := by have := p.idx.isLt; omega
  unfold Pst.setParam
  dsimp only
  by_cases h : j = p.idx.val
  · subst h
    cases p.isClamped v <;> simp [i]
  · rw [if_neg h]
    have k : (1#64 <<< p.idx.val).getLsbD j = false := by
      rw [BitVec.getLsbD_shiftLeft, BitVec.getLsbD_one]
      by_cases l : j < p.idx.val
      · simp [l]
      · have : j - p.idx.val ≠ 0 := by omega
        simp [this]
    split
    · rw [BitVec.getLsbD_or, k, Bool.or_false]
    · rw [BitVec.getLsbD_and, BitVec.getLsbD_not, k]
      by_cases l : j < 64
      · simp [l]
      · simp [BitVec.getLsbD_of_ge _ _ (Nat.le_of_not_lt l)]

theorem Pst.setParam_rest (t : Pst) (p : Param) (v : Nat) : t.setParam p v =
    { t with params := (t.setParam p v).params, clamped := (t.setParam p v).clamped } := rfl

/-- R174: the value that the words kept for it give a parameter that holds `v`, if any is. -/
def Param.given (p : Param) (word : Nat → Option Word) (v : Nat) : Option Nat :=
  let a := areaAddr p.firstWord
  if p = .pRack then
    if word a = none ∧ word (a + 1) = none then none
    else some (((word a).getD (wordOf (v / 65536))).toNat * 65536 +
      ((word (a + 1)).getD (wordOf v)).toNat)
  else (word a).map BitVec.toNat

theorem Pst.handParam_given (ks : List Kept) (t : Pst) (p : Param) :
    t.handParam ks p = match p.given (keptAt ks) (t.params.get p.idx) with
      | none => t
      | some v => t.setParam p v := by
  unfold Pst.handParam Param.given
  by_cases h : p = .pRack
  · subst h
    simp only [if_true]
    by_cases e : keptAt ks (areaAddr Param.pRack.firstWord) = none ∧
        keptAt ks (areaAddr Param.pRack.firstWord + 1) = none
    · have : anyKept ks (areaAddr Param.pRack.firstWord) 2 = false := by
        rw [← Bool.not_eq_true, anyKept_iff]
        rintro ⟨i, l, k⟩
        interval_cases i
        · exact k e.1
        · exact k e.2
      rw [if_pos e, this]; simp
    · have : anyKept ks (areaAddr Param.pRack.firstWord) 2 = true := by
        rw [anyKept_iff]
        by_cases z : keptAt ks (areaAddr Param.pRack.firstWord) = none
        · exact ⟨1, by omega, fun k => e ⟨z, k⟩⟩
        · exact ⟨0, by omega, z⟩
      rw [if_neg e, this]; simp [keptOr]
  · simp only [h, if_false]
    cases keptAt ks (areaAddr p.firstWord) <;> rfl

/-- R174: the parameters taken in turn: each has the value that its own words give it. -/
theorem Pst.handParams_get (ks : List Kept) (l : List Param) (nodup : l.Nodup) (t : Pst) :
    let r := l.foldl (Pst.handParam ks) t
    r = { t with params := r.params, clamped := r.clamped } ∧
      (∀ q, q ∉ l → r.params.get q.idx = t.params.get q.idx) ∧
      (∀ j, (∀ q ∈ l, j ≠ q.idx.val) → r.clamped.getLsbD j = t.clamped.getLsbD j) ∧
      ∀ q ∈ l, match q.given (keptAt ks) (t.params.get q.idx) with
        | none => r.params.get q.idx = t.params.get q.idx ∧
            r.clamped.getLsbD q.idx = t.clamped.getLsbD q.idx
        | some v => r.params.get q.idx = q.clamp v ∧ r.clamped.getLsbD q.idx = q.isClamped v := by
  induction l generalizing t with
  | nil => simp
  | cons p l ih =>
    obtain ⟨fresh, nodup⟩ := List.nodup_cons.1 nodup
    obtain ⟨frame, kept, bits, given⟩ := ih nodup (t.handParam ks p)
    have apart : ∀ q ∈ l, q ≠ p := fun q m e => fresh (e ▸ m)
    have hand := Pst.handParam_given ks t p
    rw [List.foldl_cons]
    refine ⟨?_, fun q n => ?_, fun j n => ?_, fun q m => ?_⟩
    · rw [frame, hand]
      cases p.given (keptAt ks) (t.params.get p.idx) <;> rfl
    · rw [List.mem_cons, not_or] at n
      rw [kept q n.2, hand]
      cases p.given (keptAt ks) (t.params.get p.idx) with
      | none => rfl
      | some v => simp [Pst.setParam_get, n.1]
    · rw [bits j fun q m => n q (List.mem_cons_of_mem _ m), hand]
      cases p.given (keptAt ks) (t.params.get p.idx) with
      | none => rfl
      | some v => simp [Pst.setParam_clamped, n p List.mem_cons_self]
    · rcases List.mem_cons.1 m with rfl | m
      · have own := kept q fresh
        have flag := bits q.idx fun x m e => fresh (Param.idx_inj (Fin.ext e) ▸ m)
        rw [own, flag, hand]
        cases q.given (keptAt ks) (t.params.get q.idx) with
        | none => exact ⟨rfl, rfl⟩
        | some v => simp [Pst.setParam_get, Pst.setParam_clamped]
      · have other : (t.handParam ks p).params.get q.idx = t.params.get q.idx ∧
            (t.handParam ks p).clamped.getLsbD q.idx = t.clamped.getLsbD q.idx := by
          rw [hand]
          have far : q.idx.val ≠ p.idx.val := fun e => apart q m (Param.idx_inj (Fin.ext e))
          cases p.given (keptAt ks) (t.params.get p.idx) with
          | none => exact ⟨rfl, rfl⟩
          | some v => simp [Pst.setParam_get, Pst.setParam_clamped, apart q m, far]
        have := given q m
        rwa [other.1, other.2] at this

/-- Where a desk's cab control record begins (11.3). -/
def cabBase : Desk → Nat
  | .u => 0x020
  | .l => 0x028

theorem exists_lt_three {q : Nat → Prop} : (∃ i < 3, q i) ↔ q 0 ∨ q 1 ∨ q 2 := by
  constructor
  · rintro ⟨i, l, h⟩
    interval_cases i <;> simp [h]
  · rintro (h | h | h)
    exacts [⟨0, by omega, h⟩, ⟨1, by omega, h⟩, ⟨2, by omega, h⟩]

/-- A WRITE by a desk's port: its record takes the words kept for it, if there is one (R112, R165). -/
theorem State.writeWords_desk {p : Port} {d : Desk} (h : portDesk p = some d) (ws : List Word) (s : State) :
    let word (i : Nat) := s.wordFor p ws (cabBase d + i)
    s.writeWords p ws =
      if word 0 ≠ none ∨ word 1 ≠ none ∨ word 2 ≠ none then
        State.finish ((s.wrote p ws).takeCab d { demand := word 0, handle := word 1, switch := word 2 })
      else s.wrote p ws := by
  obtain ⟨left, kept⟩ := State.takeWords_wrote p ws s
  have hand : s.writeWords p ws = (s.wrote p ws).handCab d (cabBase d) (State.takeWords p ws s).1 := by
    unfold State.writeWords
    rw [← left]
    cases p <;> cases h <;> rfl
  intro word
  rw [hand, State.handCab]
  have any : anyKept (State.takeWords p ws s).1 (cabBase d) 3 = true ↔
      word 0 ≠ none ∨ word 1 ≠ none ∨ word 2 ≠ none := by
    rw [anyKept_iff, exists_lt_three]; simp only [kept]; rfl
  by_cases e : anyKept (State.takeWords p ws s).1 (cabBase d) 3 = true
  · rw [if_pos e, if_pos (any.1 e), kept, kept, kept]; rfl
  · rw [if_neg e, if_neg fun k => e (any.2 k)]

/-- R29, R165: the staging window as a WRITE of port C leaves it. -/
def Staging.written (g : Staging) (word : Nat → Option Word) : Staging :=
  { offset := (word 0x248).getD g.offset, d0 := (word 0x249).getD g.d0, d1 := (word 0x24A).getD g.d1
    d2 := (word 0x24B).getD g.d2, d3 := (word 0x24C).getD g.d3 }

/-- 8.8, R165: the text-out window as a WRITE of port C leaves it. -/
def TextOut.written (x : TextOut) (word : Nat → Option Word) : TextOut :=
  { length := (word 0x318).getD x.length, w0 := (word 0x319).getD x.w0, w1 := (word 0x31A).getD x.w1
    w2 := (word 0x31B).getD x.w2, w3 := (word 0x31C).getD x.w3, w4 := (word 0x31D).getD x.w4
    w5 := (word 0x31E).getD x.w5 }

/-- 9.3, R165: the close-check record as a WRITE of port C leaves it. -/
def checkWritten (x : BitVec 32) (word : Nat → Option Word) : BitVec 32 :=
  (word 0x250).getD (x.extractLsb' 16 16) ++ (word 0x251).getD (x.extractLsb' 0 16)

theorem keptAt_none {ks : List Kept} {base n : Nat} (h : ¬anyKept ks base n = true) (i : Nat) (l : i < n) :
    keptAt ks (base + i) = none := by
  by_contra k
  exact h ((anyKept_iff _ _ _).2 ⟨i, l, k⟩)

/-- R29, R165: the LPS as a WRITE of port C leaves it: the window, and its block committed where the fourth data
word is among the words kept. -/
def Lps.written (l : Lps) (word : Nat → Option Word) : Lps :=
  let window : Lps := { l with staging := l.staging.written word }
  if word 0x24C = none then window else window.commit

theorem State.staging_taken (ks : List Kept) (s : State) :
    (if anyKept ks 0x248 5 then s.handStaging ks else s) =
      { s with lps := s.lps.written (keptAt ks) } := by
  by_cases h : anyKept ks 0x248 5 = true
  · rw [if_pos h]
    unfold State.handStaging Lps.written
    cases keptAt ks 0x24C <;> rfl
  · have k := keptAt_none h
    have e : s.lps.staging.written (keptAt ks) = s.lps.staging := by
      simp only [Staging.written, k 0 (by omega), k 1 (by omega), k 2 (by omega), k 3 (by omega),
        k 4 (by omega), Option.getD_none]
    rw [if_neg h, Lps.written, if_pos (k 4 (by omega)), e]

theorem State.closeCheck_taken (ks : List Kept) (s : State) :
    (if anyKept ks 0x250 2 then s.handCloseCheck ks else s) =
      { s with pif := { s.pif with closeCheck := checkWritten s.pif.closeCheck (keptAt ks) } } := by
  by_cases h : anyKept ks 0x250 2 = true
  · rw [if_pos h]; rfl
  · have k := keptAt_none h
    have e : checkWritten s.pif.closeCheck (keptAt ks) = s.pif.closeCheck := by
      simp only [checkWritten, k 0 (by omega), k 1 (by omega), Option.getD_none]
      ext i hi
      simp only [BitVec.getElem_append, BitVec.getElem_extractLsb', Nat.zero_add]
      split
      · rfl
      · rw [show 16 + (i - 16) = i by omega]; rfl
    rw [if_neg h, e]

theorem State.textOut_taken (ks : List Kept) (s : State) :
    (if anyKept ks 0x318 7 then s.handTextOut ks else s) =
      { s with tgh := { s.tgh with textOut := s.tgh.textOut.written (keptAt ks) } } := by
  by_cases h : anyKept ks 0x318 7 = true
  · rw [if_pos h]; rfl
  · have k := keptAt_none h
    have e : s.tgh.textOut.written (keptAt ks) = s.tgh.textOut := by
      simp only [TextOut.written, k 0 (by omega), k 1 (by omega), k 2 (by omega), k 3 (by omega),
        k 4 (by omega), k 5 (by omega), k 6 (by omega), Option.getD_none]
    rw [if_neg h, e]

/-- A parameter's words lie in the area. -/
theorem Param.firstWord_lt (p : Param) : p.firstWord < 62 ∧ (p = .pRack → p.firstWord = 2) := by
  cases p <;> decide

theorem State.params_taken (ks : List Kept) (s : State) :
    (if anyKept ks 0x410 62 then s.handParams ks else s) =
      { s with pst := Param.all.foldl (Pst.handParam ks) s.pst } := by
  by_cases h : anyKept ks 0x410 62 = true
  · rw [if_pos h]; rfl
  · have k := keptAt_none h
    have e (t : Pst) (p : Param) : t.handParam ks p = t := by
      have first : keptAt ks (areaAddr p.firstWord) = none := k _ p.firstWord_lt.1
      rw [Pst.handParam_given, Param.given]
      by_cases r : p = .pRack
      · have second : keptAt ks (areaAddr p.firstWord + 1) = none := by
          rw [p.firstWord_lt.2 r]; exact k 3 (by omega)
        simp only [r, if_true] at first second ⊢
        rw [if_pos ⟨first, second⟩]
      · simp [r, first]
    have f (l : List Param) : l.foldl (Pst.handParam ks) s.pst = s.pst := by
      induction l with
      | nil => rfl
      | cons p l ih => rw [List.foldl_cons, e, ih]
    rw [if_neg h, f]

/-- A WRITE by port C: each owner takes the words kept for its record (R165). -/
theorem State.writeWords_c (ws : List Word) (s : State) :
    let word := s.wordFor .c ws
    s.writeWords .c ws = { s.wrote .c ws with
      lps := s.lps.written word
      tgh := { s.tgh with textOut := s.tgh.textOut.written word }
      pif := { (s.wrote .c ws).pif with closeCheck := checkWritten s.pif.closeCheck word }
      pst := Param.all.foldl (Pst.handParam (State.takeWords .c ws s).1) s.pst } := by
  obtain ⟨left, kept⟩ := State.takeWords_wrote .c ws s
  have e : keptAt (State.takeWords .c ws s).1 = s.wordFor .c ws := funext kept
  dsimp only
  rw [← e, ← left]
  unfold State.writeWords State.handOver
  dsimp only
  rw [State.staging_taken, State.closeCheck_taken, State.textOut_taken, State.params_taken]
  have frame := State.takeWords_frame .c ws s
  have check : (State.takeWords .c ws s).2.pif.closeCheck = s.pif.closeCheck := by rw [left]; rfl
  simp only [frame, check]

/-- A WRITE of which no word is kept only moves the port on. -/
theorem State.writeWords_none (s : State) (p : Port) (ws : List Word) (h : ∀ b, s.wordFor p ws b = none) :
    s.writeWords p ws = s.wrote p ws := by
  have left := (State.takeWords_wrote p ws s).1
  have kept := (State.takeWords_wrote p ws s).2
  have e : (State.takeWords p ws s).1 = [] := by
    cases k : (State.takeWords p ws s).1 with
    | nil => rfl
    | cons x xs =>
      have := kept x.1
      rw [h, k] at this
      obtain ⟨a, w⟩ := x
      rw [keptAt_cons] at this
      cases keptAt xs a <;> simp at this
  unfold State.writeWords
  dsimp only
  rw [left, e]
  cases p <;> rfl

end Sys2Proof.Machine
end

