-- ==== Sys2Proof/WellFormed.lean ====
section
/-! DEFINITION. Which commands a sender can form: the bounds that the manual gives their operands and
that the operands' types do not hold already. `exec` has a meaning for every command all the same. -/

namespace Sys2Proof

/-- A telegram's payload holds at most 12 bytes (R127, R136). -/
def Envelope.wf (e : Envelope) : Bool := decide (e.payload.length ≤ 12)

/-- The operands a sender can form. A WRITE carries one or more words (9.1); a period of the effort
feedback is longer than 0 and at least as long as its high time (R76). -/
def Instr.wf : Instr → Bool
  | .powerOnReset _ => true
  | .encoderEdge _ _ _ => true
  | .tooth => true
  | .regimeTimerExpiry => true
  | .markerRead _ _ => true
  | .collectionTimeout => true
  | .oduSample => true
  | .standstillTimerExpiry => true
  | .positionRestore _ _ _ => true
  | .lpsTimerExpiry => true
  | .profileOpen _ _ _ => true
  | .profileClose _ _ => true
  | .profileAbort _ => true
  | .profileActivate _ _ => true
  | .stagingWindowWrite _ words => !words.isEmpty
  | .supervisionCycle => true
  | .shunt _ => true
  | .full _ => true
  | .acknowledge _ => true
  | .brakeReset _ => true
  | .pressureGateEnd => true
  | .deadTimeExpiry => true
  | .frictionProveExpiry => true
  | .pinionProveExpiry _ => true
  | .appliedSwitchChange _ _ => true
  | .effortFeedbackPeriod period high => decide (0 < period) && decide (high ≤ period)
  | .feedbackTimeout => true
  | .loopSenseOpen => true
  | .loopSenseClose => true
  | .holdDelayExpiry => true
  | .stallTimerExpiry => true
  | .lkSet _ => true
  | .lkCleared _ => true
  | .opSet _ => true
  | .opCleared _ => true
  | .edActive _ _ => true
  | .pbPressed _ _ => true
  | .tOpenExpiry _ => true
  | .dwellExpiry _ => true
  | .tWarnExpiry _ => true
  | .tCloseExpiry _ => true
  | .stopIntervalExpiry _ => true
  | .tRevExpiry _ => true
  | .isolateDoor _ _ _ => true
  | .doorRelease _ _ => true
  | .doorClose _ _ => true
  | .cabControlWrite _ words => !words.isEmpty
  | .freshnessExpiry _ => true
  | .orphanExpiry => true
  | .activate _ => true
  | .deactivate _ => true
  | .forceDeactivate _ => true
  | .ownSlotEvent => true
  | .transmissionEnd => true
  | .slotWrap => true
  | .missedBeaconTest => true
  | .frameDropped _ => true
  | .telegramNotAdmitted t => t.env.wf
  | .beacon e => e.wf
  | .authority e => e.wf
  | .revoke e => e.wf
  | .restrictSet e => e.wf
  | .restrictClear e => e.wf
  | .emergencyCall e => e.wf
  | .callCancel e => e.wf
  | .profileOpenTelegram e => e.wf
  | .profileBlock e => e.wf
  | .profileCloseTelegram e => e.wf
  | .profileActivateTelegram e => e.wf
  | .text e => e.wf
  | .textWaitExpiry => true
  | .popText _ => true
  | .sendText _ => true
  | .setPointer _ _ => true
  | .read _ _ => true
  | .write _ words => !words.isEmpty
  | .readStatus _ => true
  | .clearNotices _ _ => true
  | .setEnables _ _ => true
  | .transactionFramingError _ _ => true
  | .unknownRequest _ _ _ _ => true
  | .parameterWrite _ words => !words.isEmpty
  | .freeze _ => true
  | .carRestart _ => true
  | .markerEdgeCapture _ _ => true
  | .comparatorEdge _ => true
  | .receiveBitClockEvent => true
  | .transmitBitClockEvent => true
  | .pressureSensorPulse => true

end Sys2Proof
end

