-- ==== Sys2Proof/Tests/Slice0.lean ====
section
/-! SUPPORT. Tests on small states, with values from the manual's worked sequences, and for every
statement that has hypotheses a witness that meets them. -/

namespace Sys2Proof.Tests

set_option Elab.async false

open Sys2Proof.Machine

/-! ## Well-formedness -/

theorem test_wf_write : Instr.wf (.write .c []) = false ∧ Instr.wf (.write .c [0]) = true := by decide
theorem test_wf_staging : Instr.wf (.stagingWindowWrite .c []) = false := by decide
theorem test_wf_cab : Instr.wf (.cabControlWrite .u []) = false := by decide
theorem test_wf_parameter : Instr.wf (.parameterWrite .c []) = false := by decide
theorem test_wf_period_zero : Instr.wf (.effortFeedbackPeriod 0 0) = false := by decide
theorem test_wf_period_high : Instr.wf (.effortFeedbackPeriod 1000 1001) = false := by decide

/-- An envelope to all cars. -/
def toAll (bs : List Byte) : Envelope := { flags := 0, addr := 0, payload := bs }

theorem test_wf_long_telegram :
    Instr.wf (.text (toAll (List.replicate 13 0))) = false ∧
      Instr.wf (.telegramNotAdmitted { kind := 14, env := toAll (List.replicate 13 0) }) = false ∧
      ([Instr.beacon, .authority, .revoke, .restrictSet, .restrictClear, .emergencyCall, .callCancel,
        .profileOpenTelegram, .profileBlock, .profileCloseTelegram, .profileActivateTelegram].all
          fun c => !(c (toAll (List.replicate 13 0))).wf) = true := by decide
theorem test_decode_none : decodeTableWord 16 0 = none := by decide

/-! ## Small states -/

/-- What a command leaves. -/
def after (c : Instr) (s : State) : State :=
  match exec c s with
  | .next t => t
  | .fault _ => s
  | .refused _ => s

/-- A parameter set to a value. -/
def State.withPar (p : Param) (n : Nat) (s : State) : State :=
  { s with pst := { s.pst with params := s.pst.params.set p.idx n } }

/-- Car 7, FROZEN, at rest after reset. -/
def parked : State :=
  State.withPar .carAddress 7 { State.reset with pst := { Pst.reset with frozen := true } }

/-- A fresh cab control record, handle 0, NEUTRAL. -/
def freshCab : CabRecord := { traction := 0, handle := .percent 0, switch := .neutral, writes := 0, fresh := some 300000 }

/-- Cab L active and fresh, in a mode. -/
def manned (m : Mode) : State :=
  { parked with
    dka := { Dka.reset with active := some .l, switch := some .neutral, cabL := freshCab }
    ssu := { Ssu.reset with mode := m } }

/-- A state in motion DOWN. -/
def State.down (v : Nat) (s : State) : State :=
  { s with odu := { s.odu with motion := .movingDown, speed := v } }

/-- The position VALID between two bounds in µm. -/
def State.placed (lo hi : Nat) (s : State) : State :=
  { s with odu := { s.odu with pos := .valid, lo := lo, hi := hi } }

/-- An image of line 1, version 212, ending at 60,000 dm: ADHESION from 0 at +40‰ with ceiling 500, RACK
from 39,000 at +180‰ with ceiling 333 and platform side A; marker 1,237 at 21,525 dm, tolerance 3. -/
def image : Memory :=
  Memory.writeAll [] 0 ([0, 1, 0, 212, 0, 0xEA, 0x60, 2, 1, 0x39, 0xA2, 0x3F, 0x52] ++
    [0, 0, 0, 0, 40, 0x01, 0xF4, 0] ++ [0, 0x98, 0x58, 0, 180, 0x01, 0x4D, 9] ++
    [0x04, 0xD5, 0, 0x54, 0x15, 3])

/-- The image in the active bank, CHECKED. -/
def State.lined (s : State) : State :=
  { s with lps := { s.lps with
      y := { role := .active, state := .checked, image := image, length := some 35, version := some 212,
             header := some { lineId := 1, lineEnd := 60000, nSegments := 2, nMarkers := 1,
                              check := 0x39A23F52 }
             result := some .passed } } }

/-! ## Motion and position (1.9) -/

theorem test_eighth_count_starts :
    (after (.encoderEdge .upper true false) { State.reset with odu := { Odu.reset with
      upper := { Encoder.reset with src := { Source.reset with leaving := 7 } } } }).odu.motion =
        .movingUp := by decide +kernel

theorem test_undirected_tooth_starts_down : (after .tooth State.reset).odu.motion = .movingDown := by
  decide +kernel

/-- 1.9, sample expiry 1. -/
def descending : State :=
  State.placed 2148000000 2148900000 (State.down 100 { State.reset with odu := { Odu.reset with
    upper := { Encoder.reset with src := { Source.reset with
      sampleSum := -50400, intervalSum := -50400, last4 := [-52800, -52800, -50400] } }
    lower := { Encoder.reset with src := { Source.reset with
      sampleSum := -48000, intervalSum := -48000, last4 := [-52800, -50400, -50400] } } } })

theorem test_sample_bounds :
    (after .oduSample descending).odu.lo = 2147948592 ∧
      (after .oduSample descending).odu.hi = 2148852960 := by decide +kernel

theorem test_sample_speed : (after .oduSample descending).odu.speed = 104 := by decide +kernel

/-- 1.9, the read of marker 1,237 after five counts more of each encoder. -/
def passing : State :=
  State.lined (State.placed 2147948592 2148852960 (State.down 104 { State.reset with odu := { Odu.reset with
    upper := { Encoder.reset with src := { Source.reset with intervalSum := -12000 } }
    lower := { Encoder.reset with src := { Source.reset with intervalSum := -12000 } }
    used := { upper := true, lower := true, tooth := false } } }))

theorem test_marker_fixes :
    (after (.markerRead 1237 6) passing).odu.lo = 2148200000 ∧
      (after (.markerRead 1237 6) passing).odu.hi = 2148800000 := by decide +kernel

theorem test_marker_check_fails : (after (.markerRead 1237 7) passing).odu.invalidReads = 1 := by
  decide +kernel

theorem test_collection_timeout :
    (after .collectionTimeout { State.reset with odu := { Odu.reset with
      reader := { Reader.reset with state := .collecting, timeout := some 2000 } } }).odu.invalidReads =
        1 := by decide +kernel

theorem test_restore_needs_standstill :
    (after (.positionRestore .c 1000 32788) (State.down 10 parked)).pif.c.result.map ResultCell.result =
      some .moving := by decide +kernel

/-- Position word 1,000 with bit 15 of the uncertainty word clear, uncertainty 20 dm (R21). -/
theorem test_restore :
    (after (.positionRestore .c 1000 20) parked).odu.lo = 98000000 ∧
      (after (.positionRestore .c 1000 20) parked).odu.pos = .restored := by decide +kernel

/-! ## The line profile (2.8) -/

theorem test_image_wf : image.wf = true := by decide +kernel

theorem test_open_takes_claim :
    (after (.profileOpen .c 212 441) parked).lps.standby.state = .opened ∧
      (after (.profileOpen .c 212 441) parked).lps.claim.map Claim.holder = some .portC := by
  decide +kernel

theorem test_blocks_expected : blocksExpected 441 = 56 := by decide

/-- A port C load of 21 bytes is OPEN, and the pointer stands at the staging window. -/
def loading : State :=
  { after (.profileOpen .c 212 21) parked with
    pif := { Pif.reset with c := { PortState.reset with pointer := 0x248 } } }

theorem test_block_stored :
    (after (.stagingWindowWrite .c [1, 0x0102, 0, 0, 0]) loading).lps.standby.image = [(8, 1), (9, 2)] := by
  decide +kernel

theorem test_block_not_expected :
    (after (.stagingWindowWrite .c [3, 0x0102, 0, 0, 0]) loading).lps.rejected = 1 := by decide +kernel

theorem test_close_missing_blocks :
    (after (.profileClose .c 212) loading).lps.standby.result = some .missingBlocks := by decide +kernel

theorem test_activate_switches :
    (after (.profileActivate .c 212) (State.lined { parked with lps := { Lps.reset with
      x := { Bank.blank .standby with state := .checked, version := some 212 } } })).lps.x.role = .active := by
  decide +kernel

theorem test_check_expiry_reads :
    (after .lpsTimerExpiry { loading with lps := { loading.lps with
      x := { loading.lps.x with state := .closed }
      claim := some { holder := .portC, length := 100, version := 212 }, closeCheck := some 0 } }).lps.checkPos =
        64 := by decide +kernel

/-! ## Speed supervision (3.6) -/

/-- The two segments of the first worked computation. -/
def stop : Profile :=
  { lineId := 1, version := 1, lineEnd := 40000
    segments := [⟨35000, 39000, false, 40, 500, .adhesion, false, false, false⟩,
      ⟨39000, 40000, true, 180, 333, .rack, false, false, false⟩]
    markers := [] }

/-- The car at v before the end of authority at 39,600 dm. -/
def approaching (v : Nat) : State :=
  let s := State.placed 3970000000 3971600000 (State.down v (manned .full))
  { s with
    dka := { s.dka with switch := some .forward, selected := some .down }
    ssu := { s.ssu with dir := some .down }
    tgh := { Tgh.reset with
      authority := some { issue := 1, dir := .down, limit := 39600, stretchId := [], holdDoors := false }
      link := .ok } }

theorem test_curves_300 :
    ((approaching 300).computeFrom none (some stop) 333).curves = ⟨102300, 105436, 114621⟩ := by
  decide +kernel

theorem test_curves_330 :
    ((approaching 330).computeFrom none (some stop) 333).curves = ⟨93000, 96136, 105321⟩ := by
  decide +kernel

theorem test_decel : pieceDecel 270 90 .adhesion 100 .down = 0 ∧ pieceDecel 270 90 .rackEntry 120 .down = 152 := by
  decide +kernel

theorem test_prerequisite_lost :
    (after .supervisionCycle (State.down 100 (manned .full))).ssu.status = .service ∧
      (after .supervisionCycle (State.down 100 (manned .full))).brm.rows.supervision.level =
        .fullService := by decide +kernel

theorem test_prerequisite_lost_faster :
    (after .supervisionCycle (State.down 120 (manned .full))).ssu.status = .emergency := by decide +kernel

theorem test_shunt_request : (after (.shunt .l) (manned .full)).ssu.mode = .shunt := by decide +kernel

theorem test_full_from_other_desk :
    (after (.full .u) (manned .shunt)).pif.u.result.map ResultCell.result = some .notActiveDesk := by
  decide +kernel

theorem test_acknowledge :
    (after (.acknowledge .l) { manned .full with ssu := { (manned .full).ssu with
      overrun := true, warning := true } }).ssu.overrun = false := by decide +kernel

/-! ## Brake and traction (4.10, 4.11) -/

/-- 249 pulses are 372 kPa (4.11). -/
theorem test_pressure :
    (after .pressureGateEnd { parked with brm := { Brm.reset with pulses := 249 } }).brm.measured =
      some 372 := by decide +kernel

/-- SERVICE(30) with 25% achieved is 19 kPa (4.10). -/
theorem test_blend :
    ({ parked with brm := { Brm.reset with effort := -25 } } : State).targetFor (.service 30) = 19 := by
  decide +kernel

/-- A high time of 300 µs in 1,000 µs achieves 40% (4.11). -/
theorem test_feedback : (after (.effortFeedbackPeriod 1000 300) parked).brm.effort = -40 := by
  decide +kernel

theorem test_loop_opens : (after .loopSenseOpen parked).brm.rows.loop.level = .emergency := by
  decide +kernel

theorem test_reset_refused_by_loop :
    (after (.brakeReset .l) { manned .shunt with brm := { Brm.reset with senseOpen := true } }).pif.l.result.map
      ResultCell.result = some .conditions := by decide +kernel

theorem test_reset_clears : (after (.brakeReset .l) (manned .shunt)).brm.latch = none := by decide +kernel

theorem test_dead_time :
    (after .deadTimeExpiry { parked with brm := { Brm.reset with
      deadTimer := some 60000, waiting := some .apply } }).brm.valve = .apply := by decide +kernel

theorem test_pinion_fail_apply :
    (after (.pinionProveExpiry .upper) { parked with brm := { Brm.reset with
      latch := none, upper := { applied := false, prove := some 800000, fault := none } } }).brm.latch =
        some .pinionApply := by decide +kernel

theorem test_hold_delay : (after .holdDelayExpiry (manned .shunt)).brm.rows.hold.level = .hold := by
  decide +kernel

/-! ## Passenger doors (5.9, 5.10) -/

theorem test_lock_lost_moving :
    (after (.lkCleared .b2) (State.down 400 (manned .full))).drc.b2.state = .fault .lockLost ∧
      (after (.lkCleared .b2) (State.down 400 (manned .full))).brm.rows.doors.reason =
        some .doorInMotion := by decide +kernel

/-- A2 CLOSING, with a reversal count. -/
def closing (n : Nat) : State :=
  { parked with drc := { Drc.reset with
      a2 := { Door.reset with state := .closing, lk := false, reversals := n, timer := some (.tClose, 5000000) } } }

theorem test_edge_reverses :
    (after (.edActive .a2 true) (closing 0)).drc.a2.state = .reversing .stop ∧
      (after (.edActive .a2 true) (closing 0)).drc.a2.reversals = 1 := by decide +kernel

theorem test_fourth_strike : (after (.edActive .a2 true) (closing 3)).drc.a2.state = .fault .reversalLimit := by
  decide +kernel

theorem test_lock_set : (after (.lkSet .a2) (closing 1)).drc.a2.state = .locked := by decide +kernel

theorem test_button_opens :
    (after (.pbPressed .a2 true) { parked with drc := { Drc.reset with
      a2 := { Door.reset with state := .released }
      sideA := { SideRelease.reset with granted := some .l } } }).drc.a2.state ≠ .released := by decide +kernel

theorem test_warning_expires :
    (after (.tWarnExpiry .a2) { parked with drc := { Drc.reset with
      a2 := { Door.reset with state := .warning, lk := false, op := true, timer := some (.tWarn, 2000000) } } }).drc.a2.state =
        .closing := by decide +kernel

theorem test_isolate :
    (after (.isolateDoor .c 1 1) { parked with drc := { Drc.reset with
      a2 := { Door.reset with state := .fault .reversalLimit } } }).drc.a2.state = .isolated := by decide +kernel

/-- At rest in the platform segment, with the latch reset and T_hold passed, as 5.9 has it. -/
def atPlatform : State :=
  let s := State.lined (State.placed 3960200000 3961200000 (manned .full))
  let t := after (.brakeReset .l) (after .holdDelayExpiry s)
  { t with
    odu := { t.odu with regime := .adhesion }
    brm := { t.brm with measured := some 400, holding := true } }

theorem test_release_b_refused :
    (after (.doorRelease .l 1) atPlatform).drc.sideB.refused = some .platform := by decide +kernel

theorem test_release_a_grants :
    (after (.doorRelease .l 0) atPlatform).drc.sideA.granted = some .l ∧
      (after (.doorRelease .l 0) atPlatform).drc.a1.state = .released := by decide +kernel

theorem test_close_withdraws :
    (after (.doorClose .l 0) (after (.doorRelease .l 0) atPlatform)).drc.a1.state = .locked := by
  decide +kernel

/-! ## Desks (6.7, 6.8) -/

/-- Port L's pointer stands at its cab control record. -/
def atCab : State :=
  { manned .shunt with pif := { Pif.reset with l := { PortState.reset with pointer := 0x028 } } }

theorem test_cab_forward_is_down :
    (after (.cabControlWrite .l [0, 0, 0]) atCab).dka.selected = some .down := by decide +kernel

theorem test_cab_clamps :
    (after (.cabControlWrite .l [101, 254, 7]) atCab).dka.cabL =
      { traction := 100, handle := .percent 100, switch := .neutral, writes := 1, fresh := some 300000 } := by
  decide +kernel

theorem test_stale :
    (after (.freshnessExpiry .l) (manned .shunt)).brm.rows.cab =
      { level := .fullService, reason := some .cabStale } := by decide +kernel

theorem test_activate : (after (.activate .u) parked).dka.active = some .u := by decide +kernel
theorem test_activate_config :
    (after (.activate .u) State.reset).pif.u.result.map ResultCell.result = some .notReady := by decide +kernel
theorem test_deactivate : (after (.deactivate .l) (manned .shunt)).ssu.mode = .none := by decide +kernel
theorem test_force : (after (.forceDeactivate .c) (manned .shunt)).dka.active = none := by decide +kernel
theorem test_orphan :
    (after .orphanExpiry { manned .shunt with dka := { (manned .shunt).dka with
      orphan := some 5000000 } }).dka.active = none := by decide +kernel

/-! ## The radio line (7.7, 7.8) -/

theorem test_beacon_offset : beaconOffset 0 114 = 2 ∧ beaconOffset 15 40 = -264 := by decide

/-- A position report frames to 168 bits. -/
theorem test_frame_length :
    (frameBits { kind := 13, env := { flags := 8, addr := 7, payload := List.replicate 12 0 } }).length =
      168 := by decide +kernel

/-- Car 7, SYNCED. -/
def synced : State := { parked with vrl := { Vrl.reset with sync := .synced, cycle := 2 } }

theorem test_own_slot_keys : (after .ownSlotEvent synced).vrl.tx.state = .lead := by decide +kernel
theorem test_missed_beacon : (after .missedBeaconTest synced).vrl.sync = .coasting := by decide +kernel
theorem test_slot_wrap : (after .slotWrap synced).vrl.cycle = 3 := by decide +kernel

theorem test_transmission_ends :
    (after .transmissionEnd (after .ownSlotEvent synced)).vrl.bit = 176 ∧
      (after .transmissionEnd (after .ownSlotEvent synced)).vrl.transmitted = 1 := by decide +kernel

/-- 7.7, the edge at 433 (a time of 1,000 stands for 0). -/
theorem test_rephase :
    (after (.comparatorEdge 1433) { parked with now := 1400, vrl := { Vrl.reset with
      rx := { Receiver.reset 1397 1814 with lastTone := some true, lastEdge := some 1233 } } }).vrl.rx.clock =
        some 1650 := by decide +kernel

theorem test_decides_mark :
    (after .receiveBitClockEvent { parked with vrl := { Vrl.reset with
      rx := { Receiver.reset 0 417 with nMark := 1 } } }).vrl.rx.flagReg = 1 := by decide +kernel

theorem test_frame_dropped : (after (.frameDropped .crcError) parked).vrl.crcErrors = 1 := by decide +kernel

/-! ## Telegrams (3.6, 8.10) -/

/-- A beacon of line 1, version 212. -/
theorem test_beacon : (after (.beacon (toAll [0, 1, 0, 212])) parked).vrl.sync = .synced ∧
    (after (.beacon (toAll [0, 1, 0, 212])) parked).tgh.link = .ok := by decide +kernel

/-- An envelope to car 7. -/
def toCar (bs : List Byte) : Envelope := { flags := 0, addr := 7, payload := bs }

theorem test_authority :
    (after (.authority (toCar [5, 0x81, 0, 0x9A, 0xB0, 0, 0, 0, 0, 0, 0])) parked).tgh.authority =
      some { issue := 5, dir := .down, limit := 39600, stretchId := [0, 0, 0, 0, 0, 0], holdDoors := true } := by
  decide +kernel

theorem test_revoke :
    (after (.revoke (toCar [1])) { parked with tgh := (approaching 0).tgh }).tgh.authority = none := by
  decide +kernel

/-- Twelve entries, identities 1 to 12 (3.6). -/
def crowded : State :=
  { parked with ssu := { Ssu.reset with
      restrictions := (List.range 12).map (fun i => ⟨i + 1, 100 * i, 100 * i + 50, 500, .both⟩) } }

theorem test_restriction_overflow :
    (after (.restrictSet (toAll [40, 0, 0, 0, 0, 1, 0, 0, 200, 0])) crowded).ssu.cap = some 200 := by
  decide +kernel

theorem test_restriction_clear :
    (after (.restrictClear (toAll [5])) crowded).ssu.restrictions.length = 11 := by decide +kernel

/-- Calls 11 to 14 are held (8.10). -/
def called : State :=
  { parked with tgh := { Tgh.reset with calls :=
      [⟨11, 20000, 21000, .service⟩, ⟨12, 50000, 50500, .emergency⟩, ⟨13, 29500, 30100, .service⟩,
        ⟨14, 80000, 80300, .service⟩] } }

/-- CALL 15, SERVICE, 60,000 to 61,000. -/
theorem test_call_overflow :
    (after (.emergencyCall (toAll [15, 0, 0xEA, 0x60, 0, 0xEE, 0x48, 0])) called).tgh.wholeLine =
      some .service := by decide +kernel

theorem test_call_cancel :
    (after (.callCancel (toAll [13])) called).tgh.calls.map Call.ident = [11, 12, 14] := by decide +kernel

theorem test_radio_open :
    (after (.profileOpenTelegram (toCar [0, 212, 1, 0xB9])) parked).lps.claim.map Claim.length = some 441 := by
  decide +kernel

/-- The radio's load of 21 bytes is OPEN. -/
def radioLoad : State := after (.profileOpenTelegram (toCar [0, 212, 0, 21])) parked

theorem test_radio_block :
    (after (.profileBlock (toCar [2, 9, 0, 0, 0, 0, 0, 0, 8])) radioLoad).lps.standby.image = [(16, 9), (23, 8)] := by
  decide +kernel
theorem test_radio_close :
    (after (.profileCloseTelegram (toCar [0, 213, 0, 0, 0, 0])) radioLoad).tgh.radioProfile.map
      RadioProfile.result = some .version := by decide +kernel
theorem test_radio_activate :
    (after (.profileActivateTelegram (toCar [0, 212])) parked).tgh.radioProfile =
      some { kind := 11, result := .notChecked, offset := none } := by decide +kernel

theorem test_foreign :
    (after (.telegramNotAdmitted { kind := 2, env := { flags := 0, addr := 9, payload := [] } }) parked).tgh.foreign =
      1 := by decide +kernel

theorem test_text : (after (.text (toAll [65])) parked).pif.c.pending = 0x020#12 := by decide +kernel
theorem test_pop_empty :
    (after (.popText .c) parked).pif.c.result.map ResultCell.result = some .conditions := by decide +kernel
theorem test_send : (after (.sendText .c) parked).tgh.txTexts = [[]] := by decide +kernel

/-! ## Ports, parameters and start-up (9.7, 10.6) -/

theorem test_pointer_wraps : (after (.setPointer .u 4097) parked).pif.u.pointer = 1 := by decide +kernel

/-- The whole-line call's record reads its presence word and its code. -/
theorem test_read :
    (after (.read .u 2) (after (.setPointer .u 0x2E0) { parked with
      tgh := { Tgh.reset with wholeLine := some .emergency } })).pif.u.out = [1, 1] := by decide +kernel
theorem test_read_count : (after (.read .u 257) parked).pif.u.frameErrors = 1 := by decide +kernel
theorem test_write_refused : (after (.write .c [1]) parked).pif.c.refused = 1 := by decide +kernel
theorem test_status : (after (.readStatus .u) parked).pif.u.out = [0, 0, 0, 0, 0, 0, 0] := by decide +kernel
theorem test_clear :
    (after (.clearNotices .c 0x0100) { parked with pif := { Pif.reset with
      c := { PortState.reset with pending := 0x140 } } }).pif.c.pending = 0x040#12 := by decide +kernel
theorem test_enable : (after (.setEnables .c 0xF140) parked).pif.c.enable = 0x140#12 := by decide +kernel
theorem test_framing : (after (.transactionFramingError .u [9]) parked).pif.u.frameErrors = 1 := by
  decide +kernel
theorem test_unknown :
    (after (.unknownRequest .u 20 0 0) parked).pif.u.result.map ResultCell.result = some .badArgument := by
  decide +kernel

/-- Car 5 in CONFIG, port C's pointer at P_hold (10.6). -/
def configuring : State :=
  State.withPar .carAddress 5 { State.reset with
    pif := { Pif.reset with c := { PortState.reset with pointer := 0x429 } } }

/-- 700 kPa is stored as 600, with its clamped flag. -/
theorem test_parameter_clamps :
    (after (.parameterWrite .c [700]) configuring).par .pHold = 600 ∧
      (after (.parameterWrite .c [700]) configuring).pst.clamped = 1#64 <<< 24 := by decide +kernel

/-- P_hold of 600 kPa fails PRESSURE_ORDER on its first part. -/
theorem test_freeze_refused :
    (after (.freeze .c) (State.withPar .pHold 600 configuring)).pst.lastCheck = some (.failed 2 false) := by
  decide +kernel
theorem test_freeze_band :
    (after (.freeze .c) (State.withPar .band 95 configuring)).pif.c.result =
      some { code := 18, result := .conditions, detail := some 3 } := by decide +kernel
theorem test_freeze : (after (.freeze .c) configuring).pst.frozen = true := by decide +kernel
theorem test_restart :
    (after (.carRestart .c) (State.placed 0 100000 parked)).odu.pos = .valid := by decide +kernel
theorem test_power_on : (after (.powerOnReset true) parked).pst.strapLatch = true := by decide +kernel

/-! ## Witnesses: for each statement with hypotheses, states and operands that meet those of each clause,
at the boundary where a clause has one -/

/-- The close of an event leaves a settled state. -/
theorem settled (s : State) : s.finish.Settled := s.finish_settled

/-- A settled state is quiet where no activation is pending and no departure and no grant stands. -/
theorem quiet {t : State} (settled : t.Settled) (h : t.lps.pendingAct = none ∧ t.drc.sideA.granted = none ∧
    t.drc.sideB.granted = none ∧ t.brm.departure = .idle ∧ t.demand = 0) : t.Quiet :=
  ⟨settled, h.1, fun i => by cases i; exacts [h.2.1, h.2.2.1], h.2.2.2.1, h.2.2.2.2⟩

/-- The ODU replaced. -/
def State.withOdu (o : Odu) (s : State) : State := { s with odu := o }

theorem witness_StepRunsTheFrontCommand :
    ({ State.reset with pending := [.tooth, .oduSample] } : State).pending = [.tooth, .oduSample] := by
  decide +kernel

/-- At 50,000 µs the first timers are due; one µs before, none is, and the µs that passes makes them so. At 50 µs
the first motor period ends, at 1,000 µs those of the brakes, and a tone keyed at 0 ends its half-wave. -/
theorem witness_IdleStepQueuesTheEarliestDueTimer :
    let due (s : State) := s.timers.any fun x => decide (∃ d, x.1 = some d ∧ d ≤ s.now)
    State.reset.pending = [] ∧ due { State.reset with now := 417 } = true ∧
      due { State.reset with now := 48 } = false ∧ due (State.reset.advanceTo 1) = false ∧
      State.reset.now < 49 ∧ 49 < (State.reset.drc.door .a1).motor.next ∧
      (State.reset.drc.door .a1).motor.next ≤ 50 ∧ 0 < State.reset.par .tPwm ∧
      State.reset.brm.ebrake.next ≤ 1000 ∧ 999 < State.reset.brm.traction.next ∧
      State.reset.vrl.tx.halfEnd = none ∧
      ([Param.wMarkHi, .wMarkLo, .wSpaceHi, .wSpaceLo].all fun p => decide (0 < State.reset.par p)) = true ∧
      (after .ownSlotEvent synced).vrl.tx.halfEnd = some (417 + synced.par .wMarkHi) := by
  decide +kernel

theorem witness_EncoderEdgesAndTeethMoveTheSumsAndStartTheCar :
    let e := State.reset.odu.encoder .upper
    (true = !e.phaseB ∧ false = e.phaseA) ∧ (false = e.phaseB ∧ true = !e.phaseA) := by decide +kernel

/-- The reader with fourteen bits, collecting: its next falling edge appends the fifteenth. -/
def fourteen : State :=
  { State.reset with odu := { Odu.reset with reader := { Reader.reset with
      state := .collecting, bits := List.replicate 14 false, level := some true, lastRise := some 0 } } }

/-- The bits of marker 1,237 with its check 6. -/
def bits1237 : List Bool :=
  [false, true, false, false, true, true, false, true, false, true, false, true,
    false, true, true, false]

/-- Fifteen of them taken, and the last pulse begun at 0. -/
def fifteen : State :=
  { State.reset with odu := { Odu.reset with reader := { Reader.reset with
      state := .collecting, bits := bits1237.take 15, level := some true, lastRise := some 0 } } }

theorem witness_MarkerEdgesMoveTheReaderAndMakeARead :
    let time := fifteen.par .shortMin
    ¬(15 ≤ fourteen.odu.reader.bits.length) ∧ ¬(State.reset.odu.reader.state = .collecting) ∧
      fifteen.now ≤ time ∧ fifteen.odu.reader.state = .collecting ∧ fifteen.odu.reader.level = some true ∧
      fifteen.odu.reader.bits = bits1237.take 15 ∧ bits1237.length = 16 ∧
      fifteen.pulseBit (time - fifteen.odu.reader.lastRise.getD time) = bits1237.getLast? ∧
      (∀ k < 12, bits1237[k]? = some ((1237#12).getLsbD (11 - k))) ∧
      (∀ k < 4, bits1237[12 + k]? = some ((6#4).getLsbD (3 - k))) := by decide +kernel

/-- Of marker 1,237, whose interval begins at 2,148,200,000 µm: a VALID interval that ends there, 3 dm before
it, and 1 µm further before. -/
theorem witness_MarkerReadsFixThePosition :
    let at' (hi : Nat) : State := State.lined (State.placed (hi - 100000) hi State.reset)
    let a : Int := ((21525 : Int) - State.reset.par .dAnt - 3) * 100000
    (1237 / 256 + 1237 / 16 % 16 + 1237 % 16) % 16 = 6 ∧ (7#4).toNat ≠ 6 ∧
      State.reset.lps.profile = none ∧ (1 / 256 + 1 / 16 % 16 + 1 % 16) % 16 = 1 ∧
      (passing.lps.profile.map fun p => p.markers.find? fun k => k.ident == 1) = some none ∧
      (passing.lps.profile.bind fun p => p.markers.find? fun k => k.ident == 1237) =
        some { ident := 1237, pos := 21525, tol := 3 } ∧
      (State.lined State.reset).odu.pos ≠ .valid ∧ a = 2148200000 ∧
      (at' 2148200000).movesIn .adhesion = (0, 0) ∧
      ((at' 2148200000).odu.hi : Int) = a ∧ ((at' 2147900000).odu.hi : Int) + 300000 = a ∧
      ((at' 2147899999).odu.hi : Int) + 300000 < a ∧
      (after (.markerRead 1237 6) (at' 2148200000)).odu.pos = .valid ∧
      (after (.markerRead 1237 6) (at' 2147900000)).odu.lo = 2148200000 ∧
      (after (.markerRead 1237 6) (at' 2147899999)).odu.pos = .invalid .markerConflict := by decide +kernel

theorem witness_MotionTimersExpire :
    let s := State.withOdu { Odu.reset with
      motion := .movingUp, regimeTimer := some 5, standTimer := some 5
      reader := { Reader.reset with state := .collecting, timeout := some 5 } } State.reset
    State.reset.odu.regimeTimer = none ∧ State.reset.odu.reader.timeout = none ∧
      State.reset.odu.standTimer = none ∧ s.odu.regimeTimer = some 5 ∧
      s.odu.reader.timeout = some 5 ∧ s.odu.standTimer = some 5 := by decide +kernel

/-- All three sources ISOLATED, and none; a car at STANDSTILL, and not. -/
theorem witness_SampleGivesTheSpeedAndTheDirection :
    let off : Source := { Source.reset with health := .isolated }
    let s := State.withOdu { Odu.reset with
      upper := { Encoder.reset with src := off }, lower := { Encoder.reset with src := off }
      tooth := { ToothSensor.reset with src := off } } State.reset
    ([SourceId.upper, .lower, .tooth].all fun i =>
      decide (((after .oduSample s).odu.src i).health = .isolated) &&
        decide (((after .oduSample descending).odu.src i).health ≠ .isolated)) = true ∧
      State.reset.odu.motion = .standstill ∧ descending.odu.motion ≠ .standstill := by decide +kernel

/-- An encoder with a 17th illegal transition is ISOLATED by the sample, with 16 it is not. -/
theorem witness_SampleChecksTheSources :
    let s (n : Nat) := State.withOdu { Odu.reset with
      upper := { Encoder.reset with illegalTally := 1, illegalHist := [n] } } State.reset
    ((s 16).odu.src .upper).health ≠ .isolated ∧
      ((after .oduSample (s 16)).odu.src .upper).health = .isolated ∧
      ((after .oduSample (s 15)).odu.src .upper).health = .ok := by decide +kernel

/-- 120,000 is position word 54,464 with bit 15 of the uncertainty word. -/
theorem witness_PositionRestoreSetsTheInterval :
    parked.odu.motion = .standstill ∧ parked.dka.active = none ∧
      (54464#16).toNat + 65536 * ((32768#16).toNat / 32768) = 120000 ∧
      (54465#16).toNat + 65536 * ((32768#16).toNat / 32768) = 120001 ∧
      (manned .shunt).dka.active ≠ none ∧ (manned .shunt).odu.motion = .standstill ∧
      (State.down 10 parked).odu.motion ≠ .standstill := by decide +kernel

/-! ### The line profile -/

/-- Of 21 bytes the last block expected is block 2. Three words from the window's second one end before its
fourth data word, and four reach it. -/
theorem witness_StagingWindowWriteCommitsTheBlock :
    loading.pif.c.pointer = 0x248 ∧ loading.lps.claim.map Claim.holder = some .portC ∧
      loading.lps.standby.state = .opened ∧ loading.lps.standby.image.wf = true ∧
      loading.lps.claim.map Claim.length = some 21 ∧
      (2#16).toNat < (21 + 7) / 8 ∧ (21 + 7) / 8 ≤ (3#16).toNat ∧
      ({ parked with pif := { Pif.reset with c := { PortState.reset with pointer := 0x24C } } } :
        State).lps.standby.state ≠ .opened ∧
      (after (.setPointer .c 0x249) loading).pif.c.pointer = 0x248 + 1 ∧
      (after (.setPointer .c 0x249) loading).lps.standby.state = .opened ∧
      1 + [(1 : Word), 2, 3].length ≤ 4 ∧ 1 + [(1 : Word), 2, 3, 4].length = 5 := by decide +kernel

/-- Every block of port C's load received. -/
def complete : State := { loading with lps := { loading.lps with blockMap := 7 } }

/-- That load CLOSED. -/
def closed : State := after (.profileClose .c 212) complete

theorem witness_ProfileRequestsOpenAndEndTheLoad :
    (20#16).toNat < 21 ∧ 1069 < (1070#16).toNat ∧ 21 ≤ (21#16).toNat ∧ (1069#16).toNat ≤ 1069 ∧
      parked.lps.claim = none ∧ radioLoad.lps.claim.map Claim.holder = some .radio ∧
      closed.lps.claim.map Claim.holder = some .portC ∧ closed.lps.standby.state = .closed ∧
      complete.lps.claim.map Claim.version = some 212 ∧ complete.lps.standby.state ≠ .closed ∧
      complete.lps.blocksReceived = (21 + 7) / 8 ∧ loading.lps.blocksReceived ≠ (21 + 7) / 8 ∧
      parked.lps.standby.state = .empty ∧ loading.lps.standby.state ≠ .empty := by decide +kernel

/-- With X CLOSED, and Y ACTIVE and its scrub about to end: with the check of the header that the CRC gives,
and with another. -/
theorem witness_LpsTimerChecksAndScrubs :
    let s := State.lined closed
    let crc := crc32Run s.lps.y.image s.lps.scrubCrc 0 35
    let right : State := { s with lps := { s.lps with y := { s.lps.y with
      header := some { lineId := 1, lineEnd := 60000, nSegments := 2, nMarkers := 1, check := crc } } } }
    .x = s.lps.standbyId ∧ (s.lps.bank .x).role = .standby ∧ (s.lps.bank .x).state = .closed ∧
      s.lps.claim.map Claim.length = some 21 ∧ s.lps.checkPos = 0 ∧
      (s.lps.bank .y).role = .active ∧ (s.lps.bank .y).length = some 35 ∧ s.lps.scrubPos = 0 ∧
      (right.lps.bank .y).header.map Header.check = some crc ∧
      (s.lps.bank .y).header.map Header.check ≠ some crc ∧
      s.tgh.beacon = none ∧
      ({ s with tgh := { s.tgh with beacon := some (1, 212) } } : State).tgh.beacon ≠ none ∧
      (loading.lps.bank .x).state ≠ .closed ∧ (loading.lps.bank .y).role ≠ .active := by decide +kernel

/-- A load of one segment whose check passes, at the check's last expiry. -/
theorem witness_LpsTimerChecksAndScrubs_passes :
    let m : Memory := Memory.writeAll [] 0 ([1, 2, 0, 212, 1, 0x86, 0xA0, 1, 0, 0x94, 0x0B, 0xA3, 0x50] ++
      [0, 0, 0, 0, 5, 0, 100, 0])
    let crc := crc32Run m 0xFFFFFFFF 0 21
    m.wf = true ∧ structuralCheck m 21 212 (some 0x940BA350) crc = .passed := by decide +kernel

/-- A load and a line longer than the 64 bytes of one expiry. -/
theorem witness_LpsTimerChecksAndScrubs_long :
    let s : State := { closed with lps := { closed.lps with
      claim := some { holder := .portC, length := 65, version := 212 }, closeCheck := some 0
      y := { Bank.blank .active with state := .checked, length := some 65 } } }
    s.lps.standbyId = .x ∧ (s.lps.bank .x).state = .closed ∧ s.lps.checkPos + min 64 (65 - 0) < 65 ∧
      (s.lps.bank .y).role = .active ∧ s.lps.scrubPos + min 64 (65 - 0) < 65 := by decide +kernel

/-- The standby bank CHECKED, at rest and on the way. -/
def checkedBank : State :=
  { parked with lps := { Lps.reset with x := { Bank.blank .standby with
      state := .checked, version := some 212, length := some 35 } } }

theorem witness_ProfileActivateSwitchesOver :
    parked.lps.standby.state ≠ .checked ∧ checkedBank.lps.standby.state = .checked ∧
      checkedBank.lps.standby.version = some (212#16).toNat ∧
      checkedBank.lps.standby.version ≠ some (213#16).toNat ∧
      checkedBank.odu.motion = .standstill ∧
      (State.down 10 { checkedBank with dka := (manned .shunt).dka }).odu.motion ≠ .standstill ∧
      (State.down 10 { checkedBank with dka := (manned .shunt).dka }).dka.active ≠ none := by
  decide +kernel

/-! ### Speed supervision -/

theorem witness_CyclesWithoutAWindow :
    State.reset.ssu.mode = .none ∧ (manned .full).ssu.mode = .full ∧
      decide ((manned .full).lps.x.role = .active ∨ (manned .full).lps.y.role = .active) = false ∧
      (manned .shunt).ssu.mode = .shunt ∧ (manned .shunt).lps.profile = none ∧
      (State.lined (manned .shunt)).odu.located = false := by decide +kernel

/-- In FULL with the prerequisites met, and in SHUNT; with the line end behind the front, and ahead of it; with
a window that steepens nowhere, and a governing target. -/
theorem witness_CycleBuildsTheWindowAndTheTargets :
    let s := State.lined (approaching 50)
    let shunting : State := { s with ssu := { s.ssu with mode := .shunt } }
    let ended := State.placed 0 100000 shunting
    s.lps.profile.map Profile.lineEnd = some 60000 ∧ s.odu.pos = .valid ∧ s.dka.selected = some .down ∧
      s.ssu.mode = .full ∧ s.tgh.authority.map Authority.dir = some .down ∧ shunting.ssu.mode = .shunt ∧
      ended.odu.pLo = 0 ∧ 0 < s.odu.pLo ∧ (after .supervisionCycle s).ssu.window ≠ [] ∧
      (after .supervisionCycle ended).ssu.window = [] := by decide +kernel

/-- The same car at rest with no direction selected, in FULL and in SHUNT: there is no D. -/
theorem witness_CycleBuildsTheWindowAndTheTargets_still :
    let s := State.lined (State.placed 3970000000 3971600000 (manned .shunt))
    s.lps.profile.map Profile.lineEnd = some 60000 ∧ s.odu.pos = .valid ∧ s.dka.selected = none ∧
      s.odu.motion = .standstill ∧ s.ssu.mode = .shunt ∧ (approaching 0).tgh.authority ≠ none := by
  decide +kernel

theorem witness_CurvesAreOrderedAndGiveTheStatus :
    (manned .shunt).ssu.mode ≠ .none ∧ (manned .shunt).ssu.mode = .shunt ∧ (manned .shunt).par .mSb ≤ (manned .shunt).par .mEb := by
  decide +kernel

/-- The front 1 dm past, and at, the end of authority at 39,600 dm, DOWN. -/
theorem witness_PassingTheEndOfAuthorityIsAnOverrun :
    let s : State := State.placed 3959900000 3960000000 { State.lined (approaching 50) with
      ssu := { (approaching 50).ssu with authSide := some .ahead } }
    s.ssu.mode = .full ∧ s.lps.profile.isSome = true ∧ s.odu.located = true ∧
      s.tgh.authority.map Authority.dir = some .down ∧ s.dka.selected = some .down ∧
      s.ssu.dir = some .down ∧ s.ssu.authSide = some .ahead ∧ s.odu.pLo = 39599 ∧
      s.tgh.authority.map Authority.limit = some 39600 ∧ s.odu.motion ≠ .standstill ∧
      (State.placed 3960000000 3960000000 s).odu.pLo = 39600 ∧
      ({ s with dka := { s.dka with selected := none } } : State).odu.motion = .movingDown ∧
      ({ s with odu := { s.odu with motion := .movingUp } } : State).odu.motion ≠ .movingDown := by
  decide +kernel

theorem witness_ModeRequestsSelectTheMode :
    (manned .shunt).dka.active = portDesk .l ∧ (manned .shunt).dka.active ≠ portDesk .u ∧
      (manned .shunt).odu.motion = .standstill ∧
      (State.down 1 (manned .shunt)).odu.motion ≠ .standstill := by decide +kernel

theorem witness_AcknowledgeClearsWarningAndOverrun :
    let s : State := { manned .full with ssu := { (manned .full).ssu with overrun := true } }
    s.dka.active = portDesk .l ∧ s.dka.active ≠ portDesk .u ∧ s.ssu.overrun = true ∧
      s.odu.motion = .standstill ∧ (State.down 1 s).odu.motion ≠ .standstill ∧
      (State.down 1 (manned .full)).ssu.overrun = false := by decide +kernel

/-! ### Brake and traction -/

theorem witness_BrakeResetClearsTheLatch :
    let s := manned .shunt
    let opened : State := { s with brm := { s.brm with senseOpen := true } }
    s.dka.active = portDesk .l ∧ s.odu.motion = .standstill ∧ s.brm.senseOpen = false ∧
      s.brm.upper.fault = none ∧ s.brm.lower.fault = none ∧
      ([RowId.cab, .supervision, .doors, .radio, .odometry, .loop, .hold].all fun i =>
        decide ((s.brm.rows.get i).level ≠ .emergency)) = true ∧
      opened.brm.senseOpen = true ∧ (State.down 1 s).odu.motion ≠ .standstill := by decide +kernel

/-- The same settled, the latch set by RESET. -/
theorem witness_BrakeResetClearsTheLatch_settled :
    let s := (manned .shunt).finish
    s.Settled ∧ s.brm.latch = some .reset ∧ s.dka.active = portDesk .l ∧ s.odu.motion = .standstill ∧
      s.brm.senseOpen = false ∧ s.brm.upper.fault = none ∧ s.brm.lower.fault = none ∧
      ([RowId.cab, .supervision, .doors, .radio, .odometry, .loop, .hold].all fun i =>
        decide ((s.brm.rows.get i).level ≠ .emergency)) = true :=
  ⟨settled _, by decide +kernel⟩

/-- The valves at LAP with nothing open before, with the dead time of RELEASE running, and at RELEASE: the
choice is APPLY at 89 pulses, the sensor's fault, as the level is EMERGENCY. -/
theorem witness_PressureGateMeasuresAndChoosesTheValve :
    let s : State := { parked with brm := { Brm.reset with pulses := 89 } }
    let running : State := { s with brm := { s.brm with lastOpen := some .release, deadTimer := some 9 } }
    let releasing : State := { s with brm := { s.brm with valve := .release } }
    let held : State := { s with brm := { s.brm with pulses := 280 } }
    s.brm.loopForced = false ∧ s.brm.level ≠ .none ∧ s.brm.sensorFault ≠ (none : Option Nat).isNone ∧
      s.brm.valve = .lap ∧ s.brm.lastOpen = none ∧
      running.brm.valve = .lap ∧ running.brm.lastOpen = some .release ∧ running.brm.deadTimer ≠ none ∧
      releasing.brm.valve ≠ .lap ∧ releasing.brm.valve ≠ .apply ∧
      (90 ≤ held.brm.pulses ∧ (280 - 100) * 5 / 2 = held.par .pEm) ∧
      (after .pressureGateEnd { held with brm := { held.brm with frictionFault := true } }).brm.frictionFault =
        false ∧
      ({ s with brm := { s.brm with loopForced := true } } : State).brm.loopForced = true := by
  decide +kernel

theorem witness_PressureGateMeasuresAndChoosesTheValve_quiet : parked.finish.Quiet := quiet (settled _) (by decide +kernel)

theorem witness_BrakeTimersExpire :
    let s : State := { parked with brm := { Brm.reset with
      deadTimer := some 5, holdTimer := some 5, stallTimer := some 5, departure := .pulling } }
    let idle : State := { parked with brm := { Brm.reset with holdTimer := none } }
    s.brm.deadTimer = some 5 ∧ s.brm.holdTimer = some 5 ∧ s.brm.stallTimer = some 5 ∧
      idle.brm.deadTimer = none ∧ idle.brm.holdTimer = none ∧ idle.brm.stallTimer = none := by
  decide +kernel

/-- Desk L in SHUNT with the latch reset, DOWN selected and a demand written, T_hold passed: PULLING. -/
def pulls : State :=
  { manned .shunt with
    dka := { (manned .shunt).dka with
      switch := some .forward, selected := some .down
      cabL := { freshCab with traction := 50, switch := .forward } }
    brm := { Brm.reset with latch := none, holdElapsed := true } }

theorem witness_BrakeTimersExpire_stall :
    let s := pulls.finish
    s.Settled ∧ s.lps.pendingAct = none ∧ s.brm.departure = .pulling ∧ s.brm.stallTimer ≠ none ∧
      ¬s.MustAbandon ∧ ¬s.EffortReached := by
  refine ⟨settled _, by decide +kernel, by decide +kernel, by decide +kernel, ?_, ?_⟩
  · rintro (h | h | ⟨-, h⟩)
    · exact absurd h (by decide +kernel)
    · exact h ((State.gateButLevel_iff _).2 (by decide +kernel))
    · exact h (by decide +kernel)
  · rintro ⟨h, -⟩
    exact absurd h (by decide +kernel)

theorem witness_ProvingSetsAndClearsItsFaults :
    let s : State := { parked with brm := { Brm.reset with
      proveTimer := some 5, upper := { Band.reset with prove := some 5, fault := some .failApply } } }
    s.brm.proveTimer = some 5 ∧ (s.brm.bandOf .upper).prove = some 5 ∧
      parked.brm.proveTimer = none ∧ (parked.brm.bandOf .upper).prove = none ∧
      (parked.brm.bandOf .upper).applied = true ∧ (parked.brm.bandOf .upper).applied ≠ false := by
  decide +kernel

/-- Quiet states with a proving running: at rest with the outputs off, and in ADHESION with them on. -/
theorem witness_ProvingSetsAndClearsItsFaults_quiet :
    let proving (s : State) : State := { s with brm := { s.brm with
      proving := true, proveTimer := some 5, upper := { s.brm.upper with prove := some 5 } } }
    let off := (proving parked).finish
    let on := (proving { manned .shunt with
      brm := { (manned .shunt).brm with latch := none, pinion := .released, energised := true } }).finish
    off.Quiet ∧ off.brm.energised = false ∧ (off.brm.bandOf .upper).prove = some 5 ∧
      on.Quiet ∧ on.brm.energised = true ∧ (on.brm.bandOf .upper).prove = some 5 :=
  ⟨quiet (settled _) (by decide +kernel), by decide +kernel, by decide +kernel, quiet (settled _) (by decide +kernel), by decide +kernel,
    by decide +kernel⟩

theorem witness_EffortFeedbackGivesTheEffort :
    parked.brm.feedbackTimer = none ∧
      (after (.effortFeedbackPeriod 900 450) parked).brm.feedbackTimer = some 1100 := by decide +kernel

theorem witness_LoopSenseForcesTheBrakes :
    parked.brm.senseOpen = false ∧ (after .loopSenseOpen parked).brm.senseOpen = true := by
  decide +kernel

/-- Desk L's pointer back at its record, with the level and the rows as they stand. -/
def State.atRecord (s : State) : State :=
  { s with pif := { s.pif with l := { s.pif.l with pointer := 0x028 } } }

/-- Desk L in SHUNT with the latch reset, DOWN selected and a demand written, T_hold running. -/
def asking (demand : Word) : State :=
  State.atRecord (after (.cabControlWrite .l [demand, 0, 0])
    (State.atRecord (after (.brakeReset .l) (manned .shunt))))

/-- The same with T_hold at its end: under HOLD, PULLING with a demand, RELEASED with valid effort, and on the
point of moving. -/
def held : State := after .holdDelayExpiry (asking 0)
def pulling : State := after .holdDelayExpiry (asking 50)
def released : State := after (.effortFeedbackPeriod 1000 500) pulling
def leaving (n : Int) : State :=
  { released with odu := { released.odu with
      upper := { released.odu.upper with src := { released.odu.upper.src with leaving := n } } } }

/-- What every case of the departure asks for, at standstill. -/
def Departing (s : State) : Prop :=
  s.Settled ∧ s.GateButLevel ∧ s.brm.rows.cab = Row.clear ∧ s.brm.rows.supervision = Row.clear ∧
    s.brm.rows.doors = Row.clear ∧ s.brm.rows.radio = Row.clear ∧ s.brm.rows.odometry = Row.clear ∧
    s.brm.rows.loop = Row.clear ∧ s.lps.pendingAct = none ∧ s.dka.active = some .l ∧
    s.dka.selected = some .down ∧ (s.dka.cab .l).handle = .percent 0 ∧
    s.dka.switch = some (s.dka.cab .l).switch ∧
    s.brm.stallTimer.isSome = decide (s.brm.departure = .pulling) ∧ s.brm.ebrake.latched = 0 ∧
    (s.port .l).pointer = 0x028 ∧ s.odu.motion = .standstill

/-- It holds of a state settled in SHUNT that grants no side. -/
theorem departing_of {s : State}
    (rows : s.brm.rows.cab = s.dka.cabRow ∧ s.brm.rows.supervision = s.supervisionRow ∧
      s.brm.rows.doors = s.doorsRow ∧ s.brm.rows.radio = s.radioRow ∧ s.brm.rows.odometry = s.odometryRow ∧
      s.brm.rows.loop = s.loopRow ∧ s.brm.rows.hold = s.holdRow)
    (made : s.brm.level = s.brm.effective ∧ s.brm.pinion = s.pinionCommand ∧
      s.brm.energised = (decide (s.brm.pinion = .released) && !s.brm.loopForced) ∧
      s.brm.holdSeen = s.holdInputs ∧ s.brm.proveSeen = s.brm.proveInputs ∧
      s.drc.summary = s.drc.allProven ∧ s.isGranted .a = false ∧ s.isGranted .b = false ∧
      (if s.gateOpen then s.brm.traction.latched = s.dka.supplied
        else s.brm.traction.latched = 0 ∧ s.brm.traction.driven = 0))
    (gate : (s.dka.cab .l).fresh ≠ none ∧ s.dka.lock = false ∧ s.drc.summary = true ∧ s.brm.latch = none ∧
      s.ssu.status = .normal ∧ s.ssu.mode = .shunt ∧ s.brm.upper.fault = none ∧ s.brm.lower.fault = none)
    (clear : s.brm.rows.cab = Row.clear ∧ s.brm.rows.supervision = Row.clear ∧
      s.brm.rows.doors = Row.clear ∧ s.brm.rows.radio = Row.clear ∧ s.brm.rows.odometry = Row.clear ∧
      s.brm.rows.loop = Row.clear)
    (desk : s.lps.pendingAct = none ∧ s.dka.active = some .l ∧
      s.dka.selected = some .down ∧ (s.dka.cab .l).handle = .percent 0 ∧
      s.dka.switch = some (s.dka.cab .l).switch ∧
      s.brm.stallTimer.isSome = decide (s.brm.departure = .pulling) ∧ s.brm.ebrake.latched = 0 ∧
      (s.port .l).pointer = 0x028 ∧ s.odu.motion = .standstill) : Departing s := by
  obtain ⟨r1, r2, r3, r4, r5, r6, r7⟩ := rows
  obtain ⟨m1, m2, m3, m4, m5, m6, m7, m8, m9⟩ := made
  obtain ⟨g1, g2, g3, g4, g5, g6, g7, g8⟩ := gate
  obtain ⟨c1, c2, c3, c4, c5, c6⟩ := clear
  obtain ⟨d1, d2, d3, d⟩ := desk
  refine ⟨⟨r1, r2, r3, r4, r5, r6, r7, m1, m2, m3, m4, m5, m6, fun i h => ?_, fun h => ?_, fun h => ?_⟩,
    ⟨⟨.l, d2, g1⟩, by simp [d3], g2, g3, g4, .inl g5, .inl g6, by simp [g7, g8]⟩,
    c1, c2, c3, c4, c5, c6, d1, d2, d3, d⟩
  · cases i <;> simp_all
  · rwa [if_pos h] at m9
  · rwa [if_neg (by simp [h])] at m9

theorem departing_held : Departing held :=
  departing_of (by decide +kernel) (by decide +kernel) (by decide +kernel) (by decide +kernel) (by decide +kernel)
theorem departing_asking : Departing (asking 50) :=
  departing_of (by decide +kernel) (by decide +kernel) (by decide +kernel) (by decide +kernel) (by decide +kernel)
theorem departing_pulling : Departing pulling :=
  departing_of (by decide +kernel) (by decide +kernel) (by decide +kernel) (by decide +kernel) (by decide +kernel)
theorem departing_released : Departing released :=
  departing_of (by decide +kernel) (by decide +kernel) (by decide +kernel) (by decide +kernel) (by decide +kernel)
theorem departing_leaving : Departing (leaving 7) :=
  departing_of (by decide +kernel) (by decide +kernel) (by decide +kernel) (by decide +kernel) (by decide +kernel)
theorem departing_leaving_down : Departing (leaving (-7)) :=
  departing_of (by decide +kernel) (by decide +kernel) (by decide +kernel) (by decide +kernel) (by decide +kernel)

/-- Beside what `Departing` says of these states: a demand written under HOLD, T_hold's end under a demand, an
effort below and at the required one, a demand of 0% and a stale record while PULLING and RELEASED, and the
eighth count. -/
theorem witness_DepartureFollowsTheDemandAndTheEffort :
    held.brm.departure = .idle ∧ held.brm.holdElapsed = true ∧
      held.brm.rows.hold = { level := .hold, reason := some .standing } ∧ (50#16 : Word) ≠ 0#16 ∧
      held.brm.effortValid = false ∧
      (asking 50).brm.departure = .idle ∧ (asking 50).brm.holdTimer = some 500000 ∧
      (asking 50).brm.rows.hold = Row.clear ∧ 0 < ((asking 50).dka.cab .l).traction ∧
      pulling.brm.departure = .pulling ∧ pulling.brm.holdElapsed = true ∧
      pulling.brm.rows.hold = { level := .hold, reason := some .standing } ∧
      0 < (pulling.dka.cab .l).traction ∧ pulling.brm.required = 0 ∧
      released.brm.departure = .released ∧ released.brm.holdElapsed = true ∧
      released.brm.rows.hold = Row.clear ∧ 0 < (released.dka.cab .l).traction ∧
      (leaving 7).brm.departure = .released ∧ (leaving 7).odu.upper.src.leaving = 7 ∧
      (leaving (-7)).odu.upper.src.leaving = -7 ∧ (leaving 7).ssu.mode = .shunt ∧
      ((leaving 7).odu.encoder .upper).src.health ≠ .isolated ∧ portDesk .l = some .l := by decide +kernel

/-! ### Passenger doors -/

/-- A2 in a state, with its switches. -/
def doorIn (d : DoorState) (lk op : Bool) : State :=
  { parked with drc := { Drc.reset with a2 := { Door.reset with state := d, lk := lk, op := op } } }

theorem witness_DoorTimersMoveTheDoor :
    ((closing 0).door .a2).timer = some (.tClose, 5000000) ∧
      ([DoorTimer.tOpen, .dwell, .tWarn, .tClose, .stopInterval, .tRev].all fun k =>
        decide (((doorIn .locked true false).door .a2).timer.map Prod.fst ≠ some k)) = true := by
  decide +kernel

theorem witness_IsolateDoorTakesADoorOutOfService :
    4 ≤ (4#16).toNat ∧ 2 ≤ (2#16).toNat ∧ (3#16).toNat = doorCode .b2 ∧ (1#16).toNat < 2 ∧
      parked.odu.motion = .standstill ∧ (State.down 1 parked).odu.motion ≠ .standstill ∧
      (parked.door .a2).state = .locked ∧
      ((doorIn (.fault .lockLost) false false).door .a2).state = .fault .lockLost ∧
      ((doorIn .isolated true false).door .a2).state = .isolated ∧
      (∀ r, ((doorIn .opened false true).door .a2).state ≠ .fault r) := by
  refine ⟨by decide, by decide, by decide, by decide, by decide, by decide, by decide +kernel,
    by decide +kernel, by decide +kernel, fun r h => ?_⟩
  cases h

/-- At the platform with side A served, for desk L: every condition of the grant holds on side A, and the
platform alone fails on side B. -/
theorem witness_DoorReleaseGrantsTheSide :
    let s := atPlatform
    let conds (i : CarSide) : List (GrantCond × Bool) :=
      [(.standstill, decide (s.odu.motion = .standstill)),
        (.holding, s.brm.holding && decide (s.brm.level ≠ .none)),
        (.position, decide (s.odu.pos = .valid ∨ s.odu.pos = .restored)),
        (.platform, s.extentServed i),
        (.holdDoors, decide (s.ssu.mode = .shunt) || match s.tgh.authority with
          | none => true
          | some a => !a.holdDoors)]
    portDesk .l = some .l ∧ portDesk .u = some .u ∧ s.dka.active = some .l ∧ s.dka.active ≠ some .u ∧
      2 ≤ (2#16).toNat ∧ (0#16).toNat = CarSide.a.code ∧ (1#16).toNat = CarSide.b.code ∧
      (conds .a).all Prod.snd = true ∧
      (conds .b).find? (fun x => !x.2) = some (.platform, false) := by decide +kernel

/-- The same settled, and then with the side granted: kept at rest, withdrawn as the car moves, and with its
RELEASED doors alone not proven closed. -/
theorem witness_DoorReleaseGrantsTheSide_ends :
    let s := atPlatform.finish
    let u := after (.doorRelease .l 0) atPlatform
    let moved := State.down 1 u
    s.Settled ∧ s.lps.pendingAct = none ∧ s.dka.active = some .l ∧
      (s.grantTable .a).all Prod.snd = true ∧ u.Ends u.finish ∧ (u.drc.side .a).granted = some .l ∧
      u.firstFailing .a = none ∧ moved.Ends moved.finish ∧ moved.firstFailing .a = some .standstill ∧
      moved.odu.motion ≠ .standstill ∧ ([DoorId.a1, .a2, .b1, .b2].all fun k =>
        decide ((u.drc.door k).state = .locked) || decide ((u.drc.door k).state = .released)) = true :=
  ⟨settled _, by decide +kernel, by decide +kernel, by decide +kernel, State.finish_ends _, by decide +kernel,
    by decide +kernel, State.finish_ends _, by decide +kernel, by decide +kernel, by decide +kernel⟩

theorem witness_DoorCloseWithdrawsTheSide :
    let s := after (.doorRelease .l 0) atPlatform
    Port.l ≠ .c ∧ s.dka.active = portDesk .l ∧ s.dka.active ≠ portDesk .u ∧ 2 ≤ (2#16).toNat ∧
      (0#16).toNat = CarSide.a.code ∧ (s.drc.side .a).granted = some .l ∧
      (1#16).toNat = CarSide.b.code ∧ (s.drc.side .b).granted = none := by decide +kernel

/-! ### Desks -/

/-- Desk L active at its record, with a switch, a selected and a running direction. -/
def driving (m : Motion) (w : DirSwitch) (sel run : Option Dir) : State :=
  { atCab with
    odu := { atCab.odu with motion := m }
    dka := { atCab.dka with switch := some w, selected := sel, running := run } }

/-- Desk L's FORWARD is DOWN: written with NEUTRAL before, from UP selected at rest, and in motion from both
running directions; a REVERSE that stands already is no change, and so is any switch of desk U. A WRITE may reach
the first field alone, its last word beginning there, and the last field alone, its first word standing there. -/
theorem witness_CabControlWriteIsTakenWhole :
    let acts (s : State) (w : DirSwitch) := decide (s.dka.active = some .l ∧ s.dka.switch ≠ some w)
    portDesk .l = some .l ∧ atCab.wordFor .l [0, 0, 0] 0x028 = some 0 ∧
      (after (.setPointer .l 0x027) atCab).wordFor .l [5, 6] 0x028 = some 6 ∧
      (after (.setPointer .l 0x02A) atCab).wordFor .l [7, 8] 0x02A = some 7 ∧
      (after (.setPointer .l 0x02A) atCab).wordFor .l [7, 8] 0x029 = none ∧
      acts (driving .standstill .reverse (some .up) none) .reverse = false ∧
      acts (driving .standstill .neutral none none) .forward = true ∧
      acts (driving .standstill .reverse (some .up) none) .forward = true ∧
      (driving .standstill .reverse (some .up) none).dka.selected ≠ none ∧
      (driving .standstill .reverse (some .up) none).dka.selected ≠ some .down ∧
      (driving .standstill .reverse (some .up) none).dka.lock = false ∧
      acts (driving .movingDown .forward (some .down) (some .down)) .neutral = true ∧
      (driving .movingDown .neutral none (some .down)).dka.running = some .down ∧
      (driving .movingUp .neutral none (some .up)).dka.running ≠ some .down ∧
      (driving .movingUp .neutral none (some .up)).odu.motion ≠ .standstill ∧
      (atCab.port .u).pointer ≠ 0x020 ∧
      ((after (.setPointer .u 0x020) atCab).port .u).pointer = 0x020 ∧
      acts { atCab with dka := { atCab.dka with active := some .u } } .forward = false := by
  decide +kernel

theorem witness_FreshnessAndActivation :
    parked.dka.cabU.fresh = none ∧ (manned .shunt).dka.cabL.fresh = some 300000 ∧
      (manned .shunt).dka.active = some .l ∧ State.reset.pst.frozen = false ∧
      parked.pst.frozen = true ∧ parked.dka.active = none ∧ parked.odu.motion = .standstill ∧
      (State.down 1 parked).odu.motion ≠ .standstill ∧ portDesk .u = some .u := by decide +kernel

/-- Quiet, with the latch clear and no row standing: a record that becomes stale brings FULL_SERVICE. -/
theorem witness_FreshnessAndActivation_quiet :
    let s := State.finish { manned .shunt with brm := { (manned .shunt).brm with latch := none } }
    s.Quiet ∧ s.dka.active = some .l ∧ s.dka.cabL.fresh = some 300000 ∧
      (after (.freshnessExpiry .l) s).brm.level ≠ s.brm.level :=
  ⟨quiet (settled _) (by decide +kernel), by decide +kernel⟩

theorem witness_DeactivationByEachOfItsMeans :
    let s : State := { manned .shunt with dka := { (manned .shunt).dka with orphan := some 5 } }
    s.dka.active = portDesk .l ∧ s.dka.active ≠ portDesk .u ∧ s.dka.active ≠ none ∧
      s.odu.motion = .standstill ∧ (State.down 1 s).odu.motion ≠ .standstill ∧
      s.dka.orphan = some 5 ∧ parked.dka.active = none ∧ parked.dka.orphan = none := by decide +kernel

/-! ### The radio line -/

/-- The slot and bit counters at a place. -/
def atBit (slot bit : Nat) : State :=
  { synced with vrl := { synced.vrl with slot := slot, bit := bit } }

theorem witness_TransmitBitClockRunsTheSlots :
    synced.vrl.tx.state = .idle ∧ (atBit 6 190).vrl.bit < 191 ∧
      (191 ≤ (atBit 6 191).vrl.bit ∧ (atBit 6 191).vrl.slot < 15) ∧
      (191 ≤ (atBit 15 191).vrl.bit ∧ 15 ≤ (atBit 15 191).vrl.slot) ∧
      State.reset.par .carAddress = 0 ∧ synced.par .carAddress ≠ 0 := by decide +kernel

/-- Keyed, with a bit to come and with none. -/
def keyed (next : Option Bool) : State :=
  { synced with vrl := { synced.vrl with
      bit := 190, tx := { Transmitter.reset with state := .sending, next := next } } }

theorem witness_SlotWrapCountsASilentCycle :
    let s : State := { radioLoad with tgh := { radioLoad.tgh with silent := 5 } }
    s.vrl.tx.state = .idle ∧ (keyed (some true)).vrl.tx.next ≠ none ∧ s.tgh.link = .ok ∧ s.par .nLoss ≤ s.tgh.silent + 1 ∧
      s.lps.claim.map Claim.holder = some .radio ∧ synced.lps.claim = none := by decide +kernel

theorem witness_TransmissionIsShiftedOutAndEnds :
    (keyed (some true)).vrl.tx.state ≠ .idle ∧ (keyed (some true)).vrl.tx.next = some true ∧
      (keyed (some true)).vrl.bit < 191 ∧ (keyed none).vrl.tx.next = none ∧
      (keyed none).vrl.bit + ((keyed none).vrl.tx.stream.length + 0 + 1) ≤ 191 ∧
      synced.vrl.tx.state = .idle ∧ synced.par .carAddress ≠ 0 ∧ State.reset.par .carAddress = 0 ∧
      (let s : State := { keyed (some true) with vrl := { (keyed (some true)).vrl with bit := 191 } }
       191 ≤ s.vrl.bit ∧ s.vrl.bit < 192 ∧ s.vrl.slot < 15 ∧ s.vrl.cycle < 4) ∧
      (191 ≤ (atBit 15 191).vrl.bit ∧ 15 ≤ (atBit 15 191).vrl.slot) := by decide +kernel

/-- The receiver replaced, at 2,000 µs. -/
def hearing (r : Receiver) : State := { parked with now := 2000, vrl := { Vrl.reset with rx := r } }

/-- After an edge at 1,000 µs: of the widths 1, the least mark and the least space, the last tone either;
and the receive bit clock's event with most of no kind, of mark, and of space, in each state. -/
theorem witness_ReceiverClassesEdgesAndDecidesBits :
    let r : Receiver := { Receiver.reset 0 2000 with lastEdge := some 1000, lastTone := some true }
    let s := hearing r
    (keyed none).vrl.tx.state ≠ .idle ∧ s.vrl.tx.state = .idle ∧
      (hearing (Receiver.reset 0 2000)).vrl.rx.lastEdge = none ∧ s.vrl.rx.lastEdge = some 1000 ∧
      ¬(s.par .markLo ≤ 1) ∧ ¬(s.par .spaceLo ≤ 1) ∧
      s.par .markLo ≤ s.par .markHi ∧ s.par .spaceLo ≤ s.par .spaceHi ∧
      ¬(s.par .markLo ≤ s.par .spaceLo ∧ s.par .spaceLo ≤ s.par .markHi) ∧
      s.vrl.rx.lastTone = some true ∧ s.vrl.rx.clock = some 2000 ∧
      (s.vrl.rx.state = .hunt ∧ s.vrl.rx.nMark = 0 ∧ s.vrl.rx.nSpace = 0) ∧
      ((after .ownSlotEvent synced).vrl.rx.clock = none) ∧
      ((hearing { r with state := .hunt, nMark := 1, flagLen := 15, flagReg := 0x5A61#16 }).vrl.rx.flagReg <<< 1)
        ||| 1#16 = 0xB4C3#16 ∧
      (hearing { r with state := .header, nMark := 1, bitCount := 23, header := 6 }).vrl.rx.bitCount = 23 ∧
      12 < (((6#24) <<< 1) ||| 1#24).toNat % 256 ∧ (((6#24) <<< 1) ||| 0#24).toNat % 256 = 12 ∧
      (hearing { r with state := .header, nMark := 1, bitCount := 22 }).vrl.rx.bitCount < 23 ∧
      (hearing { r with state := .payload, nMark := 1, bitCount := 7, header := 1 }).vrl.rx.state = .payload ∧
      (7 + 1) % 8 = 0 ∧ ¬(7 + 1 < 8 * ((1#24).toNat % 256)) ∧ 6 + 1 < 8 * ((1#24).toNat % 256) ∧
      (hearing { r with state := .check, nMark := 1, bitCount := 14 }).vrl.rx.bitCount < 15 ∧
      (hearing { r with state := .check, nSpace := 1, bitCount := 15, crc := 0 }).vrl.rx.bitCount = 15 ∧
      ((0#16 <<< 1) ||| 0#16) = (hearing { r with state := .check, crc := 0 }).vrl.rx.crc := by
  decide +kernel

/-! ### Telegrams -/

theorem witness_TelegramsNotAdmittedAreCounted :
    (keyed none).vrl.tx.state ≠ .idle ∧ parked.vrl.tx.state = .idle ∧ State.reset.vrl.tx.state = .idle ∧
      State.reset.pst.frozen = false ∧ parked.pst.frozen = true ∧ parked.par .carAddress = 7 ∧
      8 ≤ (8#4).toNat ∧ (1#4).toNat % 8 ≠ 0 ∧ (toCar [1, 2]).payload.length ≠ 1 ∧
      (toCar []).addr.toNat = parked.par .carAddress := by decide +kernel

theorem witness_BeaconSynchronisesAndCompares :
    parked.pst.frozen = true ∧ parked.vrl.tx.state = .idle ∧ 0 < parked.par .nLoss ∧ 0 < parked.par .nStop ∧
      0 < parked.par .nShadow := by decide +kernel

/-- Issue 5 after issue 5, 4 and 133: ignored, accepted at the least, and ignored at 128; and after 134,
accepted at 127. -/
theorem witness_AuthorityAndRevokeChangeTheRecord :
    parked.pst.frozen = true ∧ parked.vrl.tx.state = .idle ∧ (7#8 : Byte) ≠ 0#8 ∧ (7#8).toNat = parked.par .carAddress ∧
      [0, 0, 0, 0, 0, (0 : Byte)].length = 6 ∧ 0 < parked.par .nLoss ∧ 0 < parked.par .nStop ∧
      0 < parked.par .nShadow ∧ 2 ≤ (2#8).toNat % 4 ∧ (0x81#8).toNat % 4 = Dir.down.code ∧
      (1#8).toNat * 65536 + (0xD4#8).toNat * 256 + (0xC0#8).toNat = 120000 ∧
      120000 < (1#8).toNat * 65536 + (0xD4#8).toNat * 256 + (0xC1#8).toNat ∧
      parked.tgh.authority = none ∧ (approaching 0).tgh.authority.map Authority.issue = some 1 ∧
      (5 + 256 - 5) % 256 = 0 ∧ (5 + 256 - 4) % 256 = 1 ∧ (5 + 256 - 134) % 256 = 127 ∧
      (5 + 256 - 133) % 256 = 128 := by decide +kernel

/-- With identity 5 of the full list held and 40 not, the cap present and absent, above and at the speed. -/
theorem witness_RestrictionTelegramsChangeTheList :
    let capped (n : Nat) : State := { crowded with ssu := { crowded.ssu with cap := some n } }
    crowded.pst.frozen = true ∧ crowded.vrl.tx.state = .idle ∧ (7#8).toNat = crowded.par .carAddress ∧
      0 < crowded.par .nLoss ∧ 0 < crowded.par .nStop ∧ 0 < crowded.par .nShadow ∧ 1500 < (5#8).toNat * 256 + (0xDD#8).toNat ∧
      (5#8).toNat * 256 + (0xDC#8).toNat = 1500 ∧ 2 < (3#8).toNat ∧ (2#8).toNat = Applies.down.code ∧
      12 ≤ crowded.ssu.restrictions.length ∧ crowded.ssu.cap = none ∧
      (capped 200).ssu.cap = some 200 ∧ (capped 201).ssu.cap = some 201 ∧
      5 ∈ crowded.ssu.restrictions.map Restriction.ident ∧
      40 ∉ crowded.ssu.restrictions.map Restriction.ident ∧
      (⟨5, 400, 450, 500, .both⟩ : Restriction) ∈ crowded.ssu.restrictions ∧
      (⟨5, 400, 451, 500, .both⟩ : Restriction) ∉ crowded.ssu.restrictions ∧
      parked.ssu.restrictions = [] ∧ parked.ssu.cap = none := by decide +kernel

theorem witness_CallsChangeTheListAndBrake :
    called.pst.frozen = true ∧ called.vrl.tx.state = .idle ∧ (7#8).toNat = called.par .carAddress ∧
      0 < called.par .nLoss ∧ 0 < called.par .nStop ∧ 0 < called.par .nShadow ∧ 1 < (2#8).toNat ∧ called.tgh.calls.length = 4 ∧
      11 ∈ called.tgh.calls.map Call.ident ∧ 15 ∉ called.tgh.calls.map Call.ident ∧
      parked.tgh.calls.length < 4 ∧ called.odu.located = false ∧
      (1#8).toNat * 65536 + (0xD4#8).toNat * 256 + (0xC1#8).toNat = 120001 := by decide +kernel

/-- Every block of the radio's load received. -/
def radioComplete : State := { radioLoad with lps := { radioLoad.lps with blockMap := 7 } }

theorem witness_ProfileTelegramsLoadTheStandbyBank :
    let closedLoad := after (.profileCloseTelegram (toCar [0, 212, 0, 0, 0, 0])) radioComplete
    parked.pst.frozen = true ∧ parked.vrl.tx.state = .idle ∧ (7#8 : Byte) ≠ 0#8 ∧
      (7#8).toNat = parked.par .carAddress ∧ [0, 0, 0, 0, 0, 0, 0, (0 : Byte)].length = 8 ∧ 0 < parked.par .nLoss ∧ 0 < parked.par .nStop ∧
      0 < parked.par .nShadow ∧
      loading.lps.claim.map Claim.holder = some .portC ∧ parked.lps.claim = none ∧
      radioLoad.lps.claim.map Claim.holder = some .radio ∧ radioLoad.lps.standby.state = .opened ∧
      (2#8).toNat < (21 + 7) / 8 ∧ (21 + 7) / 8 ≤ (3#8).toNat ∧
      radioLoad.lps.blocksReceived ≠ (21 + 7) / 8 ∧ radioComplete.lps.blocksReceived = (21 + 7) / 8 ∧
      closedLoad.lps.claim.map Claim.holder = some .radio ∧ closedLoad.lps.standby.state = .closed ∧
      radioLoad.lps.claim.map Claim.version = some 212 ∧
      parked.lps.standby.state ≠ .checked ∧ checkedBank.lps.standby.state = .checked ∧
      checkedBank.lps.standby.version = some 212 ∧ checkedBank.odu.motion = .standstill ∧
      (State.down 10 { checkedBank with dka := (manned .shunt).dka }).odu.motion ≠ .standstill := by
  decide +kernel

/-- Q_trig is 2, and n texts wait, each told of or not. -/
def waiting (n : Nat) (told : Bool) : State :=
  { State.withPar .qTrig 2 parked with
    now := 60000000
    tgh := { Tgh.reset with rxTexts := List.replicate n ⟨[65], false, 0, told⟩ } }

theorem witness_TextsAreQueuedAndTaken :
    parked.pst.frozen = true ∧ parked.vrl.tx.state = .idle ∧ (7#8).toNat = parked.par .carAddress ∧
      0 < parked.par .nLoss ∧ 0 < parked.par .nStop ∧ 0 < parked.par .nShadow ∧
      (List.replicate 12 (0 : Byte)).length ≤ 12 ∧
      (waiting 1 false).par .qTrig = 2 ∧ 8 ≤ (waiting 8 true).tgh.rxTexts.length ∧
      (waiting 1 false).tgh.rxTexts = [⟨[65], false, 0, false⟩] ∧
      (waiting 2 false).tgh.rxTexts = ⟨[65], false, 0, false⟩ :: [⟨[65], false, 0, false⟩] ∧
      0 + parked.par .tText * 1000 ≤ (waiting 2 false).now ∧ parked.tgh.rxTexts = [] ∧
      12 < (13#16).toNat ∧ parked.tgh.textOut.length.toNat ≤ 12 ∧ parked.tgh.txTexts.length < 4 ∧
      4 ≤ ({ parked with tgh := { Tgh.reset with txTexts := List.replicate 4 [] } } :
        State).tgh.txTexts.length := by decide +kernel

/-! ### Ports, parameters and start-up -/

/-- The curves of the first worked computation of 3.6 and their roots. -/
theorem witness_RecordsHoldTheirFields :
    ({ Ssu.reset with curves := some ⟨102300, 105436, 114621⟩ } : Ssu).curves = some ⟨102300, 105436, 114621⟩ ∧
      State.reset.ssu.curves = none ∧
      319 ^ 2 ≤ 102300 ∧ 102300 < 320 ^ 2 ∧ 324 ^ 2 ≤ 105436 ∧ 105436 < 325 ^ 2 ∧
      338 ^ 2 ≤ 114621 ∧ 114621 < 339 ^ 2 := by decide +kernel

theorem witness_PointerReadAndStatusShiftOut :
    let s := after (.setPointer .u 0x2E0) parked
    (recordMap.any fun r => decide (r.base = 0x2E0 ∧ r.words = 2 ∧
      (s.port .u).pointer = r.base ∧
      (s.port .u).snapshot = some { base := r.base, words := s.recordWords r.record })) = true ∧
      (recordMap.any fun r => decide (r.base = 0x300 ∧ r.words = 13)) = true ∧
      (recordMap.all fun r => decide (r.base ≤ 0x2E0 ∨ 0x300 ≤ r.base)) = true ∧
      (45#16).toNat = 0x300 - 0x2E0 + 13 ∧
      ((after (.setPointer .u 0x2E1) parked).port .u).snapshot = none ∧
      ((after (.setPointer .u 0x2E1) parked).port .u).pointer = 0x2E0 + 1 ∧
      ((after (.setPointer .u 0x2E2) parked).port .u).pointer = 0x2E2 ∧
      ((after (.setPointer .u 0xFFFF) parked).port .u).pointer = 4095 ∧ 4095 < 4096 ∧
      (recordMap.all fun r => decide (¬(r.base ≤ 0x2E2 ∧ 0x2E2 < r.base + r.words))) = true ∧
      (0#16).toNat = 0 ∧ 256 < (257#16).toNat ∧ (256#16).toNat ≤ 256 ∧ 1 ≤ (1#16).toNat := by
  decide +kernel

/-- Four words at desk U's record: three are kept and the fourth is dropped. From port C's last unmapped word
before the text-out window nothing is kept; one more reaches its length word. The staging window is reached up to
its fourth data word and not as far; p_rack by either of its words and by both; the area ends at 0x44D. -/
theorem witness_WritesGoThroughTheMasks :
    let at' (p : Port) (a : Nat) (s : State) : State := after (.setPointer p (BitVec.ofNat 16 a)) s
    (List.range 5).map ((at' .u 0x020 parked).wordFor .u [1, 2, 3, 4] <| 0x020 + ·) =
        [some 1, some 2, some 3, none, none] ∧
      ((at' .u 0x020 parked).wrote .u [1, 2, 3, 4]).pif.u.refused = 1 ∧
      (∀ b, (at' .u 0x023 parked).wordFor .u [1] b = none) ∧
      (∀ b, (at' .c 0x317 parked).wordFor .c [1] b = none) ∧
      (at' .c 0x317 parked).wordFor .c [1, 2] 0x318 = some 2 ∧
      (at' .c 0x249 loading).wordFor .c [1, 2, 3] 0x24C = none ∧
      (at' .c 0x249 loading).wordFor .c [1, 2, 3, 4] 0x24C = some 4 ∧
      (at' .c 0x251 loading).wordFor .c [9] 0x251 = some 9 ∧
      (at' .c 0x412 configuring).wordFor .c [1] 0x413 = none ∧
      (at' .c 0x413 configuring).wordFor .c [1] 0x412 = none ∧
      (at' .c 0x413 configuring).wordFor .c [1] 0x413 = some 1 ∧
      (at' .c 0x44D configuring).wordFor .c [1, 2] 0x44D = some 1 ∧
      (at' .c 0x44D parked).wordFor .c [1, 2] 0x44D = none ∧
      0x410 + (if Param.tText.idx.val < 2 then Param.tText.idx.val else Param.tText.idx.val + 1) = 0x44D := by
  have none_at (s : State) (p : Port) (w : Word) (h : s.admitted p (s.port p).pointer = false) (b : Nat) :
      s.wordFor p [w] b = none := by
    by_cases e : (s.port p).pointer = b
    · subst e; simp [State.wordFor, h]
    · simp [State.wordFor, runAddress, e]
  refine ⟨by decide +kernel, by decide +kernel, none_at _ _ _ (by decide +kernel),
    none_at _ _ _ (by decide +kernel), ?_⟩
  decide +kernel

theorem witness_TransactionsAreTakenByTheirBytes :
    (∃ t, exec (.write .c [1]) parked = .next t ∧ ∃ t, exec (.read .c 1) parked = .next t) ∧
      (1 ≤ ((0#8 ++ 2#8 : Word)).toNat ∧ 2 * (0#8 ++ 2#8 : Word).toNat ≤ [1, 2, 3, (4 : Byte)].length ∧
        [1, 2, (3 : Byte)].length < 2 * (0#8 ++ 2#8 : Word).toNat ∧ [(1 : Byte)].length < 2 ∧
        256 < (1#8 ++ 1#8 : Word).toNat) ∧ 8 ≤ (8#8).toNat ∧ [(1 : Byte)].length < 6 ∧
      (0#16).toNat = 0 ∧ 20 ≤ (20#16).toNat ∧ (7#8 : Byte) ∈ [1#8, 2#8, 4#8, 6#8, 7#8] ∧
      [((1 : Byte), (2 : Byte))] ≠ [] :=
  ⟨⟨_, rfl, _, rfl⟩, by decide, by decide, by decide, by decide, by decide, by decide, by decide⟩

/-- The defaults with an address pass every check; without one the last fails; with P_hold at 600 kPa it is
above P_fs, and the first part of the second fails. -/
theorem witness_FreezeChecksTheParameters :
    let v := configuring.par
    let w := (State.withPar .pHold 600 configuring).par
    configuring.pst.frozen = false ∧ parked.pst.frozen = true ∧ State.reset.par .carAddress = 0 ∧
      (v .mSb < v .mEb ∧ v .pHold ≤ v .pFs ∧ v .pFs ≤ v .pEm ∧ 2 * v .band < v .pHold ∧
        v .markLo ≤ v .markHi ∧ v .spaceLo ≤ v .spaceHi ∧ v .spaceHi < v .markLo ∧
        v .shortMin ≤ v .shortMax ∧ v .longMin ≤ v .longMax ∧ v .shortMax < v .longMin ∧
        v .carAddress ≠ 0) ∧
      w .mSb < w .mEb ∧ w .pFs < w .pHold := by decide +kernel

theorem witness_RestartAndPowerOnTakeTheResetValues :
    parked.odu.motion = .standstill ∧ parked.dka.active = none ∧
      (State.down 1 parked).odu.motion ≠ .standstill ∧ (manned .shunt).dka.active ≠ none ∧
      (parked.lps.bank .x).state ≠ .opened ∧ (parked.lps.bank .x).state ≠ .closed ∧
      (loading.lps.bank .x).state = .opened ∧ (closed.lps.bank .x).state = .closed := by decide +kernel

/-! ### Invariants: the state after reset has each, and a command waits for its step -/

/-- The car after reset, with a tooth to come. -/
def toothWaits : State := { State.reset with pending := [.tooth] }

theorem witness_EveryStepKeepsTheBrakesSafe :
    toothWaits.BrakesSafe ∧ ∃ t, step toothWaits = .next t :=
  ⟨⟨by decide +kernel, by decide +kernel, by decide +kernel, by decide +kernel⟩, _, rfl⟩

theorem witness_EveryStepKeepsTheReadersTrue :
    (∃ u t : State, u.Ends t) ∧ toothWaits.RowsTrue ∧ toothWaits.OutputsTrue ∧
      ∃ t, step toothWaits = .next t := by
  have locked : ∀ i, (toothWaits.drc.door i).shut := fun i => by cases i <;> exact .inl (by decide +kernel)
  refine ⟨⟨_, _, State.finish_ends State.reset⟩, ?_, ?_, _, rfl⟩
  · constructor
    case cab => exact fun d h => by cases d <;> cases h
    case doorsShut => exact fun _ => by decide +kernel
    case doorsStill => exact fun h => absurd h (by simp [locked])
    case doorsMoving => exact fun h => absurd h (by simp [locked])
    all_goals decide +kernel
  · have shutGate : ¬toothWaits.GateButLevel := fun h => by
      obtain ⟨d, h, -⟩ := h.fresh
      cases h
    constructor
    case highest => exact fun h => by cases h
    case doors => exact ⟨fun _ => locked, fun _ => by decide +kernel⟩
    case carried => exact fun h => absurd h.others shutGate
    case closed => exact fun _ => by decide +kernel
    case departure => exact fun h => by rcases h with h | h <;> cases h
    case released => exact fun h => by cases h
    all_goals decide +kernel

/-- The rows do not depend on the commands that wait. -/
theorem lineRowsTrue_queue {s : State} (h : s.Settled) (l : List Instr) :
    ({ s with pending := l } : State).LineRowsTrue :=
  have r := State.lineRowsTrue_of h.radio h.odometry
  ⟨r.emergency, r.service, r.link, r.odometry⟩

theorem witness_EveryStepKeepsTheReadersTrue_frozen :
    let s : State := { parked.finish with pending := [.tooth] }
    s.pst.frozen = true ∧ s.LineRowsTrue ∧ ∃ t, step s = .next t :=
  ⟨by decide +kernel, lineRowsTrue_queue (settled parked) _, _, rfl⟩

theorem witness_EveryStepKeepsTheDoorsSafe : toothWaits.DoorsSafe ∧ ∃ t, step toothWaits = .next t := by
  refine ⟨⟨fun i => ?_, fun i d h => ?_⟩, _, rfl⟩
  · cases i <;> decide +kernel
  · cases i <;> cases h

theorem witness_EveryStepKeepsTheBanksSound :
    toothWaits.BanksSound ∧ ∃ t, step toothWaits = .next t := by
  refine ⟨⟨⟨.x, by decide +kernel, .inl (by decide +kernel)⟩, by decide +kernel, fun i => ?_⟩, _, rfl⟩
  cases i <;> exact ⟨by decide +kernel, by decide +kernel, by decide +kernel⟩

theorem witness_EveryStepKeepsTheBounds :
    toothWaits.BanksSound ∧ toothWaits.Bounded ∧ ∃ t, step toothWaits = .next t := by
  refine ⟨witness_EveryStepKeepsTheBanksSound.1, ?_, _, rfl⟩
  constructor
  case params => exact fun p => by cases p <;> decide +kernel
  case sources => exact fun i => by cases i <;> decide +kernel
  case claim => exact fun k h => by cases h
  case motion => exact ⟨by decide +kernel, by decide +kernel, by decide +kernel, by decide +kernel, nofun⟩
  case banks => exact fun i => by cases i <;> exact ⟨nofun, nofun, nofun, nofun⟩
  case supervision => exact ⟨by decide +kernel, by decide +kernel, by decide +kernel, nofun, nofun⟩
  case restrictions =>
    exact ⟨by decide +kernel, .nil, .nil, fun r h => by cases h⟩
  case levels =>
    rintro p (h | ⟨i, h⟩)
    · cases h
    · cases i <;> cases h
  case brakes => exact ⟨nofun, by decide +kernel⟩
  case doors => exact fun i => by cases i <;> decide +kernel
  case desks =>
    exact fun d => by cases d <;> exact ⟨by decide +kernel, by decide +kernel, fun p h => (by cases h; decide)⟩
  case receiver =>
    exact ⟨by decide +kernel, by decide +kernel,
      ⟨nofun, nofun, nofun⟩⟩
  case authority => exact fun a h => by cases h
  case calls => exact ⟨by decide +kernel, .nil, fun c h => by cases h⟩
  case texts => exact ⟨by decide +kernel, by simp [toothWaits, State.reset, Tgh.reset], by decide +kernel,
    by simp [toothWaits, State.reset, Tgh.reset]⟩
  case ports => exact fun p => by cases p <;> decide +kernel
  all_goals decide +kernel

end Sys2Proof.Tests
end

section
/-! ACKNOWLEDGE (R58): what it answers, and the result that stands on the port. -/

namespace Sys2Proof.Machine

/-! ### Requests of the desks' ports -/

/-- R166, 9.4: a desks' request is listed for both desks' ports and not for port C. -/
theorem ReqKind.permits_of_fromDesk {k : ReqKind} (h : k.fromDesk = true) (p : Port) :
    k.permits p = decide (p ≠ .c) := by
  unfold ReqKind.permits
  rw [h]
  cases p <;> rfl

theorem ReqKind.permits_desk {k : ReqKind} {p : Port} (h : k.fromDesk = true) (desk : p ≠ .c) :
    k.permits p = true := (permits_of_fromDesk h p).trans (decide_eq_true desk)

@[simp] theorem State.place_odu (s : State) (p : Port) (k : ReqKind) (a b : Word) :
    (s.place p k a b).odu = s.odu := State.setPort_odu s p _

@[simp] theorem State.place_ssu (s : State) (p : Port) (k : ReqKind) (a b : Word) :
    (s.place p k a b).ssu = s.ssu := State.setPort_ssu s p _

@[simp] theorem State.place_dka (s : State) (p : Port) (k : ReqKind) (a b : Word) :
    (s.place p k a b).dka = s.dka := State.setPort_dka s p _

theorem State.isActivePort_of_active {s : State} {p : Port} (desk : p ≠ .c)
    (active : s.dka.active = portDesk p) : s.isActivePort p = true := by
  rw [State.isActivePort_iff]
  exact decide_eq_true ⟨desk, active⟩

theorem State.not_isActivePort_of_active_ne {s : State} {p : Port}
    (active : s.dka.active ≠ portDesk p) : s.isActivePort p = false := by
  rw [State.isActivePort_iff]
  exact decide_eq_false fun h => active h.2

/-! ### What ACKNOWLEDGE answers (R58) -/

/-- What an accepted ACKNOWLEDGE makes of the state: the warning indication and OVERRUN are cleared, and
SUPERVISION is raised where OVERRUN was set. -/
def State.acknowledged (s : State) : State :=
  State.raiseIf s.ssu.overrun .supervision
    { s with ssu := { s.ssu with warning := false, overrun := false } }

theorem exec_acknowledge (p : Port) (s : State) :
    exec (.acknowledge p) s = .next (s.serve .acknowledge p 0#16 0#16) := rfl

theorem State.acknowledge_of_not_active {s : State} {p : Port} (h : s.isActivePort p = false) :
    s.acknowledge p = s.refuse .notActiveDesk := by
  simp [State.acknowledge, h]

theorem State.acknowledge_of_moving {s : State} {p : Port} (active : s.isActivePort p = true)
    (overrun : s.ssu.overrun = true) (moving : s.odu.motion ≠ .standstill) :
    s.acknowledge p = s.refuse .moving := by
  have unstill : s.still = false := Bool.eq_false_iff.2 fun h => moving (s.still_iff.1 h)
  simp [State.acknowledge, active, overrun, unstill]

theorem State.acknowledge_of_active {s : State} {p : Port} (active : s.isActivePort p = true)
    (h : s.ssu.overrun = false ∨ s.odu.motion = .standstill) :
    s.acknowledge p = s.acknowledged.accept := by
  have passes : (s.ssu.overrun && !s.still) = false := by
    rcases h with clear | stands
    · rw [clear, Bool.false_and]
    · rw [s.still_iff.2 stands, Bool.not_true, Bool.and_false]
  simp [State.acknowledge, State.acknowledged, active, passes]

/-- The request placed in its cell is no part of what ACKNOWLEDGE reads or changes. -/
theorem State.place_acknowledged (s : State) (p : Port) (k : ReqKind) (a b : Word) :
    (s.place p k a b).acknowledged =
      let u : State := { s.place p k a b with
        ssu := { s.ssu with warning := false, overrun := false } }
      if s.ssu.overrun then u.raise .supervision else u := by
  rw [State.acknowledged, State.place_ssu]
  rfl

/-! ### The port's result (R166, R167) -/

theorem exec_acknowledge_port_c (s : State) :
    exec (.acknowledge .c) s = .next (s.writeResult .c 6 .notPermitted none) := by
  rw [exec_acknowledge, State.serve_not_permitted _ _ (ReqKind.permits_of_fromDesk rfl .c)]
  rfl

/-- A refusal of the supervision unit leaves the state but for the result. -/
theorem exec_acknowledge_refused {s : State} {p : Port} {r : ResultCode} (desk : p ≠ .c)
    (refused : r ≠ .accepted)
    (h : (s.place p .acknowledge 0#16 0#16).acknowledge p =
      (s.place p .acknowledge 0#16 0#16).refuse r) :
    exec (.acknowledge p) s = .next (s.writeResult p 6 r none) := by
  rw [exec_acknowledge, State.serve_refused (ReqKind.permits_desk rfl desk)]
  · rfl
  · rw [State.answer, h, State.refuse_finished _ _ refused]

/-- An accepted ACKNOWLEDGE is handed on before the result is written. -/
theorem exec_acknowledge_accepted {s : State} {p : Port} (desk : p ≠ .c)
    (h : (s.place p .acknowledge 0#16 0#16).acknowledge p =
      (s.place p .acknowledge 0#16 0#16).acknowledged.accept) :
    ∃ t, exec (.acknowledge p) s = .next t ∧
      (s.place p .acknowledge 0#16 0#16).acknowledged.Answered t p 6 .accepted := by
  refine ⟨_, exec_acknowledge p s, State.serve_accepted (ReqKind.permits_desk rfl desk) ?_⟩
  rw [State.answer, h, State.accept_finished]

/-- Settles O22: the four answers of ACKNOWLEDGE, by the conditions of R58 in their order. -/
theorem acknowledgeClearsWarningAndOverrun : Obligations.AcknowledgeClearsWarningAndOverrun := by
  intro s p
  have placed_active (desk : p ≠ .c) (active : s.dka.active = portDesk p) :
      (s.place p .acknowledge 0#16 0#16).isActivePort p = true :=
    State.isActivePort_of_active desk (by rwa [State.place_dka])
  refine ⟨?portC, ?notActive, ?moving, ?accepted⟩
  case portC =>
    rintro rfl
    exact exec_acknowledge_port_c s
  case notActive =>
    intro desk active
    refine exec_acknowledge_refused desk (by decide) (State.acknowledge_of_not_active ?_)
    exact State.not_isActivePort_of_active_ne (by rwa [State.place_dka])
  case moving =>
    intro desk active overrun moving
    refine exec_acknowledge_refused desk (by decide) ?_
    exact State.acknowledge_of_moving (placed_active desk active) (by rwa [State.place_ssu])
      (by rwa [State.place_odu])
  case accepted =>
    intro desk active h u
    have answer := State.acknowledge_of_active (placed_active desk active)
      (by rwa [State.place_ssu, State.place_odu])
    have handed := exec_acknowledge_accepted desk answer
    rwa [State.place_acknowledged] at handed

end Sys2Proof.Machine
end

section
/-! SUPPORT. Requests taken whole: whom port C's requests are listed for, what a request reads through
its cell, and an owner's answer that is handed on. -/

namespace Sys2Proof.Machine

/-- R166, 9.4: a request that the desks do not make is listed for port C alone. -/
theorem ReqKind.permits_of_not_fromDesk {k : ReqKind} (h : k.fromDesk = false) (p : Port) :
    k.permits p = decide (p = .c) := by
  unfold ReqKind.permits
  rw [h]
  cases p <;> rfl

section
variable (s : State) (p : Port) (k : ReqKind) (a b : Word)

@[simp] theorem State.place_drc : (s.place p k a b).drc = s.drc := State.setPort_drc s p _

@[simp] theorem State.place_now : (s.place p k a b).now = s.now := State.setPort_now s p _

@[simp] theorem State.place_door (i : DoorId) : (s.place p k a b).door i = s.door i := by
  simp only [State.door, State.place_drc]

@[simp] theorem State.place_isGranted (i : CarSide) :
    (s.place p k a b).isGranted i = s.isGranted i := by
  simp only [State.isGranted, State.place_drc]

@[simp] theorem State.place_doorAtRest (st : DoorState) (d : Door) :
    (s.place p k a b).doorAtRest st d = s.doorAtRest st d := by
  simp only [State.doorAtRest, State.place_par, State.place_now]

end

/-- A refusal by the owner changes nothing but the result. -/
theorem State.serve_refused_finished {s : State} {k : ReqKind} {p : Port} {a b : Word}
    {r : ResultCode} {x : Answer} (permits : k.permits p = true) (refused : r ≠ .accepted)
    (owner : (s.place p k a b).answer k p a b = x.finished) (h : x = (s.place p k a b).refuse r) :
    s.serve k p a b = s.writeResult p k.code r none :=
  State.serve_refused permits (by rw [owner, h, State.refuse_finished _ _ refused])

/-- What the owner accepts is handed on before the result is written. -/
theorem State.serve_accepted_finished {s u : State} {k : ReqKind} {p : Port} {a b : Word}
    {x : Answer} (permits : k.permits p = true)
    (owner : (s.place p k a b).answer k p a b = x.finished) (h : x = u.accept) :
    u.Answered (s.serve k p a b) p k.code .accepted :=
  State.serve_accepted permits (by rw [owner, h, State.accept_finished])

/-- R169: a notice raised a second time in an event changes nothing more. -/
theorem State.raise_raise (k : Notice) (s : State) : (s.raise k).raise k = s.raise k :=
  congrArg (fun pif => { s with pif := pif }) (Notice.raise_twice k s)

end Sys2Proof.Machine
end

section
/-! ISOLATE_DOOR (R101): what it answers, and where its setting moves the door. -/

namespace Sys2Proof.Machine

/-! ### The door under a setting -/

/-- R101: whether a door may take a setting: ON in LOCKED or FAULT, OFF in ISOLATED. -/
def DoorState.maySet (on : Bool) (d : DoorState) : Bool :=
  if on then d.isolable else decide (d = .isolated)

/-- R101: the state in which a door returns to service, as its switches read. -/
def State.inService (i : DoorId) (s : State) : DoorState :=
  if (s.door i).lk then
    if (s.door i).op then .fault .switchConflict
    else if s.isGranted (doorSide i) then .released
    else .locked
  else .fault .lockLost

/-- R101: the door as an accepted setting leaves it. -/
def State.doorSet (i : DoorId) (on : Bool) (s : State) : Door :=
  if on then { s.doorAtRest .isolated (s.door i) with reversals := 0 }
  else s.doorAtRest (s.inService i) (s.door i)

theorem DoorState.isolable_iff (d : DoorState) :
    d.isolable = true ↔ d = .locked ∨ ∃ r, d = .fault r := by
  cases d <;> simp [DoorState.isolable]

theorem DoorState.maySet_iff (on : Prop) [Decidable on] (d : DoorState) :
    d.maySet (decide on) = true ↔
      if on then d = .locked ∨ ∃ r, d = .fault r else d = .isolated := by
  by_cases h : on
  · simp [DoorState.maySet, h, DoorState.isolable_iff]
  · simp [DoorState.maySet, h]

/-- A return to service raises DOOR once, also where it is a fault that raises it. -/
theorem State.toService_raise (i : DoorId) (s : State) :
    (s.toService i).raise .door =
      (s.setDoor i (s.doorAtRest (s.inService i) (s.door i))).raise .door := by
  unfold State.toService State.inService
  by_cases lk : (s.door i).lk = true
  · by_cases op : (s.door i).op = true
    · simp [lk, op, State.doorFault, State.raise_raise]
    · simp [lk, op]
  · simp [lk, State.doorFault, State.raise_raise]

@[simp] theorem State.place_doorSet (s : State) (p : Port) (k : ReqKind) (a b : Word) (i : DoorId)
    (on : Bool) : (s.place p k a b).doorSet i on = s.doorSet i on := by
  simp only [State.doorSet, State.inService, State.place_door, State.place_isGranted,
    State.place_doorAtRest]

/-- R101: the door of an accepted setting, field by field. -/
theorem State.doorSet_eq (s : State) (i : DoorId) (on : Prop) [Decidable on] :
    s.doorSet i (decide on) =
      let d := s.door i
      let off := d.motor.off (s.par .tPwm) s.now
      if on then { d with state := .isolated, timer := none, motor := off, reversals := 0 }
      else { d with
        state :=
          if d.lk then
            if d.op then .fault .switchConflict
            else if (s.drc.side (doorSide i)).granted ≠ none then .released
            else .locked
          else .fault .lockLost
        timer := none, motor := off } := by
  by_cases h : on
  · simp [State.doorSet, h, State.doorAtRest]
  · simp [State.doorSet, h, State.doorAtRest, State.inService, State.isGranted_iff]

/-! ### The answers, by the conditions of R101 in their order -/

theorem exec_isolateDoor (p : Port) (door setting : Word) (s : State) :
    exec (.isolateDoor p door setting) s = .next (s.serve .isolateDoor p door setting) := rfl

theorem State.requestIsolate_badArgument (s : State) {door setting : Word}
    (h : 4 ≤ door.toNat ∨ 2 ≤ setting.toNat) :
    s.requestIsolate door setting = s.refuse .badArgument := by
  unfold State.requestIsolate
  rcases h with door_unknown | setting_unknown
  · rw [argDoor_none door door_unknown]
  · rw [argSetting_none setting setting_unknown]
    cases argDoor door <;> rfl

section
variable {s : State} {door setting : Word} {i : DoorId}

/-- ISOLATE_DOOR with arguments that name a door and a setting. -/
theorem State.requestIsolate_of_args (s : State) (named : door.toNat = doorCode i)
    (known : setting.toNat < 2) :
    s.requestIsolate door setting =
      if s.odu.motion ≠ .standstill then s.refuse .moving
      else if (s.door i).state.maySet (decide (setting.toNat = 1)) then
        ((s.setDoor i (s.doorSet i (decide (setting.toNat = 1)))).raise .door).accept
      else s.refuse .conditions := by
  have still : (!s.still) = true ↔ s.odu.motion ≠ .standstill := by
    rw [Ne, ← s.still_iff, Bool.not_eq_true, Bool.not_eq_true']
  unfold State.requestIsolate
  rw [argDoor_some door i named, argSetting_some setting known]
  simp only [still]
  cases decide (setting.toNat = 1) with
  | true => simp [DoorState.maySet, State.doorSet, State.isolate]
  | false => simp [DoorState.maySet, State.doorSet, State.toService_raise]

/-- A refusal of ISOLATE_DOOR leaves the state but for the result. -/
theorem exec_isolateDoor_refused {r : ResultCode} (refused : r ≠ .accepted)
    (h : (s.place .c .isolateDoor door setting).requestIsolate door setting =
      (s.place .c .isolateDoor door setting).refuse r) :
    exec (.isolateDoor .c door setting) s = .next (s.writeResult .c 10 r none) := by
  rw [exec_isolateDoor, State.serve_refused_finished rfl refused rfl h]
  rfl

theorem exec_isolateDoor_not_permitted {p : Port} (desk : p ≠ .c) :
    exec (.isolateDoor p door setting) s = .next (s.writeResult p 10 .notPermitted none) := by
  have unlisted : ReqKind.isolateDoor.permits p = false :=
    (ReqKind.permits_of_not_fromDesk rfl p).trans (decide_eq_false desk)
  rw [exec_isolateDoor, State.serve_not_permitted door setting unlisted]
  rfl

end

/-- Settles O32: the answers of ISOLATE_DOOR, by the conditions of R101 in their order. -/
theorem isolateDoorTakesADoorOutOfService : Obligations.IsolateDoorTakesADoorOutOfService := by
  intro s p door setting
  refine ⟨exec_isolateDoor_not_permitted, ?badArgument, ?named⟩
  case badArgument =>
    rintro rfl h
    exact exec_isolateDoor_refused (by decide) (State.requestIsolate_badArgument _ h)
  case named =>
    rintro i rfl named known d on may granted off u
    have may_iff : d.state.maySet (decide on) = true ↔ may := d.state.maySet_iff on
    have answer := u.requestIsolate_of_args named known
    rw [State.place_odu, State.place_door, State.place_doorSet] at answer
    refine ⟨fun moving => ?_, fun stands barred => ?_, fun stands free => ?_⟩
    · exact exec_isolateDoor_refused (by decide) (answer.trans (if_pos moving))
    · rw [if_neg (not_not.2 stands), if_neg (mt may_iff.1 barred)] at answer
      exact exec_isolateDoor_refused (by decide) answer
    · rw [if_neg (not_not.2 stands), if_pos (may_iff.2 free), State.doorSet_eq] at answer
      exact ⟨_, exec_isolateDoor _ _ _ s, State.serve_accepted_finished rfl rfl answer⟩

end Sys2Proof.Machine
end

section
/-! DOOR_CLOSE (R107, R108): what it answers, and the side that it withdraws. -/

namespace Sys2Proof.Machine

/-! ### The withdrawal (R107) -/

@[simp] theorem State.place_relocks (s : State) (p : Port) (k : ReqKind) (a b : Word) :
    (s.place p k a b).relocks = s.relocks := by
  funext d
  simp only [State.relocks, State.place_par, State.place_now]

/-- R106 to R108: a side granted is withdrawn with its cause, and one that is not is left as it is. -/
theorem State.withdrawIfGranted_eq (s : State) (i : CarSide) (w : WithdrawCause) :
    s.withdrawIfGranted i w =
      if (s.drc.side i).granted = none then s
      else State.raise .door (State.moveSide i s.relocks
        { s with drc := s.drc.setSide i { s.drc.side i with granted := none, cause := some w } }) := by
  have moved : s.relocks = s.doorWithdrawn := funext s.relocks_eq
  unfold State.withdrawIfGranted
  by_cases free : (s.drc.side i).granted = none
  · rw [if_pos free, if_neg fun h => s.isGranted_iff i |>.1 h free]
  · rw [if_neg free, if_pos (s.isGranted_iff i |>.2 free), moved, State.withdraw]

/-! ### The answers, by the conditions of R108 in their order -/

theorem exec_doorClose (p : Port) (side : Word) (s : State) :
    exec (.doorClose p side) s = .next (s.serve .doorClose p side 0#16) := rfl

theorem exec_doorRelease (p : Port) (side : Word) (s : State) :
    exec (.doorRelease p side) s = .next (s.serve .doorRelease p side 0#16) := rfl

theorem exec_doorClose_port_c (side : Word) (s : State) :
    exec (.doorClose .c side) s = .next (s.writeResult .c 9 .notPermitted none) := by
  rw [exec_doorClose, State.serve_not_permitted _ _ (ReqKind.permits_of_fromDesk rfl .c)]
  rfl

theorem exec_doorRelease_port_c (side : Word) (s : State) :
    exec (.doorRelease .c side) s = .next (s.writeResult .c 8 .notPermitted none) := by
  rw [exec_doorRelease, State.serve_not_permitted _ _ (ReqKind.permits_of_fromDesk rfl .c)]
  rfl

section
variable {s : State} {p : Port} {side : Word}

theorem State.requestClose_of_not_active (h : s.isActivePort p = false) :
    s.requestClose p side = s.refuse .notActiveDesk := by
  simp [State.requestClose, h]

theorem State.requestClose_badArgument (active : s.isActivePort p = true) (h : 2 ≤ side.toNat) :
    s.requestClose p side = s.refuse .badArgument := by
  simp [State.requestClose, active, argSide_none side h]

theorem State.requestClose_of_side {i : CarSide} (active : s.isActivePort p = true)
    (named : side.toNat = i.code) :
    s.requestClose p side = (s.withdrawIfGranted i .close).accept := by
  simp [State.requestClose, active, argSide_some side i named]

/-- A refusal of DOOR_CLOSE leaves the state but for the result. -/
theorem exec_doorClose_refused {r : ResultCode} (desk : p ≠ .c) (refused : r ≠ .accepted)
    (h : (s.place p .doorClose side 0#16).requestClose p side =
      (s.place p .doorClose side 0#16).refuse r) :
    exec (.doorClose p side) s = .next (s.writeResult p 9 r none) := by
  rw [exec_doorClose, State.serve_refused_finished (ReqKind.permits_desk rfl desk) refused rfl h]
  rfl

end

/-- Settles O34: the answers of DOOR_CLOSE, by the conditions of R108 in their order. -/
theorem doorCloseWithdrawsTheSide : Obligations.DoorCloseWithdrawsTheSide := by
  intro s p side c u
  have placed_active (desk : p ≠ .c) (active : s.dka.active = portDesk p) :
      u.isActivePort p = true :=
    State.isActivePort_of_active desk (by rwa [State.place_dka])
  refine ⟨?portC, ?notActive, ?badArgument, ?accepted⟩
  case portC =>
    rintro rfl
    exact ⟨exec_doorClose_port_c side s, exec_doorRelease_port_c side s⟩
  case notActive =>
    intro desk active
    refine exec_doorClose_refused desk (by decide) (State.requestClose_of_not_active ?_)
    exact State.not_isActivePort_of_active_ne (by rwa [State.place_dka])
  case badArgument =>
    intro desk active h
    exact exec_doorClose_refused desk (by decide)
      (State.requestClose_badArgument (placed_active desk active) h)
  case accepted =>
    intro i desk active named r shuts
    have answer := State.requestClose_of_side (placed_active desk active) named
    rw [State.withdrawIfGranted_eq, State.place_drc, State.place_relocks] at answer
    exact ⟨_, exec_doorClose p side s,
      State.serve_accepted_finished (ReqKind.permits_desk rfl desk) rfl answer⟩

end Sys2Proof.Machine
end

section
/-! FREEZE (R175, R176): its cross-checks in the order of the table, and what it answers. -/

namespace Sys2Proof.Machine

/-! ### The cross-checks (R176) -/

/-- R176: of two windows one is inverted, or they overlap. -/
def windowsClash (lo hi lo' hi' : Nat) : Bool :=
  decide (hi < lo) || decide (hi' < lo') || decide (lo ≤ hi' ∧ lo' ≤ hi)

/-- R176: the table of the cross-checks: the order number, whether it is the second part of
PRESSURE_ORDER, and whether the check fails. -/
def State.freezeChecks (s : State) : List ((Nat × Bool) × Bool) :=
  [((1, false), decide (s.par .mEb ≤ s.par .mSb)),
    ((2, false), decide (s.par .pFs < s.par .pHold)),
    ((2, true), decide (s.par .pEm < s.par .pFs)),
    ((3, false), decide (s.par .pHold ≤ 2 * s.par .band)),
    ((4, false), windowsClash (s.par .markLo) (s.par .markHi) (s.par .spaceLo) (s.par .spaceHi)),
    ((5, false), windowsClash (s.par .shortMin) (s.par .shortMax) (s.par .longMin) (s.par .longMax)),
    ((6, false), decide (s.par .carAddress = 0))]

theorem windowsClash_iff (lo hi lo' hi' : Nat) :
    windowsClash lo hi lo' hi' = true ↔ hi < lo ∨ hi' < lo' ∨ overlap lo hi lo' hi' = true := by
  simp only [windowsClash, overlap, Bool.or_eq_true, Bool.and_eq_true, decide_eq_true_eq, or_assoc]

/-- The first entry of a table whose check fails is its head's, or the first of the rest. -/
theorem firstFailing_cons {α : Type} (a : α) (fails : Bool) (rest : List (α × Bool)) :
    (((a, fails) :: rest).find? Prod.snd).map Prod.fst =
      if fails = true then some a else (rest.find? Prod.snd).map Prod.fst := by
  cases fails <;> rfl

/-- The check that a FREEZE reports is the first of the table that fails. -/
theorem State.freezeFailure_eq (s : State) :
    s.freezeFailure = (s.freezeChecks.find? Prod.snd).map Prod.fst := by
  simp only [State.freezeFailure, State.freezeChecks, firstFailing_cons, windowsClash_iff,
    decide_eq_true_eq, List.find?_nil, Option.map_none]

/-! ### The answers, by the conditions of R175 in their order -/

section
variable {s : State}

theorem State.requestFreeze_of_frozen (frozen : s.pst.frozen = true) :
    s.requestFreeze = s.refuse .frozen :=
  if_pos frozen

theorem State.requestFreeze_of_failing {n : Nat} {second : Bool} (config : s.pst.frozen = false)
    (reported : s.freezeChecks.find? Prod.snd = some ((n, second), true)) :
    s.requestFreeze =
      { state := { s with pst := { s.pst with lastCheck := some (.failed n second) } }
        result := .conditions, detail := some (wordOf n) } := by
  have failing : s.freezeFailure = some (n, second) := by rw [s.freezeFailure_eq, reported]; rfl
  simp [State.requestFreeze, config, failing]

theorem State.requestFreeze_of_passing (config : s.pst.frozen = false)
    (pass : s.freezeChecks.find? Prod.snd = none) :
    s.requestFreeze =
      State.accept { s with pst := { s.pst with frozen := true, lastCheck := some .passed } } := by
  have none_fails : s.freezeFailure = none := by rw [s.freezeFailure_eq, pass]; rfl
  simp [State.requestFreeze, config, none_fails]

end

/-! ### The port's result (R166, R167) -/

theorem exec_freeze (p : Port) (s : State) :
    exec (.freeze p) s = .next (s.serve .freeze p 0#16 0#16) := rfl

theorem exec_freeze_not_permitted {p : Port} (desk : p ≠ .c) (s : State) :
    exec (.freeze p) s = .next (s.writeResult p 18 .notPermitted none) := by
  have unlisted : ReqKind.freeze.permits p = false :=
    (ReqKind.permits_of_not_fromDesk rfl p).trans (decide_eq_false desk)
  rw [exec_freeze, State.serve_not_permitted _ _ unlisted]
  rfl

/-- From port C the answer is the PST's: the request placed in its cell plays no part in it. -/
theorem exec_freeze_port_c {s : State} {x : Answer} (answer : s.requestFreeze = x) :
    exec (.freeze .c) s = .next (x.state.writeResult .c 18 x.result x.detail) := by
  have listed : ReqKind.freeze.permits .c = true := rfl
  rw [exec_freeze, State.serve, if_pos listed, ← answer]
  exact congrArg Host.Outcome.next (State.answer_written .c _ s .freeze 0#16 0#16)

/-- Settles O53: the answers of FREEZE, by the conditions of R175 in their order, with the first
cross-check of R176 that fails. -/
theorem freezeChecksTheParameters : Obligations.FreezeChecksTheParameters := by
  intro s p v crosses checks
  have table : checks = s.freezeChecks := rfl
  rw [table]
  refine ⟨fun desk => exec_freeze_not_permitted desk s, ?frozen, ?failing, ?passing⟩
  case frozen =>
    rintro rfl frozen
    exact exec_freeze_port_c (State.requestFreeze_of_frozen frozen)
  case failing =>
    rintro n second rfl config reported
    exact exec_freeze_port_c (State.requestFreeze_of_failing config reported)
  case passing =>
    rintro rfl config pass
    exact exec_freeze_port_c (State.requestFreeze_of_passing config pass)

end Sys2Proof.Machine
end

section
/-! SUPPORT. What a step of the part can do, said once (`exec_event`): what a command does aside from the
readers (`State.Aside`), what it does that they follow (`State.Works`), and how the two make an event. -/

namespace Sys2Proof.Machine

/-- What the part does that no reader of an event follows: the clock's advance, the port transactions with
their owners, the timers that only stop, and the requests whose answers are not handed on. -/
inductive State.Aside : State → State → Prop
  | refl (s : State) : s.Aside s
  | trans {s t u : State} : s.Aside t → t.Aside u → s.Aside u
  | advances (s : State) (d : Nat) : s.Aside (s.advanceTo d)
  | loads (s : State) (p : Port) (a : Nat) : s.Aside (s.loadPointer p a)
  | steps (s : State) (p : Port) : s.Aside (s.stepPointer p)
  | shifts (s : State) (p : Port) (ws : List Word) : s.Aside (s.shiftOut p ws)
  | clears (s : State) (p : Port) (mask : Word) : s.Aside (s.clearMask p mask)
  | enables (s : State) (p : Port) (mask : Word) : s.Aside (s.enableMask p mask)
  | misframes (s : State) (p : Port) : s.Aside (s.framingError p)
  | drops (s : State) (p : Port) :
      s.Aside (s.setPort p { s.port p with refused := satSucc 255 (s.port p).refused })
  | places (s : State) (p : Port) (k : ReqKind) (a b : Word) : s.Aside (s.place p k a b)
  | results (s : State) (p : Port) (c : Word) (r : ResultCode) (d : Option Word) :
      s.Aside (s.writeResult p c r d)
  | stages (s : State) (ks : List Kept) : s.Aside (s.handStaging ks)
  | checks (s : State) (ks : List Kept) : s.Aside (s.handCloseCheck ks)
  | writesText (s : State) (ks : List Kept) : s.Aside (s.handTextOut ks)
  | writesParams (s : State) (ks : List Kept) : s.pst.frozen = false → s.Aside (s.handParams ks)
  | stopsRegime (s : State) : s.Aside { s with odu := { s.odu with regimeTimer := none } }
  | endsCollection (s : State) : s.Aside s.endCollection
  | opens (s : State) :
      s.Aside (State.takeWaiting { s with brm := { s.brm with deadTimer := none } })
  | notifies (s : State) : s.Aside s.notifyTexts
  | dropsFrame (s : State) (cause : DropCause) : s.Aside (s.dropFrame cause)
  | pulses (s : State) : s.Aside { s with brm := { s.brm with pulses := s.brm.pulses + 1 } }
  | opensProfile (s : State) (v n : Nat) : v < 65536 → s.Aside (s.openProfile .portC v n).state
  | closesProfile (s : State) (v : Nat) (c : BitVec 32) : s.Aside (s.closeProfile .portC v c).state
  | abortsProfile (s : State) : s.Aside s.abortProfile.state
  | queues (s : State) : s.Aside s.queueText.state
  | pops (s : State) : s.Aside s.popHead.state
  | freezes (s : State) : s.Aside s.requestFreeze.state
  | refuses (s : State) (i : CarSide) (c : GrantCond) :
      s.Aside { s with drc := s.drc.setSide i { s.drc.side i with refused := some c } }

/-- What a command does that is handed on at the end of its event, with the conditions of its rule that
matter to what every step keeps. -/
inductive State.Works : State → State → Prop
  | nothing (s : State) : s.Works s
  | counts (s : State) (e : Bogie) (a b : Bool) : s.Works (s.encoderStep e a b)
  | tooth (s : State) : s.Works s.takeTooth
  | reads (s : State) (n : BitVec 12) (c : BitVec 4) : s.Works (s.markerRead n c)
  | captures (s : State) (level : Bool) (time : Nat) : s.Works (s.capture level time)
  | samples (s : State) (n : Nat) :
      s.Works (State.sample { s with odu := { s.odu with sampleTimer := n } })
  | stands (s : State) : s.Works (State.standExpiry { s with odu := { s.odu with standTimer := none } })
  | restores (s : State) (a b : Word) :
      restorePosition a b ≤ 120000 → s.Works (s.restored (restorePosition a b) (s.restoreUncertainty b))
  | scrubs (s : State) (n : Nat) :
      s.Works (State.checkStep { s with lps := { s.lps with timer := n } }).scrubStep
  | switches (s : State) : s.lps.standby.state = .checked → s.Works s.switchOver
  | awaits (s : State) (v : Nat) (w : Writer) :
      s.Works { s with lps := { s.lps with pendingAct := some (v, w) } }
  | cycles (s : State) (n : Nat) : s.Works (State.cycle { s with ssu := { s.ssu with timer := n } })
  | modes (s : State) (m : Mode) : s.Works (s.setMode m)
  | acknowledges (s : State) : s.Works (State.raiseIf s.ssu.overrun .supervision
      { s with ssu := { s.ssu with warning := false, overrun := false } })
  | resets (s : State) : s.brm.rows.anyEmergency = false →
      s.Works (State.raise .brake { s with brm := { s.brm with latch := none, loopForced := false } })
  | gates (s : State) (n : Nat) :
      s.Works (State.measure
        { s with brm := { s.brm with gateTimer := n } }).retarget.clearFriction.testProving
  | unproved (s : State) : s.Works (State.raise .brake
      { s with brm := { s.brm with proveTimer := none, frictionFault := true } })
  | fails (s : State) (b : Bogie) : s.Works (s.pinionFails b)
  | applies (s : State) (b : Bogie) (a : Bool) : s.Works ((s.setApplied b a).reprove b)
  | effort (s : State) (n h : Nat) : s.Works (s.takeEffort (effortOf n h))
  | noEffort (s : State) : s.Works
      { s with brm := { s.brm with effort := 0, effortValid := false, feedbackTimer := none } }
  | opensLoop (s : State) : s.Works s.openLoop
  | closesLoop (s : State) :
      s.Works (State.raise .brake { s with brm := { s.brm with senseOpen := false } })
  | holds (s : State) : s.Works { s with brm := { s.brm with holdTimer := none, holdElapsed := true } }
  | stalls (s : State) :
      s.Works (State.stall { s with brm := { s.brm with stallTimer := none } })
  | lkSet (s : State) (i : DoorId) : s.Works (s.lkSet i)
  | lkCleared (s : State) (i : DoorId) : s.Works (s.lkCleared i)
  | opSet (s : State) (i : DoorId) : s.Works (s.opSet i)
  | opCleared (s : State) (i : DoorId) : s.Works (s.opCleared i)
  | edLevel (s : State) (i : DoorId) (a : Bool) : s.Works (s.edLevel i a)
  | pbLevel (s : State) (i : DoorId) (a : Bool) : s.Works (s.pbLevel i a)
  | openLate (s : State) (i : DoorId) : s.Works (s.doorFault i .openTimeout)
  | warns (s : State) (i : DoorId) : s.Works (s.setDoor i (s.doorWarning (s.door i)))
  | closes (s : State) (i : DoorId) : s.Works (s.startClosing i)
  | reverses (s : State) (i : DoorId) : s.Works (s.countedReversal i)
  | drives (s : State) (i : DoorId) : s.Works (s.setDoor i (s.doorDriving (s.door i)))
  | grants (s : State) (i : CarSide) (d : Desk) : s.dka.active = some d → s.Works (s.grant i d)
  | withdraws (s : State) (i : CarSide) : s.Works (s.withdrawIfGranted i .close)
  | isolates (s : State) (i : DoorId) : s.Works ((s.isolate i).raise .door)
  | serves (s : State) (i : DoorId) : s.Works ((s.toService i).raise .door)
  | takesCab (s : State) (d : Desk) (w : CabWords) : s.Works (s.takeCab d w)
  | stales (s : State) (d : Desk) : s.Works (s.goStale d)
  | orphans (s : State) : s.Works s.orphaned
  | activates (s : State) (d : Desk) : s.dka.active = none → s.Works (s.activateDesk d)
  | deactivates (s : State) : s.Works s.deactivateDesk
  | arrives (s : State) (n slot cycle : Nat) : slot ≤ 1 ∨ slot = s.par .carAddress →
      cycle = s.vrl.cycle ∨ cycle = (s.vrl.cycle + 1) % 4 →
      s.Works (State.arrive
        { s with vrl := { s.vrl with txTimer := n, bit := 0, slot := slot, cycle := cycle } })
  | transmits (s : State) (n : Nat) :
      s.Works (State.arrive { s with vrl := ({ s.vrl with txTimer := n } : Vrl).advance })
  | ends (s : State) (n k : Nat) :
      s.Works (State.slotEvents (State.endTransmission
        { s with vrl := Vrl.advanceBy k { s.vrl with txTimer := n } }))
  | delivers (s : State) (t : Telegram) : s.Works (s.deliver t)
  | hears (s : State) (time : Nat) : s.Works (s.comparator time)
  | decides (s : State) (d n : Nat) :
      s.Works (State.decideBit d { s with vrl := { s.vrl with rx := { s.vrl.rx with clock := some n } } })

/-- One event: its aside parts, what it does, the end of the event, and what the port takes of it. A car
restart ends without a reader. -/
inductive State.Event (s t : State) : Prop
  | aside : s.Aside t → s.Event t
  | handed {x u : State} : s.Aside x → x.Works u → u.finish.Aside t → s.Event t
  | restarts {x : State} : s.Aside x → x.still = true → x.dka.active = none → x.restart.Aside t → s.Event t

/-! ### How events are put together -/

theorem State.Aside.event {s x t : State} (h : s.Aside x) (e : x.Event t) : s.Event t := by
  cases e with
  | aside a => exact .aside (h.trans a)
  | handed a w b => exact .handed (h.trans a) w b
  | restarts a still free b => exact .restarts (h.trans a) still free b

theorem State.Works.event {s u : State} (w : s.Works u) : s.Event u.finish :=
  .handed (.refl s) w (.refl _)

/-- A command of a timer: nothing where the timer does not run, or else the event at the timer's time. -/
theorem State.event_timer {s : State} (x : Timer) (f : Nat → State)
    (h : ∀ d, (s.advanceTo d).Event (f d)) :
    ∃ t, (match x with
      | none => (.next s : Out)
      | some d => .next (f d)) = .next t ∧ s.Event t := by
  cases x with
  | none => exact ⟨s, rfl, .aside (.refl s)⟩
  | some d => exact ⟨f d, rfl, (State.Aside.advances s d).event (h d)⟩

/-- A command of an input: nothing where it does not change the input, or else its event. -/
theorem State.event_if {s u v : State} (c : Prop) [Decidable c] (hu : s.Event u) (hv : s.Event v) :
    ∃ t, (if c then (.next u : Out) else .next v) = .next t ∧ s.Event t := by
  by_cases h : c
  · exact ⟨u, if_pos h, hu⟩
  · exact ⟨v, if_neg h, hv⟩

theorem State.Event.aside_after {s t u : State} (e : s.Event t) (h : t.Aside u) : s.Event u := by
  cases e with
  | aside a => exact .aside (a.trans h)
  | handed a w b => exact .handed a w (b.trans h)
  | restarts a still free b => exact .restarts a still free (b.trans h)

/-! ### Port transactions -/

theorem State.readOut_aside (p : Port) (n : Nat) (s : State) : s.Aside (s.readOut p n).2 := by
  induction n generalizing s with
  | zero => exact .refl s
  | succ n ih => exact (State.Aside.steps s p).trans (ih _)

theorem State.readWords_aside (p : Port) (n : Nat) (s : State) : s.Aside (s.readWords p n) :=
  (s.readOut_aside p n).trans (.shifts _ p _)

theorem State.takeWords_aside (p : Port) (ws : List Word) (s : State) :
    s.Aside (State.takeWords p ws s).2 := by
  induction ws generalizing s with
  | nil => exact .refl s
  | cons w ws ih =>
    by_cases h : s.keeps p (s.port p).pointer = true
    · simp only [State.takeWords, h, if_true]
      exact (State.Aside.steps s p).trans (ih _)
    · simp only [State.takeWords, h, Bool.false_eq_true, if_false]
      exact ((State.Aside.drops s p).trans (.steps _ p)).trans (ih _)

/-- A word of the parameter area is kept before the freeze alone. -/
theorem State.keeps_params {ws : List Word} {s : State}
    (h : anyKept (State.takeWords .c ws s).1 0x410 62 = true) : s.pst.frozen = false := by
  obtain ⟨i, l, k⟩ := (anyKept_iff _ _ _).1 h
  rw [(State.takeWords_wrote .c ws s).2] at k
  by_contra f
  refine k (if_neg ?_)
  simp only [Bool.not_eq_false] at f
  simp only [State.admitted, f]
  simp
  omega

/-- A part of a WRITE that is handed on, where a word of it was kept. -/
theorem State.Aside.when {s t u : State} {c : Bool} (h : s.Aside t) (k : c = true → t.Aside u) :
    s.Aside (if c then u else t) := by
  cases c with
  | true => exact h.trans (k rfl)
  | false => exact h

theorem State.handCab_event {s x : State} (h : s.Aside x) (d : Desk) (base : Nat) (ks : List Kept) :
    s.Event (x.handCab d base ks) := by
  by_cases k : anyKept ks base 3 = true
  · rw [State.handCab, if_pos k]; exact h.event (State.Works.takesCab x d _).event
  · rw [State.handCab, if_neg k]; exact .aside h

theorem State.writeWords_event (p : Port) (ws : List Word) (s : State) : s.Event (s.writeWords p ws) := by
  have taken := s.takeWords_aside p ws
  cases p with
  | u => exact State.handCab_event taken .u _ _
  | l => exact State.handCab_event taken .l _ _
  | c =>
    refine .aside ?_
    refine State.Aside.when (State.Aside.when (State.Aside.when (State.Aside.when taken
      fun _ => .stages _ _) fun _ => .checks _ _) fun _ => .writesText _ _) fun k => .writesParams _ _ ?_
    have config := State.keeps_params k
    split_ifs <;> simpa using config

theorem State.writeTransaction_event (p : Port) (ws : List Word) (s : State) :
    s.Event (s.writeTransaction p ws) := by
  cases ws with
  | nil => exact .aside (.misframes s p)
  | cons w ws => exact s.writeWords_event p (w :: ws)

/-! ### Requests -/

/-- The state of an owner's answer: a refusal leaves it aside, and what is accepted works. -/
structure Answer.Takes (s : State) (x : Answer) : Prop where
  refused : x.result ≠ .accepted → s.Aside x.state
  accepted : x.result = .accepted → s.Works x.state

theorem State.refuse_takes (s : State) {r : ResultCode} (h : r ≠ .accepted) : (s.refuse r).Takes s :=
  ⟨fun _ => .refl s, fun e => absurd e h⟩

theorem State.accept_takes {s u : State} (h : s.Works u) : u.accept.Takes s :=
  ⟨fun e => absurd rfl e, fun _ => h⟩

theorem Answer.takes_if {s : State} {x y : Answer} (c : Prop) [Decidable c] (hx : c → x.Takes s)
    (hy : ¬c → y.Takes s) : (if c then x else y).Takes s := by
  by_cases h : c
  · rw [if_pos h]; exact hx h
  · rw [if_neg h]; exact hy h

theorem Answer.Takes.event {s : State} {x : Answer} (h : x.Takes s) : s.Event x.finished.state := by
  by_cases e : x.result = .accepted
  · simp only [Answer.finished, if_pos e]
    exact (h.accepted e).event
  · rw [Answer.finished, if_neg e]; exact .aside (h.refused e)

theorem State.isActivePort_desk {s : State} {p : Port} {d : Desk} (active : s.isActivePort p = true)
    (h : portDesk p = some d) : s.dka.active = some d := by
  have k := s.isActivePort_iff p
  rw [active] at k
  exact (of_decide_eq_true k.symm).2.trans h

section
variable (s : State) (p : Port) (a b : Word)

theorem State.requestActivate_takes (d : Desk) : (s.requestActivate d).Takes s := by
  refine Answer.takes_if _ (fun _ => s.refuse_takes (by decide)) fun _ => ?_
  refine Answer.takes_if _ (fun _ => s.refuse_takes (by decide)) fun free => ?_
  refine Answer.takes_if _ (fun _ => s.refuse_takes (by decide)) fun _ => ?_
  exact State.accept_takes (.activates s d (by simpa using free))

theorem State.requestDeactivate_takes : (s.requestDeactivate p).Takes s := by
  refine Answer.takes_if _ (fun _ => s.refuse_takes (by decide)) fun _ => ?_
  refine Answer.takes_if _ (fun _ => s.refuse_takes (by decide)) fun _ => ?_
  exact State.accept_takes (.deactivates s)

theorem State.requestForce_takes : s.requestForce.Takes s := by
  refine Answer.takes_if _ (fun _ => s.refuse_takes (by decide)) fun _ => ?_
  refine Answer.takes_if _ (fun _ => s.refuse_takes (by decide)) fun _ => ?_
  exact State.accept_takes (.deactivates s)

theorem State.requestMode_takes (m : Mode) : (s.requestMode p m).Takes s := by
  refine Answer.takes_if _ (fun _ => s.refuse_takes (by decide)) fun _ => ?_
  refine Answer.takes_if _ (fun _ => s.refuse_takes (by decide)) fun _ => ?_
  refine Answer.takes_if _ (fun _ => State.accept_takes (.nothing s)) fun _ => ?_
  exact State.accept_takes (.modes s m)

theorem State.acknowledge_takes : (s.acknowledge p).Takes s := by
  refine Answer.takes_if _ (fun _ => s.refuse_takes (by decide)) fun _ => ?_
  refine Answer.takes_if _ (fun _ => s.refuse_takes (by decide)) fun _ => ?_
  exact State.accept_takes (.acknowledges s)

theorem State.requestBrakeReset_takes : (s.requestBrakeReset p).Takes s := by
  refine Answer.takes_if _ (fun _ => s.refuse_takes (by decide)) fun _ => ?_
  refine Answer.takes_if _ (fun _ => s.refuse_takes (by decide)) fun _ => ?_
  refine Answer.takes_if _ (fun _ => s.refuse_takes (by decide)) fun clear => ?_
  refine Answer.takes_if _ (fun _ => State.accept_takes (.nothing s)) fun _ => ?_
  simp only [Bool.or_eq_true, not_or, Bool.not_eq_true] at clear
  exact State.accept_takes (.resets s clear.1.1.1)

theorem State.requestRelease_takes : (s.requestRelease p a).Takes s := by
  refine Answer.takes_if _ (fun _ => s.refuse_takes (by decide)) fun active => ?_
  have active : s.isActivePort p = true := by simpa using active
  cases side : argSide a with
  | none => exact s.refuse_takes (by decide)
  | some i =>
    cases desk : portDesk p with
    | none => exact s.refuse_takes (by decide)
    | some d =>
      dsimp only
      cases s.grantFailure i with
      | some c => exact ⟨fun _ => .refuses s i c, nofun⟩
      | none =>
        refine Answer.takes_if _ (fun _ => State.accept_takes (.nothing s)) fun _ => ?_
        exact State.accept_takes (.grants s i d (State.isActivePort_desk active desk))

theorem State.requestClose_takes : (s.requestClose p a).Takes s := by
  refine Answer.takes_if _ (fun _ => s.refuse_takes (by decide)) fun _ => ?_
  cases argSide a with
  | none => exact s.refuse_takes (by decide)
  | some i => exact State.accept_takes (.withdraws s i)

theorem State.requestIsolate_takes : (s.requestIsolate a b).Takes s := by
  unfold State.requestIsolate
  cases argDoor a with
  | none => exact s.refuse_takes (by decide)
  | some i =>
    cases argSetting b with
    | none => exact s.refuse_takes (by decide)
    | some on =>
      refine Answer.takes_if _ (fun _ => s.refuse_takes (by decide)) fun _ => ?_
      refine Answer.takes_if _ (fun _ => ?_) fun _ => ?_
      · exact Answer.takes_if _ (fun _ => State.accept_takes (.isolates s i)) fun _ =>
          s.refuse_takes (by decide)
      · exact Answer.takes_if _ (fun _ => State.accept_takes (.serves s i)) fun _ =>
          s.refuse_takes (by decide)

theorem State.restorePos_takes : (s.restorePos a b).Takes s := by
  refine Answer.takes_if _ (fun _ => s.refuse_takes (by decide)) fun _ => ?_
  refine Answer.takes_if _ (fun _ => s.refuse_takes (by decide)) fun _ => ?_
  refine Answer.takes_if _ (fun _ => s.refuse_takes (by decide)) fun near => ?_
  exact State.accept_takes (.restores s a b (Nat.le_of_not_lt near))

theorem State.activateProfile_takes (w : Writer) (v : Nat) : (s.activateProfile w v).Takes s := by
  refine Answer.takes_if _ (fun _ => s.refuse_takes (by decide)) fun checked => ?_
  refine Answer.takes_if _ (fun _ => s.refuse_takes (by decide)) fun _ => ?_
  exact Answer.takes_if _ (fun _ => State.accept_takes (.switches s (not_not.1 checked))) fun _ =>
    State.accept_takes (.awaits s v w)

theorem State.requestRestart_event : s.Event s.requestRestart.state := by
  unfold State.requestRestart
  by_cases still : s.still = true
  · by_cases free : s.dka.active = none
    · simp only [still, free]
      exact .restarts (.refl s) still free (.refl _)
    · have busy : s.dka.active.isSome = true := Option.isSome_iff_ne_none.2 free
      simp only [still, busy]
      exact .aside (.refl s)
  · simp only [still]
    exact .aside (.refl s)

/-- R166: what the owner of a request answers is an event. -/
theorem State.answer_event (k : ReqKind) : s.Event (s.answer k p a b).state := by
  cases k with
  | activate =>
    refine Answer.Takes.event ?_
    unfold State.forDesk
    cases portDesk p with
    | none => exact s.refuse_takes (by decide)
    | some d => exact s.requestActivate_takes d
  | deactivate => exact (s.requestDeactivate_takes p).event
  | forceDeactivate => exact s.requestForce_takes.event
  | shunt => exact (s.requestMode_takes p .shunt).event
  | full => exact (s.requestMode_takes p .full).event
  | acknowledge => exact (s.acknowledge_takes p).event
  | brakeReset => exact (s.requestBrakeReset_takes p).event
  | doorRelease => exact (s.requestRelease_takes p a).event
  | doorClose => exact (s.requestClose_takes p a).event
  | isolateDoor => exact (s.requestIsolate_takes a b).event
  | positionRestore => exact (s.restorePos_takes a b).event
  | profileOpen => exact .aside (.opensProfile s _ _ (BitVec.isLt _))
  | profileClose => exact .aside (.closesProfile s _ _)
  | profileAbort => exact .aside (.abortsProfile s)
  | profileActivate => exact (s.activateProfile_takes _ _).event
  | sendText => exact .aside (.queues s)
  | popText => exact .aside (.pops s)
  | freeze => exact .aside (.freezes s)
  | carRestart => exact s.requestRestart_event

theorem State.serve_event (k : ReqKind) : s.Event (s.serve k p a b) := by
  unfold State.serve
  by_cases h : k.permits p = true
  · rw [if_pos h]
    exact (State.Aside.places s p k a b).event ((State.answer_event _ p a b k).aside_after (.results _ _ _ _ _))
  · rw [if_neg h]
    exact .aside (.results _ _ _ _ _)

theorem State.request_event (code : Word) : s.Event (s.request p code a b) := by
  unfold State.request
  cases ReqKind.ofCode code with
  | none => exact .aside (.results _ _ _ _ _)
  | some k => exact s.serve_event p a b k

end

/-! ### Transactions as they are shifted -/

theorem State.readTransaction_aside (p : Port) (n : Word) (s : State) : s.Aside (s.readTransaction p n) := by
  unfold State.readTransaction
  split
  · exact .misframes s p
  · exact s.readWords_aside p _

theorem State.rawRead_aside (p : Port) (bytes : List Byte) (s : State) : s.Aside (s.rawRead p bytes) := by
  unfold State.rawRead
  cases wordsOf bytes with
  | nil => exact .misframes s p
  | cons count _ =>
    dsimp only
    split_ifs
    · exact .misframes s p
    · exact s.readWords_aside p _
    · exact (s.readWords_aside p _).trans (.misframes _ p)

theorem State.rawWrite_event (p : Port) (bytes : List Byte) (s : State) : s.Event (s.rawWrite p bytes) := by
  unfold State.rawWrite
  by_cases none : bytes = []
  · rw [if_pos none]; exact .aside (.misframes s p)
  · rw [if_neg none]
    have taken : s.Event (if wordsOf bytes = [] then s else s.writeWords p (wordsOf bytes)) := by
      split
      · exact .aside (.refl s)
      · exact s.writeWords_event p _
    dsimp only
    split
    · exact taken.aside_after (.misframes _ p)
    · exact taken

theorem State.rawTransaction_event (p : Port) (bytes : List Byte) (s : State) :
    s.Event (s.rawTransaction p bytes) := by
  unfold State.rawTransaction
  cases bytes with
  | nil => exact .aside (.misframes s p)
  | cons c t =>
    dsimp only
    split
    · exact .aside (.loads s p _)
    · exact .aside (s.rawRead_aside p t)
    · exact s.rawWrite_event p t
    · exact s.request_event p _ _ _
    · exact .aside (.shifts s p _)
    · exact .aside (.clears s p _)
    · exact .aside (.enables s p _)
    · exact .aside (.misframes s p)

theorem State.receive_event (t : Telegram) (s : State) : s.Event (s.receive t) := by
  unfold State.receive
  split
  · exact .aside (.refl s)
  · exact (State.Works.delivers s t).event

theorem State.doorExpiry_event (i : DoorId) (k : DoorTimer) (f : State → State)
    (h : ∀ x : State, x.Works (f x)) (s : State) : s.Event (s.doorExpiry i k f) := by
  unfold State.doorExpiry
  split
  · exact .aside (.refl s)
  · split
    · exact (State.Aside.advances s _).event (h _).event
    · exact .aside (.refl s)

end Sys2Proof.Machine
end

section
/-! SUPPORT. Every command is one event, or the power-on reset (`exec_event`), and so is every step
(`step_event`). -/

namespace Sys2Proof.Machine

/-- What a command leaves: the end of one event, or the part after a power-on reset. -/
def State.Leaves (s t : State) : Prop := s.Event t ∨ ∃ strap, t = s.poweredOn strap

theorem exec_leaves {c : Instr} {s : State} (h : ∃ t, exec c s = .next t ∧ s.Event t) :
    ∃ t, exec c s = .next t ∧ s.Leaves t := by
  obtain ⟨t, e, event⟩ := h
  exact ⟨t, e, .inl event⟩

theorem State.txEventAt_event {s : State} {slot cycle : Nat} (h : slot ≤ 1 ∨ slot = s.par .carAddress)
    (k : cycle = s.vrl.cycle ∨ cycle = (s.vrl.cycle + 1) % 4) : s.Event (s.txEventAt slot cycle).finish := by
  refine (State.Aside.advances s s.vrl.txTimer).event (State.Works.arrives _ _ slot cycle ?_ ?_).event
  · simpa [State.par] using h
  · simpa using k

theorem State.rxEvent_event (s : State) : s.Event s.rxEvent.finish := by
  unfold State.rxEvent
  cases s.vrl.rx.clock with
  | none => exact (State.Works.nothing s).event
  | some d => exact (State.Aside.advances s d).event (State.Works.decides _ d _).event

theorem exec_event (c : Instr) (s : State) : ∃ t, exec c s = .next t ∧ s.Leaves t := by
  cases c with
  | powerOnReset strap => exact ⟨_, rfl, .inr ⟨strap, rfl⟩⟩
  | encoderEdge e a b =>
    exact exec_leaves (State.event_if _ (.aside (.refl s)) (State.Works.counts s e a b).event)
  | tooth => exact exec_leaves ⟨_, rfl, (State.Works.tooth s).event⟩
  | regimeTimerExpiry =>
    exact exec_leaves (State.event_timer s.odu.regimeTimer _ fun _ => .aside (.stopsRegime _))
  | markerRead n c => exact exec_leaves ⟨_, rfl, (State.Works.reads s n c).event⟩
  | collectionTimeout =>
    exact exec_leaves (State.event_timer s.odu.reader.timeout _ fun _ => .aside (.endsCollection _))
  | oduSample => exact exec_leaves ⟨_, rfl, (State.Aside.advances s _).event (State.Works.samples _ _).event⟩
  | standstillTimerExpiry =>
    exact exec_leaves (State.event_timer s.odu.standTimer _ fun _ => (State.Works.stands _).event)
  | positionRestore p a b => exact exec_leaves ⟨_, rfl, s.serve_event p a b _⟩
  | lpsTimerExpiry => exact exec_leaves ⟨_, rfl, (State.Aside.advances s _).event (State.Works.scrubs _ _).event⟩
  | profileOpen p v n => exact exec_leaves ⟨_, rfl, s.serve_event p v n _⟩
  | profileClose p v => exact exec_leaves ⟨_, rfl, s.serve_event p v 0 _⟩
  | profileAbort p => exact exec_leaves ⟨_, rfl, s.serve_event p 0 0 _⟩
  | profileActivate p v => exact exec_leaves ⟨_, rfl, s.serve_event p v 0 _⟩
  | stagingWindowWrite p ws => exact exec_leaves ⟨_, rfl, s.writeTransaction_event p ws⟩
  | supervisionCycle => exact exec_leaves ⟨_, rfl, (State.Aside.advances s _).event (State.Works.cycles _ _).event⟩
  | shunt p => exact exec_leaves ⟨_, rfl, s.serve_event p 0 0 _⟩
  | full p => exact exec_leaves ⟨_, rfl, s.serve_event p 0 0 _⟩
  | acknowledge p => exact exec_leaves ⟨_, rfl, s.serve_event p 0 0 _⟩
  | brakeReset p => exact exec_leaves ⟨_, rfl, s.serve_event p 0 0 _⟩
  | pressureGateEnd => exact exec_leaves ⟨_, rfl, (State.Aside.advances s _).event (State.Works.gates _ _).event⟩
  | deadTimeExpiry =>
    exact exec_leaves (State.event_timer s.brm.deadTimer _ fun _ => .aside (.opens _))
  | frictionProveExpiry =>
    exact exec_leaves (State.event_timer s.brm.proveTimer _ fun _ => (State.Works.unproved _).event)
  | pinionProveExpiry b =>
    exact exec_leaves (State.event_timer (s.brm.bandOf b).prove _ fun _ => (State.Works.fails _ b).event)
  | appliedSwitchChange b a =>
    exact exec_leaves (State.event_if _ (.aside (.refl s)) (State.Works.applies s b a).event)
  | effortFeedbackPeriod n h => exact exec_leaves ⟨_, rfl, (State.Works.effort s n h).event⟩
  | feedbackTimeout =>
    exact exec_leaves (State.event_timer s.brm.feedbackTimer _ fun _ => (State.Works.noEffort _).event)
  | loopSenseOpen =>
    exact exec_leaves (State.event_if _ (.aside (.refl s)) (State.Works.opensLoop s).event)
  | loopSenseClose =>
    exact exec_leaves (State.event_if _ (State.Works.closesLoop s).event (.aside (.refl s)))
  | holdDelayExpiry =>
    exact exec_leaves (State.event_timer s.brm.holdTimer _ fun _ => (State.Works.holds _).event)
  | stallTimerExpiry =>
    exact exec_leaves (State.event_timer s.brm.stallTimer _ fun _ => (State.Works.stalls _).event)
  | lkSet i => exact exec_leaves ⟨_, rfl, (State.Works.lkSet s i).event⟩
  | lkCleared i => exact exec_leaves ⟨_, rfl, (State.Works.lkCleared s i).event⟩
  | opSet i => exact exec_leaves ⟨_, rfl, (State.Works.opSet s i).event⟩
  | opCleared i => exact exec_leaves ⟨_, rfl, (State.Works.opCleared s i).event⟩
  | edActive i a => exact exec_leaves ⟨_, rfl, (State.Works.edLevel s i a).event⟩
  | pbPressed i a => exact exec_leaves ⟨_, rfl, (State.Works.pbLevel s i a).event⟩
  | tOpenExpiry i => exact exec_leaves ⟨_, rfl, State.doorExpiry_event i _ _ (fun x => .openLate x i) s⟩
  | dwellExpiry i => exact exec_leaves ⟨_, rfl, State.doorExpiry_event i _ _ (fun x => .warns x i) s⟩
  | tWarnExpiry i => exact exec_leaves ⟨_, rfl, State.doorExpiry_event i _ _ (fun x => .closes x i) s⟩
  | tCloseExpiry i => exact exec_leaves ⟨_, rfl, State.doorExpiry_event i _ _ (fun x => .reverses x i) s⟩
  | stopIntervalExpiry i =>
    exact exec_leaves ⟨_, rfl, State.doorExpiry_event i _ _ (fun x => .drives x i) s⟩
  | tRevExpiry i => exact exec_leaves ⟨_, rfl, State.doorExpiry_event i _ _ (fun x => .warns x i) s⟩
  | isolateDoor p a b => exact exec_leaves ⟨_, rfl, s.serve_event p a b _⟩
  | doorRelease p a => exact exec_leaves ⟨_, rfl, s.serve_event p a 0 _⟩
  | doorClose p a => exact exec_leaves ⟨_, rfl, s.serve_event p a 0 _⟩
  | cabControlWrite p ws => exact exec_leaves ⟨_, rfl, s.writeTransaction_event p ws⟩
  | freshnessExpiry d =>
    exact exec_leaves (State.event_timer (s.dka.cab d).fresh _ fun _ => (State.Works.stales _ d).event)
  | orphanExpiry =>
    exact exec_leaves (State.event_timer s.dka.orphan _ fun _ => (State.Works.orphans _).event)
  | activate p => exact exec_leaves ⟨_, rfl, s.serve_event p 0 0 _⟩
  | deactivate p => exact exec_leaves ⟨_, rfl, s.serve_event p 0 0 _⟩
  | forceDeactivate p => exact exec_leaves ⟨_, rfl, s.serve_event p 0 0 _⟩
  | ownSlotEvent => exact exec_leaves (State.event_if _ (.aside (.refl s)) (State.txEventAt_event (.inr rfl) (.inl rfl)))
  | transmissionEnd =>
    exact exec_leaves (State.event_if _ ((State.Aside.advances s _).event (State.Works.ends _ _ _).event) (.aside (.refl s)))
  | slotWrap =>
    exact exec_leaves ⟨_, rfl, State.txEventAt_event (.inl (by decide)) (.inr rfl)⟩
  | missedBeaconTest =>
    exact exec_leaves ⟨_, rfl, State.txEventAt_event (.inl (by decide)) (.inl rfl)⟩
  | frameDropped cause =>
    exact exec_leaves (State.event_if _ (.aside (.refl s)) (.aside (.dropsFrame s cause)))
  | telegramNotAdmitted t => exact exec_leaves ⟨_, rfl, s.receive_event t⟩
  | beacon e => exact exec_leaves ⟨_, rfl, s.receive_event _⟩
  | authority e => exact exec_leaves ⟨_, rfl, s.receive_event _⟩
  | revoke e => exact exec_leaves ⟨_, rfl, s.receive_event _⟩
  | restrictSet e => exact exec_leaves ⟨_, rfl, s.receive_event _⟩
  | restrictClear e => exact exec_leaves ⟨_, rfl, s.receive_event _⟩
  | emergencyCall e => exact exec_leaves ⟨_, rfl, s.receive_event _⟩
  | callCancel e => exact exec_leaves ⟨_, rfl, s.receive_event _⟩
  | profileOpenTelegram e => exact exec_leaves ⟨_, rfl, s.receive_event _⟩
  | profileBlock e => exact exec_leaves ⟨_, rfl, s.receive_event _⟩
  | profileCloseTelegram e => exact exec_leaves ⟨_, rfl, s.receive_event _⟩
  | profileActivateTelegram e => exact exec_leaves ⟨_, rfl, s.receive_event _⟩
  | text e => exact exec_leaves ⟨_, rfl, s.receive_event _⟩
  | textWaitExpiry => exact exec_leaves (State.event_timer s.textDue _ fun _ => .aside (.notifies _))
  | popText p => exact exec_leaves ⟨_, rfl, s.serve_event p 0 0 _⟩
  | sendText p => exact exec_leaves ⟨_, rfl, s.serve_event p 0 0 _⟩
  | setPointer p a => exact exec_leaves ⟨_, rfl, .aside (.loads s p _)⟩
  | read p n => exact exec_leaves ⟨_, rfl, .aside (s.readTransaction_aside p n)⟩
  | write p ws => exact exec_leaves ⟨_, rfl, s.writeTransaction_event p ws⟩
  | readStatus p => exact exec_leaves ⟨_, rfl, .aside (.shifts s p _)⟩
  | clearNotices p m => exact exec_leaves ⟨_, rfl, .aside (.clears s p m)⟩
  | setEnables p m => exact exec_leaves ⟨_, rfl, .aside (.enables s p m)⟩
  | transactionFramingError p bytes => exact exec_leaves ⟨_, rfl, s.rawTransaction_event p bytes⟩
  | unknownRequest p c a b => exact exec_leaves ⟨_, rfl, s.request_event p a b c⟩
  | parameterWrite p ws => exact exec_leaves ⟨_, rfl, s.writeTransaction_event p ws⟩
  | freeze p => exact exec_leaves ⟨_, rfl, s.serve_event p 0 0 _⟩
  | carRestart p => exact exec_leaves ⟨_, rfl, s.serve_event p 0 0 _⟩
  | markerEdgeCapture level time =>
    exact exec_leaves ⟨_, rfl, (State.Aside.advances s time).event (State.Works.captures _ level time).event⟩
  | comparatorEdge time =>
    exact exec_leaves ⟨_, rfl, (State.Aside.advances s time).event (State.Works.hears _ time).event⟩
  | receiveBitClockEvent => exact exec_leaves ⟨_, rfl, s.rxEvent_event⟩
  | transmitBitClockEvent => exact exec_leaves ⟨_, rfl, (State.Aside.advances s _).event (State.Works.transmits _ _).event⟩
  | pressureSensorPulse => exact exec_leaves ⟨_, rfl, .aside (.pulses s)⟩

/-- R178: what a power-on reset makes of a state, and an event, are all that a step can be, beside the queue. -/
theorem step_event {s t : State} (h : step s = .next t) :
    ∃ q u q', State.Leaves { s with pending := q } u ∧ t = { u with pending := q' } := by
  unfold step at h
  cases e : s.pending with
  | nil =>
    rw [e] at h
    obtain rfl : s.tick = t := by injection h
    unfold State.tick
    split
    · exact ⟨s.pending, _, _, .inl (.aside (.advances s (s.now + 1))), rfl⟩
    · exact ⟨s.pending, s, _, .inl (.aside (.refl s)), rfl⟩
  | cons c rest =>
    rw [e] at h
    obtain ⟨u, out, leaves⟩ := exec_event c { s with pending := rest }
    obtain rfl : u = t := by injection out.symm.trans h
    exact ⟨rest, u, u.pending, leaves, rfl⟩

/-- What every event and the power-on reset keep, and the queue is no part of, every step keeps. -/
theorem step_keeps {P : State → Prop} (queue : ∀ s q, P s → P { s with pending := q })
    (event : ∀ s t, P s → s.Event t → P t) (power : ∀ s strap, P s → P (s.poweredOn strap))
    {s t : State} (h : P s) (e : step s = .next t) : P t := by
  obtain ⟨q, u, q', leaves, rfl⟩ := step_event e
  refine queue u q' ?_
  rcases leaves with e | ⟨strap, rfl⟩
  · exact event _ _ (queue s q h) e
  · exact power _ strap (queue s q h)

/-! ### The waiting commands -/

theorem State.Aside.pending {s t : State} (h : s.Aside t) : t.pending = s.pending := by
  induction h with
  | refl => rfl
  | trans _ _ a b => exact b.trans a
  | _ => simp

theorem State.Works.pending {s t : State} (h : s.Works t) : t.pending = s.pending := by
  cases h with
  | takesCab d w => exact (s.takeCab_core d w).2.2.2.2
  | _ => simp

theorem State.restart_pending (s : State) : s.restart.pending = s.pending := by
  unfold State.restart
  simp

theorem State.Event.pending {s t : State} (h : s.Event t) : t.pending = s.pending := by
  cases h with
  | aside a => exact a.pending
  | handed a w b => rw [b.pending, State.finish_pending, w.pending, a.pending]
  | restarts a _ _ b => rw [b.pending, State.restart_pending, a.pending]

/-- Settles O1, by the definition of a step. -/
theorem stepRunsTheFrontCommand : Obligations.StepRunsTheFrontCommand := by
  intro c rest s h
  rw [step, h]

/-- Settles O2: a command is one event, which keeps the queue, or the power-on reset. -/
theorem everyCommandCompletesAndKeepsTheQueue :
    Obligations.EveryCommandCompletesAndKeepsTheQueue := by
  intro c s
  obtain ⟨t, out, event | ⟨strap, rfl⟩⟩ := exec_event c s
  · exact ⟨t, out, event.pending⟩
  · exact ⟨_, out, rfl⟩

end Sys2Proof.Machine
end

section
/-! SUPPORT. What is done aside of an event leaves all that the readers read, but the parameters
(`Aside.aligned`). -/

namespace Sys2Proof.Machine

/-- Two states agree in all that the readers of an event read and write, but the parameters and the time. -/
structure State.Aligned (s t : State) : Prop where
  motion : t.odu.motion = s.odu.motion
  regime : t.odu.regime = s.odu.regime
  pos : t.odu.pos = s.odu.pos
  lo : t.odu.lo = s.odu.lo
  hi : t.odu.hi = s.odu.hi
  rollback : t.odu.rollback = s.odu.rollback
  ssu : t.ssu = s.ssu
  dka : t.dka = s.dka
  authority : t.tgh.authority = s.tgh.authority
  calls : t.tgh.calls = s.tgh.calls
  wholeLine : t.tgh.wholeLine = s.tgh.wholeLine
  link : t.tgh.link = s.tgh.link
  rows : t.brm.rows = s.brm.rows
  level : t.brm.level = s.brm.level
  latch : t.brm.latch = s.brm.latch
  measured : t.brm.measured = s.brm.measured
  frictionFault : t.brm.frictionFault = s.brm.frictionFault
  pinion : t.brm.pinion = s.brm.pinion
  energised : t.brm.energised = s.brm.energised
  upper : t.brm.upper = s.brm.upper
  lower : t.brm.lower = s.brm.lower
  holding : t.brm.holding = s.brm.holding
  holdSeen : t.brm.holdSeen = s.brm.holdSeen
  senseOpen : t.brm.senseOpen = s.brm.senseOpen
  loopForced : t.brm.loopForced = s.brm.loopForced
  departure : t.brm.departure = s.brm.departure
  stallTimer : t.brm.stallTimer = s.brm.stallTimer
  holdElapsed : t.brm.holdElapsed = s.brm.holdElapsed
  electric : t.brm.ebrake.latched = s.brm.ebrake.latched
  traction : t.brm.traction.latched = s.brm.traction.latched
  driven : s.brm.traction.latched = 0 → s.brm.traction.driven = 0 → t.brm.traction.driven = 0
  door : ∀ i, (t.drc.door i).state = (s.drc.door i).state ∧ (t.drc.door i).lk = (s.drc.door i).lk ∧
    (t.drc.door i).op = (s.drc.door i).op
  granted : ∀ i, (t.drc.side i).granted = (s.drc.side i).granted
  summary : t.drc.summary = s.drc.summary

theorem State.Aligned.refl (s : State) : s.Aligned s := by
  constructor <;> simp

theorem State.Aligned.trans {s t u : State} (h : s.Aligned t) (k : t.Aligned u) : s.Aligned u where
  motion := k.motion.trans h.motion
  regime := k.regime.trans h.regime
  pos := k.pos.trans h.pos
  lo := k.lo.trans h.lo
  hi := k.hi.trans h.hi
  rollback := k.rollback.trans h.rollback
  ssu := k.ssu.trans h.ssu
  dka := k.dka.trans h.dka
  authority := k.authority.trans h.authority
  calls := k.calls.trans h.calls
  wholeLine := k.wholeLine.trans h.wholeLine
  link := k.link.trans h.link
  rows := k.rows.trans h.rows
  level := k.level.trans h.level
  latch := k.latch.trans h.latch
  measured := k.measured.trans h.measured
  frictionFault := k.frictionFault.trans h.frictionFault
  pinion := k.pinion.trans h.pinion
  energised := k.energised.trans h.energised
  upper := k.upper.trans h.upper
  lower := k.lower.trans h.lower
  holding := k.holding.trans h.holding
  holdSeen := k.holdSeen.trans h.holdSeen
  senseOpen := k.senseOpen.trans h.senseOpen
  loopForced := k.loopForced.trans h.loopForced
  departure := k.departure.trans h.departure
  stallTimer := k.stallTimer.trans h.stallTimer
  holdElapsed := k.holdElapsed.trans h.holdElapsed
  electric := k.electric.trans h.electric
  traction := k.traction.trans h.traction
  driven a b := k.driven (h.traction.trans a) (h.driven a b)
  door i := ⟨(k.door i).1.trans (h.door i).1, (k.door i).2.1.trans (h.door i).2.1,
    (k.door i).2.2.trans (h.door i).2.2⟩
  granted i := (k.granted i).trans (h.granted i)
  summary := k.summary.trans h.summary

/-- Nothing of the blocks that the readers read has changed but the ports, the store and the radio. -/
theorem State.Aligned.of_blocks {s t : State} (odu : t.odu = s.odu) (ssu : t.ssu = s.ssu)
    (dka : t.dka = s.dka) (tgh : t.tgh = s.tgh) (brm : t.brm = s.brm) (drc : t.drc = s.drc) :
    s.Aligned t := by
  constructor <;> simp [odu, ssu, dka, tgh, brm, drc]

theorem Pwm.roll_latched (n : Nat) (w : Pwm) : (w.roll n).latched = w.latched := by
  unfold Pwm.roll
  split <;> rfl

theorem Pwm.roll_driven {n : Nat} {w : Pwm} (l : w.latched = 0) (d : w.driven = 0) :
    (w.roll n).driven = 0 := by
  unfold Pwm.roll
  split
  · exact d
  · exact l

theorem State.advanceTo_pwm (s : State) (n : Nat) :
    ((s.advanceTo n).brm.ebrake = s.brm.ebrake ∨ (s.advanceTo n).brm.ebrake = s.brm.ebrake.roll n) ∧
      ((s.advanceTo n).brm.traction = s.brm.traction ∨
        (s.advanceTo n).brm.traction = s.brm.traction.roll n) := by
  unfold State.advanceTo
  split
  · exact ⟨.inl rfl, .inl rfl⟩
  · exact ⟨.inr rfl, .inr rfl⟩

theorem State.advanceTo_aligned (s : State) (n : Nat) : s.Aligned (s.advanceTo n) := by
  obtain ⟨e | e, w | w⟩ := s.advanceTo_pwm n
  all_goals
    constructor
    case door => intro i; cases i <;> simp [Drc.door]
    case granted => intro i; cases i <;> simp [Drc.side]
    all_goals simp +contextual [e, w, Pwm.roll_latched, Pwm.roll_driven]

theorem State.takeWaiting_aligned (s : State) :
    s.Aligned (State.takeWaiting { s with brm := { s.brm with deadTimer := none } }) := by
  unfold State.takeWaiting
  split
  · constructor <;> simp
  · split
    · constructor <;> simp
    · constructor <;> simp [State.openValve]

theorem State.popHead_aligned (s : State) : s.Aligned s.popHead.state := by
  unfold State.popHead
  split
  · exact .refl s
  · unfold State.testWaiting State.notifyTexts
    split
    · constructor <;> simp [State.accept]
    · split <;> constructor <;> simp [State.accept]

theorem State.queueText_aligned (s : State) : s.Aligned s.queueText.state := by
  unfold State.queueText
  split_ifs <;> constructor <;> simp [State.refuse, State.accept]

theorem State.refused_aligned (s : State) (i : CarSide) (c : GrantCond) :
    s.Aligned { s with drc := s.drc.setSide i { s.drc.side i with refused := some c } } := by
  constructor
  case granted => intro j; cases i <;> cases j <;> simp [Drc.side, Drc.setSide]
  all_goals cases i <;> simp [Drc.setSide, Drc.side, Drc.door]

theorem State.Aside.aligned {s t : State} (h : s.Aside t) : s.Aligned t := by
  induction h with
  | refl => exact .refl _
  | trans _ _ a b => exact a.trans b
  | advances s d => exact s.advanceTo_aligned d
  | opens s => exact s.takeWaiting_aligned
  | pops s => exact s.popHead_aligned
  | queues s => exact s.queueText_aligned
  | refuses s i c => exact s.refused_aligned i c
  | notifies s => constructor <;> simp [State.notifyTexts]
  | writesText s ks => constructor <;> simp [State.handTextOut]
  | endsCollection s =>
    unfold State.endCollection State.invalidRead
    split <;> constructor <;> simp
  | stopsRegime s => constructor <;> simp
  | pulses s => constructor <;> simp
  | _ => apply State.Aligned.of_blocks <;> simp

end Sys2Proof.Machine
end

section
/-! SUPPORT. What a command makes of the brake manager before its readers follow (`Works.fed`), and the safety of
the brakes through every event (4.1, 4.2, 4.5). -/

namespace Sys2Proof.Machine

/-- What a command may make of the brake manager before the readers follow: inputs, timers and faults, with the
rows, the level, the outputs and the findings as they stand, and a latch cleared only with no row at EMERGENCY. -/
structure Brm.Fed (a b : Brm) : Prop where
  rows : b.rows = a.rows
  level : b.level = a.level
  latch : a.latch ≠ none → b.latch ≠ none ∨ a.rows.anyEmergency = false
  pinion : b.pinion = a.pinion
  energised : b.energised = a.energised
  holding : b.holding = a.holding
  holdSeen : b.holdSeen = a.holdSeen
  electric : b.ebrake.latched = a.ebrake.latched
  departure : b.departure = a.departure ∨ (a.departure = .pulling ∧ b.departure = .stalled)
  stallTimer : b.stallTimer = a.stallTimer ∨ b.stallTimer = none

theorem Brm.Fed.refl (a : Brm) : a.Fed a := by
  constructor <;> simp +contextual

theorem Brm.Fed.of_eq {a b : Brm} (h : b = a) : a.Fed b := h ▸ .refl a

theorem Brm.Fed.trans {a b c : Brm} (h : a.Fed b) (k : b.Fed c)
    (latch : b.latch ≠ none → c.latch ≠ none)
    (departure : b.departure = a.departure ∨ c.departure = b.departure) : a.Fed c where
  rows := k.rows.trans h.rows
  level := k.level.trans h.level
  latch l := (h.latch l).imp_left latch
  pinion := k.pinion.trans h.pinion
  energised := k.energised.trans h.energised
  holding := k.holding.trans h.holding
  holdSeen := k.holdSeen.trans h.holdSeen
  electric := k.electric.trans h.electric
  departure := by
    rcases departure with e | e
    · rw [← e]; exact k.departure
    · rw [e]; exact h.departure
  stallTimer := by
    rcases k.stallTimer with e | e
    · rw [e]; exact h.stallTimer
    · exact .inr e

theorem Brm.Fed.after {a : Brm} {s t : State} (h : s.brm.Fed t.brm) (e : s.brm = a) : a.Fed t.brm := e ▸ h

theorem State.leaveStandstill_fed (m : Motion) (s : State) : s.brm.Fed (s.leaveStandstill m).brm := by
  constructor <;> simp +contextual [State.leaveStandstill]

theorem State.addLeaving_fed (i : SourceId) (d l : Int) (s : State) :
    s.brm.Fed (s.addLeaving i d l).brm := by
  unfold State.addLeaving
  split
  · exact .refl _
  · dsimp only
    split
    · exact .refl _
    · exact .after (State.leaveStandstill_fed _ _) rfl

theorem State.count_fed (i : Bogie) (d : Dir) (s : State) : s.brm.Fed (s.count i d).brm := by
  unfold State.count
  dsimp only
  split
  · exact .after (State.addLeaving_fed _ _ _ _) rfl
  · exact .refl _

theorem State.encoderStep_fed (i : Bogie) (a b : Bool) (s : State) :
    s.brm.Fed (s.encoderStep i a b).brm := by
  unfold State.encoderStep
  split
  · exact .refl _
  · exact .after (State.count_fed _ _ _) rfl
  · exact .refl _

theorem State.takeTooth_fed (s : State) : s.brm.Fed s.takeTooth.brm := by
  unfold State.takeTooth State.toothMotion
  split
  · exact .after (State.addLeaving_fed _ _ _ _) (by simp)
  · exact .of_eq (by simp)

theorem State.startHold_fed (s : State) : s.brm.Fed s.startHold.brm := by
  unfold State.startHold
  split <;> constructor <;> simp +contextual

theorem State.standExpiry_fed (s : State) : s.brm.Fed s.standExpiry.brm := by
  unfold State.standExpiry
  split
  · exact .refl _
  · exact .after (State.startHold_fed _) rfl

theorem State.measure_fed (s : State) : s.brm.Fed s.measure.brm := by
  constructor <;> simp +contextual [State.measure]

theorem State.clearFriction_brm (s : State) :
    ∃ f, s.clearFriction.brm = { s.brm with frictionFault := f } := by
  unfold State.clearFriction
  split
  · exact ⟨_, rfl⟩
  · exact ⟨_, rfl⟩

/-- The end of a pressure gate but for its clock. -/
theorem State.gate_fed (s : State) : s.brm.Fed s.measure.retarget.clearFriction.testProving.brm := by
  obtain ⟨f, e⟩ := s.measure.retarget.clearFriction_brm
  have tested : ∀ x : State, x.brm.Fed x.testProving.brm := fun x => by
    constructor <;> simp +contextual [State.testProving, State.setProving]
  have cleared : s.brm.Fed s.measure.retarget.clearFriction.brm := by
    rw [e]
    constructor <;> simp +contextual [State.measure]
  exact cleared.trans (tested _) (by simp [State.testProving, State.setProving])
    (.inr (by simp [State.testProving, State.setProving]))

theorem Brm.setBand_fed (a : Brm) (b : Bogie) (v : Band) : a.Fed (a.setBand b v) := by
  cases b <;> constructor <;> simp +contextual [Brm.setBand]

theorem State.setLatch_latch (w : LatchCause) (s : State) : (s.setLatch w).brm.latch ≠ none := by
  unfold State.setLatch
  split
  · next h => exact Option.isSome_iff_ne_none.1 h
  · simp

theorem State.setLatch_fed (w : LatchCause) (s : State) : s.brm.Fed (s.setLatch w).brm := by
  have set := s.setLatch_latch w
  constructor <;> simp [set]

theorem State.pinionFails_fed (b : Bogie) (s : State) : s.brm.Fed (s.pinionFails b).brm := by
  unfold State.pinionFails
  dsimp only
  split
  · exact s.brm.setBand_fed b _
  · exact (s.brm.setBand_fed b _).trans (.after (State.setLatch_fed .pinionApply _) rfl)
      (fun _ => State.setLatch_latch _ _) (.inr (by simp))

theorem State.setApplied_reprove_fed (b : Bogie) (a : Bool) (s : State) :
    s.brm.Fed ((s.setApplied b a).reprove b).brm := by
  cases b <;> constructor <;> simp +contextual [State.setApplied, Brm.setBand]

theorem State.stall_fed (s : State) :
    s.brm.Fed (State.stall { s with brm := { s.brm with stallTimer := none } }).brm := by
  unfold State.stall
  split
  · next pulling => constructor <;> simp_all
  · constructor <;> simp +contextual

theorem State.gate_latch (s : State) :
    s.measure.retarget.clearFriction.testProving.brm.latch = s.brm.latch := by
  obtain ⟨f, e⟩ := s.measure.retarget.clearFriction_brm
  change s.measure.retarget.clearFriction.brm.latch = s.brm.latch
  rw [e]
  simp [State.measure]

/-- What a command makes of the brake manager, but for a WRITE to a cab control record, which may hand on a
reversal as two changes. -/
theorem State.Works.fed {s t : State} (h : s.Works t) :
    s.brm.Fed t.brm ∨ ∃ d w, t = s.takeCab d w := by
  cases h with
  | takesCab d w => exact .inr ⟨d, w, rfl⟩
  | counts e a b => exact .inl (s.encoderStep_fed e a b)
  | tooth => exact .inl s.takeTooth_fed
  | stands => exact .inl (.after (State.standExpiry_fed _) rfl)
  | gates n =>
    exact .inl (Brm.Fed.trans (by constructor <;> simp +contextual) (State.gate_fed _) (by simp [State.gate_latch])
      (.inl rfl))
  | fails b => exact .inl (s.pinionFails_fed b)
  | applies b a => exact .inl (s.setApplied_reprove_fed b a)
  | stalls => exact .inl s.stall_fed
  | resets clear => refine .inl ?_; constructor <;> simp [clear]
  | opensLoop => refine .inl ?_; constructor <;> simp +contextual [State.openLoop]
  | effort n p => refine .inl ?_; constructor <;> simp +contextual [State.takeEffort]
  | noEffort => refine .inl ?_; constructor <;> simp +contextual
  | unproved => refine .inl ?_; constructor <;> simp +contextual
  | closesLoop => refine .inl ?_; constructor <;> simp +contextual
  | holds => refine .inl ?_; constructor <;> simp +contextual
  | _ => exact .inl (.of_eq (by simp))

/-! ### A row at EMERGENCY has set the latch (R65) -/

/-- R65: a row stands at EMERGENCY only with the latch set. -/
def State.Alarmed (s : State) : Prop := s.brm.rows.anyEmergency = true → s.brm.latch ≠ none

theorem Rows.anyEmergency_iff (r : Rows) : r.anyEmergency = true ↔ ∃ i, (r.get i).level = .emergency := by
  simp only [Rows.anyEmergency, List.any_eq_true, beq_iff_eq]
  refine exists_congr fun i => and_iff_right ?_
  cases i <;> decide

theorem State.Alarmed.of_brm {s t : State} (h : s.Alarmed) (rows : t.brm.rows = s.brm.rows)
    (latch : t.brm.latch = s.brm.latch) : t.Alarmed := by
  rw [State.Alarmed, rows, latch]
  exact h

theorem State.Alarmed.readersPass {s : State} (h : s.Alarmed) : s.readersPass.Alarmed := by
  intro emergency
  obtain ⟨i, now⟩ := (Rows.anyEmergency_iff _).1 emergency
  rw [s.readersPass_levels.latch]
  by_cases before : (s.brm.rows.get i).level = .emergency
  · obtain ⟨c, latched⟩ := Option.ne_none_iff_exists'.1 (h ((Rows.anyEmergency_iff _).2 ⟨i, before⟩))
    simp [latched]
  · intro clear
    have never := Option.map_eq_none_iff.1 (Option.or_eq_none_iff.1 clear).2
    exact List.find?_eq_none.1 never i (by cases i <;> decide) (by simp [now, before])

theorem State.Alarmed.settle {s : State} (h : s.Alarmed) (n : Nat) : (s.settle n).Alarmed := by
  induction n generalizing s with
  | zero => exact h
  | succ n ih => exact ih (h.readersPass.of_brm (by simp [State.settlePass]) (by simp [State.settlePass]))

theorem State.Alarmed.finish {s : State} (h : s.Alarmed) : s.finish.Alarmed :=
  (h.settle settlePasses).readersPass.of_brm (by simp [State.finish]) (by simp [State.finish])

theorem State.Alarmed.withDka {s : State} (h : s.Alarmed) (k : Dka) : State.Alarmed { s with dka := k } := h

theorem State.Alarmed.takeCab {s : State} (h : s.Alarmed) (d : Desk) (w : CabWords) :
    (s.takeCab d w).Alarmed := by
  unfold State.takeCab State.takeSwitch State.switchStanding
  dsimp only
  split_ifs
  · exact h
  · exact ((h.withDka _).finish).withDka _
  · exact h
  · exact h
  · exact h

theorem State.Works.alarmed {s t : State} (h : s.Works t) (a : s.Alarmed) : t.Alarmed := by
  rcases h.fed with fed | ⟨d, w, rfl⟩
  · intro emergency
    rw [fed.rows] at emergency
    rcases fed.latch (a emergency) with set | clear
    · exact set
    · rw [clear] at emergency; cases emergency
  · exact a.takeCab d w

/-! ### The brakes through every event -/

/-- R77: the gate's conditions are read from what agrees in two aligned states. -/
theorem State.Aligned.gateHolds {s t : State} (h : s.Aligned t) (c : GateCond) :
    t.gateHolds c = s.gateHolds c := by
  cases c <;> simp [State.gateHolds, h.dka, h.summary, h.latch, h.ssu, h.level, h.departure, h.authority,
    h.upper, h.lower]

theorem State.Aligned.gateOpen {s t : State} (h : s.Aligned t) : t.gateOpen = s.gateOpen := by
  simp only [State.gateOpen, State.gateFailure, h.gateHolds]

theorem State.Aligned.brakesSafe {s t : State} (h : s.Aligned t) (b : s.BrakesSafe) : t.BrakesSafe where
  latched := by rw [h.rows, h.latch]; exact b.latched
  level := by rw [h.level, b.level, State.effective_congr h.rows h.latch]
  energised := by rw [h.energised, h.pinion, h.loopForced]; exact b.energised
  gate closed := by
    obtain ⟨latched, driven⟩ := b.gate (h.gateOpen.symm.trans closed)
    exact ⟨h.traction.trans latched, h.driven latched driven⟩

theorem State.BrakesSafe.alarmed {s : State} (h : s.BrakesSafe) : s.Alarmed := fun e =>
  Option.isSome_iff_ne_none.1 (h.latched e)

/-- The end of an event leaves the brakes safe where a row at EMERGENCY had set the latch. -/
theorem State.Alarmed.brakesSafe {s : State} (h : s.Alarmed) : s.finish.BrakesSafe where
  latched e := Option.isSome_iff_ne_none.2 (h.finish e)
  level := s.finish_settled.level
  energised on := by
    have output := s.finish_settled.energised
    rw [on] at output
    simpa using output.symm
  gate := s.finish_settled.traction.2

/-- R88: a reset leaves the brakes safe, with the latch set by RESET. -/
theorem State.brakesSafe_of_restartedBrm {s t : State} {proven : Bool}
    (h : t.brm = s.restartedBrm proven) : t.BrakesSafe where
  latched _ := by rw [h]; rfl
  level := by rw [h]; rfl
  energised on := by rw [h] at on; cases on
  gate _ := by rw [h]; exact ⟨rfl, rfl⟩

theorem State.restart_brm (s : State) :
    s.restart.brm = s.restartedBrm (s.drc.restarted (s.par .tPwm) s.now).summary := by
  simp [State.restart, State.restartBlocks]

theorem State.Event.brakesSafe {s t : State} (e : s.Event t) (h : s.BrakesSafe) : t.BrakesSafe := by
  cases e with
  | aside a => exact a.aligned.brakesSafe h
  | handed a w b =>
    exact b.aligned.brakesSafe (w.alarmed (a.aligned.brakesSafe h).alarmed).brakesSafe
  | restarts _ _ _ b => exact b.aligned.brakesSafe (State.brakesSafe_of_restartedBrm (State.restart_brm _))

/-- Settles O55: a step is one event or the power-on reset, and each leaves the brakes safe. -/
theorem everyStepKeepsTheBrakesSafe : Obligations.EveryStepKeepsTheBrakesSafe := by
  intro s t h e
  refine step_keeps (P := State.BrakesSafe) ?queue ?event ?power h e
  case queue => exact fun _ _ h => ⟨h.latched, h.level, h.energised, h.gate⟩
  case event => exact fun _ _ h e => e.brakesSafe h
  case power => exact fun _ _ _ => State.brakesSafe_of_restartedBrm rfl

end Sys2Proof.Machine
end

section
/-! The doors through every event (5.3, 5.7, 6.4): a door that may be opened or is open is on a granted side, and
a side is granted by the active desk alone. -/

namespace Sys2Proof.Machine

/-- R92 to R95: the states that a door has on a granted side alone. -/
def DoorState.served (st : DoorState) : Prop := st ∈ [DoorState.released, .opening, .opened]

theorem State.Aligned.doorsSafe {s t : State} (h : s.Aligned t) (d : s.DoorsSafe) : t.DoorsSafe where
  released i served := by
    rw [h.granted]
    exact d.released i ((h.door i).1 ▸ served)
  granted i k := by
    rw [h.granted, h.dka]
    exact d.granted i k

/-- Nothing of the doors has changed, and the desk that is active is the same. -/
theorem State.DoorsSafe.congr {s t : State} (h : s.DoorsSafe) (drc : t.drc = s.drc)
    (active : t.dka.active = s.dka.active) : t.DoorsSafe where
  released := by rw [drc]; exact h.released
  granted := by rw [drc, active]; exact h.granted

/-! ### The end of an event (R106, R107) -/

theorem State.relocks_not_served (s : State) (d : Door) : ¬(s.relocks d).state.served := by
  unfold State.relocks DoorState.served
  cases h : d.state <;> simp [h]

theorem State.DoorsSafe.finish {s : State} (h : s.DoorsSafe) : s.finish.DoorsSafe := by
  have handed := s.finish_handedOn
  constructor
  · intro i served
    rcases handed.sides (doorSide i) with ⟨side, doors⟩ | ⟨_, _, _, _, doors⟩
    · rw [side]
      exact h.released i (doors i rfl ▸ served)
    · exact absurd (doors i rfl ▸ served) (s.relocks_not_served _)
  · intro i d granted
    rw [handed.dka]
    rcases handed.sides i with ⟨side, _⟩ | ⟨_, _, _, side, _⟩
    · exact h.granted i d (side ▸ granted)
    · rw [side] at granted; cases granted

/-! ### One door -/

/-- A door replaced by one that the release of its side admits. -/
theorem State.DoorsSafe.setDoor {s : State} (h : s.DoorsSafe) (i : DoorId) (d : Door)
    (admitted : d.state.served → s.isGranted (doorSide i) = true) : (s.setDoor i d).DoorsSafe := by
  constructor
  · intro j served
    by_cases same : j = i
    · subst same
      have now : (s.setDoor j d).drc.door j = d := s.setDoor_door j d
      rw [now] at served
      have granted := (s.isGranted_iff _).1 (admitted served)
      cases j <;> exact granted
    · have other : (s.setDoor i d).drc.door j = s.drc.door j := by
        cases i <;> cases j <;> first | rfl | exact absurd rfl same
      rw [other] at served
      have granted := h.released j served
      cases i <;> cases j <;> exact granted
  · intro j k granted
    refine h.granted j k ?_
    cases i <;> cases j <;> exact granted

/-- The release of a door's side, where the door is in a state that has it. -/
theorem State.DoorsSafe.isGranted {s : State} (h : s.DoorsSafe) {i : DoorId}
    (served : (s.door i).state.served) : s.isGranted (doorSide i) = true :=
  (s.isGranted_iff _).2 (h.released i served)

theorem State.DoorsSafe.raise {s : State} (h : s.DoorsSafe) (k : Notice) : (s.raise k).DoorsSafe :=
  h.congr rfl rfl

/-- A door that keeps its state. -/
theorem State.DoorsSafe.keepDoor {s : State} (h : s.DoorsSafe) (i : DoorId) (d : Door)
    (same : d.state = (s.door i).state) : (s.setDoor i d).DoorsSafe :=
  h.setDoor i d fun served => h.isGranted (same ▸ served)

theorem State.DoorsSafe.doorFault {s : State} (h : s.DoorsSafe) (i : DoorId) (r : DoorFault) :
    (s.doorFault i r).DoorsSafe :=
  (h.setDoor i _ (by simp [State.doorAtRest, DoorState.served])).raise _

theorem State.DoorsSafe.doorLocks {s : State} (h : s.DoorsSafe) (i : DoorId) (d : Door) :
    (s.setDoor i (s.doorLocks i d)).DoorsSafe := by
  refine h.setDoor i _ fun served => ?_
  by_contra free
  simp [State.doorLocks, State.doorAtRest, DoorState.served, free] at served

theorem State.DoorsSafe.countedReversal {s : State} (h : s.DoorsSafe) (i : DoorId) :
    (s.countedReversal i).DoorsSafe := by
  unfold State.countedReversal
  split
  · exact h.setDoor i _ (by simp [State.doorReversing, State.doorAtRest, DoorState.served])
  · exact h.doorFault i _

theorem State.DoorsSafe.doorWarning {s : State} (h : s.DoorsSafe) (i : DoorId) (d : Door) :
    (s.setDoor i (s.doorWarning d)).DoorsSafe :=
  h.setDoor i _ (by simp [State.doorWarning, State.doorAtRest, DoorState.served])

theorem State.DoorsSafe.startClosing {s : State} (h : s.DoorsSafe) (i : DoorId) :
    (s.startClosing i).DoorsSafe := by
  unfold State.startClosing
  dsimp only
  split_ifs
  · exact State.DoorsSafe.countedReversal (h.setDoor i _ (by simp [DoorState.served])) i
  · exact h.doorFault i _
  · exact h.doorLocks i _
  · exact h.setDoor i _ (by simp [DoorState.served])

theorem State.DoorsSafe.lkSet {s : State} (h : s.DoorsSafe) (i : DoorId) : (s.lkSet i).DoorsSafe := by
  have read := h.keepDoor i { s.door i with lk := true } rfl
  unfold State.lkSet
  dsimp only
  split
  · exact read.doorFault i _
  · split
    · exact read.doorLocks i _
    · exact read.doorLocks i _
    · exact read

theorem State.DoorsSafe.lkCleared {s : State} (h : s.DoorsSafe) (i : DoorId) :
    (s.lkCleared i).DoorsSafe := by
  have read := h.keepDoor i { s.door i with lk := false } rfl
  unfold State.lkCleared
  dsimp only
  split
  · exact read.doorFault i _
  · exact read.doorFault i _
  · exact read

theorem State.DoorsSafe.opSet {s : State} (h : s.DoorsSafe) (i : DoorId) : (s.opSet i).DoorsSafe := by
  have read := h.keepDoor i { s.door i with op := true } rfl
  unfold State.opSet
  dsimp only
  split
  · exact read.doorFault i _
  · split
    · next opening =>
      refine read.setDoor i _ fun _ => read.isGranted ?_
      simp [opening, DoorState.served]
    · exact read.doorWarning i _
    · exact read

theorem State.DoorsSafe.edLevel {s : State} (h : s.DoorsSafe) (i : DoorId) (a : Bool) :
    (s.edLevel i a).DoorsSafe := by
  have read := h.keepDoor i { s.door i with ed := a } rfl
  unfold State.edLevel
  dsimp only
  split
  · exact read.countedReversal i
  · exact read

theorem State.DoorsSafe.pressed {s : State} (h : s.DoorsSafe) (i : DoorId) : (s.pressed i).DoorsSafe := by
  unfold State.pressed
  dsimp only
  split
  · next released => exact h.setDoor i _ fun _ => h.isGranted (by simp [released, DoorState.served])
  · split
    · exact h.keepDoor i _ rfl
    · exact h
  · split
    · next granted => exact h.setDoor i _ fun _ => granted
    · exact h
  · split
    · exact h.setDoor i _ (by simp [State.doorReversing, State.doorAtRest, DoorState.served])
    · exact h
  · exact h

theorem State.DoorsSafe.pbLevel {s : State} (h : s.DoorsSafe) (i : DoorId) (a : Bool) :
    (s.pbLevel i a).DoorsSafe := by
  have read := h.keepDoor i { s.door i with pb := a } rfl
  unfold State.pbLevel
  dsimp only
  split
  · exact read.pressed i
  · exact read

theorem State.DoorsSafe.toService {s : State} (h : s.DoorsSafe) (i : DoorId) : (s.toService i).DoorsSafe := by
  unfold State.toService
  dsimp only
  split
  · refine h.setDoor i _ fun served => ?_
    by_contra free
    simp [State.doorAtRest, DoorState.served, free] at served
  · exact h.doorFault i _

/-! ### Sides -/

theorem State.DoorsSafe.withdrawIfGranted {s : State} (h : s.DoorsSafe) (i : CarSide) (w : WithdrawCause) :
    (s.withdrawIfGranted i w).DoorsSafe := by
  unfold State.withdrawIfGranted
  split
  · have shut (d : Door) : ¬(s.doorWithdrawn d).state.served := by
      rw [← s.relocks_eq]; exact s.relocks_not_served d
    constructor
    · intro j served
      by_cases side : doorSide j = i
      · subst side
        refine absurd ?_ (shut (s.drc.door j))
        cases j <;> exact served
      · have granted : (s.drc.door j).state.served → (s.drc.side (doorSide j)).granted ≠ none := h.released j
        cases i <;> cases j <;> first | exact granted served | exact absurd rfl side
    · intro j k granted
      by_cases side : j = i
      · subst side; cases j <;> cases granted
      · rw [State.withdraw_dka]
        refine h.granted j k ?_
        cases i <;> cases j <;> first | exact granted | exact absurd rfl side
  · exact h

/-- R104: the active desk's grant. -/
theorem State.DoorsSafe.grant {s : State} (h : s.DoorsSafe) (i : CarSide) (k : Desk)
    (active : s.dka.active = some k) : (s.grant i k).DoorsSafe := by
  constructor
  · intro j served
    by_cases side : doorSide j = i
    · subst side; cases j <;> exact Option.some_ne_none k
    · have granted : (s.drc.door j).state.served → (s.drc.side (doorSide j)).granted ≠ none := h.released j
      cases i <;> cases j <;> first | exact granted served | exact absurd rfl side
  · intro j k' granted
    by_cases side : j = i
    · subst side
      obtain rfl : k = k' := by cases j <;> exact Option.some.inj granted
      cases j <;> exact active
    · have before := h.granted j k'
      cases i <;> cases j <;> first | exact before granted | exact absurd rfl side

/-- Without a granted side no door is served, and any desk may be active. -/
theorem State.DoorsSafe.of_free {s t : State} (h : s.DoorsSafe) (free : ∀ i, (s.drc.side i).granted = none)
    (drc : t.drc = s.drc) : t.DoorsSafe where
  released i served := absurd (free _) (h.released i (drc ▸ served))
  granted i k granted := by
    rw [drc, free] at granted
    cases granted

/-- A withdrawal does not read the desk record. -/
theorem State.withdrawIfGranted_withDka (s : State) (k : Dka) (i : CarSide) (w : WithdrawCause) :
    State.withdrawIfGranted i w { s with dka := k } = { s.withdrawIfGranted i w with dka := k } := by
  unfold State.withdrawIfGranted State.withdraw
  have same : State.isGranted { s with dka := k } i = s.isGranted i := rfl
  rw [same]
  split
  · cases i <;> rfl
  · rfl

/-- R120: a deactivation leaves no side granted. -/
theorem State.DoorsSafe.deactivateDesk {s : State} (h : s.DoorsSafe) : s.deactivateDesk.DoorsSafe := by
  have both := (h.withdrawIfGranted .a .desk).withdrawIfGranted .b .desk
  have free : ∀ i, ((State.withdrawIfGranted .b .desk (s.withdrawIfGranted .a .desk)).drc.side i).granted
      = none := by
    intro i
    by_contra granted
    have still := (State.isGranted_iff _ i).2 granted
    cases i with
    | a =>
      have first := State.withdrawIfGranted_other .b .a .desk _ still
      rw [State.withdrawIfGranted_granted] at first
      cases first
    | b => rw [State.withdrawIfGranted_granted] at still; cases still
  refine both.of_free free ?_
  unfold State.deactivateDesk State.setMode
  rw [State.withdrawIfGranted_withDka s, State.withdrawIfGranted_withDka]
  simp

theorem State.DoorsSafe.withDka {s : State} (h : s.DoorsSafe) (k : Dka) (active : k.active = s.dka.active) :
    State.DoorsSafe { s with dka := k } := h.congr rfl active

theorem Dka.setCab_active (k : Dka) (d : Desk) (c : CabRecord) : (k.setCab d c).active = k.active := by
  cases d <;> rfl

theorem State.DoorsSafe.derives {s : State} (h : s.DoorsSafe) :
    State.DoorsSafe { s with dka := s.dka.derive } := h.withDka _ rfl

theorem Dka.switchMoving_active (k : Dka) (d : Desk) (w : DirSwitch) :
    (k.switchMoving d w).active = k.active := by
  unfold Dka.switchMoving
  split
  · rfl
  · split <;> rfl

theorem State.DoorsSafe.switchStanding {s : State} (h : s.DoorsSafe) (w : DirSwitch) :
    (s.switchStanding w).DoorsSafe := by
  unfold State.switchStanding
  dsimp only
  split
  · have reversed := (h.withDka { s.dka with switch := some w, selected := none } rfl).finish
    generalize State.finish _ = ended at reversed ⊢
    exact reversed.derives
  · exact h.withDka _ rfl

theorem State.DoorsSafe.takeSwitch {s : State} (h : s.DoorsSafe) (d : Desk) (w : DirSwitch) :
    (s.takeSwitch d w).DoorsSafe := by
  unfold State.takeSwitch
  split_ifs
  · exact h
  · exact h.switchStanding w
  · exact h.withDka _ (Dka.switchMoving_active _ d w)

theorem State.DoorsSafe.takeCab {s : State} (h : s.DoorsSafe) (d : Desk) (w : CabWords) :
    (s.takeCab d w).DoorsSafe := by
  unfold State.takeCab
  dsimp only
  have written := h.withDka (s.dka.setCab d (s.writtenCab w (s.dka.cab d))) (Dka.setCab_active _ _ _)
  split
  · exact written.takeSwitch d _
  · exact written

theorem State.addLeaving_active (i : SourceId) (d l : Int) (s : State) :
    (s.addLeaving i d l).dka.active = s.dka.active := by
  unfold State.addLeaving
  split
  · rfl
  · dsimp only
    split <;> rfl

theorem State.encoderStep_active (i : Bogie) (a b : Bool) (s : State) :
    (s.encoderStep i a b).dka.active = s.dka.active := by
  unfold State.encoderStep State.count
  split
  · rfl
  · dsimp only
    split
    · rw [State.addLeaving_active]; rfl
    · rfl
  · rfl

theorem State.takeTooth_active (s : State) : s.takeTooth.dka.active = s.dka.active := by
  unfold State.takeTooth State.toothMotion
  split
  · rw [State.addLeaving_active]; simp
  · simp

theorem State.standExpiry_active (s : State) : s.standExpiry.dka.active = s.dka.active := by
  unfold State.standExpiry State.enterStandstill
  split
  · rfl
  · simp [Dka.derive]

theorem State.Works.doorsSafe {s t : State} (w : s.Works t) (h : s.DoorsSafe) : t.DoorsSafe := by
  cases w with
  | counts e a b => exact h.congr (by simp) (s.encoderStep_active e a b)
  | tooth => exact h.congr (by simp) s.takeTooth_active
  | stands => exact h.congr (by simp) (State.standExpiry_active _)
  | lkSet i => exact h.lkSet i
  | lkCleared i => exact h.lkCleared i
  | opSet i => exact h.opSet i
  | opCleared i => exact h.keepDoor i _ rfl
  | edLevel i a => exact h.edLevel i a
  | pbLevel i a => exact h.pbLevel i a
  | openLate i => exact h.doorFault i _
  | warns i => exact h.doorWarning i _
  | closes i => exact h.startClosing i
  | reverses i => exact h.countedReversal i
  | drives i => exact h.setDoor i _ (by simp [State.doorDriving, DoorState.served])
  | grants i d active => exact h.grant i d active
  | withdraws i => exact h.withdrawIfGranted i _
  | isolates i =>
    exact (h.setDoor i _ (by simp [State.doorAtRest, DoorState.served])).raise _
  | serves i => exact (h.toService i).raise _
  | takesCab d w => exact h.takeCab d w
  | stales d => exact h.congr (by simp [State.goStale]) (by simp [State.goStale, Dka.setCab_active])
  | orphans => exact h.deactivateDesk.raise _
  | deactivates => exact h.deactivateDesk
  | activates d free =>
    refine h.of_free (fun i => ?_) (by simp)
    by_contra granted
    obtain ⟨k, e⟩ := Option.ne_none_iff_exists'.1 granted
    rw [h.granted i k e] at free
    cases free
  | _ => exact h.congr (by simp) (by simp)

/-! ### Resets -/

theorem Drc.restarted_side (k : Drc) (period now : Nat) (i : CarSide) :
    ((k.restarted period now).side i).granted = none := by
  cases i <;> rfl

theorem Door.restarted_not_served (d : Door) (period now : Nat) : ¬(d.restarted period now).state.served := by
  unfold Door.restarted Door.derived DoorState.served
  split_ifs <;> simp

/-- R110: a reset leaves no side granted and no door served. -/
theorem State.doorsSafe_of_restarted {t : State} {k : Drc} {period now : Nat}
    (h : t.drc = k.restarted period now) : t.DoorsSafe where
  released i served := by
    rw [h] at served
    cases i <;> exact absurd served (Door.restarted_not_served _ _ _)
  granted i d granted := by
    rw [h, Drc.restarted_side] at granted
    cases granted

theorem State.restart_drc (s : State) : s.restart.drc = s.drc.restarted (s.par .tPwm) s.now := by
  simp [State.restart, State.restartBlocks]

theorem State.Event.doorsSafe {s t : State} (e : s.Event t) (h : s.DoorsSafe) : t.DoorsSafe := by
  cases e with
  | aside a => exact a.aligned.doorsSafe h
  | handed a w b => exact b.aligned.doorsSafe (w.doorsSafe (a.aligned.doorsSafe h)).finish
  | restarts _ _ _ b => exact b.aligned.doorsSafe (State.doorsSafe_of_restarted (State.restart_drc _))

/-- Settles O57: a step is one event or the power-on reset, and each leaves the doors safe. -/
theorem everyStepKeepsTheDoorsSafe : Obligations.EveryStepKeepsTheDoorsSafe := by
  intro s t h e
  refine step_keeps (P := State.DoorsSafe) ?queue ?event ?power h e
  case queue => exact fun _ _ h => ⟨h.released, h.granted⟩
  case event => exact fun _ _ h e => e.doorsSafe h
  case power => exact fun _ _ _ => State.doorsSafe_of_restarted rfl

end Sys2Proof.Machine
end

section
/-! SUPPORT. What can become of the LPS (`Lps.Moves`): every step makes these moves alone, so that what they
keep of the banks, every step keeps. -/

namespace Sys2Proof.Machine

/-- What chapter 2 does to the LPS, each with the conditions of its rule. -/
inductive Lps.Moves : Lps → Lps → Prop
  | refl (l : Lps) : l.Moves l
  | trans {l m n : Lps} : l.Moves m → m.Moves n → l.Moves n
  | window (l : Lps) (g : Staging) (n : Nat) : l.Moves { l with staging := g, timer := n }
  | opened (l : Lps) (w : Writer) (v n : Nat) : 21 ≤ n → n ≤ 1069 → v < 65536 → l.Moves (l.opened w v n)
  | reject (l : Lps) : l.Moves l.reject
  | store (l : Lps) (c : Claim) (o : Nat) (bs : List Byte) : l.claim = some c → l.Moves (l.store o bs)
  | closed (l : Lps) (c : Claim) (k : BitVec 32) : l.claim = some c → l.Moves (l.closed c k)
  | emptied (l : Lps) : l.Moves l.emptyStandby
  | awaits (l : Lps) (a : Option (Nat × Writer)) : l.Moves { l with pendingAct := a }
  | switches (l : Lps) : l.standby.state = .checked → l.Moves l.switchOver
  | checks (l : Lps) (n : Nat) (k : BitVec 32) : l.Moves { l with checkPos := n, checkCrc := k }
  | checked (l : Lps) (c : Claim) (k : BitVec 32) :
      l.claim = some c → l.standby.state = .closed → l.Moves (l.endCheck c k)
  | scrubs (l : Lps) (i : BankId) (n : Nat) (k : BitVec 32) :
      n < (l.bank i).length.getD 0 → l.Moves { l with scrubPos := n, scrubCrc := k }
  | passes (l : Lps) (k : BitVec 32) :
      l.Moves { l with scrubPos := 0, scrubCrc := k, passes := wrapSucc 65536 l.passes }
  | fails (l : Lps) (i : BankId) : l.activeId = some i → l.Moves (l.failActive i)

theorem Lps.Moves.of_eq {l m : Lps} (h : m = l) : l.Moves m := h ▸ .refl l

theorem Lps.Moves.starting {k l m : Lps} (h : k.Moves m) (e : k = l) : l.Moves m := e ▸ h

/-! ### The loads -/

theorem State.openProfile_moves (s : State) (w : Writer) (v n : Nat) (word : v < 65536) :
    s.lps.Moves (s.openProfile w v n).state.lps := by
  unfold State.openProfile
  split_ifs with busy range
  · exact .refl _
  · exact .refl _
  · exact .opened _ _ _ _ (by omega) (by omega) word

theorem State.closeProfile_moves (s : State) (w : Writer) (v : Nat) (k : BitVec 32) :
    s.lps.Moves (s.closeProfile w v k).state.lps := by
  unfold State.closeProfile
  cases e : s.lps.claim with
  | none => exact .refl _
  | some c =>
    dsimp only
    split_ifs
    · exact .refl _
    · exact .refl _
    · exact .refl _
    · simpa [State.accept] using Lps.Moves.closed s.lps c k e

theorem State.abortProfile_moves (s : State) : s.lps.Moves s.abortProfile.state.lps := by
  unfold State.abortProfile
  split_ifs
  · exact .refl _
  · simpa [State.accept] using (Lps.Moves.emptied s.lps).trans (.awaits _ none)

theorem State.radioBlock_moves (s : State) (o : Nat) (bs : List Byte) :
    s.lps.Moves (s.radioBlock o bs).state.lps := by
  unfold State.radioBlock
  cases e : s.lps.claim with
  | none => exact .reject _
  | some c =>
    dsimp only
    split_ifs
    · exact .reject _
    · exact .reject _
    · exact .reject _
    · exact .store _ c _ _ e

theorem Lps.commit_moves (l : Lps) : l.Moves l.commit := by
  unfold Lps.commit
  cases e : l.claim with
  | none => exact .reject _
  | some c => dsimp only; split_ifs; exacts [.store _ c _ _ e, .reject _]

theorem State.abortRadioLoad_moves (s : State) : s.lps.Moves s.abortRadioLoad.lps := by
  unfold State.abortRadioLoad
  cases s.lps.claim with
  | none => exact .refl _
  | some c => dsimp only; split_ifs; exacts [.emptied _, .refl _]

theorem State.switchOver_lps (s : State) : s.switchOver.lps = s.lps.switchOver := by
  simp [State.switchOver]

theorem State.activateProfile_moves (s : State) (w : Writer) (v : Nat) :
    s.lps.Moves (s.activateProfile w v).state.lps := by
  unfold State.activateProfile
  split_ifs with state version may
  · exact .refl _
  · exact .refl _
  · rw [State.accept, State.switchOver_lps]
    exact .switches _ (not_not.1 state)
  · exact .awaits _ _

theorem State.takePending_moves (s : State) : s.lps.Moves s.takePending.lps := by
  unfold State.takePending
  split_ifs with h
  · rw [State.switchOver_lps]
    simp only [Bool.and_eq_true, beq_iff_eq] at h
    exact .switches _ h.1.2
  · exact .refl _

/-! ### The check and the scrub -/

theorem State.checkStep_moves (s : State) : s.lps.Moves s.checkStep.lps := by
  unfold State.checkStep
  cases e : s.lps.claim with
  | none => exact .refl _
  | some c =>
    dsimp only
    split_ifs with state more
    · exact .refl _
    · exact .checks _ _ _
    · exact .checked _ c _ e (not_not.1 state)

theorem State.scrubStep_moves (s : State) : s.lps.Moves s.scrubStep.lps := by
  unfold State.scrubStep
  cases e : s.lps.activeId with
  | none => exact .refl _
  | some i =>
    dsimp only
    split_ifs with more same
    · exact .scrubs _ i _ _ more
    · exact .passes _ _
    · simpa using Lps.Moves.fails s.lps i e

/-! ### The link and the telegrams -/

theorem State.setLink_moves (s : State) (l : Link) : s.lps.Moves (s.setLink l).lps := by
  unfold State.setLink
  dsimp only
  split_ifs
  · exact .refl _
  · exact (State.abortRadioLoad_moves _).starting rfl
  · exact .refl _

theorem State.evaluateLink_moves (s : State) : s.lps.Moves s.evaluateLink.lps :=
  (State.setLink_moves _ _).starting rfl

theorem beNat_lt (bs : List Byte) : beNat bs < 256 ^ bs.length := by
  induction bs using List.reverseRecOn with
  | nil => simp [beNat]
  | append_singleton bs b ih =>
    have byte := b.isLt
    simp only [beNat, List.foldl_append, List.foldl_cons, List.foldl_nil, List.length_append,
      List.length_singleton, pow_succ] at ih ⊢
    omega

theorem payloadField_lt (bs : List Byte) (a n : Nat) : payloadField bs a n < 256 ^ n :=
  lt_of_lt_of_le (beNat_lt _) (Nat.pow_le_pow_right (by omega) (by simp))

theorem State.actOn_moves (s : State) (k : TelegramKind) (e : Envelope) :
    s.lps.Moves (s.actOn k e).lps := by
  cases k with
  | profileOpen => exact s.openProfile_moves _ _ _ (payloadField_lt _ 0 2)
  | profileBlock => exact s.radioBlock_moves _ _
  | profileClose => exact s.closeProfile_moves _ _ _
  | profileActivate => exact s.activateProfile_moves _ _
  | _ => exact .of_eq (by simp [State.actOn])

theorem State.hearValley_moves (s : State) : s.lps.Moves s.hearValley.lps :=
  (State.evaluateLink_moves _).starting rfl

theorem State.takeTelegram_moves (s : State) (t : Telegram) : s.lps.Moves (s.takeTelegram t).lps := by
  unfold State.takeTelegram
  cases s.fate t with
  | discarded => exact .refl _
  | foreign => exact .refl _
  | formatError => exact .refl _
  | admitted k =>
    dsimp only
    split_ifs
    · exact s.hearValley_moves.trans (State.actOn_moves s.hearValley k _)
    · exact s.actOn_moves k _

theorem State.deliver_moves (s : State) (t : Telegram) : s.lps.Moves (s.deliver t).lps := by
  unfold State.deliver
  dsimp only
  refine (State.takeTelegram_moves _ t).starting ?_
  split_ifs
  · simp
  · rfl

/-! ### The line -/

theorem State.checkBit_moves (s : State) (b : Bool) : s.lps.Moves (s.checkBit b).lps := by
  unfold State.checkBit
  dsimp only
  split_ifs
  · exact .refl _
  · exact (State.deliver_moves _ _).starting rfl
  · exact .refl _

theorem State.takeBit_moves (s : State) (b : Option Bool) : s.lps.Moves (s.takeBit b).lps := by
  cases b with
  | none => exact .refl _
  | some b =>
    unfold State.takeBit
    dsimp only
    split
    · exact .refl _
    · exact .of_eq (by simp)
    · exact .refl _
    · exact (State.checkBit_moves _ b).starting rfl

theorem State.decideBit_moves (s : State) (d : Nat) : s.lps.Moves (s.decideBit d).lps :=
  (State.takeBit_moves _ _).starting rfl

theorem State.rephase_moves (s : State) (d : Nat) (b : Bool) : s.lps.Moves (s.rephase d b).lps := by
  unfold State.rephase State.settleBit
  dsimp only
  split_ifs
  · exact State.decideBit_moves _ _
  · exact .refl _

theorem State.comparator_moves (s : State) (d : Nat) : s.lps.Moves (s.comparator d).lps := by
  unfold State.comparator State.halfPeriod
  split_ifs
  · exact .refl _
  · dsimp only
    split
    · exact .refl _
    · dsimp only
      split
      · split_ifs
        · exact .refl _
        · exact (State.rephase_moves _ _ _).starting rfl
      · split_ifs
        · exact .refl _
        · exact (State.rephase_moves _ _ _).starting rfl
      · exact .refl _

theorem State.slotEvents_moves (s : State) : s.lps.Moves s.slotEvents.lps := by
  have counted : s.lps.Moves
      (if s.vrl.slot = 0 then s.slotZero else if s.vrl.slot = 1 then s.missedTest else s).lps := by
    split_ifs
    · exact (State.evaluateLink_moves _).starting rfl
    · exact .of_eq (by simp)
    · exact .refl _
  unfold State.slotEvents
  dsimp only
  generalize (if s.vrl.slot = 0 then s.slotZero else if s.vrl.slot = 1 then s.missedTest else s) = u at *
  by_cases bit : s.vrl.bit ≠ 0
  · rw [if_pos bit]
    exact .refl _
  · rw [if_neg bit]
    by_cases own : s.vrl.slot = s.par .carAddress ∧ s.par .carAddress ≠ 0
    · rw [if_pos own]
      simpa using counted
    · rw [if_neg own]
      exact counted

theorem State.arrive_moves (s : State) : s.lps.Moves s.arrive.lps :=
  (State.slotEvents_moves _).starting (by simp)

/-! ### Every part of an event -/

theorem State.finish_lps (s : State) : s.finish.lps = s.takePending.lps := by
  rw [State.finish_eq, State.refreshTraction_lps]
  exact s.read_lps.1

theorem State.finish_moves (s : State) : s.lps.Moves s.finish.lps := by
  rw [State.finish_lps]
  exact s.takePending_moves

theorem State.switchStanding_moves (s : State) (w : DirSwitch) : s.lps.Moves (s.switchStanding w).lps := by
  unfold State.switchStanding
  dsimp only
  split_ifs
  · have ended := State.finish_moves { s with dka := { s.dka with switch := some w, selected := none } }
    generalize State.finish _ = t at ended ⊢
    exact ended
  · exact .refl _

theorem State.takeCab_moves (s : State) (d : Desk) (w : CabWords) : s.lps.Moves (s.takeCab d w).lps := by
  unfold State.takeCab State.takeSwitch
  dsimp only
  split_ifs
  · exact .refl _
  · exact (State.switchStanding_moves _ _).starting rfl
  · exact .refl _
  · exact .refl _

theorem State.Aside.moves {s t : State} (h : s.Aside t) : s.lps.Moves t.lps := by
  induction h with
  | refl => exact .refl _
  | trans _ _ a b => exact a.trans b
  | stages s ks =>
    unfold State.handStaging
    dsimp only
    split_ifs
    · exact (Lps.Moves.window _ _ _).trans (Lps.commit_moves _)
    · exact .window _ _ _
  | opensProfile s v n word => exact s.openProfile_moves _ v n word
  | closesProfile s v k => exact s.closeProfile_moves _ v k
  | abortsProfile s => exact s.abortProfile_moves
  | _ => exact .of_eq (by simp)

theorem State.Works.moves {s t : State} (h : s.Works t) : s.lps.Moves t.lps := by
  cases h with
  | scrubs n =>
    have timed := Lps.Moves.window s.lps s.lps.staging n
    exact (timed.trans ((State.checkStep_moves _).starting rfl)).trans (State.scrubStep_moves _)
  | switches h => rw [State.switchOver_lps]; exact .switches _ h
  | awaits v w => exact .awaits _ _
  | arrives n slot cycle => exact (State.arrive_moves _).starting rfl
  | transmits n => exact (State.arrive_moves _).starting rfl
  | ends n k => exact (State.slotEvents_moves _).starting rfl
  | delivers t => exact State.deliver_moves s t
  | hears time => exact State.comparator_moves s time
  | decides d n => exact (State.decideBit_moves _ _).starting rfl
  | takesCab d w => exact s.takeCab_moves d w
  | _ => exact .of_eq (by simp)

/-! ### The banks -/

theorem State.BanksSound.congr {s t : State} (h : s.BanksSound) (e : t.lps = s.lps) : t.BanksSound := by
  obtain ⟨standby, claim, banks⟩ := h
  rw [← e] at standby claim banks
  exact ⟨standby, claim, banks⟩

theorem Lps.standbyId_eq {l : Lps} {i : BankId} (own : (l.bank i).role = .standby)
    (other : (l.bank i.other).role ≠ .standby) : l.standbyId = i := by
  cases i with
  | x => exact if_pos own
  | y => exact if_neg other

/-- The bank that R23 calls the standby bank, and what the other may be. -/
theorem State.BanksSound.roles {s : State} (h : s.BanksSound) :
    (s.lps.bank s.lps.standbyId).role = .standby ∧
      ((s.lps.bank s.lps.standbyId.other).role = .none ∨
        ((s.lps.bank s.lps.standbyId.other).role = .active ∧
          (s.lps.bank s.lps.standbyId.other).state = .checked)) := by
  obtain ⟨i, own, other⟩ := h.standby
  have named : s.lps.standbyId = i := by
    refine Lps.standbyId_eq own fun e => ?_
    rw [e] at other
    simp at other
  rw [named]
  exact ⟨own, other⟩

theorem Lps.bank_setBank (l : Lps) (i j : BankId) (b : Bank) :
    (l.setBank i b).bank j = if j = i then b else l.bank j := by
  cases i <;> cases j <;> rfl

theorem Lps.setBank_claim (l : Lps) (i : BankId) (b : Bank) : (l.setBank i b).claim = l.claim := by
  cases i <;> rfl

theorem Lps.activeId_role {l : Lps} {i : BankId} (h : l.activeId = some i) : (l.bank i).role = .active := by
  unfold Lps.activeId at h
  split_ifs at h with x y <;> cases h
  exacts [x, y]

theorem BankId.other_ne (i : BankId) : i.other ≠ i := by cases i <;> nofun

theorem BankId.other_other (i : BankId) : i.other.other = i := by cases i <;> rfl

theorem BankId.eq_other {i j : BankId} (h : j ≠ i) : j = i.other := by
  cases i <;> cases j <;> first | rfl | exact absurd rfl h

/-- A standby bank that is replaced by a sound one leaves the banks sound. -/
theorem State.BanksSound.setStandby {s t : State} {b : Bank} (h : s.BanksSound)
    (x : t.lps.x = (s.lps.setBank s.lps.standbyId b).x) (y : t.lps.y = (s.lps.setBank s.lps.standbyId b).y)
    (role : b.role = .standby)
    (sound : b.Sound) (claim : t.lps.claim.isSome = true → b.state ∈ [BankState.opened, .closed]) :
    t.BanksSound := by
  have bank : ∀ i, t.lps.bank i = (s.lps.setBank s.lps.standbyId b).bank i := by
    intro i; cases i; exacts [x, y]
  obtain ⟨_, other⟩ := h.roles
  have own : t.lps.bank s.lps.standbyId = b := by rw [bank, Lps.bank_setBank, if_pos rfl]
  have rest : t.lps.bank s.lps.standbyId.other = s.lps.bank s.lps.standbyId.other := by
    rw [bank, Lps.bank_setBank, if_neg (BankId.other_ne _)]
  have named : t.lps.standbyId = s.lps.standbyId := by
    refine Lps.standbyId_eq (by rw [own, role]) fun e => ?_
    rw [rest] at e
    rw [e] at other
    simp at other
  refine ⟨⟨s.lps.standbyId, by rw [own, role], by rw [rest]; exact other⟩, ?_, fun i => ?_⟩
  · rw [Lps.standby, named, own]; exact claim
  · by_cases e : i = s.lps.standbyId
    · rw [e, own]; exact sound
    · rw [BankId.eq_other e, rest]; exact h.banks _

theorem Bank.blank_sound (r : Role) : (Bank.blank r).Sound where
  declared h := by simp [Bank.blank] at h
  header h := by simp [Bank.blank] at h
  image := rfl

/-- R35: the switch-over to a CHECKED standby bank. -/
theorem State.BanksSound.switchOver {s : State} (h : s.BanksSound) (checked : s.lps.standby.state = .checked) :
    State.BanksSound { s with lps := s.lps.switchOver } := by
  have unclaimed : s.lps.claim.isSome ≠ true := by
    intro claimed
    have state := h.claim claimed
    rw [checked] at state
    simp at state
  have own : s.lps.switchOver.bank s.lps.standbyId = { s.lps.bank s.lps.standbyId with role := .active } := by
    unfold Lps.switchOver; cases s.lps.standbyId <;> rfl
  have other : s.lps.switchOver.bank s.lps.standbyId.other =
      { s.lps.bank s.lps.standbyId.other with role := .standby } := by
    unfold Lps.switchOver; cases s.lps.standbyId <;> rfl
  have claim : s.lps.switchOver.claim = s.lps.claim := by
    simp [Lps.switchOver, Lps.setBank_claim]
  refine ⟨⟨s.lps.standbyId.other, congrArg Bank.role other, .inr ?_⟩, fun e => ?_, fun i => ?_⟩
  · rw [BankId.other_other, own]
    exact ⟨rfl, checked⟩
  · exact absurd (claim ▸ e) unclaimed
  · by_cases e : i = s.lps.standbyId
    · rw [e, own]
      exact ⟨(h.banks _).declared, (h.banks _).header, (h.banks _).image⟩
    · rw [BankId.eq_other e, other]
      exact ⟨(h.banks _).declared, (h.banks _).header, (h.banks _).image⟩

/-- R38: the active bank fails. -/
theorem State.BanksSound.failActive {s : State} (h : s.BanksSound) {i : BankId}
    (active : s.lps.activeId = some i) : State.BanksSound { s with lps := s.lps.failActive i } := by
  have role := Lps.activeId_role active
  have apart : i ≠ s.lps.standbyId := by
    intro e
    rw [e, h.roles.1] at role
    cases role
  obtain rfl := BankId.eq_other apart
  have own : (s.lps.failActive s.lps.standbyId.other).bank s.lps.standbyId = s.lps.bank s.lps.standbyId := by
    unfold Lps.failActive; cases s.lps.standbyId <;> rfl
  have other : (s.lps.failActive s.lps.standbyId.other).bank s.lps.standbyId.other =
      { s.lps.bank s.lps.standbyId.other with role := .none, state := .failed, header := none, result := some .crc } := by
    unfold Lps.failActive; cases s.lps.standbyId <;> rfl
  have claim : (s.lps.failActive s.lps.standbyId.other).claim = s.lps.claim := by
    simp [Lps.failActive, Lps.setBank_claim]
  have named : (s.lps.failActive s.lps.standbyId.other).standbyId = s.lps.standbyId := by
    refine Lps.standbyId_eq (by rw [own]; exact h.roles.1) ?_
    rw [other]; nofun
  refine ⟨⟨s.lps.standbyId, by rw [own]; exact h.roles.1, .inl (by rw [other])⟩, fun e => ?_, fun i => ?_⟩
  · rw [Lps.standby, named, own]
    exact h.claim (claim ▸ e)
  · by_cases e : i = s.lps.standbyId
    · rw [e, own]; exact h.banks _
    · rw [BankId.eq_other e, other]
      exact ⟨fun e => by simp at e, nofun, (h.banks _).image⟩

/-- R23 to R35: every move of the LPS keeps the banks sound. -/
theorem Lps.Moves.banksSound {l m : Lps} (h : l.Moves m) (s : State) :
    State.BanksSound { s with lps := l } → State.BanksSound { s with lps := m } := by
  induction h with
  | refl => exact id
  | trans _ _ a b => exact b ∘ a
  | opened l w v n =>
    exact fun h => h.setStandby rfl rfl rfl ⟨fun _ => ⟨rfl, rfl⟩, nofun, rfl⟩ fun _ => by simp
  | window | reject | awaits | checks | scrubs | passes =>
    exact fun h => ⟨h.standby, h.claim, h.banks⟩
  | emptied l => exact fun h => h.setStandby rfl rfl rfl (Bank.blank_sound _) nofun
  | store l c o bs claimed =>
    intro h
    obtain ⟨declared, header, image⟩ := h.banks l.standbyId
    exact h.setStandby rfl rfl h.roles.1 ⟨declared, header, Memory.wf_writeAll _ _ _ image⟩
      fun e => h.claim (by simpa [Lps.store, Lps.setBank_claim] using e)
  | closed l c k claimed =>
    intro h
    have state := h.claim (by simp [claimed])
    obtain ⟨declared, header, image⟩ := h.banks l.standbyId
    have kept := declared (by simp only [Lps.standby, List.mem_cons] at state ⊢; tauto)
    unfold Lps.closed
    split_ifs
    · exact h.setStandby rfl rfl h.roles.1 ⟨fun _ => kept, nofun, image⟩ fun _ => by simp
    · exact h.setStandby rfl rfl h.roles.1 ⟨fun e => by simp at e, nofun, image⟩ nofun
  | checked l c k claimed state =>
    intro h
    obtain ⟨declared, header, image⟩ := h.banks l.standbyId
    have kept := declared (by simp only [Lps.standby] at state; simp [state])
    unfold Lps.endCheck
    dsimp only
    split_ifs
    · exact h.setStandby rfl rfl h.roles.1 ⟨fun _ => kept, fun _ => rfl, image⟩ nofun
    · exact h.setStandby rfl rfl h.roles.1 ⟨fun e => by simp at e, nofun, image⟩ nofun
  | switches l checked => exact fun h => h.switchOver checked
  | fails l i active => exact fun h => h.failActive active

theorem State.BanksSound.moves {s t : State} (h : s.BanksSound) (m : s.lps.Moves t.lps) : t.BanksSound :=
  (m.banksSound s h).congr rfl

theorem Bank.Sound.restarted {b : Bank} (h : b.Sound) : b.restarted.Sound := by
  unfold Bank.restarted
  split_ifs
  exacts [Bank.blank_sound _, h]

theorem Bank.restarted_role (b : Bank) : b.restarted.role = b.role := by
  unfold Bank.restarted; split_ifs <;> rfl

theorem Bank.restarted_checked {b : Bank} (h : b.state = .checked) : b.restarted.state = .checked := by
  simp [Bank.restarted, h]

theorem Lps.restarted_bank (l : Lps) (now : Nat) (i : BankId) :
    (l.restarted now).bank i = (l.bank i).restarted := by cases i <;> rfl

/-- R39: a car restart keeps the roles, and the banks that are CHECKED. -/
theorem State.BanksSound.restarted {s t : State} (h : s.BanksSound) {now : Nat}
    (e : t.lps = s.lps.restarted now) : t.BanksSound := by
  obtain ⟨⟨i, own, other⟩, _, banks⟩ := h
  refine ⟨⟨i, ?_, ?_⟩, fun claimed => ?_, fun j => ?_⟩
  · rw [e, Lps.restarted_bank, Bank.restarted_role, own]
  · simp only [e, Lps.restarted_bank, Bank.restarted_role]
    exact other.imp id fun ⟨role, state⟩ => ⟨role, Bank.restarted_checked state⟩
  · rw [e] at claimed
    cases claimed
  · rw [e, Lps.restarted_bank]
    exact (banks j).restarted

theorem State.banksSound_of_reset {s : State} (e : s.lps = Lps.reset) : s.BanksSound := by
  refine ⟨⟨.x, by rw [e]; rfl, .inl (by rw [e]; rfl)⟩, fun claimed => ?_, fun j => ?_⟩
  · rw [e] at claimed
    cases claimed
  · rw [e]
    cases j <;> exact Bank.blank_sound _

theorem State.restart_lps (s : State) : s.restart.lps = s.lps.restarted s.now := by
  simp [State.restart, State.restartBlocks]

theorem State.BanksSound.event {s t : State} (h : s.BanksSound) (e : s.Event t) : t.BanksSound := by
  cases e with
  | aside a => exact h.moves a.moves
  | handed a w b =>
    exact h.moves (((a.moves.trans w.moves).trans (State.finish_moves _)).trans b.moves)
  | restarts a _ _ b =>
    exact ((h.moves a.moves).restarted (State.restart_lps _)).moves b.moves

/-- Settles O58: every move of the LPS keeps the banks sound, and both resets leave them so. -/
theorem everyStepKeepsTheBanksSound : Obligations.EveryStepKeepsTheBanksSound :=
  fun _ _ h e => step_keeps (fun _ _ h => ⟨h.standby, h.claim, h.banks⟩) (fun _ _ => State.BanksSound.event)
    (fun _ _ _ => State.banksSound_of_reset rfl) h e

end Sys2Proof.Machine
end

section
/-! SUPPORT. The passes that change nothing: a state in which every reader has taken what it reads
(`State.Rested`) is what the readers leave of it, so that an event whose first pass leaves such a state ends
with it. -/

namespace Sys2Proof.Machine

/-- A state in which the readers have nothing to take. -/
structure State.Rested (s : State) : Prop where
  settled : s.PassSettled
  hold : s.brm.rows.hold = s.holdRow
  orphan : s.dka.orphan = s.orphanNext
  activation : s.takePending = s
  sides : ∀ i, (s.drc.side i).granted = none ∨ s.grantFailure i = none

/-! ### Each reader -/

theorem State.refreshDoors_kept {s : State} (h : s.drc.summary = s.drc.allProven) : s.refreshDoors = s := by
  unfold State.refreshDoors
  rw [← h, bne_self_eq_false]
  rfl

theorem State.refreshOrphan_kept {s : State} (h : s.dka.orphan = s.orphanNext) : s.refreshOrphan = s := by
  unfold State.refreshOrphan
  unfold State.orphanNext at h
  by_cases o : s.isOrphan = true
  · rw [if_pos o] at h ⊢
    have running : s.dka.orphan.isSome = true := by rw [h]; cases s.dka.orphan <;> rfl
    rw [if_pos running]
  · rw [if_neg o] at h ⊢
    rw [← h]

theorem State.writeRow_kept {s : State} {i : RowId} {v : Row} (h : s.brm.rows.get i = v) :
    s.writeRow i v = s := if_pos h

theorem State.writeRows_kept {s : State} (h : s.RowsWritten) (hold : s.brm.rows.hold = s.holdRow) :
    s.writeRows = s := by
  unfold State.writeRows
  rw [State.writeRow_kept (i := .cab) h.cab, State.writeRow_kept (i := .supervision) h.supervision,
    State.writeRow_kept (i := .doors) h.doors, State.writeRow_kept (i := .radio) h.radio,
    State.writeRow_kept (i := .odometry) h.odometry, State.writeRow_kept (i := .loop) h.loop,
    State.writeRow_kept (i := .hold) hold]

theorem State.refreshLevel_kept {s : State} (h : s.brm.level = s.brm.effective) : s.refreshLevel = s :=
  if_pos h.symm

theorem State.refreshPinion_kept {s : State} (h : s.brm.pinion = s.pinionCommand)
    (out : s.brm.energised = (decide (s.brm.pinion = .released) && !s.brm.loopForced)) :
    s.refreshPinion = s := by
  unfold State.refreshPinion
  dsimp only
  rw [← h, ← out, if_pos rfl]

theorem State.refreshHolding_kept {s : State} (h : s.brm.holdSeen = s.holdInputs) : s.refreshHolding = s := by
  unfold State.refreshHolding
  rw [if_pos h, ← h]

theorem State.refreshProving_kept {s : State} (h : s.brm.proveSeen = s.brm.proveInputs) :
    s.refreshProving = s := by
  unfold State.refreshProving State.setProving
  rw [if_pos h, if_pos rfl, ← h]

/-! ### The passes -/

theorem State.Rested.readersPass {s : State} (h : s.Rested) : s.readersPass = s := by
  unfold State.readersPass
  rw [h.activation, State.retest_kept .a s (h.sides .a), State.retest_kept .b s (h.sides .b),
    State.refreshDoors_kept h.settled.summary, State.refreshOrphan_kept h.orphan,
    State.writeRows_kept h.settled.rows h.hold, State.refreshLevel_kept h.settled.level,
    State.refreshPinion_kept h.settled.pinion h.settled.energised,
    State.refreshHolding_kept h.settled.holding, State.refreshProving_kept h.settled.proving]

theorem State.Rested.settle {s : State} (h : s.Rested) (departure : s.refreshDeparture = s) (n : Nat) :
    s.settle n = s := by
  induction n with
  | zero => rfl
  | succ n ih => rw [State.settle_succ, State.settlePass, h.readersPass, departure, ih]

/-- An event that comes to rest within its passes ends there. -/
theorem State.Rested.finish {u x : State} (h : x.Rested) (departure : x.refreshDeparture = x) (n : Nat)
    (few : n ≤ 6) (reach : u.settle n = x) : u.finish = x.refreshTraction := by
  have add : ∀ (a b : Nat) (s : State), s.settle (a + b) = (s.settle a).settle b := by
    intro a b
    induction a with
    | zero => intro s; rw [Nat.zero_add]; rfl
    | succ a ih => intro s; rw [Nat.succ_add, State.settle_succ, State.settle_succ, ih]
  obtain ⟨k, e⟩ := Nat.exists_eq_add_of_le few
  rw [State.finish_eq, State.read, show 5 + 1 = n + k by omega, add, reach, h.settle departure, h.readersPass]

/-- What a pass leaves is rested, where no release can be withdrawn after it. -/
theorem State.readersPass_rested {u : State}
    (sides : ∀ i, (u.readersPass.drc.side i).granted = none ∨ u.readersPass.grantFailure i = none) :
    u.readersPass.Rested where
  settled := u.readersPass_settled
  hold := u.readersPass_hold
  orphan := by
    rw [(State.readersPass_follows u).orphanNext u.readersPass_orphan]
    exact u.readersPass_orphan
  activation :=
    State.takePending_settled u.readersPass_follows.odu u.readersPass_follows.active u.readersPass_lps.1
  sides := sides

theorem State.refreshDeparture_idle {s : State} (h : s.brm.departure = .idle) (k : ¬s.MayDepart) :
    s.refreshDeparture = s := s.refreshDeparture_departs.idle h k

theorem State.refreshDeparture_same {s : State} (h : s.refreshDeparture.brm.departure = s.brm.departure) :
    s.refreshDeparture = s := by
  have d := s.refreshDeparture_departs
  generalize s.refreshDeparture = t at *
  cases e : s.brm.departure with
  | idle =>
    by_cases k : s.MayDepart
    · rw [d.begins e k, e] at h; cases h
    · exact d.idle e k
  | pulling =>
    by_cases k : s.MustAbandon
    · rw [d.abandons (.inl e) k, e] at h; cases h
    · by_cases r : s.EffortReached
      · rw [d.releases (.inl e) k r, e] at h; cases h
      · exact d.pulls (.inl e) k r
  | stalled =>
    by_cases k : s.MustAbandon
    · rw [d.abandons (.inr e) k, e] at h; cases h
    · by_cases r : s.EffortReached
      · rw [d.releases (.inr e) k r, e] at h; cases h
      · exact d.pulls (.inr e) k r
  | released =>
    by_cases k : s.odu.motion = .standstill ∧ 0 < s.demand ∧ s.Gate
    · exact d.lasts e k
    · rw [d.ended e k, e] at h; cases h

/-! ### An event without a release, a departure or an activation -/

theorem State.readersPass_ungranted {u : State} {i : CarSide} (h : (u.drc.side i).granted = none) :
    (u.readersPass.drc.side i).granted = none := by
  rw [(u.readersPass_reads.releases.kept i (.inl h)).1, h]

/-- R115: where the desk asks for no traction, a departure that is IDLE stays so. -/
theorem State.readersPass_idle {u : State} (departure : u.brm.departure = .idle) (demand : u.demand = 0) :
    u.readersPass.refreshDeparture = u.readersPass := by
  have f := u.readersPass_follows
  refine State.refreshDeparture_idle (by simp [State.readersPass, State.writeRows, departure]) fun may => ?_
  have rest : u.readersPass.dka.rest = u.dka.rest := f.dka
  have same : u.readersPass.demand = u.demand := by
    simp only [Dka.rest, Dka.mk.injEq] at rest
    obtain ⟨active, _, _, _, _, _, cabU, cabL⟩ := rest
    unfold State.demand
    rw [active]
    cases u.dka.active with
    | none => rfl
    | some d => cases d <;> simp only [Dka.cab, cabU, cabL] <;> congr
  have asked := may.2.1
  rw [same, demand] at asked
  cases asked

/-- An event with no side granted, the departure IDLE and no demand ends with its first pass. -/
theorem State.finish_once {u : State} (sides : ∀ i, (u.drc.side i).granted = none)
    (departure : u.brm.departure = .idle) (demand : u.demand = 0) :
    u.finish = u.readersPass.refreshTraction := by
  have rested := State.readersPass_rested (u := u) fun i => .inl (State.readersPass_ungranted (sides i))
  have idle := State.readersPass_idle departure demand
  exact rested.finish idle 1 (by decide) idle

/-! ### A steady state -/

/-- A state whose rows, summary and level are as their readers give them, with no activation that the event
takes: a release may be withdrawn in it, but only from doors that are proven closed. -/
structure State.Steady (s : State) : Prop where
  rows : s.RowsWritten
  hold : s.brm.rows.hold = s.holdRow
  summary : s.drc.summary = s.drc.allProven
  level : s.brm.level = s.brm.effective
  activation : s.takePending = s
  sides : (∀ i, (s.drc.side i).granted = none) ∨ s.drc.allProven = true

theorem State.takePending_none {s : State} (h : s.lps.pendingAct = none) : s.takePending = s := by
  simp [State.takePending, h]

theorem State.relocks_shut (s : State) {d : Door} (h : d.shut) : s.relocks d = d := by
  rcases h with h | ⟨h, _⟩ <;> simp [State.relocks, h]

theorem State.Steady.retests_door {s : State} (h : s.Steady) (d : DoorId) :
    s.retests.drc.door d = s.drc.door d := by
  obtain ⟨kept, withdrawn⟩ := s.retests_side (doorSide d)
  by_cases free : (s.drc.side (doorSide d)).granted = none ∨ s.grantFailure (doorSide d) = none
  · exact (kept free).2 d rfl
  · rw [not_or] at free
    obtain ⟨c, failure⟩ := Option.ne_none_iff_exists'.1 free.2
    rw [(withdrawn c free.1 failure).2 d rfl]
    rcases h.sides with none | shut
    · exact absurd (none _) free.1
    · exact s.relocks_shut ((Drc.allProven_iff _).1 shut d)

theorem State.retests_granted (s : State) (i : CarSide) (h : (s.drc.side i).granted = none) :
    (s.retests.drc.side i).granted = none := by
  rw [((s.retests_side i).1 (.inl h)).1, h]

theorem Drc.allProven_congr {j k : Drc} (h : ∀ d, j.door d = k.door d) : j.allProven = k.allProven := by
  rw [Bool.eq_iff_iff, Drc.allProven_iff, Drc.allProven_iff]
  simp only [h]

theorem State.retests_frame (s : State) :
    s.retests.odu = s.odu ∧ s.retests.lps = s.lps ∧ s.retests.ssu = s.ssu ∧ s.retests.brm = s.brm ∧
      s.retests.dka = s.dka ∧ s.retests.tgh = s.tgh ∧ s.retests.pst = s.pst := by
  simp [State.retests]

theorem State.retests_drc_summary (s : State) : s.retests.drc.summary = s.drc.summary := by
  unfold State.retests
  rw [State.retest_summary, State.retest_summary]

theorem State.Steady.retests {s : State} (h : s.Steady) : s.retests.Steady := by
  obtain ⟨odu, lps, ssu, brm, dka, tgh, pst⟩ := s.retests_frame
  have summary := s.retests_drc_summary
  have proven := Drc.allProven_congr h.retests_door
  refine ⟨⟨?_, ?_, ?_, ?_, ?_, ?_⟩, ?_, ?_, ?_, ?_, ?_⟩
  · rw [brm, dka]; exact h.rows.cab
  · rw [brm, State.supervisionRow_congr ssu]; exact h.rows.supervision
  · rw [brm, h.rows.doors]
    simp [State.doorsRow, State.still, summary, odu]
  · rw [brm, State.radioRow_congr tgh odu pst]; exact h.rows.radio
  · rw [brm, State.odometryRow_congr odu pst ssu]; exact h.rows.odometry
  · rw [brm, State.loopRow_congr (s := s) (by rw [brm])]; exact h.rows.loop
  · rw [brm, State.holdRow_congr odu (by rw [dka]) (by rw [brm]) (by rw [brm])]; exact h.hold
  · rw [summary, proven]; exact h.summary
  · rw [brm]; exact h.level
  · exact State.takePending_settled odu (by rw [dka]) (by rw [lps, h.activation])
  · rw [proven]
    exact h.sides.imp (fun none i => s.retests_granted i (none i)) id

theorem State.refreshOrphan_eq (s : State) :
    s.refreshOrphan = { s with dka := { s.dka with orphan := s.orphanNext } } := by
  have orphan := s.refreshOrphan_orphan
  unfold State.refreshOrphan at orphan ⊢
  split_ifs at orphan ⊢ <;> rw [← orphan]

/-- No row reads the orphan timer. -/
theorem State.Steady.withOrphan {s : State} (h : s.Steady) (x : Timer) :
    State.Steady { s with dka := { s.dka with orphan := x } } where
  rows := ⟨h.rows.cab, h.rows.supervision, h.rows.doors, h.rows.radio, h.rows.odometry, h.rows.loop⟩
  hold := h.hold
  summary := h.summary
  level := h.level
  activation := State.takePending_settled (s := s) rfl rfl (by rw [h.activation])
  sides := h.sides

/-- What the brake manager makes of a level: the pinion command and the two findings. -/
def State.brakePass (s : State) : State := s.refreshPinion.refreshHolding.refreshProving

@[simp] theorem State.brakePass_frame (s : State) :
    s.brakePass.odu = s.odu ∧ s.brakePass.lps = s.lps ∧ s.brakePass.ssu = s.ssu ∧ s.brakePass.drc = s.drc ∧
      s.brakePass.dka = s.dka ∧ s.brakePass.vrl = s.vrl ∧ s.brakePass.tgh = s.tgh ∧
      s.brakePass.pst = s.pst ∧ s.brakePass.now = s.now ∧ s.brakePass.pending = s.pending := by
  simp [State.brakePass]

@[simp] theorem State.brakePass_brm (s : State) :
    s.brakePass.brm.rows = s.brm.rows ∧ s.brakePass.brm.level = s.brm.level ∧
      s.brakePass.brm.latch = s.brm.latch ∧ s.brakePass.brm.target = s.brm.target ∧
      s.brakePass.brm.measured = s.brm.measured ∧ s.brakePass.brm.sensorFault = s.brm.sensorFault ∧
      s.brakePass.brm.frictionFault = s.brm.frictionFault ∧ s.brakePass.brm.valve = s.brm.valve ∧
      s.brakePass.brm.lastOpen = s.brm.lastOpen ∧ s.brakePass.brm.waiting = s.brm.waiting ∧
      s.brakePass.brm.deadTimer = s.brm.deadTimer ∧ s.brakePass.brm.ebrake = s.brm.ebrake ∧
      s.brakePass.brm.traction = s.brm.traction ∧ s.brakePass.brm.effort = s.brm.effort ∧
      s.brakePass.brm.effortValid = s.brm.effortValid ∧ s.brakePass.brm.senseOpen = s.brm.senseOpen ∧
      s.brakePass.brm.loopForced = s.brm.loopForced ∧ s.brakePass.brm.departure = s.brm.departure ∧
      s.brakePass.brm.required = s.brm.required ∧ s.brakePass.brm.stallTimer = s.brm.stallTimer ∧
      s.brakePass.brm.holdElapsed = s.brm.holdElapsed := by
  simp [State.brakePass]

/-- R63, R64: in a steady state the readers withdraw what they must, and the brake manager takes what has
changed beside its rows. -/
theorem State.Steady.readersPass {s : State} (h : s.Steady) :
    s.readersPass = s.retests.refreshOrphan.brakePass := by
  have tested : s.readersPass = s.retests.refreshDoors.refreshOrphan.writeRows.refreshLevel.brakePass := by
    unfold State.readersPass
    rw [h.activation]
    rfl
  have orphaned := h.retests.withOrphan s.retests.orphanNext
  rw [← State.refreshOrphan_eq] at orphaned
  rw [tested, State.refreshDoors_kept h.retests.summary, State.writeRows_kept orphaned.rows orphaned.hold,
    State.refreshLevel_kept orphaned.level]

theorem State.Steady.brakePass {s : State} (h : s.Steady) : s.brakePass.Steady where
  rows := h.rows.congr (by simp) (by simp) (by simp) (by simp) (by simp) (by simp) (by simp) (by simp)
  hold := by rw [State.holdRow_congr (s := s) (by simp) (by simp) (by simp) (by simp)]; simpa using h.hold
  summary := by simpa using h.summary
  level := by rw [State.effective_congr (b := s.brm) (by simp) (by simp)]; simpa using h.level
  activation := State.takePending_settled (s := s) (by simp) (by simp) (by simp [h.activation])
  sides := by simpa using h.sides

/-- A pass of the readers leaves a steady state steady, with its rows, its level and its latch. -/
theorem State.Steady.pass {s : State} (h : s.Steady) :
    s.readersPass.Steady ∧ s.readersPass.brm.rows = s.brm.rows ∧ s.readersPass.brm.level = s.brm.level ∧
      s.readersPass.brm.latch = s.brm.latch ∧ s.readersPass.drc.summary = s.drc.summary := by
  rw [h.readersPass]
  have orphaned := h.retests.withOrphan s.retests.orphanNext
  rw [← State.refreshOrphan_eq] at orphaned
  exact ⟨orphaned.brakePass, by simp [s.retests_frame.2.2.2.1], by simp [s.retests_frame.2.2.2.1],
    by simp [s.retests_frame.2.2.2.1], by simp [s.retests_drc_summary]⟩

/-- The clock moves none of what a steady state is about. -/
theorem State.Steady.advanceTo {s : State} (h : s.Steady) (d : Nat) : (s.advanceTo d).Steady where
  rows := by
    refine ⟨by simpa using h.rows.cab, ?_, ?_, ?_, ?_, ?_⟩
    · rw [State.supervisionRow_congr (s := s) (by simp)]; simpa using h.rows.supervision
    · simpa [State.doorsRow, State.still] using h.rows.doors
    · rw [State.radioRow_congr (s := s) (by simp) (by simp) (by simp)]; simpa using h.rows.radio
    · rw [State.odometryRow_congr (s := s) (by simp) (by simp) (by simp)]; simpa using h.rows.odometry
    · rw [State.loopRow_congr (s := s) (by simp)]; simpa using h.rows.loop
  hold := by
    rw [State.holdRow_congr (s := s) (by simp) (by simp) (by simp) (by simp)]; simpa using h.hold
  summary := by simpa [Drc.allProven, Drc.door, Door.proven] using h.summary
  level := by
    rw [State.effective_congr (b := s.brm) (by simp) (by simp)]; simpa using h.level
  activation := State.takePending_settled (s := s) (by simp) (by simp) (by simp [h.activation])
  sides := by
    refine h.sides.imp (fun none i => ?_) fun shut => by simpa [Drc.allProven, Drc.door, Door.proven] using shut
    have side : (s.advanceTo d).drc.side i = s.drc.side i := by cases i <;> simp [Drc.side]
    rw [side, none i]

/-- A state that agrees with a steady one but for what no row reads. -/
theorem State.Steady.congr {s t : State} (h : s.Steady) (odu : t.odu = s.odu) (lps : t.lps = s.lps)
    (ssu : t.ssu = s.ssu) (drc : t.drc = s.drc) (dka : t.dka = s.dka) (tgh : t.tgh = s.tgh)
    (pst : t.pst = s.pst) (rows : t.brm.rows = s.brm.rows) (level : t.brm.level = s.brm.level)
    (latch : t.brm.latch = s.brm.latch) (sense : t.brm.senseOpen = s.brm.senseOpen)
    (hold : t.holdRow = s.holdRow) : t.Steady where
  rows := h.rows.congr rows odu ssu drc dka tgh pst sense
  hold := by rw [rows, hold]; exact h.hold
  summary := by rw [drc]; exact h.summary
  level := by rw [level, State.effective_congr rows latch]; exact h.level
  activation := State.takePending_settled (s := s) odu (by rw [dka]) (by rw [lps, h.activation])
  sides := by rw [drc]; exact h.sides

theorem State.Settled.steady {s : State} (h : s.Settled) (activation : s.lps.pendingAct = none)
    (sides : (∀ i, (s.drc.side i).granted = none) ∨ s.drc.summary = true) : s.Steady where
  rows := ⟨h.cab, h.supervision, h.doors, h.radio, h.odometry, h.loop⟩
  hold := h.hold
  summary := h.summary
  level := h.level
  activation := State.takePending_none activation
  sides := h.summary ▸ sides

/-! ### A calm state -/

/-- A steady state in which nothing can move a row within an event: no side is granted, and the departure is
IDLE without a demand. -/
structure State.Calm (s : State) : Prop where
  steady : s.Steady
  sides : ∀ i, (s.drc.side i).granted = none
  departure : s.brm.departure = .idle
  demand : s.demand = 0

theorem State.Quiet.calm {s : State} (h : s.Quiet) : s.Calm where
  steady := h.settled.steady h.activation (.inl h.sides)
  sides := h.sides
  departure := h.departure
  demand := h.demand

theorem State.demand_congr {s t : State} (h : t.dka = s.dka) : t.demand = s.demand := by
  rw [State.demand, h, State.demand]

theorem State.Calm.congr {s t : State} (h : s.Calm) (odu : t.odu = s.odu) (lps : t.lps = s.lps)
    (ssu : t.ssu = s.ssu) (drc : t.drc = s.drc) (dka : t.dka = s.dka) (tgh : t.tgh = s.tgh)
    (pst : t.pst = s.pst) (rows : t.brm.rows = s.brm.rows) (level : t.brm.level = s.brm.level)
    (latch : t.brm.latch = s.brm.latch) (sense : t.brm.senseOpen = s.brm.senseOpen)
    (elapsed : t.brm.holdElapsed = s.brm.holdElapsed) (departure : t.brm.departure = s.brm.departure) :
    t.Calm where
  steady := h.steady.congr odu lps ssu drc dka tgh pst rows level latch sense
    (State.holdRow_congr odu (by rw [dka]) elapsed departure)
  sides := by rw [drc]; exact h.sides
  departure := departure.trans h.departure
  demand := (State.demand_congr dka).trans h.demand

theorem State.Calm.advanceTo {s : State} (h : s.Calm) (d : Nat) : (s.advanceTo d).Calm where
  steady := h.steady.advanceTo d
  sides i := by
    have side : (s.advanceTo d).drc.side i = s.drc.side i := by cases i <;> simp [Drc.side]
    rw [side, h.sides i]
  departure := by simpa using h.departure
  demand := by rw [State.demand_congr (s := s) (by simp)]; exact h.demand

/-- The end of an event that leaves a calm state: the brake manager alone takes what has changed. -/
theorem State.Calm.finish {s : State} (h : s.Calm) :
    s.finish = s.refreshOrphan.brakePass.refreshTraction := by
  have kept : s.retests = s := by
    rw [State.retests, State.retest_kept .a s (.inl (h.sides .a)), State.retest_kept .b s (.inl (h.sides .b))]
  rw [State.finish_once h.sides h.departure h.demand, h.steady.readersPass, kept]

theorem State.settle_keeps {P : State → Prop} (h : ∀ s, P s → P s.settlePass) {s : State} (p : P s) (n : Nat) :
    P (s.settle n) := by
  induction n generalizing s with
  | zero => exact p
  | succ n ih => exact ih (h s p)

end Sys2Proof.Machine
end

section
/-! SUPPORT. What the end of an event (`State.Ends`) says of the state that it leaves. -/

namespace Sys2Proof.Machine

/-! ### Notices -/

theorem State.raise_has (k : Notice) (s : State) : (s.raise k).Has k := by
  intro p
  have bit : ∀ q : PortState, k.bit &&& (q.raise k).pending = k.bit := by
    intro q
    ext i
    simp only [PortState.raise, BitVec.getElem_and, BitVec.getElem_or]
    cases k.bit[i] <;> simp
  cases p <;> exact bit _

theorem PortState.Told.has {q r : PortState} (h : q.Told r) {b : NoticeSet} (k : b &&& q.pending = b) :
    b &&& r.pending = b := by
  rw [← k, BitVec.and_assoc, h.2]

theorem Pif.Told.has {s t : State} (h : s.pif.Told t.pif) {k : Notice} (n : s.Has k) : t.Has k := by
  obtain ⟨u, l, c, _⟩ := h
  intro p
  cases p
  exacts [u.has (n .u), l.has (n .l), c.has (n .c)]

/-- A notice raised in an event is pending at its end. -/
theorem State.Ends.has {u t : State} (h : u.Ends t) {k : Notice} (n : u.Has k) : t.Has k := h.1.pif.has n

/-! ### The readers -/

theorem State.Ends.rowsTrue {u t : State} (h : u.Ends t) : t.RowsTrue :=
  State.rowsTrue_of h.2.1.cab h.2.1.supervision h.2.1.doors h.2.1.loop h.2.1.hold h.2.1.summary

theorem State.Ends.lineRowsTrue {u t : State} (h : u.Ends t) : t.LineRowsTrue :=
  State.lineRowsTrue_of h.2.1.radio h.2.1.odometry

theorem Level.eq_emergency {l : Level} (h : Level.emergency.rank ≤ l.rank) : l = .emergency := by
  cases l <;> simp [Level.rank] at h ⊢
  omega

/-- R64: a row at EMERGENCY makes the effective level EMERGENCY. -/
theorem Brm.effective_emergency {b : Brm} {i : RowId} (h : (b.rows.get i).level = .emergency) :
    b.effective = .emergency := by
  unfold Brm.effective
  split_ifs
  · rfl
  · exact Level.eq_emergency (h ▸ b.rows.highest_spec.1 i)

theorem Brm.effective_latched {b : Brm} (h : b.latch ≠ none) : b.effective = .emergency :=
  if_pos (Option.isSome_iff_ne_none.2 h)

theorem State.Ends.level_latched {u t : State} (h : u.Ends t) (l : t.brm.latch ≠ none) :
    t.brm.level = .emergency := h.2.1.level.trans (Brm.effective_latched l)

/-- R65: a latch that is set keeps its cause through the end of an event. -/
theorem State.Ends.latch_kept {u t : State} (h : u.Ends t) {c : LatchCause} (l : u.brm.latch = some c) :
    t.brm.latch = some c := by
  rcases h.1.latch with e | ⟨e, _⟩
  · rw [e, l]
  · rw [e] at l; cases l

/-! ### What the passes keep -/

theorem State.Departs.eq {s t : State} (h : s.Departs t) : ∃ d r x, t = s.withDeparture d r x := by
  have same : s = s.withDeparture s.brm.departure s.brm.required s.brm.stallTimer := rfl
  cases e : s.brm.departure with
  | idle =>
    by_cases k : s.MayDepart
    · exact ⟨_, _, _, h.begins e k⟩
    · exact ⟨_, _, _, (h.idle e k).trans same⟩
  | pulling =>
    by_cases k : s.MustAbandon
    · exact ⟨_, _, _, h.abandons (.inl e) k⟩
    · by_cases r : s.EffortReached
      · exact ⟨_, _, _, h.releases (.inl e) k r⟩
      · exact ⟨_, _, _, (h.pulls (.inl e) k r).trans same⟩
  | stalled =>
    by_cases k : s.MustAbandon
    · exact ⟨_, _, _, h.abandons (.inr e) k⟩
    · by_cases r : s.EffortReached
      · exact ⟨_, _, _, h.releases (.inr e) k r⟩
      · exact ⟨_, _, _, (h.pulls (.inr e) k r).trans same⟩
  | released =>
    by_cases k : s.odu.motion = .standstill ∧ 0 < s.demand ∧ s.Gate
    · exact ⟨_, _, _, (h.lasts e k).trans same⟩
    · exact ⟨_, _, _, h.ended e k⟩

/-- A state with the traction output replaced. -/
def State.withTraction (s : State) (w : Pwm) : State := { s with brm := { s.brm with traction := w } }

theorem State.Drives.eq {s t : State} (h : s.Drives t) : ∃ w, t = s.withTraction w := by
  by_cases g : s.Gate
  · exact ⟨_, h.opened g⟩
  · exact ⟨_, h.closed g⟩

theorem State.Passes.keeps {P : State → Prop} (reads : ∀ s t, s.Reads t → P s → P t)
    (departs : ∀ s d r x, P s → P (s.withDeparture d r x)) {n : Nat} {s t : State} (h : s.Passes n t)
    (p : P s) : P t := by
  induction n generalizing s with
  | zero => exact h ▸ p
  | succ n ih =>
    obtain ⟨x, y, read, departed, rest⟩ := h
    obtain ⟨d, r, z, rfl⟩ := departed.eq
    exact ih rest (departs _ d r z (reads _ _ read p))

/-- What a pass of the readers keeps, and the departure and the traction output are no part of, the end of an
event keeps. -/
theorem State.FollowedBy.keeps {P : State → Prop} (reads : ∀ s t, s.Reads t → P s → P t)
    (departs : ∀ s d r x, P s → P (s.withDeparture d r x)) (drives : ∀ s w, P s → P (s.withTraction w))
    {u t : State} (h : u.FollowedBy t) (p : P u) : P t := by
  obtain ⟨x, y, passes, read, drove⟩ := h
  obtain ⟨w, rfl⟩ := drove.eq
  exact drives _ w (reads _ _ read (passes.keeps reads departs p))

/-- R79: in the loop-forced state no valve choice is taken. -/
theorem State.Ends.valves_forced {u t : State} (h : u.Ends t) (forced : u.brm.loopForced = true) :
    t.brm.valves = u.brm.valves := by
  have kept : t.brm.loopForced = true ∧ t.brm.valves = u.brm.valves := by
    refine h.2.2.keeps (P := fun x => x.brm.loopForced = true ∧ x.brm.valves = u.brm.valves)
      (fun x y read ⟨f, v⟩ => ⟨?_, ?_⟩) (fun x d r z p => p) (fun x w p => p) ⟨forced, rfl⟩
    · rw [read.brakeFrame]
      exact f
    · rw [← v]
      by_cases level : y.brm.level = x.brm.level
      · exact (read.brakes.same level).2.2
      · rw [(read.brakes.other level).2.2, State.choiceAt, if_pos f]
        rfl
  exact kept.2

theorem State.Ends.inputs {u t : State} (h : u.Ends t) :
    t.brm.measured = u.brm.measured ∧ t.brm.sensorFault = u.brm.sensorFault ∧
      t.brm.frictionFault = u.brm.frictionFault ∧ t.brm.pulses = u.brm.pulses ∧
      t.brm.senseOpen = u.brm.senseOpen ∧ t.brm.loopForced = u.brm.loopForced ∧
      t.brm.holdElapsed = u.brm.holdElapsed ∧ t.brm.holdTimer = u.brm.holdTimer ∧
      t.brm.gateTimer = u.brm.gateTimer := by
  have e := h.1.brm
  simp only [Brm.inputs, Prod.mk.injEq] at e
  obtain ⟨m, s, f, p, _, _, _, o, l, e, t, g, _, _⟩ := e
  exact ⟨m, s, f, p, o, l, e, t, g⟩

end Sys2Proof.Machine
end

section
/-! Proofs of the obligations about the brake inputs: the effort feedback, the loop sense, the timers and the
provings (4.3 to 4.7). -/

namespace Sys2Proof.Machine

/-! ### The effort feedback -/

theorem State.takeEffort_effortOf (s : State) (period high : Nat) :
    s.takeEffort (effortOf period high) = { s with brm := { s.brm with
      effort := if 900 ≤ period ∧ period ≤ 1100 then
        max (-100) (min 100 (((high : Int) * 1000 / period - 500).tdiv 5)) else 0
      effortValid := decide (900 ≤ period ∧ period ≤ 1100)
      feedbackTimer := some (s.now + 1100) } } := by
  unfold State.takeEffort effortOf
  by_cases valid : 900 ≤ period ∧ period ≤ 1100
  · simp [valid, Config.feedbackTime]
  · simp [valid, Config.feedbackTime]

theorem exec_feedbackTimeout_idle {s : State} (h : s.brm.feedbackTimer = none) :
    exec .feedbackTimeout s = .next s := by
  change execFeedbackTimeout s = _
  rw [execFeedbackTimeout, h]

/-- Settles O27, by the two cases of R76. -/
theorem effortFeedbackGivesTheEffort : Obligations.EffortFeedbackGivesTheEffort := by
  intro s period high valid duty effort
  refine ⟨?_, exec_feedbackTimeout_idle, fun d h => ?_⟩
  · rw [← State.takeEffort_effortOf]
    exact exec_ends rfl
  · refine exec_ends ?_
    change execFeedbackTimeout s = _
    rw [execFeedbackTimeout, h]

/-! ### The loop sense -/

theorem State.openLoop_eq (s : State) :
    s.openLoop = State.raise .brake { s with brm := { s.brm with
      senseOpen := true, loopForced := true, valve := .lap, waiting := none
      lastOpen := match s.brm.valve with
        | .apply => some .apply
        | .release => some .release
        | .lap => s.brm.lastOpen
      deadTimer := if s.brm.valve ≠ .lap then some (s.now + s.par .tDead * 1000) else s.brm.deadTimer } } := by
  unfold State.openLoop State.toLap
  cases h : s.brm.valve <;> simp [State.startMs, State.par, h]

theorem Brm.valves_eq {a b : Brm} (h : a.valves = b.valves) :
    a.valve = b.valve ∧ a.lastOpen = b.lastOpen ∧ a.waiting = b.waiting ∧ a.deadTimer = b.deadTimer := by
  simpa [Brm.valves] using h

/-- R79: an open loop sense input holds the brakes at the end of an event. -/
theorem State.Ends.loopOpen {u t : State} (h : u.Ends t) (sense : u.brm.senseOpen = true) :
    t.brm.rows.loop = { level := .emergency, reason := some .loopOpen } ∧ t.brm.level = .emergency ∧
      t.brm.pinion = .applied := by
  have loop : t.brm.rows.loop = { level := .emergency, reason := some .loopOpen } := by
    rw [h.rowsTrue.loop, h.inputs.2.2.2.2.1, sense]; rfl
  have level : t.brm.level = .emergency :=
    h.2.1.level.trans (Brm.effective_emergency (i := .loop) (congrArg Row.level loop))
  refine ⟨loop, level, ?_⟩
  rw [h.2.1.pinion, State.pinionCommand, if_pos (.inl level)]

theorem exec_loopSenseOpen {s : State} (h : s.brm.senseOpen = false) :
    exec .loopSenseOpen s = .next s.openLoop.finish := if_neg (by simp [h])

theorem exec_loopSenseClose {s : State} (h : s.brm.senseOpen = true) :
    exec .loopSenseClose s =
      .next (State.finish (State.raise .brake { s with brm := { s.brm with senseOpen := false } })) :=
  if_pos h

/-- Settles O28, by the level of the input before. -/
theorem loopSenseForcesTheBrakes : Obligations.LoopSenseForcesTheBrakes := by
  intro s dead
  refine ⟨fun h => if_pos h, fun h => ?_, fun h => if_neg (by simp [h]), fun h => ?_⟩
  · obtain ⟨t, out, ends⟩ := exec_ends (exec_loopSenseOpen h)
    rw [State.openLoop_eq] at ends
    obtain ⟨loop, level, pinion⟩ := ends.loopOpen rfl
    have forced : t.brm.loopForced = true := ends.inputs.2.2.2.2.2.1
    obtain ⟨valve, lastOpen, waiting, deadTimer⟩ := Brm.valves_eq (ends.valves_forced rfl)
    refine ⟨t, out, ends, loop, level, ?_, pinion, forced, valve, waiting, lastOpen, deadTimer,
      ends.has (State.raise_has _ _)⟩
    rw [ends.2.1.energised, forced, Bool.not_true, Bool.and_false]
  · obtain ⟨t, out, ends⟩ := exec_ends (exec_loopSenseClose h)
    refine ⟨t, out, ends, ends.inputs.2.2.2.2.2.1, ?_, ends.has (State.raise_has _ _)⟩
    rw [ends.rowsTrue.loop, ends.inputs.2.2.2.2.1]
    rfl

end Sys2Proof.Machine
end

section
/-! SUPPORT. The departure over the passes of an event in which no row moves. -/

namespace Sys2Proof.Machine

theorem State.Reads.dka {s t : State} (h : s.Reads t) : t.dka = { s.dka with orphan := t.dka.orphan } :=
  congrArg State.dka h.frame

theorem State.Reads.odu {s t : State} (h : s.Reads t) : t.odu = s.odu := by
  have e := congrArg State.odu h.frame
  exact e

theorem State.Reads.cab {s t : State} (h : s.Reads t) (d : Desk) : t.dka.cab d = s.dka.cab d := by
  rw [h.dka]; cases d <;> rfl

theorem State.Reads.active {s t : State} (h : s.Reads t) : t.dka.active = s.dka.active := by rw [h.dka]

theorem State.Reads.selected {s t : State} (h : s.Reads t) : t.dka.selected = s.dka.selected := by rw [h.dka]

/-- R115: the readers do not touch the demand. -/
theorem State.Reads.demand {s t : State} (h : s.Reads t) : t.demand = s.demand := by
  simp only [State.demand, h.active, h.cab]

theorem State.Reads.departure {s t : State} (h : s.Reads t) :
    t.brm.departure = s.brm.departure ∧ t.brm.required = s.brm.required ∧
      t.brm.stallTimer = s.brm.stallTimer ∧ t.brm.effort = s.brm.effort ∧
      t.brm.effortValid = s.brm.effortValid ∧ t.brm.traction = s.brm.traction := by
  rw [h.brakeFrame]
  exact ⟨rfl, rfl, rfl, rfl, rfl, rfl⟩

theorem State.Reads.effortReached {s t : State} (h : s.Reads t) : t.EffortReached ↔ s.EffortReached := by
  obtain ⟨_, required, _, effort, valid, _⟩ := h.departure
  rw [State.EffortReached, State.EffortReached, required, effort, valid]

/-- R73: no reader sets a PINION_FAULT. -/
theorem State.Reads.fault {s t : State} (h : s.Reads t) (b : Bogie) {f : PinionFault}
    (k : (t.brm.bandOf b).fault = some f) : (s.brm.bandOf b).fault = some f := by
  rw [h.brakes.bands] at k
  split_ifs at k
  · exact k
  · unfold Band.reproved at k
    split_ifs at k
    exact k

theorem State.Steady.store {s : State} (h : s.Steady) :
    s.readersPass.lps = s.lps ∧ s.readersPass.ssu = s.ssu ∧ s.readersPass.tgh = s.tgh := by
  have l := s.readersPass_lps
  rwa [h.activation] at l

/-- R77: readers that leave the latch and the summary leave the conditions of the gate beside the level's. -/
theorem State.Reads.gateButLevel {s t : State} (r : s.Reads t) (latch : t.brm.latch = s.brm.latch)
    (summary : t.drc.summary = s.drc.summary) (ssu : t.ssu = s.ssu) (tgh : t.tgh = s.tgh)
    (g : s.GateButLevel) : t.GateButLevel := by
  obtain ⟨d, active, fresh⟩ := g.fresh
  refine ⟨⟨d, r.active.trans active, by rw [r.cab]; exact fresh⟩, by rw [r.selected]; exact g.direction,
    by rw [r.dka]; exact g.lock, by rw [summary]; exact g.doors, by rw [latch]; exact g.latch,
    by rw [ssu]; exact g.status, by rw [ssu, tgh]; exact g.mode, fun k => ?_, fun k => ?_⟩
  · exact g.faults.1 (r.fault .upper k)
  · exact g.faults.2 (r.fault .lower k)

theorem State.Steady.gateButLevel {s : State} (h : s.Steady) (g : s.GateButLevel) :
    s.readersPass.GateButLevel :=
  s.readersPass_reads.gateButLevel h.pass.2.2.2.1 h.pass.2.2.2.2 h.store.2.1 h.store.2.2 g

theorem State.Steady.gate {s : State} (h : s.Steady) (g : s.Gate) : s.readersPass.Gate := by
  refine ⟨h.gateButLevel g.others, ?_⟩
  rw [h.pass.2.2.1, s.readersPass_reads.departure.1]
  exact g.level

/-- R84: in a steady state a departure that is not to be abandoned is not abandoned after the readers. -/
theorem State.Steady.not_mustAbandon {s : State} (h : s.Steady) (k : ¬s.MustAbandon) :
    ¬s.readersPass.MustAbandon := by
  unfold State.MustAbandon at k ⊢
  rw [s.readersPass_reads.demand, h.pass.2.2.1]
  rw [not_or, not_or, not_not] at k ⊢
  exact ⟨k.1, h.gateButLevel k.2.1, k.2.2⟩

/-- A steady state whose departure the readers leave to stand is handed on with it. -/
structure State.Stays (s : State) : Prop where
  steady : s.Steady
  stands : (s.brm.departure = .idle ∧ s.demand = 0) ∨
    ((s.brm.departure = .pulling ∨ s.brm.departure = .stalled) ∧ ¬s.MustAbandon ∧ ¬s.EffortReached) ∨
    (s.brm.departure = .released ∧ s.odu.motion = .standstill ∧ 0 < s.demand ∧ s.Gate)

theorem State.Stays.departs {s : State} (h : s.Stays) : s.refreshDeparture = s := by
  have d := s.refreshDeparture_departs
  rcases h.stands with ⟨e, zero⟩ | ⟨e, must, reached⟩ | ⟨e, still, asked, gate⟩
  · exact d.idle e fun may => absurd may.2.1 (by omega)
  · exact d.pulls e must reached
  · exact d.lasts e ⟨still, asked, gate⟩

theorem State.Stays.pass {s : State} (h : s.Stays) : s.readersPass.Stays := by
  have r := s.readersPass_reads
  obtain ⟨departure, _, _, _, _, _⟩ := r.departure
  refine ⟨h.steady.pass.1, ?_⟩
  rw [departure, r.demand, r.effortReached, r.odu]
  exact h.stands.imp id (Or.imp (fun ⟨e, must, reached⟩ => ⟨e, h.steady.not_mustAbandon must, reached⟩)
    fun ⟨e, still, asked, gate⟩ => ⟨e, still, asked, h.steady.gate gate⟩)

/-- Two states have the rows, the level, the latch and the departure in common. -/
structure State.Agrees (s t : State) : Prop where
  rows : t.brm.rows = s.brm.rows
  level : t.brm.level = s.brm.level
  latch : t.brm.latch = s.brm.latch
  departure : t.brm.departure = s.brm.departure
  required : t.brm.required = s.brm.required
  stallTimer : t.brm.stallTimer = s.brm.stallTimer

theorem State.Agrees.trans {s t u : State} (h : s.Agrees t) (k : t.Agrees u) : s.Agrees u :=
  ⟨k.rows.trans h.rows, k.level.trans h.level, k.latch.trans h.latch, k.departure.trans h.departure,
    k.required.trans h.required, k.stallTimer.trans h.stallTimer⟩

theorem State.Steady.agrees {s : State} (h : s.Steady) : s.Agrees s.readersPass := by
  obtain ⟨_, rows, level, latch, _⟩ := h.pass
  obtain ⟨departure, required, stall, _⟩ := s.readersPass_reads.departure
  exact ⟨rows, level, latch, departure, required, stall⟩

theorem State.Stays.settle {s x : State} (h : s.Agrees x ∧ x.Stays) (n : Nat) :
    s.Agrees (x.settle n) ∧ (x.settle n).Stays := by
  refine State.settle_keeps (P := fun x => s.Agrees x ∧ x.Stays) (fun x ⟨agrees, stays⟩ => ?_) h n
  rw [State.settlePass, stays.pass.departs]
  exact ⟨agrees.trans stays.steady.agrees, stays.pass⟩

/-- An event that leaves a state whose departure stays ends with its rows, its level, its latch and its
departure. -/
theorem State.Stays.finish {s : State} (h : s.Stays) : s.Agrees s.finish := by
  obtain ⟨agrees, stays⟩ := State.Stays.settle ⟨⟨rfl, rfl, rfl, rfl, rfl, rfl⟩, h⟩ 6
  have read := agrees.trans stays.steady.agrees
  rw [State.finish_eq, State.read]
  generalize (s.settle (5 + 1)).readersPass = x at read
  exact ⟨by simpa using read.rows, by simpa using read.level, by simpa using read.latch,
    by simpa using read.departure, by simpa using read.required, by simpa using read.stallTimer⟩

end Sys2Proof.Machine
end

section
/-! Proofs of the obligations about the brake timers and the provings (4.3, 4.4, 4.7). -/

namespace Sys2Proof.Machine

theorem State.GateButLevel.congr {s t : State} (h : s.GateButLevel) (dka : t.dka = s.dka)
    (summary : t.drc.summary = s.drc.summary) (latch : t.brm.latch = s.brm.latch) (ssu : t.ssu = s.ssu)
    (tgh : t.tgh = s.tgh) (upper : t.brm.upper = s.brm.upper) (lower : t.brm.lower = s.brm.lower) :
    t.GateButLevel where
  fresh := by rw [dka]; exact h.fresh
  direction := by rw [dka]; exact h.direction
  lock := by rw [dka]; exact h.lock
  doors := summary.trans h.doors
  latch := latch.trans h.latch
  status := by rw [ssu]; exact h.status
  mode := by rw [ssu, tgh]; exact h.mode
  faults := by rw [upper, lower]; exact h.faults

theorem State.MustAbandon.congr {s t : State} (h : ¬s.MustAbandon) (dka : t.dka = s.dka)
    (summary : t.drc.summary = s.drc.summary) (latch : t.brm.latch = s.brm.latch) (ssu : t.ssu = s.ssu)
    (tgh : t.tgh = s.tgh) (upper : t.brm.upper = s.brm.upper) (lower : t.brm.lower = s.brm.lower)
    (level : t.brm.level = s.brm.level) : ¬t.MustAbandon := by
  unfold State.MustAbandon at h ⊢
  rw [State.demand_congr dka, level]
  rw [not_or, not_or, not_not] at h ⊢
  exact ⟨h.1, h.2.1.congr dka summary latch ssu tgh upper lower, h.2.2⟩

theorem State.GateButLevel.of_not_mustAbandon {s : State} (h : ¬s.MustAbandon) : s.GateButLevel := by
  by_contra k
  exact h (.inr (.inl k))

/-! ### The dead time -/

theorem State.takeWaiting_eq (s : State) :
    State.takeWaiting { s with brm := { s.brm with deadTimer := none } } = { s with brm :=
      if s.brm.loopForced then { s.brm with deadTimer := none }
      else match s.brm.waiting with
        | none => { s.brm with deadTimer := none }
        | some .apply => { s.brm with deadTimer := none, waiting := none, valve := .apply }
        | some .release => { s.brm with deadTimer := none, waiting := none, valve := .release } } := by
  unfold State.takeWaiting State.openValve
  cases forced : s.brm.loopForced <;> rcases s.brm.waiting with _ | _ | _ <;> simp [OpenValve.valve]

theorem exec_deadTimeExpiry {s : State} {d : Nat} (h : s.brm.deadTimer = some d) :
    exec .deadTimeExpiry s = .next (State.takeWaiting
      { s.advanceTo d with brm := { (s.advanceTo d).brm with deadTimer := none } }) := by
  change execDeadTimeExpiry s = _
  rw [execDeadTimeExpiry, h]

/-! ### T_hold and the stall timer -/

theorem exec_holdDelayExpiry {s : State} {d : Nat} (h : s.brm.holdTimer = some d) :
    exec .holdDelayExpiry s = .next (State.finish
      { s.advanceTo d with brm := { (s.advanceTo d).brm with holdTimer := none, holdElapsed := true } }) := by
  change execHoldDelayExpiry s = _
  rw [execHoldDelayExpiry, h]

theorem exec_stallTimerExpiry {s : State} {d : Nat} (h : s.brm.stallTimer = some d) :
    exec .stallTimerExpiry s = .next (State.finish (State.stall
      { s.advanceTo d with brm := { (s.advanceTo d).brm with stallTimer := none } })) := by
  change execStallTimerExpiry s = _
  rw [execStallTimerExpiry, h]

theorem State.Ends.active {u t : State} (h : u.Ends t) : t.dka.active = u.dka.active := by rw [h.1.dka]

/-- R84: what the stall timer's expiry makes of the state. -/
theorem State.stall_expired (s : State) (d : Nat) :
    State.stall { s.advanceTo d with brm := { (s.advanceTo d).brm with stallTimer := none } } =
      if s.brm.departure = .pulling then
        State.raise .departureStall { s.advanceTo d with brm :=
          { (s.advanceTo d).brm with stallTimer := none, departure := .stalled } }
      else { s.advanceTo d with brm := { (s.advanceTo d).brm with stallTimer := none } } := by
  have departure : (s.advanceTo d).brm.departure = s.brm.departure := by simp
  rw [← departure]
  rfl

/-- R84: a departure that stalls stays STALLED where nothing abandons or releases it. -/
theorem State.Settled.stays_stalled {s : State} (h : s.Settled) (activation : s.lps.pendingAct = none)
    (pulling : s.brm.departure = .pulling) (must : ¬s.MustAbandon) (reached : ¬s.EffortReached) (d : Nat) :
    State.Stays (State.raise .departureStall { s.advanceTo d with brm :=
      { (s.advanceTo d).brm with stallTimer := none, departure := .stalled } }) := by
  have steady := (h.steady activation (.inr (State.GateButLevel.of_not_mustAbandon must).doors)).advanceTo d
  refine ⟨steady.congr rfl rfl rfl rfl rfl rfl rfl rfl rfl rfl rfl ?_, .inr (.inl ⟨.inr rfl, ?_, ?_⟩)⟩
  · simp [State.holdRow, State.still, pulling]
  · exact State.MustAbandon.congr must (by simp) (by simp) (by simp) (by simp) (by simp) (by simp) (by simp)
      (by simp)
  · simpa [State.EffortReached] using reached

/-- Settles O25, timer by timer. -/
theorem brakeTimersExpire : Obligations.BrakeTimersExpire := by
  refine ⟨fun s => ⟨fun h => ?_, fun d h => ?_⟩, fun s => ⟨fun h => ?_, fun d h => ?_, fun h => ?_,
    fun d h => ?_⟩⟩
  · change execDeadTimeExpiry s = _
    rw [execDeadTimeExpiry, h]
  · have forced : (s.advanceTo d).brm.loopForced = s.brm.loopForced := by simp
    have waiting : (s.advanceTo d).brm.waiting = s.brm.waiting := by simp
    rw [exec_deadTimeExpiry h, State.takeWaiting_eq, forced, waiting] <;> rfl
  · change execHoldDelayExpiry s = _
    rw [execHoldDelayExpiry, h]
  · obtain ⟨t, out, ends⟩ := exec_ends (exec_holdDelayExpiry h)
    have elapsed : t.brm.holdElapsed = true := ends.inputs.2.2.2.2.2.2.1
    refine ⟨t, out, ends, ends.inputs.2.2.2.2.2.2.2.1, elapsed, ?_⟩
    rw [ends.rowsTrue.hold, ends.active, ends.1.odu]
    simp [elapsed]
  · change execStallTimerExpiry s = _
    rw [execStallTimerExpiry, h]
  · have expired := State.stall_expired s d
    refine ⟨_, exec_stallTimerExpiry h, ?_, fun settled activation pulling must reached => ?_⟩
    · rw [← expired]
      exact State.finish_ends _
    · rw [expired, if_pos pulling]
      have stays := (settled.stays_stalled activation pulling must reached d).finish
      exact ⟨stays.departure, stays.stallTimer, (State.finish_ends _).has (State.raise_has _ _)⟩

end Sys2Proof.Machine
end

section
/-! Proofs of the obligation about pressure proving and the band brakes (4.3, 4.4). -/

namespace Sys2Proof.Machine

/-! ### What the brake manager leaves of an event that moves no row -/

theorem State.brakePass_proving {s : State} (h : s.brm.proveSeen = s.brm.proveInputs) :
    s.brakePass.brm.proving = s.brm.proving ∧ s.brakePass.brm.proveTimer = s.brm.proveTimer := by
  have seen : s.refreshPinion.refreshHolding.brm.proveSeen = s.refreshPinion.refreshHolding.brm.proveInputs := by
    rw [Brm.proveInputs_congr (b := s.brm) (by simp) (by simp) (by simp) (by simp)]
    simpa using h
  rw [State.brakePass, State.refreshProving_kept seen]
  simp

/-- The release outputs agree with the level, so that no pass of an event that keeps the level changes them. -/
structure State.OutputsAgree (s : State) : Prop where
  pinion : s.brm.pinion = s.pinionCommand
  energised : s.brm.energised = (decide (s.brm.pinion = .released) && !s.brm.loopForced)

theorem State.OutputsAgree.brakePass {s : State} (h : s.OutputsAgree) :
    s.brakePass.brm.energised = s.brm.energised ∧ s.brakePass.brm.upper = s.brm.upper ∧
      s.brakePass.brm.lower = s.brm.lower := by
  rw [State.brakePass, State.refreshPinion_kept h.pinion h.energised]
  simp

theorem State.OutputsAgree.congr {s t : State} (h : s.OutputsAgree) (odu : t.odu = s.odu)
    (active : t.dka.active = s.dka.active) (level : t.brm.level = s.brm.level)
    (fault : t.brm.frictionFault = s.brm.frictionFault) (pinion : t.brm.pinion = s.brm.pinion)
    (energised : t.brm.energised = s.brm.energised) (forced : t.brm.loopForced = s.brm.loopForced) :
    t.OutputsAgree where
  pinion := by
    have same : t.pinionCommand = s.pinionCommand := by
      simp [State.pinionCommand, State.still, odu, active, level, fault]
    rw [pinion, same, h.pinion]
  energised := by rw [energised, pinion, forced]; exact h.energised

theorem State.Quiet.outputsAgree {s : State} (h : s.Quiet) : s.OutputsAgree :=
  ⟨h.settled.pinion, h.settled.energised⟩

theorem Brm.bandOf_congr {a b : Brm} (upper : a.upper = b.upper) (lower : a.lower = b.lower) (i : Bogie) :
    a.bandOf i = b.bandOf i := by
  cases i
  exacts [upper, lower]

/-- The outputs and the band brakes at the end of an event that leaves a calm state. -/
theorem State.Calm.outputs {s : State} (h : s.Calm) (k : s.OutputsAgree) :
    s.finish.brm.energised = s.brm.energised ∧ ∀ i, s.finish.brm.bandOf i = s.brm.bandOf i := by
  have orphaned : s.refreshOrphan.OutputsAgree :=
    k.congr (by simp) (by rw [State.refreshOrphan_eq]) (by simp) (by simp) (by simp) (by simp) (by simp)
  obtain ⟨energised, upper, lower⟩ := orphaned.brakePass
  rw [h.finish]
  exact ⟨by simpa using energised, Brm.bandOf_congr (by simpa using upper) (by simpa using lower)⟩

theorem State.Calm.proveTimer {s : State} (h : s.Calm) (k : s.brm.proveSeen = s.brm.proveInputs) :
    s.finish.brm.proveTimer = s.brm.proveTimer := by
  have orphaned : s.refreshOrphan.brm.proveSeen = s.refreshOrphan.brm.proveInputs := by simpa using k
  rw [h.finish]
  simpa using (State.brakePass_proving orphaned).2

/-! ### Pressure proving -/

theorem exec_frictionProveExpiry {s : State} {d : Nat} (h : s.brm.proveTimer = some d) :
    exec .frictionProveExpiry s = .next (State.finish (State.raise .brake
      { s.advanceTo d with brm := { (s.advanceTo d).brm with proveTimer := none, frictionFault := true } })) := by
  change execFrictionProveExpiry s = _
  rw [execFrictionProveExpiry, h]

theorem State.Quiet.proveTimer {s : State} (h : s.Quiet) (d : Nat) :
    (State.finish (State.raise .brake { s.advanceTo d with brm :=
      { (s.advanceTo d).brm with proveTimer := none, frictionFault := true } })).brm.proveTimer = none := by
  refine State.Calm.proveTimer ((h.calm.advanceTo d).congr rfl rfl rfl rfl rfl rfl rfl rfl rfl rfl rfl rfl rfl)
    ?_
  rw [Brm.proveInputs_congr (b := s.brm) (by simp) (by simp) (by simp) (by simp)]
  simpa using h.settled.proving

/-! ### The band brakes -/

theorem exec_pinionProveExpiry {s : State} {b : Bogie} {d : Nat} (h : (s.brm.bandOf b).prove = some d) :
    exec (.pinionProveExpiry b) s = .next ((s.advanceTo d).pinionFails b).finish := by
  change execPinionProveExpiry b s = _
  rw [execPinionProveExpiry, h]

theorem State.advanceTo_band (s : State) (d : Nat) (b : Bogie) :
    (s.advanceTo d).brm.bandOf b = s.brm.bandOf b := Brm.bandOf_congr (by simp) (by simp) b

theorem Brm.bandOf_setBand (a : Brm) (b : Bogie) (v : Band) : (a.setBand b v).bandOf b = v := by
  cases b <;> rfl

/-- R73: what the expiry of a band brake's proving makes of the state. -/
theorem State.pinionFails_eq (s : State) (b : Bogie) : s.pinionFails b = State.raise .brake
    (if s.brm.energised then
      { s with brm := s.brm.setBand b { s.brm.bandOf b with prove := none, fault := some .failRelease } }
    else { s with brm :=
      { s.brm.setBand b { s.brm.bandOf b with prove := none, fault := some .failApply } with
        latch := some (s.brm.latch.getD .pinionApply) } }) := by
  unfold State.pinionFails State.setLatch
  cases energised : s.brm.energised with
  | true => rfl
  | false =>
    have latch : ∀ v, (s.brm.setBand b v).latch = s.brm.latch := by intro v; cases b <;> rfl
    simp only [pinionFault, Bool.false_eq_true, if_false, State.raise_brm, latch]
    cases h : s.brm.latch with
    | none =>
      simp [State.raise, PortState.raise, BitVec.or_assoc]
    | some c => cases b <;> simp [Brm.setBand, h]

/-- R65, R72: an event that leaves the latch set keeps its outputs off, and its band brakes. -/
theorem State.Ends.bands_latched {u t : State} (h : u.Ends t) {c : LatchCause} (latch : u.brm.latch = some c)
    (off : u.brm.energised = false) (b : Bogie) : t.brm.bandOf b = u.brm.bandOf b := by
  have kept := h.2.2.keeps
    (P := fun x => x.brm.latch = some c ∧ x.brm.energised = false ∧ x.brm.bandOf b = u.brm.bandOf b)
    (fun x y read ⟨set, dark, band⟩ => ?_) (fun x d r z p => ⟨p.1, p.2.1, by cases b <;> exact p.2.2⟩)
    (fun x w p => ⟨p.1, p.2.1, by cases b <;> exact p.2.2⟩) ⟨latch, off, rfl⟩
  · exact kept.2.2
  · have set' : y.brm.latch = some c := by rw [read.levels.latch, set]; rfl
    have pinion : y.brm.pinion = .applied :=
      read.brakes.pinion.2 (.inl (read.levels.latched (by rw [set']; nofun)))
    have dark' : y.brm.energised = false := by
      rw [← Bool.not_eq_true, read.brakes.outputs, pinion]
      nofun
    refine ⟨set', dark', ?_⟩
    rw [read.brakes.bands, if_pos (dark'.trans dark.symm), band]

/-- R73: an expiry of a band brake's proving, with what it makes of the state before the event ends. -/
theorem State.pinionFails_spec (s : State) (b : Bogie) (d : Nat) :
    let x := s.advanceTo d
    let v (f : PinionFault) : Band := { s.brm.bandOf b with prove := none, fault := some f }
    x.pinionFails b = State.raise .brake
      (if s.brm.energised then { x with brm := x.brm.setBand b (v .failRelease) }
        else { x with brm := { x.brm.setBand b (v .failApply) with
          latch := some (s.brm.latch.getD .pinionApply) } }) := by
  intro x v
  have energised : x.brm.energised = s.brm.energised := by simp [x]
  have latch : x.brm.latch = s.brm.latch := by simp [x]
  rw [State.pinionFails_eq, energised, latch, State.advanceTo_band]

theorem State.Quiet.failRelease {s : State} (h : s.Quiet) (b : Bogie) (d : Nat) (v : Band) :
    (State.finish (State.raise .brake
      { s.advanceTo d with brm := (s.advanceTo d).brm.setBand b v })).brm.bandOf b = v := by
  have calm : State.Calm (State.raise .brake { s.advanceTo d with brm := (s.advanceTo d).brm.setBand b v }) :=
    (h.calm.advanceTo d).congr rfl rfl rfl rfl rfl rfl rfl (by cases b <;> rfl) (by cases b <;> rfl)
      (by cases b <;> rfl) (by cases b <;> rfl) (by cases b <;> rfl) (by cases b <;> rfl)
  rw [(calm.outputs (h.outputsAgree.congr (by simp) (by simp) ?_ ?_ ?_ ?_ ?_)).2 b]
  · exact Brm.bandOf_setBand _ b v
  all_goals cases b <;> simp [Brm.setBand]

/-! ### The applied switches -/

/-- R73: what a change of an applied switch makes of the state. -/
theorem State.setApplied_reprove (s : State) (b : Bogie) (applied : Bool) :
    (s.setApplied b applied).reprove b =
      let v := s.brm.bandOf b
      if applied = s.brm.energised then
        { s with brm := s.brm.setBand b { v with
            applied := applied, prove := some (s.now + s.par .tPprove * 1000) } }
      else if v.fault = none then
        { s with brm := s.brm.setBand b { v with applied := applied, prove := none } }
      else State.raise .brake
        { s with brm := s.brm.setBand b { v with applied := applied, prove := none, fault := none } } := by
  dsimp only
  unfold State.reprove State.setApplied
  dsimp only
  rw [Brm.bandOf_setBand]
  have energised : (s.brm.setBand b { s.brm.bandOf b with applied := applied }).energised = s.brm.energised := by
    cases b <;> rfl
  have twice : ∀ v w : Band, (s.brm.setBand b v).setBand b w = s.brm.setBand b w := by
    intro v w; cases b <;> rfl
  simp only [energised, twice, Band.disagrees, beq_iff_eq]
  split_ifs with same free
  · rfl
  · simp only [free, Option.isSome_none]
    rfl
  · rw [Option.isSome_iff_ne_none.2 free]
    rfl

theorem exec_appliedSwitchChange {s : State} {b : Bogie} {applied : Bool}
    (h : (s.brm.bandOf b).applied ≠ applied) :
    exec (.appliedSwitchChange b applied) s = .next ((s.setApplied b applied).reprove b).finish := if_neg h

/-- In a quiet state a band brake that changes leaves the outputs, and stands as it was left. -/
theorem State.Quiet.band {s u : State} (h : s.Quiet) (b : Bogie) (v : Band)
    (e : u = { s with brm := s.brm.setBand b v, pif := u.pif }) :
    u.finish.brm.energised = s.brm.energised ∧ u.finish.brm.bandOf b = v := by
  have calm : u.Calm := by
    rw [e]
    exact h.calm.congr rfl rfl rfl rfl rfl rfl rfl (by cases b <;> rfl) (by cases b <;> rfl)
      (by cases b <;> rfl) (by cases b <;> rfl) (by cases b <;> rfl) (by cases b <;> rfl)
  have agree : u.OutputsAgree := by
    rw [e]
    exact h.outputsAgree.congr rfl rfl (by cases b <;> rfl) (by cases b <;> rfl) (by cases b <;> rfl)
      (by cases b <;> rfl) (by cases b <;> rfl)
  have brm : u.brm = s.brm.setBand b v := by rw [e]
  obtain ⟨energised, bands⟩ := calm.outputs agree
  rw [energised, bands, brm, Brm.bandOf_setBand]
  exact ⟨by cases b <;> rfl, rfl⟩

/-- A command that makes `u` of the state and hands it on, with the state that the event ends in. -/
theorem exec_ends_finish {c : Instr} {s u : State} (h : exec c s = .next u.finish) :
    ∃ t, exec c s = .next t ∧ u.Ends t ∧ t = u.finish := ⟨_, h, u.finish_ends, rfl⟩

/-- Settles O26, by the expiries and the switch. -/
theorem provingSetsAndClearsItsFaults : Obligations.ProvingSetsAndClearsItsFaults := by
  refine ⟨fun s b => ⟨fun h => ?_, fun d h => ?_, fun h => ?_, fun d h => ?_⟩, fun s b applied => ?_⟩
  · change execFrictionProveExpiry s = _
    rw [execFrictionProveExpiry, h]
  · refine ⟨_, exec_frictionProveExpiry h, State.finish_ends _, (State.finish_ends _).inputs.2.2.1,
      (State.finish_ends _).has (State.raise_has _ _), fun quiet => quiet.proveTimer d⟩
  · change execPinionProveExpiry b s = _
    rw [execPinionProveExpiry, h]
  · intro x v
    have spec := State.pinionFails_spec s b d
    obtain ⟨t, out, ends, made⟩ := exec_ends_finish (exec_pinionProveExpiry h)
    rw [spec] at ends made
    refine ⟨t, out, ends, ends.has (State.raise_has _ _), fun off => ?_, fun on quiet => ?_⟩
    · rw [if_neg (by simp [off])] at ends
      have latch := ends.latch_kept (c := s.brm.latch.getD .pinionApply) rfl
      refine ⟨?_, ends.level_latched (by rw [latch]; nofun), latch⟩
      rw [ends.bands_latched rfl (by cases b <;> simpa [Brm.setBand, x] using off)]
      exact Brm.bandOf_setBand _ b _
    · rw [if_pos on] at made
      rw [made]
      exact quiet.failRelease b d _
  · intro v
    refine ⟨fun h => if_pos h, fun h => ?_⟩
    obtain ⟨t, out, ends, made⟩ := exec_ends_finish (exec_appliedSwitchChange h)
    rw [State.setApplied_reprove] at ends made
    refine ⟨t, out, ends, fun quiet => ?_, fun fault apart => ?_⟩
    · dsimp only at made
      by_cases same : applied = s.brm.energised
      · rw [if_pos same] at made ⊢
        rw [made]
        exact quiet.band b _ rfl
      · rw [if_neg same] at made ⊢
        by_cases free : v.fault = none
        · rw [if_pos free] at made
          rw [made, ← free]
          exact quiet.band b { v with applied := applied, prove := none } rfl
        · rw [if_neg free] at made
          rw [made]
          exact quiet.band b { v with applied := applied, prove := none, fault := none } rfl
    · dsimp only at ends
      rw [if_neg apart, if_neg fault] at ends
      exact ends.has (State.raise_has _ _)

end Sys2Proof.Machine
end

section
/-! BRAKE_RESET (R66): what it answers, and the latch that it leaves. -/

namespace Sys2Proof.Machine

/-! ### A state in which nothing stands at EMERGENCY -/

/-- No row of the table is, or is about to be, at EMERGENCY while the car stands. -/
structure State.Unalarmed (s : State) : Prop where
  cab : s.dka.cabRow.level ≠ .emergency
  overrun : s.ssu.overrun = false
  status : s.ssu.status ≠ .emergency
  still : s.still = true
  calls : s.called .emergency = false
  sense : s.brm.senseOpen = false

theorem State.takePending_reads (s : State) :
    s.takePending.ssu.overrun = s.ssu.overrun ∧ s.takePending.ssu.status = s.ssu.status ∧
      s.takePending.tgh.calls = s.tgh.calls ∧ s.takePending.tgh.wholeLine = s.tgh.wholeLine ∧
      s.takePending.tgh.link = s.tgh.link := by
  unfold State.takePending State.switchOver State.compareOutdated State.flush State.raiseIf
  (repeat' split) <;> exact ⟨rfl, rfl, rfl, rfl, rfl⟩

/-- With a settled state whose car stands, no row is at EMERGENCY after a pass. -/
theorem State.Unalarmed.rows {s : State} (h : s.Unalarmed) (w : s.RowsWritten)
    (hold : s.brm.rows.hold = s.holdRow) (i : RowId) : (s.brm.rows.get i).level ≠ .emergency := by
  cases i with
  | cab => simpa only [Rows.get, w.cab] using h.cab
  | supervision =>
    simp only [Rows.get, w.supervision, State.supervisionRow, h.overrun]
    cases e : s.ssu.status <;> simp [Row.at, Row.clear]
    exact absurd e h.status
  | doors =>
    simp only [Rows.get, w.doors, State.doorsRow, h.still]
    split_ifs <;> simp [Row.at, Row.clear]
  | radio =>
    simp only [Rows.get, w.radio, State.radioRow, h.calls]
    split_ifs <;> simp_all [Row.at, Row.clear]
  | odometry => simp [Rows.get, w.odometry, State.odometryRow, h.still, Row.clear]
  | loop => simp [Rows.get, w.loop, State.loopRow, h.sense, Row.clear]
  | hold => exact Row.hold_level hold

theorem State.Unalarmed.congr {s t : State} (h : s.Unalarmed) (dka : t.dka.rest = s.dka.rest)
    (overrun : t.ssu.overrun = s.ssu.overrun) (status : t.ssu.status = s.ssu.status) (odu : t.odu = s.odu)
    (calls : t.tgh.calls = s.tgh.calls) (wholeLine : t.tgh.wholeLine = s.tgh.wholeLine) (pst : t.pst = s.pst)
    (sense : t.brm.senseOpen = s.brm.senseOpen) : t.Unalarmed where
  cab := by rw [Dka.cabRow_congr dka]; exact h.cab
  overrun := overrun.trans h.overrun
  status := by rw [status]; exact h.status
  still := by rw [State.still, odu]; exact h.still
  calls := by
    rw [State.called, State.callMeets_congr odu pst, calls, wholeLine]
    exact h.calls
  sense := sense.trans h.sense

theorem State.Unalarmed.readersPass {s : State} (h : s.Unalarmed) : s.readersPass.Unalarmed := by
  have f := s.readersPass_follows
  obtain ⟨lps, ssu, tgh⟩ := s.readersPass_lps
  obtain ⟨overrun, status, calls, wholeLine, _⟩ := s.takePending_reads
  have inputs := f.brm
  simp only [Brm.inputs, Prod.mk.injEq] at inputs
  obtain ⟨_, _, _, _, _, _, _, sense, _⟩ := inputs
  exact h.congr f.dka (by rw [ssu]; exact overrun) (by rw [ssu]; exact status) f.odu
    (by rw [tgh]; exact calls) (by rw [tgh]; exact wholeLine) f.pst sense

/-- R65: no pass of an unalarmed state sets the latch. -/
theorem State.Unalarmed.latch {s : State} (h : s.Unalarmed) (clear : s.brm.latch = none) :
    s.readersPass.brm.latch = none := by
  have rows := h.readersPass.rows s.readersPass_settled.rows s.readersPass_hold
  rw [s.readersPass_levels.latch, clear]
  have found : rowOrder.find? (fun r => decide ((s.readersPass.brm.rows.get r).level = .emergency ∧
      (s.brm.rows.get r).level ≠ .emergency)) = none := by
    rw [List.find?_eq_none]
    intro r _
    simp [rows r]
  rw [found]
  rfl

theorem State.Unalarmed.departure {s : State} (h : s.Unalarmed) : s.refreshDeparture.Unalarmed :=
  h.congr (by simp) (by simp) (by simp) (by simp) (by simp) (by simp) (by simp) (by simp)

/-- R65: the end of an event that leaves an unalarmed state does not set the latch. -/
theorem State.Unalarmed.finish {s : State} (h : s.Unalarmed) (clear : s.brm.latch = none) :
    s.finish.brm.latch = none := by
  have settled : (s.settle 6).Unalarmed ∧ (s.settle 6).brm.latch = none := by
    refine State.settle_keeps (P := fun x => x.Unalarmed ∧ x.brm.latch = none) (fun x ⟨k, l⟩ => ?_)
      ⟨h, clear⟩ 6
    exact ⟨k.readersPass.departure, by simpa [State.settlePass] using k.latch l⟩
  have read := settled.1.latch settled.2
  rw [State.finish_eq, State.read]
  simpa using read

/-- R66: a settled state whose car stands, in which no row is at EMERGENCY, is unalarmed. -/
theorem State.Settled.unalarmed {s : State} (h : s.Settled) (still : s.still = true)
    (rows : ∀ i, (s.brm.rows.get i).level ≠ .emergency) (sense : s.brm.senseOpen = false) : s.Unalarmed where
  cab := h.cab ▸ rows .cab
  overrun := by
    by_contra k
    rw [Bool.not_eq_false] at k
    have row := rows .supervision
    simp [Rows.get, h.supervision, State.supervisionRow, k, Row.at] at row
  status := by
    intro k
    have row := rows .supervision
    simp only [Rows.get, h.supervision, State.supervisionRow, k, Row.at] at row
    split_ifs at row <;> exact row rfl
  still := still
  calls := by
    by_contra k
    rw [Bool.not_eq_false] at k
    have row := rows .radio
    simp [Rows.get, h.radio, State.radioRow, k, Row.at] at row
  sense := sense

/-! ### The answers, by the conditions of R66 in their order -/

theorem exec_brakeReset (p : Port) (s : State) :
    exec (.brakeReset p) s = .next (s.serve .brakeReset p 0#16 0#16) := rfl

/-- R66: what stands against a reset of the latch. -/
def State.ResetBlocked (s : State) : Prop :=
  (∃ i, (s.brm.rows.get i).level = .emergency) ∨ s.brm.senseOpen = true ∨
    s.brm.upper.fault = some .failApply ∨ s.brm.lower.fault = some .failApply

theorem State.resetBlocked_iff (s : State) :
    (s.brm.rows.anyEmergency || s.brm.senseOpen || s.brm.upper.fault == some .failApply ||
      s.brm.lower.fault == some .failApply) = true ↔ s.ResetBlocked := by
  simp only [Bool.or_eq_true, Rows.anyEmergency_iff, beq_iff_eq, State.ResetBlocked, or_assoc]

/-- What an accepted BRAKE_RESET makes of the state. -/
def State.latchReset (s : State) : State :=
  if s.brm.latch = none then s
  else State.raise .brake { s with brm := { s.brm with latch := none, loopForced := false } }

section
variable {s : State} {p : Port}

theorem State.requestBrakeReset_inactive (h : s.isActivePort p = false) :
    s.requestBrakeReset p = s.refuse .notActiveDesk := by
  simp [State.requestBrakeReset, h]

theorem State.requestBrakeReset_moving (h : s.isActivePort p = true) (moving : s.still = false) :
    s.requestBrakeReset p = s.refuse .moving := by
  simp [State.requestBrakeReset, h, moving]

theorem State.requestBrakeReset_blocked (h : s.isActivePort p = true) (still : s.still = true)
    (blocked : s.ResetBlocked) : s.requestBrakeReset p = s.refuse .conditions := by
  have b := s.resetBlocked_iff.2 blocked
  rw [State.requestBrakeReset, h, still, if_neg (by decide), if_neg (by decide), if_pos b]

theorem State.requestBrakeReset_accepted (h : s.isActivePort p = true) (still : s.still = true)
    (free : ¬s.ResetBlocked) : s.requestBrakeReset p = s.latchReset.accept := by
  have b := mt s.resetBlocked_iff.1 free
  rw [State.requestBrakeReset, h, still, if_neg (by decide), if_neg (by decide), if_neg b, State.latchReset]
  by_cases latch : s.brm.latch = none
  · simp [latch]
  · simp [latch]

end

@[simp] theorem State.place_still (s : State) (p : Port) (k : ReqKind) (a b : Word) :
    (s.place p k a b).still = s.still := by simp [State.still]

theorem State.place_resetBlocked (s : State) (p : Port) (k : ReqKind) (a b : Word) :
    (s.place p k a b).ResetBlocked ↔ s.ResetBlocked := by simp [State.ResetBlocked]

theorem State.place_active {s : State} {p : Port} (k : ReqKind) (a b : Word) (desk : p ≠ .c)
    (active : s.dka.active = portDesk p) : (s.place p k a b).isActivePort p = true :=
  State.isActivePort_of_active desk (by rwa [State.place_dka])

theorem State.place_inactive {s : State} {p : Port} (k : ReqKind) (a b : Word)
    (active : s.dka.active ≠ portDesk p) : (s.place p k a b).isActivePort p = false :=
  State.not_isActivePort_of_active_ne (by rwa [State.place_dka])

theorem State.place_latchReset (s : State) (p : Port) (k : ReqKind) (a b : Word) :
    (s.place p k a b).latchReset = if s.brm.latch = none then s.place p k a b
      else State.raise .brake
        { s.place p k a b with brm := { s.brm with latch := none, loopForced := false } } := by
  have brm : (s.place p k a b).brm = s.brm := by simp
  rw [State.latchReset, brm]

theorem State.latchReset_latch (s : State) : s.latchReset.brm.latch = none := by
  unfold State.latchReset
  split_ifs with h
  exacts [h, rfl]

/-- R66: a settled state that may be reset is unalarmed once it is. -/
theorem State.Settled.latchReset_unalarmed {s : State} (h : s.Settled) (stands : s.odu.motion = .standstill)
    (free : ¬s.ResetBlocked) (p : Port) (k : ReqKind) (a b : Word) :
    (s.place p k a b).latchReset.Unalarmed := by
  rw [State.ResetBlocked, not_or, not_or] at free
  have unalarmed := h.unalarmed (s.still_iff.2 stands) (fun i e => free.1 ⟨i, e⟩) (by simpa using free.2.1)
  unfold State.latchReset
  split_ifs
  · exact unalarmed.congr (by simp) (by simp) (by simp) (by simp) (by simp) (by simp) (by simp) (by simp)
  · exact unalarmed.congr (by simp) (by simp) (by simp) (by simp) (by simp) (by simp) (by simp) (by simp)

/-- What the owner accepts, with the state that its event ends in. -/
theorem State.serve_finish {s u : State} {k : ReqKind} {p : Port} {a b : Word} {x : Answer}
    (permits : k.permits p = true) (owner : (s.place p k a b).answer k p a b = x.finished)
    (h : x = u.accept) : s.serve k p a b = u.finish.writeResult p k.code .accepted none := by
  rw [h, State.accept_finished] at owner
  simp only [State.serve, permits, if_true, owner, State.accept]

/-- Settles O23: the answers of BRAKE_RESET by the conditions of R66 in their order, and the latch that an
unalarmed state keeps clear. -/
theorem brakeResetClearsTheLatch : Obligations.BrakeResetClearsTheLatch := by
  intro s p c blocked mine still
  have refused {r : ResultCode} (desk : p ≠ .c) (code : r ≠ .accepted)
      (h : (s.place p .brakeReset 0#16 0#16).requestBrakeReset p =
        (s.place p .brakeReset 0#16 0#16).refuse r) :
      exec c s = .next (s.writeResult p 7 r none) := by
    rw [exec_brakeReset, State.serve_refused_finished (ReqKind.permits_desk rfl desk) code rfl h]
    rfl
  refine ⟨?_, fun desk other => ?_, fun ⟨desk, active⟩ moving => ?_, fun ⟨desk, active⟩ stands b => ?_,
    fun ⟨desk, active⟩ stands free => ?_⟩
  · rintro rfl
    rw [exec_brakeReset, State.serve_not_permitted _ _ (ReqKind.permits_of_fromDesk rfl .c)]
    rfl
  · exact refused desk (by decide) (State.requestBrakeReset_inactive (State.place_inactive _ _ _ other))
  · refine refused desk (by decide) (State.requestBrakeReset_moving (State.place_active _ _ _ desk active) ?_)
    rw [State.place_still, ← Bool.not_eq_true, State.still_iff]
    exact moving
  · refine refused desk (by decide) (State.requestBrakeReset_blocked (State.place_active _ _ _ desk active) ?_ ?_)
    · rw [State.place_still, State.still_iff]; exact stands
    · rw [State.place_resetBlocked]; exact b
  · have answer := State.requestBrakeReset_accepted (State.place_active .brakeReset 0#16 0#16 desk active)
      (by rw [State.place_still, State.still_iff]; exact stands)
      (by rw [State.place_resetBlocked]; exact free)
    have written := State.serve_finish (s := s) (k := .brakeReset) (a := 0#16) (b := 0#16) (ReqKind.permits_desk rfl desk) rfl answer
    have ends := State.finish_ends (s.place p .brakeReset 0#16 0#16).latchReset
    have made : ∀ x, x = (s.place p .brakeReset 0#16 0#16).latchReset.finish → s.Settled → x.brm.latch = none := by
      intro x e settled
      rw [e]
      exact (settled.latchReset_unalarmed stands free p _ _ _).finish (State.latchReset_latch _)
    generalize (s.place p .brakeReset 0#16 0#16).latchReset.finish = x at written ends made
    have brm : (s.serve .brakeReset p 0#16 0#16).brm = x.brm := by rw [written]; simp
    rw [State.place_latchReset] at ends
    refine ⟨_, exec_brakeReset p s, ⟨x, ends, written⟩, fun latched => ?_, fun settled => ?_⟩
    · rw [if_neg latched] at ends
      rw [brm]
      exact ends.inputs.2.2.2.2.2.1
    · have clear := made x rfl settled
      have levels := x.brm.rows.highest_spec
      have level : x.brm.level = x.brm.rows.highest := by
        rw [ends.2.1.level, Brm.effective, clear]
        rfl
      rw [brm, level]
      exact ⟨clear, levels⟩

end Sys2Proof.Machine
end

section
/-! The end of a pressure gate (R67 to R71): the measurement, the target, the findings and the valves. -/

namespace Sys2Proof.Machine

/-! ### The stages of a gate end -/

/-- What a gate end makes of the state before the event ends; `n` is the gate timer's next expiry. -/
def State.gated (s : State) (n : Nat) : State :=
  (State.measure { s with brm := { s.brm with gateTimer := n } }).retarget.clearFriction.testProving

theorem exec_pressureGateEnd (s : State) : exec .pressureGateEnd s =
    .next ((s.advanceTo s.brm.gateTimer).gated (s.brm.gateTimer + 100000)).finish := rfl

theorem State.measure_brm (s : State) : s.measure.brm = { s.brm with
    measured := pressureOf s.brm.pulses, sensorFault := (pressureOf s.brm.pulses).isNone, pulses := 0 } := by
  simp [State.measure]

theorem State.takeChoice_brm (s : State) : s.takeChoice.brm = { s.brm with
    valve := s.takeChoice.brm.valve, lastOpen := s.takeChoice.brm.lastOpen
    waiting := s.takeChoice.brm.waiting, deadTimer := s.takeChoice.brm.deadTimer } := by
  unfold State.takeChoice State.chooseOpen State.toLap State.openValve
  dsimp only
  split
  · rfl
  · split <;> rfl
  all_goals
    split_ifs
    · rfl
    · rfl
    · rfl
    · split <;> rfl

theorem State.retarget_brm (s : State) : s.retarget.brm = { s.brm with
    target := s.targetFor s.brm.level, valve := s.retarget.brm.valve, lastOpen := s.retarget.brm.lastOpen
    waiting := s.retarget.brm.waiting, deadTimer := s.retarget.brm.deadTimer } :=
  State.takeChoice_brm _

theorem State.clearFriction_eq (s : State) : s.clearFriction =
    State.raiseIf (s.brm.frictionFault && s.provedAtGate) .brake
      { s with brm := { s.brm with frictionFault := s.brm.frictionFault && !s.provedAtGate } } := by
  unfold State.clearFriction
  by_cases cleared : (s.brm.frictionFault && s.provedAtGate) = true
  · rw [if_pos cleared, cleared]
    simp only [Bool.and_eq_true] at cleared
    rw [cleared.2, Bool.not_true, Bool.and_false]
    rfl
  · have kept : (s.brm.frictionFault && !s.provedAtGate) = s.brm.frictionFault := by
      revert cleared
      cases s.brm.frictionFault <;> cases s.provedAtGate <;> decide
    rw [if_neg cleared, kept, Bool.eq_false_iff.2 cleared]
    rfl

/-- A gate end up to the target and the valve choice. -/
def State.aimed (s : State) (n : Nat) : State :=
  (State.measure { s with brm := { s.brm with gateTimer := n } }).retarget

theorem State.aimed_brm (s : State) (n : Nat) :
    (s.aimed n).brm = { s.brm with
      gateTimer := n, pulses := 0, measured := pressureOf s.brm.pulses
      sensorFault := (pressureOf s.brm.pulses).isNone, target := s.pressureAt s.brm.level
      valve := (s.aimed n).brm.valve, lastOpen := (s.aimed n).brm.lastOpen
      waiting := (s.aimed n).brm.waiting, deadTimer := (s.aimed n).brm.deadTimer } ∧
      (s.aimed n).par = s.par ∧ (s.aimed n).now = s.now := by
  refine ⟨?_, funext fun p => State.par_congr (by simp [State.aimed]) p, by simp [State.aimed]⟩
  have target : (State.measure { s with brm := { s.brm with gateTimer := n } }).targetFor s.brm.level =
      s.pressureAt s.brm.level := by
    rw [State.pressureAt_eq]
    exact State.targetFor_congr (by simp [State.measure]) (by simp) _
  have brm := (State.measure { s with brm := { s.brm with gateTimer := n } }).retarget_brm
  rw [State.measure_brm] at brm
  dsimp only at brm
  rw [target] at brm
  exact brm

/-- R71: the target is reached at a gate end. -/
theorem State.aimed_provedAtGate (s : State) (n : Nat) {target : Nat}
    (aims : target = s.pressureAt s.brm.level) :
    (s.aimed n).provedAtGate = (decide (s.par .pHold ≤ target) &&
      (pressureOf s.brm.pulses).any fun k => decide (target ≤ k + s.par .band)) := by
  obtain ⟨brm, par, _⟩ := s.aimed_brm n
  rw [State.provedAtGate, brm, par, aims]
  cases pressureOf s.brm.pulses <;> rfl

/-- R67, R71: the brake manager after a gate end, but for the valves. -/
theorem State.gated_brm (s : State) (n : Nat) (target : Nat) (friction proving : Bool)
    (aims : target = s.pressureAt s.brm.level)
    (clears : friction = (s.brm.frictionFault && !(decide (s.par .pHold ≤ target) &&
      (pressureOf s.brm.pulses).any fun k => decide (target ≤ k + s.par .band))))
    (proves : proving = (decide (s.par .pHold ≤ target) && !s.brm.loopForced &&
      (pressureOf s.brm.pulses).all fun k => decide (k + s.par .band < target))) :
    (s.gated n).brm = { s.brm with
      gateTimer := n, pulses := 0, measured := pressureOf s.brm.pulses
      sensorFault := (pressureOf s.brm.pulses).isNone, target := target, frictionFault := friction
      proving := proving
      proveTimer :=
        if proving = s.brm.proving then s.brm.proveTimer
        else if proving then some (s.now + s.par .tFprove * 1000)
        else none
      proveSeen :=
        { target := target, loopForced := s.brm.loopForced
          sensorFault := (pressureOf s.brm.pulses).isNone, measured := pressureOf s.brm.pulses }
      valve := (s.gated n).brm.valve, lastOpen := (s.gated n).brm.lastOpen
      waiting := (s.gated n).brm.waiting, deadTimer := (s.gated n).brm.deadTimer } := by
  have gated : s.gated n = (s.aimed n).clearFriction.testProving := rfl
  obtain ⟨brm, par, now⟩ := s.aimed_brm n
  rw [← aims] at brm
  have proved := s.aimed_provedAtGate n aims
  have cleared : (s.aimed n).clearFriction.brm = { (s.aimed n).brm with frictionFault := friction } := by
    rw [State.clearFriction_eq, State.raiseIf_brm, proved, clears, brm]
  have condition : (s.aimed n).clearFriction.provingCond = proving := by
    have par' : (s.aimed n).clearFriction.par = s.par := by rw [← par]; exact funext fun p => State.par_congr (by simp) p
    rw [State.provingCond, cleared, par', brm, proves]
    cases pressureOf s.brm.pulses <;> simp
  have valves : (s.gated n).brm = { (s.aimed n).brm with
      frictionFault := friction, proving := proving
      proveTimer :=
        if proving = (s.aimed n).brm.proving then (s.aimed n).brm.proveTimer
        else if proving then some (s.now + s.par .tFprove * 1000)
        else none
      proveSeen := (s.aimed n).brm.proveInputs } := by
    have now' : (s.aimed n).clearFriction.now = s.now := by rw [← now]; simp
    have par' : (s.aimed n).clearFriction.par = s.par := by rw [← par]; exact funext fun p => State.par_congr (by simp) p
    rw [gated, State.testProving, State.setProving, condition, State.startMs, now', par', cleared]
    rfl
  have same := congrArg (fun b : Brm => (b.valve, b.lastOpen, b.waiting, b.deadTimer)) valves
  simp only [Prod.mk.injEq] at same
  rw [same.1, same.2.1, same.2.2.1, same.2.2.2, valves, brm]
  rfl

theorem State.brm_pif_only {s u : State} (odu : u.odu = s.odu) (lps : u.lps = s.lps) (ssu : u.ssu = s.ssu)
    (drc : u.drc = s.drc) (dka : u.dka = s.dka) (vrl : u.vrl = s.vrl) (tgh : u.tgh = s.tgh)
    (pst : u.pst = s.pst) (now : u.now = s.now) (pending : u.pending = s.pending) :
    u = { s with brm := u.brm, pif := u.pif } := by
  cases s
  cases u
  simp only at odu lps ssu drc dka vrl tgh pst now pending
  subst odu lps ssu drc dka vrl tgh pst now pending
  rfl

theorem State.gated_frame (s : State) (n : Nat) :
    s.gated n = { s with brm := (s.gated n).brm, pif := (s.gated n).pif } := by
  have tested : ∀ x : State, x.testProving = { x with brm := x.testProving.brm } := fun _ => rfl
  refine State.brm_pif_only ?_ ?_ ?_ ?_ ?_ ?_ ?_ ?_ ?_ ?_ <;> simp [State.gated]

/-- R68, R71: BRAKE is raised as SENSOR_FAULT changes and as FRICTION_FAULT is cleared. -/
theorem State.gated_tells (s : State) (n : Nat) (friction : Bool)
    (clears : friction = (s.brm.frictionFault && !(s.aimed n).provedAtGate)) :
    s.Tells (s.gated n) .brake
      (s.brm.sensorFault ≠ (pressureOf s.brm.pulses).isNone ∨ s.brm.frictionFault ≠ friction) := by
  have measured : s.Tells (s.aimed n) .brake (s.brm.sensorFault ≠ (pressureOf s.brm.pulses).isNone) := by
    have raised := State.Tells.of_raiseIf
      { s with brm := { s.brm with
          gateTimer := n, measured := pressureOf s.brm.pulses
          sensorFault := (pressureOf s.brm.pulses).isNone, pulses := 0 } } .brake
      ((pressureOf s.brm.pulses).isNone != s.brm.sensorFault)
      (s.brm.sensorFault ≠ (pressureOf s.brm.pulses).isNone) (by rw [bne_iff_ne, ne_comm])
    have pif : (s.aimed n).pif = _ := State.retarget_pif _
    exact ⟨fun c => pif.trans (raised.1 c), fun c => pif.trans (raised.2 c)⟩
  have fault : (s.aimed n).brm.frictionFault = s.brm.frictionFault := by rw [(s.aimed_brm n).1]
  have cleared : (s.aimed n).Tells (s.gated n) .brake (s.brm.frictionFault ≠ friction) := by
    have raised := State.Tells.of_raiseIf
      { s.aimed n with brm := { (s.aimed n).brm with frictionFault :=
          (s.aimed n).brm.frictionFault && !(s.aimed n).provedAtGate } } .brake
      ((s.aimed n).brm.frictionFault && (s.aimed n).provedAtGate) (s.brm.frictionFault ≠ friction) (by
        rw [fault, clears]
        cases s.brm.frictionFault <;> cases (s.aimed n).provedAtGate <;> decide)
    rw [← State.clearFriction_eq] at raised
    exact raised.from rfl
  exact measured.trans cleared

theorem Brm.valvesAfter_congr {a b : Brm} (h : a.valves = b.valves) (c : Option Valve) (due : Nat) :
    a.valvesAfter c due = b.valvesAfter c due := by
  obtain ⟨valve, lastOpen, _, deadTimer⟩ := Brm.valves_eq h
  simp only [Brm.valvesAfter, h, valve, lastOpen, deadTimer]

/-- R69: the valve choice at a gate end. -/
theorem State.gated_valves (s : State) (n : Nat) (choice : Valve)
    (chosen : choice = match pressureOf s.brm.pulses with
      | none => if s.brm.level = .none then .release else .apply
      | some m =>
        if m + s.par .band < s.pressureAt s.brm.level then .apply
        else if s.pressureAt s.brm.level + s.par .band < m then .release
        else .lap) :
    (s.gated n).brm.valves =
      s.brm.valvesAfter (if s.brm.loopForced then none else some choice) (s.now + s.par .tDead * 1000) := by
  have kept : (s.gated n).brm.valves = (s.aimed n).brm.valves := by
    have gated : s.gated n = (s.aimed n).clearFriction.testProving := rfl
    rw [gated, State.clearFriction_eq]
    simp [State.testProving, State.setProving, Brm.valves]
  set x := State.measure { s with brm := { s.brm with gateTimer := n } } with hx
  have xbrm : x.brm = { s.brm with gateTimer := n, measured := pressureOf s.brm.pulses
                                   sensorFault := (pressureOf s.brm.pulses).isNone, pulses := 0 } :=
    State.measure_brm _
  have par : ∀ p, x.par p = s.par p := State.par_congr (by simp [x])
  have now : x.now = s.now := by simp [x]
  have pressure : x.pressureAt s.brm.level = s.pressureAt s.brm.level := by
    rw [State.pressureAt_eq, State.pressureAt_eq]
    exact State.targetFor_congr (by rw [xbrm]) (by simp [x]) _
  have level : x.brm.level = s.brm.level := by rw [xbrm]
  have taken := State.takeChoice_valves { x with brm := { x.brm with target := x.targetFor x.brm.level } }
  have choice' : State.valveChoice { x with brm := { x.brm with target := x.targetFor x.brm.level } } =
      x.choiceAt s.brm.level :=
    State.valveChoice_eq level (by rw [level, State.pressureAt_eq]) rfl rfl rfl rfl
  have made : x.choiceAt s.brm.level = if s.brm.loopForced then none else some choice := by
    rw [State.choiceAt, pressure, par, xbrm, chosen]
    cases pressureOf s.brm.pulses <;> simp
  rw [choice', made] at taken
  rw [kept]
  refine taken.trans ?_
  have due : State.par { x with brm := { x.brm with target := x.targetFor x.brm.level } } .tDead =
      s.par .tDead := par .tDead
  rw [due]
  dsimp only
  rw [now]
  exact Brm.valvesAfter_congr (by rw [xbrm]; rfl) _ _

/-! ### The findings after the event -/

/-- R74: in ADHESION a pressure that has changed proves holding, or does not, by itself. -/
theorem State.Ends.holding_adhesion {u t : State} (h : u.Ends t) (regime : u.odu.regime = .adhesion)
    (seen : u.brm.holdSeen.measured ≠ u.brm.measured) :
    t.brm.holding = true ↔ ∃ k, u.brm.measured = some k ∧ u.par .pHold ≤ k + u.par .band := by
  have kept := h.2.2.keeps
    (P := fun x => x.odu.regime = .adhesion ∧ x.pst = u.pst ∧ x.brm.measured = u.brm.measured ∧
      (x.brm.holdSeen.measured = u.brm.measured →
        (x.brm.holding = true ↔ ∃ k, u.brm.measured = some k ∧ u.par .pHold ≤ k + u.par .band)))
    (fun x y read ⟨regime, pst, measured, held⟩ => ?_) (fun _ _ _ _ p => p) (fun _ _ p => p)
    ⟨regime, rfl, rfl, fun e => absurd e seen⟩
  · have inputs := h.2.1.holding
    have measured : t.brm.measured = u.brm.measured := h.inputs.1
    exact kept.2.2.2 (by rw [inputs, State.holdInputs, measured])
  · have measured' : y.brm.measured = x.brm.measured := by rw [read.brakeFrame]
    have pst' : y.pst = x.pst := by have e := congrArg State.pst read.frame; exact e
    refine ⟨by rw [read.odu]; exact regime, pst'.trans pst, measured'.trans measured, fun e => ?_⟩
    by_cases same : y.brm.holdSeen = x.brm.holdSeen
    · rw [read.finds.held same]
      exact held (same ▸ e)
    · rw [read.finds.adhesion same regime, measured, State.par_congr pst, State.par_congr pst]

/-! ### The valves by the choice (R70) -/

theorem Brm.valvesAfter_lap {a b : Brm} {due : Nat} (h : b.valves = a.valvesAfter (some .lap) due) :
    b.valve = .lap ∧ b.waiting = none ∧ b.deadTimer = if a.valve = .lap then a.deadTimer else some due := by
  cases valve : a.valve <;> simp_all [Brm.valves, Brm.valvesAfter]

theorem Brm.valvesAfter_same {a : Brm} {c : Valve} (h : c = a.valve) (open' : c ≠ .lap) (due : Nat) :
    a.valvesAfter (some c) due = a.valves := by
  cases c <;> simp_all [Brm.valvesAfter, ← h]

/-- R70: a choice of APPLY or RELEASE: taken at once where it may be, and otherwise waiting in LAP. -/
theorem Brm.valvesAfter_open {a b : Brm} {c : OpenValve} {due : Nat}
    (h : b.valves = a.valvesAfter (some c.valve) due) :
    (a.valve = .lap → a.lastOpen = none ∨ a.lastOpen = some c ∨ a.deadTimer = none →
      b.valve = c.valve ∧ b.waiting = none ∧ b.deadTimer = none) ∧
    (a.valve = .lap → ¬(a.lastOpen = none ∨ a.lastOpen = some c ∨ a.deadTimer = none) →
      b.valve = .lap ∧ b.waiting = some c ∧ b.deadTimer = a.deadTimer) ∧
    (a.valve ≠ .lap → a.valve ≠ c.valve →
      b.valve = .lap ∧ b.waiting = some c ∧ b.lastOpen ≠ some c ∧ b.deadTimer = some due) := by
  refine ⟨fun lap free => ?_, fun lap free => ?_, fun _ other => ?_⟩
  · cases c <;> simp_all [Brm.valves, Brm.valvesAfter, OpenValve.valve]
  · cases c <;> simp_all [Brm.valves, Brm.valvesAfter, OpenValve.valve]
  · cases c <;> cases valve : a.valve <;> simp_all [Brm.valves, Brm.valvesAfter, OpenValve.valve]

/-- R67: in an event that moves no row, the target and the valves stand as the event left them. -/
theorem State.Calm.valves {s : State} (h : s.Calm) :
    s.finish.brm.level = s.brm.level ∧ s.finish.brm.target = s.brm.target ∧
      s.finish.brm.valve = s.brm.valve ∧ s.finish.brm.lastOpen = s.brm.lastOpen ∧
      s.finish.brm.waiting = s.brm.waiting ∧ s.finish.brm.deadTimer = s.brm.deadTimer := by
  rw [h.finish]
  simp

theorem State.Has.of_tells {s u : State} {k : Notice} {c : Prop} (h : s.Tells u k c) (holds : c) : u.Has k := by
  have e := h.1 holds
  intro p
  have raised := State.raise_has k s p
  cases p <;> simpa [State.port, e] using raised

/-- Settles O24, by the stages of a gate end. -/
theorem pressureGateMeasuresAndChoosesTheValve : Obligations.PressureGateMeasuresAndChoosesTheValve := by
  intro s n m blend target choice free x due friction proving
  have par : ∀ p, x.par p = s.par p := State.par_congr (by simp [x])
  have pressure : x.pressureAt x.brm.level = target := by
    have level : x.brm.level = s.brm.level := by simp [x]
    rw [level, State.pressureAt_eq, State.targetFor_congr (s := s) (by simp [x]) (by simp [x]),
      ← State.pressureAt_eq]
    rfl
  have pulses : pressureOf x.brm.pulses = m := by
    have same : x.brm.pulses = s.brm.pulses := by simp [x]
    rw [same] <;> rfl
  have faults : x.brm.frictionFault = s.brm.frictionFault ∧ x.brm.sensorFault = s.brm.sensorFault ∧
      x.brm.loopForced = s.brm.loopForced ∧ x.brm.level = s.brm.level := by simp [x]
  obtain ⟨fault, sensor, forced, level⟩ := faults
  have brm := x.gated_brm (s.brm.gateTimer + 100000) target friction proving pressure.symm
    (by rw [fault, par, par, pulses]) (by rw [forced, par, par, pulses])
  rw [pulses] at brm
  have tells := x.gated_tells (s.brm.gateTimer + 100000) friction
    (by rw [x.aimed_provedAtGate _ pressure.symm, fault, par, par, pulses])
  rw [pulses, fault, sensor] at tells
  have valves := x.gated_valves (s.brm.gateTimer + 100000) choice
    (by rw [pulses, level, ← level, pressure, par, level] <;> rfl)
  have same : x.brm.valves = s.brm.valves := by simp [x, Brm.valves]
  rw [forced, par, Brm.valvesAfter_congr same] at valves
  have frame := x.gated_frame (s.brm.gateTimer + 100000)
  have calm : s.Quiet → (x.gated (s.brm.gateTimer + 100000)).Calm := by
    intro quiet
    rw [frame]
    refine (quiet.calm.advanceTo _).congr rfl rfl rfl rfl rfl rfl rfl ?_ ?_ ?_ ?_ ?_ ?_ <;> rw [brm]
  obtain ⟨t, out, ends, made⟩ := exec_ends_finish (exec_pressureGateEnd s)
  change t = (x.gated (s.brm.gateTimer + 100000)).finish at made
  change (x.gated (s.brm.gateTimer + 100000)).Ends t at ends
  generalize x.gated (s.brm.gateTimer + 100000) = u at *
  obtain ⟨measured, sensor', fault', pulses', _, _, _, _, timer⟩ := ends.inputs
  have valvesOf {c : Valve} (free : s.brm.loopForced = false) (e : choice = c) :
      u.brm.valves = s.brm.valvesAfter (some c) (x.now + s.par .tDead * 1000) := by
    rw [valves, if_neg (by simp [free]), e]
  refine ⟨t, u, out, ends, frame, tells, ?_, valves, ?_, ?_, ?_, ?_, ?_, fun quiet => ?_,
    fun adhesion seen changed => ?_, fun c => .of_tells tells (.inl c), ?_, fun set clear => ?_,
    fun f => ?_, fun f c => ?_, fun f c k => ?_, fun c f e => ?_, rfl⟩
  · refine brm.trans ?_
    rw [par]
    simp [x]
  · rw [timer, brm]
  · rw [pulses', brm]
  · rw [measured, brm]
  · rw [sensor', brm]
  · rw [brm]
  · have kept := (calm quiet).valves
    rw [← made] at kept
    exact ⟨kept.1.trans (by rw [brm]; exact level), kept.2⟩
  · have regime : u.odu.regime = .adhesion := by
      rw [frame]
      simpa [x] using adhesion
    have holdSeen : u.brm.holdSeen.measured ≠ u.brm.measured := by
      rw [brm]
      simpa [x, seen] using changed.symm
    have pst : ∀ p, u.par p = s.par p := State.par_congr (by rw [frame]; simp [x])
    rw [ends.holding_adhesion regime holdSeen, pst, pst, brm]
  · have left : t.brm.frictionFault = friction := by rw [fault', brm]
    rw [left, Bool.and_eq_true, Bool.not_eq_true', ← Bool.not_eq_true, Bool.and_eq_true,
      decide_eq_true_iff, Option.any_eq_true]
    simp only [decide_eq_true_iff]
  · refine .of_tells tells (.inr ?_)
    have left : t.brm.frictionFault = friction := by rw [fault', brm]
    rw [set, ← left, clear]
    decide
  · rw [valves, if_pos f]
    rfl
  · obtain ⟨lap, waiting, dead⟩ := Brm.valvesAfter_lap (valvesOf f c)
    exact ⟨lap, waiting, dead⟩
  · rw [valvesOf f c, Brm.valvesAfter_same rfl (c ▸ k)]
  · exact Brm.valvesAfter_open (valvesOf f e)

end Sys2Proof.Machine
end

section
/-! Proofs of the obligations about the motion timers and the edges of the encoders and the tooth sensor
(1.1, 1.5). -/

namespace Sys2Proof.Machine

/-! ### The motion timers -/

theorem State.invalidRead_eq (next : ReaderState) (s : State) :
    s.invalidRead next = { s with odu := { s.odu with
      invalidReads := if s.odu.invalidReads < 65535 then s.odu.invalidReads + 1 else s.odu.invalidReads
      reader := { s.odu.reader with state := next, bits := [] } } } := rfl

theorem State.endCollection_eq (s : State) : s.endCollection = { s with odu := { s.odu with
    reader := { s.odu.reader with state := .idle, bits := [], timeout := none }
    invalidReads :=
      if s.odu.reader.state = .collecting ∧ s.odu.invalidReads < 65535 then s.odu.invalidReads + 1
      else s.odu.invalidReads } } := by
  unfold State.endCollection
  by_cases c : s.odu.reader.state = .collecting
  · simp [c, State.invalidRead_eq]
  · simp [c]

theorem exec_regimeTimerExpiry {s : State} {d : Nat} (h : s.odu.regimeTimer = some d) :
    exec .regimeTimerExpiry s = .next { s.advanceTo d with odu := { s.odu with regimeTimer := none } } := by
  change execRegimeTimerExpiry s = _
  rw [execRegimeTimerExpiry, h]
  simp

theorem exec_collectionTimeout {s : State} {d : Nat} (h : s.odu.reader.timeout = some d) :
    exec .collectionTimeout s = .next (s.advanceTo d).endCollection := by
  change execCollectionTimeout s = _
  rw [execCollectionTimeout, h]

theorem exec_standstillTimerExpiry {s : State} {d : Nat} (h : s.odu.standTimer = some d) :
    exec .standstillTimerExpiry s = .next (State.finish (State.standExpiry
      { s.advanceTo d with odu := { (s.advanceTo d).odu with standTimer := none } })) := by
  change execStandstillTimerExpiry s = _
  rw [execStandstillTimerExpiry, h]

/-- R81: T_hold counted from now, with the delay elapsed at once where it is 0. -/
theorem State.startHold_eq (s : State) : s.startHold = { s with brm := { s.brm with
    holdTimer := if s.par .tHold * 1000 = 0 then none else some (s.now + s.par .tHold * 1000)
    holdElapsed := decide (s.par .tHold * 1000 = 0) } } := by
  unfold State.startHold
  by_cases h : s.par .tHold = 0
  · simp [h]
  · simp [h, State.startMs]

theorem State.standExpiry_eq (s : State) :
    State.standExpiry { s with odu := { s.odu with standTimer := none } } =
      if s.odu.motion = .standstill then
        { s with odu := { s.odu.clearLeaving with standTimer := none, motion := .standstill } }
      else { s with
        odu := { s.odu.clearLeaving with standTimer := none, motion := .standstill }
        dka := { s.dka with lock := false, running := none, selected := s.dka.switchDir }
        brm := { s.brm with
          holdTimer := if s.par .tHold * 1000 = 0 then none else some (s.now + s.par .tHold * 1000)
          holdElapsed := decide (s.par .tHold * 1000 = 0) } } := by
  unfold State.standExpiry State.enterStandstill
  simp only [State.still_iff]
  split
  · next stands => rw [← stands]; rfl
  · rw [State.startHold_eq]; rfl

/-- Settles O7: each expiry is the timer's own step, and the standstill timer's by the motion state. -/
theorem motionTimersExpire : Obligations.MotionTimersExpire := by
  refine ⟨fun s => ⟨fun h => ?_, fun d h => exec_regimeTimerExpiry h, fun h => ?_, fun d h => ?_⟩,
    fun s => ⟨fun h => ?_, fun d h => ?_⟩⟩
  · change execRegimeTimerExpiry s = _
    rw [execRegimeTimerExpiry, h]
  · change execCollectionTimeout s = _
    rw [execCollectionTimeout, h]
  · rw [exec_collectionTimeout h, State.endCollection_eq]
    simp
  · change execStandstillTimerExpiry s = _
    rw [execStandstillTimerExpiry, h]
  · intro x o wait
    obtain ⟨t, out, ends⟩ := exec_ends (exec_standstillTimerExpiry h)
    refine ⟨t, out, ?_⟩
    rw [State.standExpiry_eq] at ends
    have odu : x.odu = s.odu := State.advanceTo_odu s d
    have dka : x.dka = s.dka := State.advanceTo_dka s d
    have par : x.par .tHold = s.par .tHold := State.par_congr (State.advanceTo_pst s d) _
    simp only [o, wait, ← odu, ← dka, ← par]
    exact ends

end Sys2Proof.Machine
end

section
/-! POSITION_RESTORE (R21): what it answers, and the interval that it sets. -/

namespace Sys2Proof.Machine

theorem restorePosition_eq (a b : Word) : restorePosition a b = a.toNat + 65536 * (b.toNat / 32768) := by
  unfold restorePosition bitOf
  rw [BitVec.getLsbD_eq_getElem (by decide), BitVec.getElem_eq_testBit_toNat, Nat.testBit_eq_decide_div_mod_eq]
  have h := b.isLt
  split <;> simp_all <;> omega

theorem State.restoreUncertainty_eq (s : State) (b : Word) :
    s.restoreUncertainty b = min (b.toNat % 32768) (s.par .uMax / 2) := by
  unfold State.restoreUncertainty
  rw [BitVec.extractLsb'_toNat]
  rfl

/-- R10: bounds about a point of the line lie no further apart than the uncertainty taken twice. -/
theorem clampUm_spread {pos unc width : Nat} (within : pos ≤ 120000) (narrow : unc ≤ width / 2) :
    ceilDiv (clampUm (((pos : Int) + unc) * 100000)) 100000 ≤
      clampUm (((pos : Int) - unc) * 100000) / 100000 + width := by
  have e : Config.maxUm = 12000000000 := rfl
  unfold ceilDiv clampUm
  omega

/-- R21: an accepted restore sets the interval, RESTORED. -/
theorem State.restored_odu {s : State} {pos unc : Nat} (within : pos ≤ 120000) (narrow : unc ≤ s.par .uMax / 2) :
    (s.restored pos unc).odu = { s.odu.clearInterval with
      pos := .restored
      lo := min (((pos : Int) - unc) * 100000).toNat 12000000000
      hi := min (((pos : Int) + unc) * 100000).toNat 12000000000 } := by
  unfold State.restored
  rw [State.setBounds_narrow, State.setPosition_odu]
  · rfl
  · rw [State.par_congr (s := s) (by simp)]
    exact clampUm_spread within narrow

theorem State.restored_only (s : State) (pos unc : Nat) : s.OnlyOdu (s.restored pos unc) :=
  ((State.OnlyOdu.mk' s _).trans (State.setPosition_only _ _)).trans (State.setBounds_only _ _ _)

/-- R21: an accepted restore raises POSITION just where the position was not RESTORED. -/
theorem State.restored_tells {s : State} {pos unc : Nat} (within : pos ≤ 120000)
    (narrow : unc ≤ s.par .uMax / 2) :
    s.Tells (s.restored pos unc) .position (s.odu.pos ≠ .restored) := by
  have odu := State.restored_odu within narrow
  unfold State.restored at odu ⊢
  refine (((State.setPosition_tells .restored _).from rfl).trans (State.setBounds_tells _ _ _)).congr ?_
  rw [odu, State.setPosition_odu]
  simp [Odu.clearInterval, Odu.eachSrc]

theorem exec_positionRestore (p : Port) (a b : Word) (s : State) :
    exec (.positionRestore p a b) s = .next (s.serve .positionRestore p a b) := rfl

/-- Settles O11: the answers of POSITION_RESTORE by the conditions of R21 in their order, and the interval
about the position given. -/
theorem positionRestoreSetsTheInterval : Obligations.PositionRestoreSetsTheInterval := by
  intro s p a b c pos unc
  have permits := ReqKind.permits_of_not_fromDesk (k := .positionRestore) rfl p
  have refused {r : ResultCode} (port : p = .c) (code : r ≠ .accepted)
      (h : (s.place p .positionRestore a b).restorePos a b = (s.place p .positionRestore a b).refuse r) :
      exec c s = .next (s.writeResult p 11 r none) := by
    rw [exec_positionRestore, State.serve_refused_finished (permits.trans (decide_eq_true port)) code rfl h]
    rfl
  have still : s.still = true ↔ s.odu.motion = .standstill := s.still_iff
  have place : restorePosition a b = pos := restorePosition_eq a b
  refine ⟨fun other => ?_, fun port moving => ?_, fun port stands desk => ?_, fun port stands desk off => ?_,
    fun port stands desk within => ?_⟩
  · rw [exec_positionRestore, State.serve_not_permitted _ _ (permits.trans (decide_eq_false other))]
    rfl
  · refine refused port (by decide) ?_
    simp [State.restorePos, ← Bool.not_eq_true, still, moving]
  · refine refused port (by decide) ?_
    simp [State.restorePos, still.2 stands, Option.isSome_iff_ne_none, desk]
  · refine refused port (by decide) ?_
    simp [State.restorePos, still.2 stands, desk, place, off]
  · have par : (s.place p .positionRestore a b).par .uMax = s.par .uMax := State.place_par _ _ _ _ _ _
    have uncertainty : (s.place p .positionRestore a b).restoreUncertainty b = unc := by
      rw [State.restoreUncertainty_eq, par]
    have narrow : unc ≤ (s.place p .positionRestore a b).par .uMax / 2 := by
      rw [par]; exact min_le_right _ _
    have answer : (s.place p .positionRestore a b).restorePos a b =
        ((s.place p .positionRestore a b).restored pos unc).accept := by
      simp [State.restorePos, still.2 stands, desk, place, uncertainty, within]
    have answered := State.serve_accepted_finished (s := s) (k := .positionRestore) (a := a) (b := b)
      (permits.trans (decide_eq_true port)) rfl answer
    have odu := State.restored_odu within narrow
    have tells := State.restored_tells within narrow
    rw [State.place_odu] at odu tells
    exact ⟨_, _, exec_positionRestore p a b s, State.restored_only _ _ _, answered, odu, tells⟩

end Sys2Proof.Machine
end

section
/-! The edges of the encoders and the teeth (R1, R2, R16). -/

namespace Sys2Proof.Machine

/-- R1: one step in the sequence of the phases, written with the phases themselves. -/
theorem phaseStep_count {d : Dir} {x y a b : Bool}
    (h : (d = .up ∧ a = !y ∧ b = x) ∨ (d = .down ∧ a = y ∧ b = !x)) : phaseStep x y a b = .count d := by
  rcases h with ⟨rfl, rfl, rfl⟩ | ⟨rfl, rfl, rfl⟩
  · cases b <;> cases y <;> rfl
  · cases a <;> cases x <;> rfl

theorem phaseStep_illegal (x y : Bool) : phaseStep x y (!x) (!y) = .illegal := by
  cases x <;> cases y <;> rfl

theorem phaseStep_unchanged (x y : Bool) : phaseStep x y x y = .unchanged := by
  cases x <;> cases y <;> rfl

theorem exec_encoderEdge {s : State} {i : Bogie} {a b : Bool}
    (h : phaseStep (s.odu.encoder i).phaseA (s.odu.encoder i).phaseB a b ≠ .unchanged) :
    exec (.encoderEdge i a b) s = .next (s.encoderStep i a b).finish := by
  change execEncoderEdge i a b s = _
  rw [execEncoderEdge, if_neg h]

theorem Source.usable_eq (v : Source) : v.usable = decide (v.health ≠ .isolated) := by
  unfold Source.usable
  cases v.health <;> rfl

/-- R16: a source that counts restarts the standstill timer; at STANDSTILL it also moves its leaving sum,
which starts the car at the limit. -/
theorem State.addLeaving_eq (i : SourceId) (d limit : Int) (s : State) :
    s.restartStand.addLeaving i d limit =
      (let v := s.odu.src i
       let leaving := v.leaving + (if s.odu.motion = .standstill then d else 0)
       let u : State := { s with odu := { s.odu.setSrc i { v with leaving := leaving } with
         standTimer := some (s.now + s.par .tStill * 1000) } }
       match (if s.odu.motion ≠ .standstill then none
         else if limit ≤ leaving then some .movingUp
         else if leaving ≤ -limit then some .movingDown
         else none : Option Motion) with
       | none => u
       | some m => u.leaveStandstill m) := by
  unfold State.addLeaving
  dsimp only
  by_cases stands : s.odu.motion = .standstill
  · have still : s.restartStand.still = true := s.still_iff.2 stands
    rw [still, if_pos stands, if_neg (not_not.2 stands)]
    cases i <;> rfl
  · have still : s.restartStand.still = false := by
      rw [← Bool.not_eq_true]; exact fun h => stands (s.still_iff.1 h)
    rw [still, if_neg stands, if_pos stands, add_zero]
    cases i <;> rfl

/-- R1: the ODU after a count, but for the motion state. -/
def State.counted (i : Bogie) (d : Dir) (a b : Bool) (s : State) : State :=
  let e := s.odu.encoder i
  let one := d.sign
  let k := s.kOf i
  let counts := decide (e.src.health ≠ .isolated)
  let leaving := e.src.leaving + (if counts ∧ s.odu.motion = .standstill then one else 0)
  let e' : Encoder := { e with
    phaseA := a, phaseB := b, latest := some d
    src := { e.src with sampleSum := e.src.sampleSum + one * k,
                        intervalSum := e.src.intervalSum + one * k, leaving := leaving } }
  { s with odu := { s.odu.setEncoder i e' with
    lastCounted := some i
    standTimer := if counts then some (s.now + s.par .tStill * 1000) else s.odu.standTimer } }

theorem State.encoderStep_count {s : State} {i : Bogie} {d : Dir} {a b : Bool}
    (h : phaseStep (s.odu.encoder i).phaseA (s.odu.encoder i).phaseB a b = .count d) :
    s.encoderStep i a b = (let e := s.odu.encoder i
      let counts := decide (e.src.health ≠ .isolated)
      let leaving := e.src.leaving + (if counts ∧ s.odu.motion = .standstill then d.sign else 0)
      match (if !counts ∨ s.odu.motion ≠ .standstill then none
        else if 8 ≤ leaving then some .movingUp
        else if leaving ≤ -8 then some .movingDown
        else none : Option Motion) with
      | none => s.counted i d a b
      | some m => (s.counted i d a b).leaveStandstill m) := by
  unfold State.encoderStep
  rw [h]
  dsimp only
  have usable : ((s.setPhases i a b).odu.encoder i).src.usable =
      decide ((s.odu.encoder i).src.health ≠ .isolated) := by
    rw [Source.usable_eq]
    cases i <;> rfl
  unfold State.count State.counted
  dsimp only
  rw [usable]
  cases decide ((s.odu.encoder i).src.health ≠ .isolated) with
  | false =>
    simp only [Bool.false_eq_true, false_and, if_false, Bool.not_false, true_or, if_true, add_zero]
    cases i <;> rfl
  | true =>
    simp only [true_and, Bool.not_true, Bool.false_eq_true, false_or, if_true]
    rw [State.addLeaving_eq]
    cases i <;> rfl

/-- R2: the direction of a tooth by the first case that applies. -/
theorem State.toothDir_eq (s : State) : s.toothDir =
    (let up := if s.odu.upper.src.health = .isolated then none else s.odu.upper.latest
     let lo := if s.odu.lower.src.health = .isolated then none else s.odu.lower.latest
     match up, lo with
     | some x, some y => if x = y then some x else if s.odu.lastCounted = some .upper then some x else some y
     | some x, none => some x
     | none, some y => some y
     | none, none => s.dka.selected) := by
  have considered (e : Encoder) : e.considered = if e.src.health = .isolated then none else e.latest := by
    unfold Encoder.considered
    rw [Source.usable_eq, decide_not]
    by_cases h : e.src.health = .isolated <;> simp [h]
  unfold State.toothDir
  rw [considered, considered] <;> rfl

/-- R2: the ODU after a tooth, but for the motion state. -/
def State.toothed (d : Option Dir) (s : State) : State :=
  let one : Int := match d with
    | some .up => 1
    | _ => -1
  let th := s.odu.tooth
  let counts := decide (th.src.health ≠ .isolated)
  let p := s.par .pRack
  let leaving := th.src.leaving + (if counts ∧ s.odu.motion = .standstill then one else 0)
  let th' : ToothSensor := match d with
    | some _ =>
      { th with src := { th.src with sampleSum := th.src.sampleSum + one * p,
                                     intervalSum := th.src.intervalSum + one * p,
                                     leaving := leaving } }
    | none =>
      { th with undirInterval := th.undirInterval + p, undirSample := th.undirSample + p,
                src := { th.src with leaving := leaving } }
  { s with odu := { s.odu with
    tooth := th'
    regimeTimer := some (s.now + 2000000)
    standTimer := if counts then some (s.now + s.par .tStill * 1000) else s.odu.standTimer } }

theorem State.takeTooth_eq (s : State) : s.takeTooth =
    (let one : Int := match s.toothDir with
       | some .up => 1
       | _ => -1
     let counts := decide (s.odu.tooth.src.health ≠ .isolated)
     let leaving := s.odu.tooth.src.leaving + (if counts ∧ s.odu.motion = .standstill then one else 0)
     match (if !counts ∨ s.odu.motion ≠ .standstill then none
       else if 1 ≤ leaving then some .movingUp
       else if leaving ≤ -1 then some .movingDown
       else none : Option Motion) with
     | none => s.toothed s.toothDir
     | some m => (s.toothed s.toothDir).leaveStandstill m) := by
  unfold State.takeTooth
  have dir : State.toothDir { s with odu := { s.odu with regimeTimer := some (s.now + Config.regimeTime) } } =
      s.toothDir := rfl
  generalize State.toothDir s = d at dir ⊢
  generalize hx : ({ s with odu := { s.odu with regimeTimer := some (s.now + Config.regimeTime) } } : State) = x
    at dir ⊢
  unfold State.toothTravel
  dsimp only
  rw [dir]
  have counted (y : State) (moves : y.toothDir = d)
      (health : y.odu.tooth.src.health = s.odu.tooth.src.health) : y.toothMotion =
      if decide (s.odu.tooth.src.health ≠ .isolated) then
        y.restartStand.addLeaving .tooth ((d.map Dir.sign).getD (-1)) 1
      else y := by
    unfold State.toothMotion
    rw [Source.usable_eq, moves, health]
  rcases d with _ | _ | _
  all_goals
    refine (counted _ (by exact dir) (by subst hx; rfl)).trans ?_
    rw [State.addLeaving_eq]
    subst hx
    dsimp only [State.toothed]
    cases decide (s.odu.tooth.src.health ≠ .isolated) with
    | false =>
      simp only [Source.travel, Bool.false_eq_true, false_and, if_false, Bool.not_false, true_or,
        if_true, add_zero]
      rfl
    | true =>
      simp only [Source.travel, true_and, Bool.not_true, Bool.false_eq_true, false_or, if_true]
      rfl

theorem exec_tooth (s : State) : exec .tooth s = .next s.takeTooth.finish := rfl

/-- Settles O4: the edges by what they are in the sequence of R1, and the teeth by R2's first case. -/
theorem encoderEdgesAndTeethMoveTheSumsAndStartTheCar :
    Obligations.EncoderEdgesAndTeethMoveTheSumsAndStartTheCar := by
  refine ⟨⟨fun s i d a b => ?_, fun s i => ⟨?_, ?_⟩⟩, fun s => ?_⟩
  · intro e step
    have count := phaseStep_count step
    obtain ⟨t, out, ends⟩ := exec_ends (exec_encoderEdge (by rw [count]; exact PhaseStep.noConfusion))
    refine ⟨t, out, ?_⟩
    rw [State.encoderStep_count count] at ends
    cases i <;> cases d <;> exact ends
  · have illegal := phaseStep_illegal (s.odu.encoder i).phaseA (s.odu.encoder i).phaseB
    obtain ⟨t, out, ends⟩ := exec_ends (exec_encoderEdge (by rw [illegal]; exact PhaseStep.noConfusion))
    refine ⟨t, out, ?_⟩
    rw [State.encoderStep, illegal] at ends
    cases i <;> exact ends
  · change execEncoderEdge i _ _ s = _
    rw [execEncoderEdge, if_pos (phaseStep_unchanged _ _)]
  · obtain ⟨t, out, ends⟩ := exec_ends (exec_tooth s)
    refine ⟨t, out, ?_⟩
    rw [State.takeTooth_eq, State.toothDir_eq] at ends
    exact ends

end Sys2Proof.Machine
end

section
/-! The edges of the marker input (R3 to R5). -/

namespace Sys2Proof.Machine

theorem exec_markerEdgeCapture (level : Bool) (time : Nat) (s : State) :
    exec (.markerEdgeCapture level time) s = .next ((s.advanceTo time).capture level time).finish := rfl

theorem State.advanceTo_pulseBit (s : State) (t : Nat) : (s.advanceTo t).pulseBit = s.pulseBit := by
  funext w
  simp only [State.pulseBit, State.par_congr (State.advanceTo_pst s t)]

/-- R3: a falling edge in COLLECTING, where it does not append the sixteenth bit. -/
theorem State.appendBit_short (r : Reader) (time : Nat) (s : State)
    (short : (s.pulseBit (time - r.lastRise.getD time)).isSome → r.bits.length < 15) :
    s.appendBit r time = match s.pulseBit (time - r.lastRise.getD time) with
      | none => s.invalidRead .discarding
      | some b => { s with odu := { s.odu with reader := { s.odu.reader with bits := r.bits ++ [b] } } } := by
  unfold State.appendBit
  cases bit : s.pulseBit (time - r.lastRise.getD time) with
  | none => rfl
  | some b =>
    rw [bit] at short
    have few : (r.bits ++ [b]).length < 16 := by have := short rfl; simp only [List.length_append, List.length_singleton]; omega
    dsimp only
    rw [if_pos few]

theorem Reader.beyondGap_eq (r : Reader) (time : Nat) : r.beyondGap time = match r.lastFall with
    | none => true
    | some f => decide (f + 1000 < time) := rfl

/-- R3, R4: an edge that completes no read moves the reader, and nothing else but its counts. -/
theorem State.capture_short (s : State) (level : Bool) (time : Nat)
    (short : ¬(s.odu.reader.state = .collecting ∧ level = false ∧ s.odu.reader.level ≠ some false ∧
      (s.pulseBit (time - s.odu.reader.lastRise.getD time)).isSome ∧ 15 ≤ s.odu.reader.bits.length)) :
    s.capture level time =
      (let r := s.odu.reader
       let bit := s.pulseBit (time - r.lastRise.getD time)
       let newBurst := level && r.beyondGap time
       let noted : Reader :=
         if level then { r with level := some true, lastRise := some time }
         else { r with level := some false, lastFall := some time }
       let r' : Reader := match r.state with
         | .idle =>
           if level then { noted with state := .collecting, bits := [], timeout := some (time + 2000) }
           else { noted with timeout := none }
         | .discarding =>
           if newBurst then
             { noted with state := .collecting, bits := [], timeout := some (time + 2000) }
           else { noted with timeout := some (time + 2000) }
         | .collecting =>
           if r.level = some level then
             { noted with state := .discarding, bits := [], timeout := some (time + 2000) }
           else if level then
             if newBurst then { noted with bits := [], timeout := some (time + 2000) }
             else { noted with timeout := some (time + 2000) }
           else
             match bit with
             | none => { noted with state := .discarding, bits := [], timeout := some (time + 2000) }
             | some x => { noted with bits := r.bits ++ [x], timeout := some (time + 2000) }
       let invalid := decide (r.state = .collecting) &&
         (decide (r.level = some level) || (!level && bit.isNone))
       let overrun := decide (r.state = .collecting) && decide (r.level ≠ some level) && newBurst
       { s with odu := { s.odu with
           reader := r'
           overrun := s.odu.overrun || overrun
           invalidReads :=
             if invalid ∧ s.odu.invalidReads < 65535 then s.odu.invalidReads + 1
             else s.odu.invalidReads } }) := by
  unfold State.capture State.readerEdge State.restartCollection
  dsimp only
  cases state : s.odu.reader.state with
  | idle => cases level <;> simp [state, Reader.noteEdge, State.startBurst, Config.collectionTime]
  | discarding =>
    cases level
    · simp [state, Reader.noteEdge, Config.collectionTime]
    · cases s.odu.reader.beyondGap time <;>
        simp [state, Reader.noteEdge, State.startBurst, Config.collectionTime]
  | collecting =>
    by_cases repeated : s.odu.reader.level = some level
    · cases level <;>
        simp [state, repeated, Reader.noteEdge, State.invalidRead_eq, Config.collectionTime]
    · cases level with
      | true =>
        cases s.odu.reader.beyondGap time <;>
          simp [state, repeated, Reader.noteEdge, State.startBurst, Config.collectionTime]
      | false =>
        have few : (s.pulseBit (time - s.odu.reader.lastRise.getD time)).isSome →
            s.odu.reader.bits.length < 15 := by
          intro bit
          by_contra many
          exact short ⟨state, rfl, repeated, bit, Nat.not_lt.1 many⟩
        simp only [state, repeated, if_false, Bool.false_eq_true]
        have appended := fun o : Odu => State.appendBit_short s.odu.reader time { s with odu := o } few
        have same : ∀ o : Odu, State.pulseBit { s with odu := o } (time - s.odu.reader.lastRise.getD time) =
            s.pulseBit (time - s.odu.reader.lastRise.getD time) := fun _ => rfl
        rw [appended, same]
        cases s.pulseBit (time - s.odu.reader.lastRise.getD time) <;>
          simp [state, Reader.noteEdge, State.invalidRead_eq, Config.collectionTime]

/-- R5: a run of bits, most significant first, holds the number whose bits they are. -/
theorem bitsNat_take {n : Nat} (x : BitVec n) {bs : List Bool}
    (bits : ∀ k < n, bs[k]? = some (x.getLsbD (n - 1 - k))) :
    ∀ m ≤ n, bitsNat (bs.take m) = x.toNat / 2 ^ (n - m)
  | 0, _ => by simp [bitsNat, Nat.div_eq_of_lt x.isLt]
  | m + 1, h => by
    have shorter := bitsNat_take x bits m (by omega)
    have last : bitOf (x.getLsbD (n - 1 - m)) = x.toNat / 2 ^ (n - (m + 1)) % 2 := by
      have place : n - 1 - m = n - (m + 1) := by omega
      rw [place, BitVec.getLsbD, Nat.testBit_eq_decide_div_mod_eq, bitOf]
      have := Nat.mod_two_eq_zero_or_one (x.toNat / 2 ^ (n - (m + 1)))
      split <;> simp_all
    have halves : x.toNat / 2 ^ (n - m) = x.toNat / 2 ^ (n - (m + 1)) / 2 := by
      rw [Nat.div_div_eq_div_mul, ← pow_succ]
      congr 2
      omega
    have split : bs.take (m + 1) = bs.take m ++ [x.getLsbD (n - 1 - m)] := by
      rw [List.take_add_one, bits m (by omega)]
      rfl
    rw [bitsNat] at shorter
    rw [bitsNat, split, List.foldl_append, shorter, List.foldl_cons, List.foldl_nil, last, halves]
    omega

theorem bitsNat_eq {n : Nat} (x : BitVec n) {bs : List Bool} (length : bs.length = n)
    (bits : ∀ k < n, bs[k]? = some (x.getLsbD (n - 1 - k))) : bitsNat bs = x.toNat := by
  have whole := bitsNat_take x bits n le_rfl
  rwa [List.take_of_length_le length.le, Nat.sub_self, pow_zero, Nat.div_one] at whole

/-- R3, R5: the falling edge that appends the sixteenth bit is a completed read. -/
theorem State.capture_completes {s : State} {bits : List Bool} {ident : BitVec 12} {check : BitVec 4}
    (collecting : s.odu.reader.state = .collecting) (high : s.odu.reader.level = some true)
    (held : s.odu.reader.bits = bits.take 15) (length : bits.length = 16)
    (last : s.pulseBit (s.now - s.odu.reader.lastRise.getD s.now) = bits.getLast?)
    (identity : bitsNat (bits.take 12) = ident.toNat) (sum : bitsNat (bits.drop 12) = check.toNat) :
    s.capture false s.now = s.markerRead ident check := by
  obtain ⟨b, bit⟩ : ∃ b, bits.getLast? = some b :=
    ⟨_, List.getLast?_eq_getLast_of_ne_nil (by rintro rfl; simp at length)⟩
  have whole : bits.take 15 ++ [b] = bits := by
    have front := List.dropLast_append_getLast? b bit
    rwa [List.dropLast_eq_take, length] at front
  unfold State.capture State.readerEdge State.markerRead
  simp only [collecting, high, Option.some.injEq, Bool.true_eq_false, if_false, Bool.false_eq_true]
  unfold State.appendBit
  have same : ∀ o : Odu, State.pulseBit { s with odu := o } (s.now - s.odu.reader.lastRise.getD s.now) =
    s.pulseBit (s.now - s.odu.reader.lastRise.getD s.now) := fun _ => rfl
  rw [same, last, bit]
  dsimp only
  rw [held, whole, if_neg (by omega), identity, sum]
  rfl

/-- Settles O5: an edge by the reader's state before it, and the last falling edge of a burst. -/
theorem markerEdgesMoveTheReaderAndMakeARead : Obligations.MarkerEdgesMoveTheReaderAndMakeARead := by
  refine ⟨fun s level time => ?_, fun s time bits ident check now collecting high held length last id sum => ?_⟩
  · intro r width bit newBurst short noted r' invalid overrun
    obtain ⟨t, out, ends⟩ := exec_ends (exec_markerEdgeCapture level time s)
    refine ⟨t, out, ?_⟩
    have odu : (s.advanceTo time).odu = s.odu := State.advanceTo_odu s time
    have bits := s.advanceTo_pulseBit time
    rw [State.capture_short _ _ _ (by rw [odu, bits]; exact short), odu, bits] at ends
    exact ends
  · have clock : (s.advanceTo time).now = time := by rw [State.advanceTo_now, max_eq_right now]
    have odu : (s.advanceTo time).odu = s.odu := State.advanceTo_odu s time
    have read := State.capture_completes (s := s.advanceTo time) (bits := bits) (ident := ident) (check := check)
      (by rw [odu]; exact collecting) (by rw [odu]; exact high) (by rw [odu]; exact held) length
      (by rw [odu, clock, s.advanceTo_pulseBit]; exact last)
      (bitsNat_eq ident (by simp [length]) fun k h => by rw [List.getElem?_take_of_lt h]; exact id k h)
      (bitsNat_eq check (by simp [length]) fun k h => by rw [List.getElem?_drop]; exact sum k h)
    rw [clock] at read
    rw [exec_markerEdgeCapture, read]
    rfl

end Sys2Proof.Machine
end

section
/-! The position interval (R7 to R10) and what a marker read makes of it (R18 to R20). -/

namespace Sys2Proof.Machine

/-! ### The moves of the bounds -/

theorem ceilDiv_thousand (n : Nat) : ceilDiv n 1000 = (n + 999) / 1000 := by simp [ceilDiv]

theorem State.moves_eq (s : State) (i : SourceId) :
    s.moves i = lowHigh (s.odu.src i).intervalSum (s.errRate i) := by
  simp only [State.moves, lowHigh, sumError, ceilDiv_thousand]

/-- R7: the used sources. -/
theorem Odu.choose_eq (o : Odu) : o.choose =
    (let tooth := decide (o.regime = .rack ∧ o.tooth.src.health = .ok)
     { upper := !tooth && decide (o.upper.src.health ≠ .isolated)
       lower := !tooth && decide (o.lower.src.health ≠ .isolated), tooth := tooth }) := by
  unfold Odu.choose
  rw [Source.usable_eq, Source.usable_eq]
  by_cases tooth : o.regime = .rack ∧ o.tooth.src.health = .ok <;> simp [tooth]

/-- R9: what the used sources add to the two bounds, with the widening by the undirected tally. -/
theorem State.movesIn_choose (s : State) :
    (boundMoves (s.odu.choose.list.map s.moves)).1 - s.undirMove s.odu.choose = (s.movesIn s.odu.regime).1 ∧
      (boundMoves (s.odu.choose.list.map s.moves)).2 + s.undirMove s.odu.choose =
        (s.movesIn s.odu.regime).2 := by
  rw [Odu.choose_eq]
  unfold State.movesIn State.undirMove Used.list
  by_cases tooth : s.odu.regime = .rack ∧ s.odu.tooth.src.health = .ok
  · simp [tooth, boundMoves, State.moves_eq, Odu.src, State.errRate, ceilDiv_thousand]
  · by_cases up : s.odu.upper.src.health = .isolated <;> by_cases lo : s.odu.lower.src.health = .isolated <;>
      simp [tooth, up, lo, boundMoves, State.moves_eq, Odu.src, State.errRate]

/-! ### The bounds -/

theorem Odu.located_iff (o : Odu) : o.located = true ↔ o.pos = .valid ∨ o.pos = .restored := by
  simp [Odu.located]

theorem clampUm_eq_withinLine (x : Int) : clampUm x = withinLine x := rfl

/-- R10: the bounds set, and the position state that they leave. -/
theorem State.setBounds_eq (a b : Int) (s : State) : (s.setBounds a b).odu = { s.odu with
    lo := withinLine a, hi := withinLine b
    pos := if (s.odu.pos = .valid ∨ s.odu.pos = .restored) ∧ s.tooWide (withinLine a) (withinLine b) then
      .invalid .width else s.odu.pos } := by
  have wide : ceilDiv (withinLine b) 100000 = (withinLine b + 99999) / 100000 := by simp [ceilDiv]
  have test : (({ s.odu with lo := withinLine a, hi := withinLine b } : Odu).located = true ∧
      withinLine a / 100000 + s.par .uMax < ceilDiv (withinLine b) 100000) ↔
      (s.odu.pos = .valid ∨ s.odu.pos = .restored) ∧ s.tooWide (withinLine a) (withinLine b) = true := by
    rw [wide, Odu.located_iff, State.tooWide, decide_eq_true_iff]
  unfold State.setBounds
  dsimp only
  rw [clampUm_eq_withinLine, clampUm_eq_withinLine]
  split
  · next h => rw [State.setPosition_odu, if_pos (test.1 h)]
  · next h => rw [if_neg fun k => h (test.2 k)]

/-- The ODU after an interval update by moves of the two bounds. -/
def State.broughtBy (s : State) (m : Int × Int) : Odu :=
  let lo := withinLine (s.odu.lo + m.1)
  let hi := withinLine (s.odu.hi + m.2)
  { s.odu.clearInterval with
    midSum := s.odu.midSum + m.1 + m.2, distHalf := s.odu.distHalf + (m.1 + m.2).natAbs
    lo := lo, hi := hi
    pos := if (s.odu.pos = .valid ∨ s.odu.pos = .restored) ∧ s.tooWide lo hi then .invalid .width
      else s.odu.pos }

/-- R9, R10: an interval update with the sources that the regime and the health choose. -/
theorem State.updateInterval_choose (s : State) :
    (s.updateInterval s.odu.choose).odu = s.broughtBy (s.movesIn s.odu.regime) := by
  obtain ⟨low, high⟩ := s.movesIn_choose
  unfold State.updateInterval State.broughtBy
  dsimp only
  rw [State.setBounds_eq, ← low, ← high]
  generalize boundMoves (s.odu.choose.list.map s.moves) = m
  generalize s.undirMove s.odu.choose = w
  have lo : (s.odu.lo : Int) + (m.1 - w) = s.odu.lo + m.1 - w := by omega
  have hi : (s.odu.hi : Int) + (m.2 + w) = s.odu.hi + m.2 + w := by omega
  have mid : s.odu.midSum + (m.1 - w) + (m.2 + w) = s.odu.midSum + (m.1 + m.2) := by omega
  have twice : m.1 - w + (m.2 + w) = m.1 + m.2 := by omega
  rw [lo, hi, mid, twice]
  rfl

/-! ### Markers -/

/-- R19, R20: an accepted read takes the interval given. -/
theorem State.acceptMarker_eq (n : Nat) (a b : Int) (s : State) : (s.acceptMarker n (a, b)).odu = { s.odu with
    lo := withinLine a, hi := withinLine b, lastMarker := some n, distHalf := 0
    pos := if s.tooWide (withinLine a) (withinLine b) then .invalid .width else .valid } := by
  unfold State.acceptMarker
  rw [State.setBounds_eq, State.setPosition_odu]
  have same : (State.setPosition .valid { s with odu := { s.odu with lastMarker := some n, distHalf := 0 } }).tooWide =
      s.tooWide := by
    funext x y
    unfold State.tooWide
    rw [State.par_congr (s := s) (by simp)]
  simp [same]

/-- The ODU after a marker has set the interval. -/
def State.takenBy (s : State) (k : Marker) (a b : Int) : Odu := { s.odu with
  lo := withinLine a, hi := withinLine b, lastMarker := some k.ident, distHalf := 0
  pos := if s.tooWide (withinLine a) (withinLine b) then .invalid .width else .valid }

/-- R18 to R20: a marker of the list, by the position and where the marker interval lies. -/
theorem State.useMarker_cases (k : Marker) (s : State) :
    let a : Int := ((k.pos : Int) - s.par .dAnt - k.tol) * 100000
    let b : Int := ((k.pos : Int) - s.par .dAnt + k.tol) * 100000
    let wide : Int := k.tol * 100000
    (s.odu.pos ≠ .valid → (s.useMarker k).odu = s.takenBy k a b) ∧
    (s.odu.pos = .valid → a ≤ s.odu.hi → s.odu.lo ≤ b →
      (s.useMarker k).odu = s.takenBy k (max s.odu.lo a) (min s.odu.hi b)) ∧
    (s.odu.pos = .valid → ¬(a ≤ s.odu.hi ∧ s.odu.lo ≤ b) → a ≤ s.odu.hi + wide → s.odu.lo - wide ≤ b →
      (s.useMarker k).odu = s.takenBy k a b) ∧
    (s.odu.pos = .valid → ¬(a ≤ s.odu.hi + wide ∧ s.odu.lo - wide ≤ b) →
      (s.useMarker k).odu = { s.odu with pos := .invalid .markerConflict }) := by
  intro a b wide
  have interval : s.markerInterval k = (a, b) := rfl
  unfold State.useMarker State.takenBy
  simp only [interval]
  refine ⟨fun other => ?_, fun valid low high => ?_, fun valid apart low high => ?_, fun valid far => ?_⟩
  · rw [if_neg other, ← State.acceptMarker_eq]
  · rw [if_pos valid, if_pos ⟨low, high⟩, ← State.acceptMarker_eq]
  · rw [if_pos valid, if_neg apart, if_pos ⟨low, high⟩, ← State.acceptMarker_eq]
  · have apart : ¬(a ≤ s.odu.hi ∧ (s.odu.lo : Int) ≤ b) := by
      have w : 0 ≤ wide := by positivity
      exact fun h => far ⟨by omega, by omega⟩
    rw [if_pos valid, if_neg apart, if_neg far, State.setPosition_odu]

/-- R3: an edge taken by a reader that does not stay in IDLE restarts the collection timeout. -/
theorem State.restartCollection_odu {s : State} (time : Nat) (h : s.odu.reader.state ≠ .idle) :
    (s.restartCollection time).odu = { s.odu with reader := { s.odu.reader with timeout := some (time + 2000) } } := by
  unfold State.restartCollection
  rw [if_neg h]
  rfl

/-- The state in which a read has passed its check. -/
def State.readOf (s : State) : State := { s with odu := { s.odu with
  overrun := false
  reader := { s.odu.reader with state := .discarding, bits := [], level := some false, lastFall := some s.now } } }

theorem State.markerRead_passed {s : State} {ident : BitVec 12} {check : BitVec 4}
    (h : (ident.toNat / 256 + ident.toNat / 16 % 16 + ident.toNat % 16) % 16 = check.toNat) :
    s.markerRead ident check = State.restartCollection s.now (s.readOf.lookupMarker ident.toNat) := by
  unfold State.markerRead State.completeRead
  rw [markerCheck, if_pos h]
  rfl

theorem State.markerRead_failed {s : State} {ident : BitVec 12} {check : BitVec 4}
    (h : (ident.toNat / 256 + ident.toNat / 16 % 16 + ident.toNat % 16) % 16 ≠ check.toNat) :
    s.markerRead ident check = { s with odu := { s.odu with
      reader := { s.odu.reader with
        state := .discarding, bits := [], level := some false, lastFall := some s.now
        timeout := some (s.now + 2000) }
      invalidReads := if s.odu.invalidReads < 65535 then s.odu.invalidReads + 1 else s.odu.invalidReads } } := by
  unfold State.markerRead State.completeRead
  rw [markerCheck, if_neg h]
  rfl

theorem exec_markerRead (ident : BitVec 12) (check : BitVec 4) (s : State) :
    exec (.markerRead ident check) s = .next (s.markerRead ident check).finish := rfl

/-- R18: what a read that passed its check leaves in the ODU, with its update made. -/
theorem State.lookupMarker_odu (n : Nat) (s : State) :
    (s.lps.profile = none → (s.lookupMarker n).odu = s.broughtBy (s.movesIn s.odu.regime)) ∧
    (∀ p, s.lps.profile = some p → p.marker n = none → (s.lookupMarker n).odu =
      { s.broughtBy (s.movesIn s.odu.regime) with
        unknownMarkers := satSucc 65535 s.odu.unknownMarkers }) ∧
    (∀ p k, s.lps.profile = some p → p.marker n = some k →
      s.lookupMarker n = (s.updateInterval s.odu.choose).useMarker k) := by
  have lps : (s.updateInterval s.odu.choose).lps = s.lps := by rw [(s.updateInterval_only _).1]
  have odu := s.updateInterval_choose
  unfold State.lookupMarker
  refine ⟨fun none => ?_, fun p some absent => ?_, fun p k some held => ?_⟩
  · dsimp only
    rw [lps, none]
    exact odu
  · dsimp only
    rw [lps, some]
    dsimp only
    rw [absent, odu]
    rfl
  · dsimp only
    rw [lps, some]
    dsimp only
    rw [held]

theorem State.updateInterval_reader (u : Used) (s : State) : (s.updateInterval u).odu.reader = s.odu.reader := by
  obtain ⟨a, b, p, m, d, e⟩ := s.updateInterval_odu u
  rw [e]
  rfl

theorem State.lookupMarker_reader (n : Nat) (s : State) : (s.lookupMarker n).odu.reader = s.odu.reader := by
  have brought := s.updateInterval_reader s.odu.choose
  unfold State.lookupMarker
  dsimp only
  split
  · exact brought
  · split
    · exact brought
    · next k _ =>
      obtain ⟨a, b, p, m, d, e⟩ := (s.updateInterval s.odu.choose).useMarker_odu k
      rw [e]
      exact brought

/-- Settles O6: a read by its check, and one that passed it by the list and the position. -/
theorem markerReadsFixThePosition : Obligations.MarkerReadsFixThePosition := by
  intro s ident check sum r' more m lo hi pos
  refine ⟨fun wrong => ?_, fun right => ?_⟩
  · obtain ⟨t, out, ends⟩ := exec_ends (exec_markerRead ident check s)
    refine ⟨t, out, ?_⟩
    rw [State.markerRead_failed wrong] at ends
    exact ends
  · obtain ⟨t, out, ends⟩ := exec_ends (exec_markerRead ident check s)
    rw [State.markerRead_passed right] at ends
    refine ⟨t, _, out, ?_, ends, ?_, ?_⟩
    · exact ((State.OnlyOdu.mk' s _).trans (State.lookupMarker_only ident.toNat s.readOf)).trans
        (State.OnlyOdu.mk' _ _)
    · have tells := s.readOf.lookupMarker_tells ident.toNat
      rw [State.updateInterval_choose] at tells
      exact tells
    · have reader := s.readOf.lookupMarker_reader ident.toNat
      have read : (State.restartCollection s.now (s.readOf.lookupMarker ident.toNat)).odu =
          { (s.readOf.lookupMarker ident.toNat).odu with reader := r' } := by
        rw [State.restartCollection_odu _ (by rw [reader]; exact ReaderState.noConfusion), reader]
        rfl
      obtain ⟨lineless, unknown, held⟩ := s.readOf.lookupMarker_odu ident.toNat
      intro brought
      refine ⟨fun none => ?_, fun p line absent => ?_, fun p k line known => ?_⟩
      · rw [read, lineless none]
        rfl
      · rw [read, unknown p line absent]
        rfl
      · intro a b wide takes
        have odu := s.readOf.updateInterval_choose
        have par : (s.readOf.updateInterval s.readOf.odu.choose).par = s.par :=
          funext fun q => State.par_congr (by simp [State.readOf]) q
        have wider : (s.readOf.updateInterval s.readOf.odu.choose).tooWide = s.tooWide := by
          unfold State.tooWide
          rw [par]
        obtain ⟨other, meets, near, far⟩ :=
          State.useMarker_cases k (s.readOf.updateInterval s.readOf.odu.choose)
        rw [read, held p k line known]
        unfold State.takenBy at other meets near
        rw [par, odu, wider] at other meets near
        rw [par, odu] at far
        refine ⟨fun h => ?_, fun h low high => ?_, fun h apart low high => ?_, fun h away => ?_⟩
        · rw [other h]
          rfl
        · rw [meets h low high]
          rfl
        · rw [near h apart low high]
          rfl
        · rw [far h away]
          rfl

end Sys2Proof.Machine
end

section
/-! One sample of the odometry (R6 to R17), stage by stage: what each leaves in the ODU. -/

namespace Sys2Proof.Machine

/-! ### The regime and the interval -/

/-- R6: the regime that a sample sets. -/
def State.sampleRegime (s : State) : Regime :=
  let o := s.odu
  let located (p : Position) := p = .valid ∨ p = .restored
  let mid := (o.lo / 100000 + (o.hi + 99999) / 100000) / 2
  let byTimer : Regime := if o.regimeTimer = none then .adhesion else .rack
  match s.lps.profile with
  | none => byTimer
  | some p =>
    if located o.pos then
      match p.segments.find? fun g =>
          decide (g.start ≤ mid ∧ (mid < g.stop ∨ (g.final = true ∧ mid = g.stop))) with
      | some g => if g.kind = .rack ∨ g.kind = .rackEntry then .rack else .adhesion
      | none => .adhesion
    else byTimer

theorem Segment.holds_eq (x : Nat) : (fun g : Segment => g.holds x) = fun g =>
    decide (g.start ≤ x ∧ (x < g.stop ∨ (g.final = true ∧ x = g.stop))) := by
  funext g
  simp [Segment.holds, Bool.decide_and, Bool.decide_or]

theorem State.chooseRegime_eq (s : State) : s.chooseRegime = s.sampleRegime := by
  have mid : (s.odu.pLo + s.odu.pHi) / 2 = (s.odu.lo / 100000 + (s.odu.hi + 99999) / 100000) / 2 := by
    simp [Odu.pLo, Odu.pHi, ceilDiv]
  have byTimer : (if s.odu.regimeTimer.isSome = true then Regime.rack else .adhesion) =
      if s.odu.regimeTimer = none then .adhesion else .rack := by
    cases s.odu.regimeTimer <;> rfl
  unfold State.chooseRegime State.sampleRegime
  cases s.lps.profile with
  | none => exact byTimer
  | some p =>
    dsimp only
    rw [byTimer, mid, Profile.segmentAt, Segment.holds_eq]
    simp only [Odu.located_iff] <;> rfl

/-- A source after the interval update of a sample in a regime. -/
def Source.brought (r before : Regime) (v : Source) : Source :=
  { v with intervalSum := 0, window := if r = before then v.window else [] }

/-- The ODU after the first stage of a sample. -/
def State.positioned (s : State) : Odu :=
  let o := s.odu
  let r := s.sampleRegime
  let tooth := decide (r = .rack ∧ o.tooth.src.health = .ok)
  let m := s.movesIn r
  let lo := withinLine (o.lo + m.1)
  let hi := withinLine (o.hi + m.2)
  { o with
    regime := r
    used := { upper := !tooth && decide (o.upper.src.health ≠ .isolated)
              lower := !tooth && decide (o.lower.src.health ≠ .isolated), tooth := tooth }
    upper := { o.upper with src := o.upper.src.brought r o.regime }
    lower := { o.lower with src := o.lower.src.brought r o.regime }
    tooth := { o.tooth with src := o.tooth.src.brought r o.regime, undirInterval := 0 }
    midSum := o.midSum + m.1 + m.2, distHalf := o.distHalf + (m.1 + m.2).natAbs
    lo := lo, hi := hi
    pos := if (o.pos = .valid ∨ o.pos = .restored) ∧ s.tooWide lo hi then .invalid .width else o.pos }

theorem State.setRegime_eq (s : State) : s.setRegime = { s with odu := { s.odu with
    regime := s.sampleRegime
    upper := { s.odu.upper with src := { s.odu.upper.src with
      window := if s.sampleRegime = s.odu.regime then s.odu.upper.src.window else [] } }
    lower := { s.odu.lower with src := { s.odu.lower.src with
      window := if s.sampleRegime = s.odu.regime then s.odu.lower.src.window else [] } }
    tooth := { s.odu.tooth with src := { s.odu.tooth.src with
      window := if s.sampleRegime = s.odu.regime then s.odu.tooth.src.window else [] } } } } := by
  unfold State.setRegime
  dsimp only
  rw [State.chooseRegime_eq]
  split
  · next same =>
    rw [same] <;> rfl
  · rfl

theorem State.samplePosition_odu (s : State) : s.samplePosition.odu = s.positioned := by
  unfold State.samplePosition
  dsimp only
  rw [State.setRegime_eq, ← State.chooseRegime_eq]
  rw [State.positioned, ← State.chooseRegime_eq]
  generalize s.chooseRegime = r
  generalize hx : ({ s with odu := { s.odu with
    regime := r
    upper := { s.odu.upper with src := { s.odu.upper.src with
      window := if r = s.odu.regime then s.odu.upper.src.window else [] } }
    lower := { s.odu.lower with src := { s.odu.lower.src with
      window := if r = s.odu.regime then s.odu.lower.src.window else [] } }
    tooth := { s.odu.tooth with src := { s.odu.tooth.src with
      window := if r = s.odu.regime then s.odu.tooth.src.window else [] } } } } : State) = x
  have used := x.odu.choose_eq
  have moved := State.updateInterval_choose { x with odu := { x.odu with used := x.odu.choose } }
  refine moved.trans ?_
  rw [used]
  subst hx
  rfl

/-! ### The health checks -/

theorem Odu.isolated_none (o : Odu) : o.isolated = 0 ↔ o.upper.src.health ≠ .isolated ∧
    o.lower.src.health ≠ .isolated ∧ o.tooth.src.health ≠ .isolated := by
  simp [Odu.isolated, SourceId.all, List.filter_eq_nil_iff, Source.usable, Odu.src]

/-- R13: an axle encoder has become ISOLATED from one ODU to the next. -/
def Odu.losesAxle (before o : Odu) : Bool :=
  decide ((before.upper.src.health ≠ .isolated ∧ o.upper.src.health = .isolated) ∨
    (before.lower.src.health ≠ .isolated ∧ o.lower.src.health = .isolated))

theorem Odu.clearSlipIfIsolated_eq (before o : Odu) : before.clearSlipIfIsolated o =
    { o with slip := if before.losesAxle o then false else o.slip } := by
  have test : ((before.upper.src.usable && !o.upper.src.usable) ||
      (before.lower.src.usable && !o.lower.src.usable)) = before.losesAxle o := by
    simp [Source.usable_eq, Odu.losesAxle, Bool.decide_or, Bool.decide_and]
  unfold Odu.clearSlipIfIsolated
  rw [test]
  cases before.losesAxle o <;> rfl

/-- The ODU with its sources judged, which clears the slip/slide flag where an axle encoder becomes ISOLATED. -/
def Odu.withSources (o : Odu) (u l t : Source) : Odu :=
  let o' : Odu := { o with
    upper := { o.upper with src := u }, lower := { o.lower with src := l }, tooth := { o.tooth with src := t } }
  { o' with slip := if o.losesAxle o' then false else o.slip }

/-- R12: the median check judges. -/
def Odu.judges (o : Odu) : Bool := decide (o.regime = .rack ∧ o.upper.src.health ≠ .isolated ∧
  o.lower.src.health ≠ .isolated ∧ o.tooth.src.health ≠ .isolated ∧ 20 ≤ o.upper.src.window.length)

/-- R12: a source after the median check. -/
def State.median (s : State) (v : Source) : Source :=
  let m := median3 s.odu.upper.src.distance s.odu.lower.src.distance s.odu.tooth.src.distance
  if s.odu.judges then v.judge m (s.tolerance m) else v

theorem State.medianCheck_odu (s : State) : s.medianCheck.odu =
    s.odu.withSources (s.median s.odu.upper.src) (s.median s.odu.lower.src) (s.median s.odu.tooth.src) := by
  have test : (s.odu.regime = .rack ∧ s.odu.isolated = 0 ∧ s.odu.upper.src.fullWindow) ↔ s.odu.judges = true := by
    rw [Odu.isolated_none, Odu.judges, Source.fullWindow, decide_eq_true_iff, decide_eq_true_iff]
    tauto
  unfold State.medianCheck
  by_cases h : s.odu.judges = true
  · simp only [State.median, if_pos h]
    rw [if_pos (test.2 h)]
    simp only [State.setHealth, State.raiseIf_odu, Odu.clearSlipIfIsolated_eq]
    rfl
  · simp only [State.median, if_neg h]
    rw [if_neg fun k => h (test.1 k)]
    simp [Odu.withSources, Odu.losesAxle]

theorem State.pairCheck_odu (s : State) : s.pairCheck.odu = { s.odu with
    slip :=
      if s.odu.upper.src.health ≠ .isolated ∧ s.odu.lower.src.health ≠ .isolated ∧
          20 ≤ s.odu.upper.src.window.length then
        decide (s.tolerance (max (s.odu.upper.src.distance.natAbs : Int) s.odu.lower.src.distance.natAbs) <
          (s.odu.upper.src.distance - s.odu.lower.src.distance).natAbs)
      else s.odu.slip } := by
  unfold State.pairCheck
  simp only [Source.usable_eq, Source.fullWindow, decide_eq_true_eq]
  split <;> rfl

/-- R14: an encoder's source after the test of its illegal transitions. -/
def Encoder.tested (e : Encoder) : Source :=
  { e.src with health := if 16 < e.illegalHist.sum then .isolated else e.src.health }

theorem Encoder.illegalCheck_eq (e : Encoder) : e.illegalCheck = { e with src := e.tested } := by
  unfold Encoder.illegalCheck Encoder.tested
  split <;> rfl

theorem State.illegalCheck_odu (s : State) : s.illegalCheck.odu =
    s.odu.withSources s.odu.upper.tested s.odu.lower.tested s.odu.tooth.src := by
  unfold State.illegalCheck
  simp only [State.setHealth, State.raiseIf_odu, Odu.clearSlipIfIsolated_eq, Encoder.illegalCheck_eq]
  rfl

/-- The state of a sample with its histories pushed. -/
def State.pushed (s : State) : State := { s with odu := s.odu.pushSamples }

/-- R11 to R14: the state of a sample after its three checks. -/
def State.checked (s : State) : State := s.pushed.medianCheck.pairCheck.illegalCheck

theorem State.sampleHealth_eq (s : State) : s.sampleHealth = s.checked.sourceTest := rfl

/-- R8: the loss of the distance sources. -/
theorem State.sourceTest_odu (s : State) : s.sourceTest.odu = { s.odu with
    pos := if (s.odu.pos = .valid ∨ s.odu.pos = .restored) ∧ s.odu.upper.src.health = .isolated ∧
        s.odu.lower.src.health = .isolated ∧ ¬(s.odu.regime = .rack ∧ s.odu.tooth.src.health = .ok) then
      .invalid .sourcesLost else s.odu.pos } := by
  have test : (s.odu.sourcesLost = true ∧ s.odu.located = true) ↔ (s.odu.pos = .valid ∨ s.odu.pos = .restored) ∧
      s.odu.upper.src.health = .isolated ∧ s.odu.lower.src.health = .isolated ∧
      ¬(s.odu.regime = .rack ∧ s.odu.tooth.src.health = .ok) := by
    rw [Odu.located_iff]
    simp [Odu.sourcesLost, Source.usable_eq]
    tauto
  unfold State.sourceTest
  split
  · next h => rw [State.setPosition_odu, if_pos (test.1 h)]
  · next h => rw [if_neg fun k => h (test.2 k)]

/-- R12: what a judgement makes of a source: its health, its run inside the tolerance and its run as SUSPECT. -/
def Source.judged (v : Source) (inside : Bool) : Health × Nat × Nat :=
  let run := if inside then v.inTol + 1 else 0
  if v.health = .ok ∧ inside = false then (.suspect, 0, 1)
  else if v.health = .suspect then
    (if 20 ≤ run then .ok else if 60 ≤ v.suspectRun + 1 then .isolated else .suspect, run, v.suspectRun + 1)
  else (v.health, v.inTol, v.suspectRun)

theorem Source.judge_eq (v : Source) (m : Int) (tol : Nat) : v.judge m tol =
    (let j := v.judged (decide ((v.distance - m).natAbs ≤ tol))
     { v with health := j.1, inTol := j.2.1, suspectRun := j.2.2 }) := by
  obtain ⟨health, a, b, c, d, e, f, g⟩ := v
  unfold Source.judge Source.judged Source.distance
  dsimp only
  generalize decide ((List.sum c - m).natAbs ≤ tol) = inside
  cases health with
  | ok => cases inside <;> rfl
  | suspect => simp only [reduceCtorEq, false_and, if_false, if_true]; (repeat' split) <;> rfl
  | isolated => simp only [reduceCtorEq, false_and, if_false]

theorem Source.judged_isolated (v : Source) (inside : Bool) (h : v.health = .isolated) :
    (v.judged inside).1 = .isolated := by
  simp [Source.judged, h]

/-- R12: what the median check makes of a source of a state. -/
def State.verdict (s : State) (v : Source) : Health × Nat × Nat :=
  let m := median3 s.odu.upper.src.distance s.odu.lower.src.distance s.odu.tooth.src.distance
  if s.odu.judges then v.judged (decide ((v.distance - m).natAbs ≤ s.tolerance m))
  else (v.health, v.inTol, v.suspectRun)

theorem State.median_eq (s : State) (v : Source) : s.median v =
    { v with health := (s.verdict v).1, inTol := (s.verdict v).2.1, suspectRun := (s.verdict v).2.2 } := by
  unfold State.median State.verdict
  dsimp only
  split
  · exact Source.judge_eq _ _ _
  · rfl

theorem State.verdict_isolated (s : State) (v : Source) (h : v.health = .isolated) :
    (s.verdict v).1 = .isolated := by
  unfold State.verdict
  dsimp only
  split
  · exact Source.judged_isolated _ _ h
  · exact h

/-- R12, R14: the health of an encoder after the checks of a sample. -/
def State.checkedHealth (s : State) (e : Encoder) : Health :=
  if 16 < e.illegalHist.sum then .isolated else (s.verdict e.src).1

/-- R13: the slip/slide flag after the checks of a sample. -/
def State.checkedSlip (s : State) : Bool :=
  let o := s.odu
  let x := o.upper.src.distance
  let y := o.lower.src.distance
  if (o.upper.src.health ≠ .isolated ∧ s.checkedHealth o.upper = .isolated) ∨
      (o.lower.src.health ≠ .isolated ∧ s.checkedHealth o.lower = .isolated) then false
  else if (s.verdict o.upper.src).1 ≠ .isolated ∧ (s.verdict o.lower.src).1 ≠ .isolated ∧
      20 ≤ o.upper.src.window.length then
    decide (s.tolerance (max (x.natAbs : Int) y.natAbs) < (x - y).natAbs)
  else o.slip

/-- The ODU after the checks of a sample, with a slip/slide flag. -/
def State.checkedWith (s : State) (slip : Bool) : Odu := { s.odu with
  upper := { s.odu.upper with src := { s.odu.upper.src with
    health := s.checkedHealth s.odu.upper
    inTol := (s.verdict s.odu.upper.src).2.1, suspectRun := (s.verdict s.odu.upper.src).2.2 } }
  lower := { s.odu.lower with src := { s.odu.lower.src with
    health := s.checkedHealth s.odu.lower
    inTol := (s.verdict s.odu.lower.src).2.1, suspectRun := (s.verdict s.odu.lower.src).2.2 } }
  tooth := { s.odu.tooth with src := { s.odu.tooth.src with
    health := (s.verdict s.odu.tooth.src).1
    inTol := (s.verdict s.odu.tooth.src).2.1, suspectRun := (s.verdict s.odu.tooth.src).2.2 } }
  slip := slip }

theorem ite_isolated (p : Prop) [Decidable p] (h : Health) :
    (if p then Health.isolated else h) = .isolated ↔ p ∨ h = .isolated := by
  split <;> simp [*]

/-- R13: the flag that the checks clear one by one, where an axle encoder becomes ISOLATED, is the one cleared
by their result: an encoder that the median check has isolated takes no part in the pair check. -/
theorem slip_kept {a b u l p q w : Prop} (upper : a → u) (lower : b → l) (x y : Bool)
    [Decidable (¬u ∧ (p ∨ u) ∨ ¬l ∧ (q ∨ l))] [Decidable (¬u ∧ ¬l ∧ w)] [Decidable (¬a ∧ u ∨ ¬b ∧ l)]
    [Decidable (¬a ∧ (p ∨ u) ∨ ¬b ∧ (q ∨ l))] :
    (if ¬u ∧ (p ∨ u) ∨ ¬l ∧ (q ∨ l) then false
      else if ¬u ∧ ¬l ∧ w then x else if ¬a ∧ u ∨ ¬b ∧ l then false else y) =
    if ¬a ∧ (p ∨ u) ∨ ¬b ∧ (q ∨ l) then false else if ¬u ∧ ¬l ∧ w then x else y := by
  by_cases median : u ∨ l
  · by_cases lost : ¬a ∧ u ∨ ¬b ∧ l
    · have all : ¬a ∧ (p ∨ u) ∨ ¬b ∧ (q ∨ l) := by tauto
      rw [if_pos all, if_neg (by tauto : ¬(¬u ∧ ¬l ∧ w)), if_pos lost, ite_self]
    · have same : (¬u ∧ (p ∨ u) ∨ ¬l ∧ (q ∨ l)) ↔ (¬a ∧ (p ∨ u) ∨ ¬b ∧ (q ∨ l)) := by tauto
      rw [if_neg lost]
      exact if_congr same rfl rfl
  · have same : (¬u ∧ (p ∨ u) ∨ ¬l ∧ (q ∨ l)) ↔ (¬a ∧ (p ∨ u) ∨ ¬b ∧ (q ∨ l)) := by tauto
    rw [if_neg (by tauto : ¬(¬a ∧ u ∨ ¬b ∧ l))]
    exact if_congr same rfl rfl

/-- R11 to R14: what the three checks of a sample leave in the ODU. -/
theorem State.checks_odu (s : State) :
    s.medianCheck.pairCheck.illegalCheck.odu = s.checkedWith s.checkedSlip := by
  have tolerance : s.medianCheck.tolerance = s.tolerance := by
    have par : s.medianCheck.par = s.par := funext fun q => State.par_congr (by simp) q
    funext r
    unfold State.tolerance
    rw [par]
  rw [State.illegalCheck_odu, State.pairCheck_odu, tolerance, State.medianCheck_odu]
  simp only [State.median_eq, Odu.withSources, Encoder.tested]
  refine congrArg s.checkedWith ?_
  simp only [Odu.losesAxle, State.checkedSlip, State.checkedHealth, Source.distance, decide_eq_true_eq]
  simp only [ite_isolated]
  exact slip_kept (s.verdict_isolated s.odu.upper.src) (s.verdict_isolated s.odu.lower.src) _ _

end Sys2Proof.Machine
end

section
/-! Speed, motion and rollback of a sample (R15 to R17), and the obligations about a sample. -/

namespace Sys2Proof.Machine

/-! ### Speed, motion and rollback -/

/-- R15, R17: whether a source measures. -/
def Odu.measures (o : Odu) (i : SourceId) : Bool :=
  let used := match i with
    | .upper => o.used.upper
    | .lower => o.used.lower
    | .tooth => o.used.tooth
  if o.used = { upper := false, lower := false, tooth := false } then decide ((o.src i).health ≠ .isolated)
  else used

/-- The greatest of a quantity of the sources that measure. -/
def Odu.greatest (o : Odu) (f : SourceId → Nat) : Nat :=
  max (if o.measures .upper then f .upper else 0)
    (max (if o.measures .lower then f .lower else 0) (if o.measures .tooth then f .tooth else 0))

theorem Odu.measuring_eq (o : Odu) : o.measuring = SourceId.all.filter o.measures := by
  have empty : o.used.list = [] ↔ o.used = { upper := false, lower := false, tooth := false } := by
    obtain ⟨u, l, t⟩ := o.used
    cases u <;> cases l <;> cases t <;> simp [Used.list]
  unfold Odu.measuring Odu.measures
  by_cases none : o.used = { upper := false, lower := false, tooth := false }
  · rw [if_pos (empty.2 none)]
    simp only [none, Source.usable_eq, if_true]
  · rw [if_neg fun k => none (empty.1 k)]
    simp only [none, if_false]
    obtain ⟨u, l, t⟩ := o.used
    cases u <;> cases l <;> cases t <;> rfl

theorem Odu.measuring_max (o : Odu) (f : SourceId → Nat) : (o.measuring.map f).foldl max 0 = o.greatest f := by
  rw [Odu.measuring_eq]
  unfold Odu.greatest SourceId.all
  cases u : o.measures .upper <;> cases l : o.measures .lower <;> cases t : o.measures .tooth <;>
    simp [u, l, t, max_assoc]

/-- R15: the speed of a source over its last four samples. -/
def Odu.sourceSpeed (o : Odu) (i : SourceId) : Nat :=
  ((o.src i).last4.sum.natAbs + (if i = .tooth then o.tooth.undir4.sum else 0) + 1999) / 2000

theorem Odu.candidate_eq (o : Odu) : o.candidate = o.greatest o.sourceSpeed := by
  rw [Odu.candidate, Odu.measuring_max]
  congr 1
  funext i
  cases i <;> simp [Odu.magnitude, Odu.sourceSpeed, ceilDiv, Odu.src]

theorem Odu.isolated_all (o : Odu) : o.isolated = 3 ↔ ∀ i, (o.src i).health = .isolated := by
  have all : (∀ i, (o.src i).health = .isolated) ↔
      o.upper.src.health = .isolated ∧ o.lower.src.health = .isolated ∧ o.tooth.src.health = .isolated :=
    ⟨fun h => ⟨h .upper, h .lower, h .tooth⟩, fun ⟨u, l, t⟩ i => by cases i <;> assumption⟩
  rw [all]
  unfold Odu.isolated SourceId.all
  simp only [Source.usable_eq, List.filter_cons, List.filter_nil, Odu.src]
  by_cases u : o.upper.src.health = .isolated <;> by_cases l : o.lower.src.health = .isolated <;>
    by_cases t : o.tooth.src.health = .isolated <;> simp [u, l, t]

/-- R17: how far a source's sum points against the selected direction. -/
def State.backOf (s : State) (i : SourceId) : Nat :=
  match s.dka.selected with
  | none => 0
  | some .up => (-(s.odu.src i).sampleSum).toNat
  | some .down => (s.odu.src i).sampleSum.toNat

/-- A source with the sums of the sample cleared. -/
def Source.sampled (v : Source) : Source := { v with sampleSum := 0 }

theorem Odu.greatest_zero (o : Odu) : o.greatest (fun _ => 0) = 0 := by simp [Odu.greatest]

theorem Odu.setSpeed_eq (o : Odu) : o.setSpeed = { o with
    speed := if o.isolated = 3 then 1500 else min 1500 (o.greatest o.sourceSpeed)
    overrange := decide (o.isolated = 3 ∨ 1500 < o.greatest o.sourceSpeed) } := by
  unfold Odu.setSpeed
  rw [Odu.candidate_eq]
  split_ifs with all fast
  · simp [all]
  · simp [fast, min_eq_left fast.le]
  · simp [all, fast, min_eq_right (Nat.le_of_not_lt fast)]

theorem State.addRollback_odu (s : State) : s.addRollback.odu = { s.odu with
    rollback := if s.odu.motion = .standstill then s.odu.rollback
      else s.odu.rollback + s.odu.greatest s.backOf } := by
  unfold State.addRollback State.backOf
  cases selected : s.dka.selected with
  | none =>
    dsimp only
    rw [Odu.greatest_zero, add_zero, ite_self]
  | some d =>
    have back : (fun i => against d (s.odu.src i).sampleSum) = fun i => match some d with
        | none => 0
        | some .up => (-(s.odu.src i).sampleSum).toNat
        | some .down => (s.odu.src i).sampleSum.toNat := by
      cases d <;> rfl
    dsimp only
    rw [back, Odu.measuring_max]
    simp only [s.still_iff]
    split <;> rfl

/-- R15 to R17: what the last stage of a sample leaves in the ODU. -/
theorem State.sampleMotion_odu (s : State) : s.sampleMotion.odu = (let o := s.odu
    let mids := (o.midSum :: o.mid4).take 4
    { o with
      speed := if o.isolated = 3 then 1500 else min 1500 (o.greatest o.sourceSpeed)
      overrange := decide (o.isolated = 3 ∨ 1500 < o.greatest o.sourceSpeed)
      mid4 := mids, midSum := 0
      motion := if o.motion = .standstill then o.motion
        else if 0 < mids.sum then .movingUp else if mids.sum < 0 then .movingDown else o.motion
      rollback := if o.motion = .standstill then o.rollback else o.rollback + o.greatest s.backOf
      upper := { o.upper with src := o.upper.src.sampled, illegalTally := 0 }
      lower := { o.lower with src := o.lower.src.sampled, illegalTally := 0 }
      tooth := { o.tooth with src := o.tooth.src.sampled, undirSample := 0 } }) := by
  have motion : (s.odu.setSpeed.setMotion.motion = .standstill) ↔ s.odu.motion = .standstill := by
    rw [Odu.setSpeed_eq]
    unfold Odu.setMotion
    dsimp only
    split_ifs <;> simp [*]
  unfold State.sampleMotion
  dsimp only
  rw [State.addRollback_odu]
  simp only [motion]
  rw [Odu.setSpeed_eq]
  rfl

/-! ### A whole sample -/

theorem State.samplePosition_only (s : State) : s.OnlyOdu s.samplePosition :=
  ((State.setRegime_only s).trans (State.OnlyOdu.mk' _ _)).trans (State.updateInterval_only _ _)

/-- The state of a sample whose histories have taken its sums. -/
def State.sampling (s : State) : State := { s with odu := s.positioned.pushSamples }

/-- The ODU of a sample before its last stage. -/
def State.judgedOdu (s : State) : Odu :=
  let o := s.sampling.checkedWith s.sampling.checkedSlip
  { o with pos :=
      if (o.pos = .valid ∨ o.pos = .restored) ∧ o.upper.src.health = .isolated ∧
          o.lower.src.health = .isolated ∧ ¬(o.regime = .rack ∧ o.tooth.src.health = .ok) then
        .invalid .sourcesLost
      else o.pos }

theorem State.sampleHealth_odu (s : State) : s.samplePosition.sampleHealth.odu = s.judgedOdu := by
  have frame : s.samplePosition = { s with odu := s.positioned, pif := s.samplePosition.pif } := by
    have e := s.samplePosition_only.1
    rw [State.samplePosition_odu] at e
    exact e
  have pushed : s.samplePosition.pushed.odu = s.sampling.odu := by
    rw [State.pushed, State.samplePosition_odu]
    rfl
  rw [State.sampleHealth_eq, State.sourceTest_odu]
  unfold State.checked State.judgedOdu
  rw [State.checks_odu, frame]
  rfl

theorem State.sample_odu (s : State) : s.sample.odu = (let o := s.judgedOdu
    let mids := (o.midSum :: o.mid4).take 4
    { o with
      speed := if o.isolated = 3 then 1500 else min 1500 (o.greatest o.sourceSpeed)
      overrange := decide (o.isolated = 3 ∨ 1500 < o.greatest o.sourceSpeed)
      mid4 := mids, midSum := 0
      motion := if o.motion = .standstill then o.motion
        else if 0 < mids.sum then .movingUp else if mids.sum < 0 then .movingDown else o.motion
      rollback := if o.motion = .standstill then o.rollback
        else o.rollback + o.greatest (State.backOf { s with odu := o })
      upper := { o.upper with src := o.upper.src.sampled, illegalTally := 0 }
      lower := { o.lower with src := o.lower.src.sampled, illegalTally := 0 }
      tooth := { o.tooth with src := o.tooth.src.sampled, undirSample := 0 } }) := by
  have dka : s.samplePosition.sampleHealth.dka = s.dka := by simp
  have back : s.samplePosition.sampleHealth.backOf = State.backOf { s with odu := s.judgedOdu } := by
    funext i
    unfold State.backOf
    rw [dka, State.sampleHealth_odu]
  unfold State.sample
  rw [State.sampleMotion_odu, back, State.sampleHealth_odu]

/-- 1.3: the state at a sample's event, with the next sample's time set. -/
def State.clocked (s : State) : State := { s with odu := { s.odu with sampleTimer := s.odu.sampleTimer + 50000 } }

/-- A sample is that of its event's state, in which the clock has moved on but nothing that it reads. -/
theorem exec_oduSample (s : State) : ∃ y t : State, s.advanceTo s.odu.sampleTimer = y ∧ y.odu = s.odu ∧
    y.lps = s.lps ∧ y.dka = s.dka ∧ y.par = s.par ∧ exec .oduSample s = .next t ∧ y.OnlyOdu y.clocked.sample ∧
    y.clocked.sample.Ends t := by
  have odu : (s.advanceTo s.odu.sampleTimer).odu = s.odu := State.advanceTo_odu _ _
  have clock : s.sampleClock = (s.advanceTo s.odu.sampleTimer).clocked := by
    unfold State.clocked
    rw [odu]
    unfold State.sampleClock
    dsimp only
    rw [odu]
    rfl
  refine ⟨_, _, rfl, odu, by simp, by simp, funext fun q => State.par_congr (by simp) q, rfl, ?_, ?_⟩
  · exact (State.OnlyOdu.mk' _ _).trans (State.sample_only _)
  · rw [← clock]
    exact State.finish_ends _

/-- Settles O8: the regime, the interval and the position that the first stage and the checks leave. -/
theorem sampleSetsTheRegimeAndMovesTheInterval : Obligations.SampleSetsTheRegimeAndMovesTheInterval := by
  intro s o
  obtain ⟨y, t, clock, odu, lps, dka, par, out, only, ends⟩ := exec_oduSample s
  have moves : s.movesIn = y.movesIn := by
    unfold State.movesIn
    rw [odu, par]
  have wide : s.tooWide = y.tooWide := by
    unfold State.tooWide
    rw [par]
  have tells := y.clocked.sample_tells
  have before : o = y.odu := odu.symm
  change s.advanceTo o.sampleTimer = y at clock
  clear_value o
  subst before
  rw [clock, moves, wide, ← lps]
  refine ⟨t, _, out, only, ends, ?_⟩
  rw [State.sample_odu] at tells ⊢
  refine ⟨rfl, rfl, rfl, rfl, rfl, ?_, rfl, ?_, tells, rfl, rfl, ?_⟩
  · intro i
    cases i <;> rfl
  · rfl
  · intro i
    cases i <;> rfl

/-- Settles O9: the speed, the direction and the rollback distance that the last stage leaves. -/
theorem sampleGivesTheSpeedAndTheDirection : Obligations.SampleGivesTheSpeedAndTheDirection := by
  intro s o
  obtain ⟨y, t, clock, odu, lps, dka, par, out, only, ends⟩ := exec_oduSample s
  have moves : s.movesIn = y.movesIn := by
    unfold State.movesIn
    rw [odu, par]
  have before : o = y.odu := odu.symm
  change s.advanceTo o.sampleTimer = y at clock
  clear_value o
  subst before
  rw [clock, moves, ← dka]
  refine ⟨t, _, out, only, ends, ?_⟩
  have made := y.clocked.sample_odu
  have speed : y.clocked.judgedOdu.sourceSpeed = fun i =>
      ((((y.odu.src i).sampleSum :: (y.odu.src i).last4).take 4).sum.natAbs +
        (if i = .tooth then ((y.odu.tooth.undirSample :: y.odu.tooth.undir4).take 4).sum else 0) + 1999) / 2000 := by
    funext i
    cases i <;> rfl
  have back : State.backOf { y.clocked with odu := y.clocked.judgedOdu } = fun i => match y.dka.selected with
      | none => 0
      | some .up => (-(y.odu.src i).sampleSum).toNat
      | some .down => (y.odu.src i).sampleSum.toNat := by
    funext i
    cases i <;> rfl
  dsimp only at made
  rw [speed, back] at made
  have all : (∀ i, (y.clocked.sample.odu.src i).health = .isolated) ↔ y.clocked.judgedOdu.isolated = 3 := by
    rw [Odu.isolated_all]
    refine forall_congr' fun i => ?_
    rw [made]
    cases i <;> rfl
  have measures : y.clocked.judgedOdu.measures = y.clocked.sample.odu.measures := by
    funext i
    rw [made]
    cases i <;> rfl
  have greatest : y.clocked.judgedOdu.greatest = y.clocked.sample.odu.greatest := by
    funext f
    unfold Odu.greatest
    rw [measures]
  rw [greatest] at made
  generalize y.clocked.sample = u at made all
  have speeds := congrArg Odu.speed made
  have overrange := congrArg Odu.overrange made
  have motion := congrArg Odu.motion made
  have rollback := congrArg Odu.rollback made
  refine ⟨fun i => ?_, ?_, ?_, ?_, ?_, fun lost => ?_, fun some => ?_, ?_, ?_, fun stands => ?_, fun moving => ?_⟩
  · rw [made]
    cases i <;> exact ⟨rfl, rfl⟩
  · rw [made]; rfl
  · rw [made]
  · rw [made]
  · rw [made]
  · have three := all.1 lost
    exact ⟨speeds.trans (if_pos three), overrange.trans (decide_eq_true (.inl three))⟩
  · have three : y.clocked.judgedOdu.isolated ≠ 3 := fun h => some (all.2 h)
    refine ⟨speeds.trans (if_neg three), ?_⟩
    rw [overrange]
    exact decide_eq_true_iff.trans (or_iff_right three)
  · rw [made]; rfl
  · rw [made]
  · exact ⟨motion.trans ((if_pos stands).trans stands), rollback.trans (if_pos stands)⟩
  · have mids : u.odu.mid4 = (y.clocked.judgedOdu.midSum :: y.clocked.judgedOdu.mid4).take 4 :=
      congrArg Odu.mid4 made
    rw [mids]
    exact ⟨motion.trans (if_neg moving), rollback.trans (if_neg moving)⟩

end Sys2Proof.Machine
end

section
/-! The health checks of a sample (R11 to R14). -/

namespace Sys2Proof.Machine

/-- R12: what the median check makes of a source, with its conditions told apart. -/
theorem State.verdict_eq {s : State} {v : Source} {judges inside : Prop} [Decidable judges] [Decidable inside]
    (j : s.odu.judges = true ↔ judges)
    (i : (v.distance - median3 s.odu.upper.src.distance s.odu.lower.src.distance s.odu.tooth.src.distance).natAbs ≤
      s.tolerance (median3 s.odu.upper.src.distance s.odu.lower.src.distance s.odu.tooth.src.distance) ↔ inside) :
    s.verdict v =
      if v.health = .ok ∧ judges ∧ ¬inside then (.suspect, 0, 1)
      else if v.health = .suspect ∧ judges then
        (if 20 ≤ (if inside then v.inTol + 1 else 0) then .ok
          else if 60 ≤ v.suspectRun + 1 then .isolated else .suspect,
          if inside then v.inTol + 1 else 0, v.suspectRun + 1)
      else (v.health, v.inTol, v.suspectRun) := by
  unfold State.verdict Source.judged
  simp only [j, i, decide_eq_true_eq, decide_eq_false_iff_not]
  by_cases judging : judges
  · simp only [judging, if_true, true_and, and_true]
  · simp only [judging, if_false, false_and, and_false]

theorem State.tolerance_eq (s : State) (ref : Int) :
    s.tolerance ref = max ((ref.natAbs * s.par .tolDis + 999) / 1000) (s.par .pRack) := by
  rw [State.tolerance, ceilDiv_thousand]

/-- Settles O10: the three checks in their order. -/
theorem sampleChecksTheSources : Obligations.SampleChecksTheSources := by
  intro s o
  obtain ⟨y, t, clock, odu, lps, dka, par, out, only, ends⟩ := exec_oduSample s
  have before : o = y.odu := odu.symm
  change s.advanceTo o.sampleTimer = y at clock
  clear_value o
  subst before
  rw [clock, ← par]
  refine ⟨t, _, out, only, ends, ?_⟩
  have tells := y.clocked.sample_tells
  have made := y.clocked.sample_odu
  dsimp only at made
  have regime : y.clocked.sample.odu.regime = y.clocked.sampling.odu.regime := by rw [made]; rfl
  generalize hP : y.clocked.sampling = P at regime
  intro window distance x z w median tolerance full judges inside run judged illegal after pairs lostNow
  have windows : ∀ i, (P.odu.src i).window = window i := by
    intro i
    simp only [window, regime]
    rw [← hP]
    cases i <;> rfl
  have distances : ∀ i, (P.odu.src i).distance = distance i := fun i => congrArg List.sum (windows i)
  have kept : ∀ i, (P.odu.src i).health = (y.odu.src i).health ∧ (P.odu.src i).inTol = (y.odu.src i).inTol ∧
      (P.odu.src i).suspectRun = (y.odu.src i).suspectRun := by
    intro i
    rw [← hP]
    cases i <;> exact ⟨rfl, rfl, rfl⟩
  have whole : 20 ≤ P.odu.upper.src.window.length ↔ full := by
    have few : (window .upper).length ≤ 20 := List.length_take_le _ _
    have same : P.odu.upper.src.window = window .upper := windows .upper
    rw [same]
    exact ⟨fun h => le_antisymm few h, fun h => h.ge⟩
  have parameters : P.par = y.par := by rw [← hP]; rfl
  have tolerances : ∀ r, P.tolerance r = tolerance r := fun r => by rw [State.tolerance_eq, parameters]
  have judging : P.odu.judges = true ↔ judges := by
    have u : P.odu.upper.src.health = y.odu.upper.src.health := (kept .upper).1
    have l : P.odu.lower.src.health = y.odu.lower.src.health := (kept .lower).1
    have t : P.odu.tooth.src.health = y.odu.tooth.src.health := (kept .tooth).1
    rw [Odu.judges, decide_eq_true_iff, whole, u, l, t, ← regime]
  have middle : median3 P.odu.upper.src.distance P.odu.lower.src.distance P.odu.tooth.src.distance = median := by
    have u : P.odu.upper.src.distance = x := distances .upper
    have l : P.odu.lower.src.distance = z := distances .lower
    have t : P.odu.tooth.src.distance = w := distances .tooth
    rw [u, l, t]
    rfl
  have verdict : ∀ i, P.verdict (P.odu.src i) = judged i := by
    intro i
    obtain ⟨health, inTol, suspectRun⟩ := kept i
    rw [State.verdict_eq judging (inside := inside i) (by rw [middle, tolerances, distances]), health, inTol, suspectRun]
  have hist : P.odu.upper.illegalHist = illegal y.odu.upper ∧ P.odu.lower.illegalHist = illegal y.odu.lower := by
    rw [← hP]
    exact ⟨rfl, rfl⟩
  have healthU : P.checkedHealth P.odu.upper = after .upper := by
    have v : P.verdict P.odu.upper.src = judged .upper := verdict .upper
    rw [State.checkedHealth, v, hist.1]
  have healthL : P.checkedHealth P.odu.lower = after .lower := by
    have v : P.verdict P.odu.lower.src = judged .lower := verdict .lower
    rw [State.checkedHealth, v, hist.2]
  have final : ∀ i, (y.clocked.sample.odu.src i).window = (P.odu.src i).window ∧
      (y.clocked.sample.odu.src i).health = after i ∧ (y.clocked.sample.odu.src i).inTol = (judged i).2.1 ∧
      (y.clocked.sample.odu.src i).suspectRun = (judged i).2.2 := by
    intro i
    subst hP
    rw [← verdict i, made]
    cases i with
    | upper => exact ⟨rfl, healthU, rfl, rfl⟩
    | lower => exact ⟨rfl, healthL, rfl, rfl⟩
    | tooth => exact ⟨rfl, congrArg Prod.fst (verdict .tooth), rfl, rfl⟩
  refine ⟨fun i => ?_, ?_, ?_, ?_, fun lost => ?_⟩
  · obtain ⟨w, rest⟩ := final i
    exact ⟨w.trans (windows i), rest⟩
  · rw [made, ← hist.1, ← hP]; rfl
  · rw [made, ← hist.2, ← hP]; rfl
  · have slip : y.clocked.sample.odu.slip = P.checkedSlip := by rw [made, ← hP]; rfl
    have du : P.odu.upper.src.distance = x := distances .upper
    have dl : P.odu.lower.src.distance = z := distances .lower
    have ku : P.odu.upper.src.health = y.odu.upper.src.health := (kept .upper).1
    have kl : P.odu.lower.src.health = y.odu.lower.src.health := (kept .lower).1
    have vu : P.verdict P.odu.upper.src = judged .upper := verdict .upper
    have vl : P.verdict P.odu.lower.src = judged .lower := verdict .lower
    have ks : P.odu.slip = y.odu.slip := by rw [← hP]; rfl
    rw [slip, State.checkedSlip]
    simp only [du, dl, ku, kl, vu, vl, ks, healthU, healthL, tolerances, whole]
    rfl
  · refine State.Has.of_tells tells (.inr ?_)
    obtain ⟨i, ok, gone⟩ := lost
    exact ⟨i, by cases i <;> exact ok, gone⟩

end Sys2Proof.Machine
end

section
/-! The profile requests of port C (R28, R31, R32, R34). -/

namespace Sys2Proof.Machine

/-- The radio holds the claim. -/
def Lps.RadioHolds (l : Lps) : Prop := ∃ k, l.claim = some k ∧ k.holder = .radio

theorem Lps.otherHolds_portC (l : Lps) : l.otherHolds .portC = true ↔ l.RadioHolds := by
  unfold Lps.otherHolds Lps.RadioHolds
  cases l.claim with
  | none => simp
  | some k =>
    obtain ⟨holder, _, _⟩ := k
    cases holder <;> simp

section
variable {s : State} {k : ReqKind} {p : Port} {a b : Word}

/-- 9.4: a request of port C alone, from another port. -/
theorem State.serve_other_port (desk : k.fromDesk = false) (h : p ≠ .c) :
    s.serve k p a b = s.writeResult p k.code .notPermitted none :=
  State.serve_not_permitted _ _ ((ReqKind.permits_of_not_fromDesk desk p).trans (decide_eq_false h))

theorem ReqKind.permits_c (desk : k.fromDesk = false) : k.permits .c = true :=
  ReqKind.permits_of_not_fromDesk desk .c

end

theorem State.lps_place (s : State) (k : ReqKind) (p : Port) (a b : Word) : (s.place p k a b).lps = s.lps := by
  cases p <;> rfl

theorem exec_profileOpen (p : Port) (version length : Word) (s : State) :
    exec (.profileOpen p version length) s = .next (s.serve .profileOpen p version length) := rfl

theorem exec_profileClose (p : Port) (version : Word) (s : State) :
    exec (.profileClose p version) s = .next (s.serve .profileClose p version 0) := rfl

theorem exec_profileAbort (p : Port) (s : State) :
    exec (.profileAbort p) s = .next (s.serve .profileAbort p 0 0) := rfl

theorem exec_profileActivate (p : Port) (version : Word) (s : State) :
    exec (.profileActivate p version) s = .next (s.serve .profileActivate p version 0) := rfl

/-- R28: the answers of PROFILE_OPEN. -/
theorem profileOpen_answers (s : State) (p : Port) (version length : Word) :
    let c := Instr.profileOpen p version length
    let n := length.toNat
    let radio := ∃ k, s.lps.claim = some k ∧ k.holder = .radio
    (p ≠ .c → exec c s = .next (s.writeResult p 12 .notPermitted none)) ∧
    (p = .c → radio → exec c s = .next (s.writeResult p 12 .bankBusy none)) ∧
    (p = .c → ¬radio → (n < 21 ∨ 1069 < n) →
      exec c s = .next (s.writeResult p 12 .badArgument none)) ∧
    (p = .c → ¬radio → 21 ≤ n → n ≤ 1069 →
      exec c s = .next (State.writeResult p 12 .accepted none
        { s with lps := { s.lps.setBank s.lps.standbyId
            { role := .standby, state := .opened, image := [], length := some n,
              version := some version.toNat, header := none, result := none } with
          claim := some { holder := .portC, length := n, version := version.toNat }, closeCheck := none
          blockMap := 0, pendingAct := none, checkPos := 0, checkCrc := 0xFFFFFFFF } })) := by
  intro c n radio
  have held : (s.place .c .profileOpen version length).lps.otherHolds .portC = true ↔ radio :=
    Lps.otherHolds_portC _
  have permits := ReqKind.permits_c (k := .profileOpen) rfl
  rw [exec_profileOpen]
  refine ⟨fun other => ?_, ?_, ?_, ?_⟩
  · rw [State.serve_other_port rfl other]
    rfl
  · rintro rfl busy
    rw [State.serve_refused (r := .bankBusy) permits (if_pos (held.2 busy))]
    rfl
  · rintro rfl free bad
    rw [State.serve_refused (r := .badArgument) permits ((if_neg fun h => free (held.1 h)).trans (if_pos bad))]
    rfl
  · rintro rfl free low high
    rw [State.serve_accepted_only permits ((if_neg fun h => free (held.1 h)).trans
      (if_neg (not_or.2 ⟨Nat.not_lt.2 low, Nat.not_lt.2 high⟩)))]
    rfl

/-- R31: the answers of PROFILE_CLOSE. -/
theorem profileClose_answers (s : State) (p : Port) (version : Word) :
    let c := Instr.profileClose p version
    let b := s.lps.standby
    (p ≠ .c → exec c s = .next (s.writeResult p 13 .notPermitted none)) ∧
    (p = .c → s.lps.claim = none → exec c s = .next (s.writeResult p 13 .conditions none)) ∧
    (∀ k, p = .c → s.lps.claim = some k →
      (k.holder = .radio → exec c s = .next (s.writeResult p 13 .bankBusy none)) ∧
      (k.holder = .portC → b.state = .closed →
        exec c s = .next (s.writeResult p 13 .conditions none)) ∧
      (k.holder = .portC → b.state ≠ .closed → version.toNat ≠ k.version →
        exec c s = .next (s.writeResult p 13 .version none)) ∧
      (k.holder = .portC → b.state ≠ .closed → version.toNat = k.version →
        s.lps.blocksReceived = (k.length + 7) / 8 →
        exec c s = .next (State.writeResult p 13 .accepted none
          { s with lps := { s.lps.setBank s.lps.standbyId { b with state := .closed } with
            closeCheck := some s.pif.closeCheck
            checkPos := 0, checkCrc := 0xFFFFFFFF } })) ∧
      (k.holder = .portC → b.state ≠ .closed → version.toNat = k.version →
        s.lps.blocksReceived ≠ (k.length + 7) / 8 →
        exec c s = .next (State.writeResult p 13 .accepted none (State.raise .profile
          { s with lps := { s.lps.setBank s.lps.standbyId
              { b with state := .failed, result := some .missingBlocks } with
            claim := none, closeCheck := some s.pif.closeCheck, blockMap := 0 } })))) := by
  intro c b
  have permits := ReqKind.permits_c (k := .profileClose) rfl
  have expected : ∀ n, blocksExpected n = (n + 7) / 8 := fun n => by simp [blocksExpected, ceilDiv]
  rw [exec_profileClose]
  refine ⟨fun other => ?_, ?_, ?_⟩
  · rw [State.serve_other_port rfl other]
    rfl
  · rintro rfl free
    rw [State.serve_refused (r := .conditions) permits]
    · rfl
    · change State.closeProfile _ _ _ _ = _
      rw [State.closeProfile, State.lps_place, free]
  · rintro k rfl claim
    have answer : (s.place .c .profileClose version 0).answer .profileClose .c version 0 =
        (s.place .c .profileClose version 0).closeProfile .portC version.toNat s.pif.closeCheck := rfl
    rw [State.closeProfile, State.lps_place, claim] at answer
    dsimp only at answer
    refine ⟨fun radio => ?_, fun mine closed => ?_, fun mine open' other => ?_, fun mine open' same whole => ?_,
      fun mine open' same part => ?_⟩
    · rw [State.serve_refused (r := .bankBusy) permits]
      · rfl
      · rw [answer, if_pos (by rw [radio]; decide)]
    · rw [State.serve_refused (r := .conditions) permits]
      · rfl
      · rw [answer, if_neg (not_not.2 mine), if_pos closed]
    · rw [State.serve_refused (r := .version) permits]
      · rfl
      · rw [answer, if_neg (not_not.2 mine), if_neg open', if_pos other]
    all_goals
      rw [if_neg (not_not.2 mine), if_neg open', if_neg (not_not.2 same)] at answer
      rw [State.serve_accepted_only permits answer]
    · rw [Lps.closed, expected, if_pos whole, whole]
      simp only [bne_self_eq_false]
      rfl
    · have missing : (s.lps.blocksReceived != (k.length + 7) / 8) = true := by simpa using part
      rw [Lps.closed, expected, if_neg part, missing]
      rfl

/-- R32: the answers of PROFILE_ABORT. -/
theorem profileAbort_answers (s : State) (p : Port) :
    let radio := ∃ k, s.lps.claim = some k ∧ k.holder = .radio
    let u : State := { s with lps := { s.lps.setBank s.lps.standbyId
        { role := .standby, state := .empty, image := [], length := none, version := none,
          header := none, result := none } with
      claim := none, blockMap := 0, pendingAct := none, checkPos := 0, checkCrc := 0xFFFFFFFF } }
    (p ≠ .c → exec (.profileAbort p) s = .next (s.writeResult p 14 .notPermitted none)) ∧
    (p = .c → radio → exec (.profileAbort p) s = .next (s.writeResult p 14 .bankBusy none)) ∧
    (p = .c → ¬radio → s.lps.standby.state = .empty →
      exec (.profileAbort p) s = .next (u.writeResult p 14 .accepted none)) ∧
    (p = .c → ¬radio → s.lps.standby.state ≠ .empty →
      exec (.profileAbort p) s = .next ((u.raise .profile).writeResult p 14 .accepted none)) := by
  intro radio u
  have held : (s.place .c .profileAbort 0 0).lps.otherHolds .portC = true ↔ radio :=
    Lps.otherHolds_portC _
  have permits := ReqKind.permits_c (k := .profileAbort) rfl
  rw [exec_profileAbort]
  refine ⟨fun other => ?_, ?_, ?_, ?_⟩
  · rw [State.serve_other_port rfl other]
    rfl
  · rintro rfl busy
    rw [State.serve_refused (r := .bankBusy) permits (if_pos (held.2 busy))]
    rfl
  all_goals
    rintro rfl free
    rw [State.serve_accepted_only permits (if_neg fun h => free (held.1 h))]
  · intro empty
    have idle : (s.place .c .profileAbort 0 0).lps.standby.state = .empty := empty
    rw [idle]
    rfl
  · intro loaded
    have busy : ((s.place .c .profileAbort 0 0).lps.standby.state != .empty) = true := by
      simpa using loaded
    rw [busy]
    rfl

/-- Settles O12, request by request. -/
theorem profileRequestsOpenAndEndTheLoad : Obligations.ProfileRequestsOpenAndEndTheLoad :=
  ⟨profileOpen_answers, profileClose_answers, profileAbort_answers⟩

end Sys2Proof.Machine
end

section
/-! PROFILE_ACTIVATE (R34, R35), and the switch-over. -/

namespace Sys2Proof.Machine

/-- R143: the pair of a beacon compared with the image of the active bank. -/
def Outdates (m : Memory) (line version : Nat) : Bool :=
  decide ((m.read 0).toNat * 256 + (m.read 1).toNat ≠ line ∨ (m.read 2).toNat * 256 + (m.read 3).toNat ≠ version)

theorem State.isOutdated_eq {s : State} {m : Memory} (h : s.lps.profile = some (decodeProfile m))
    (line version : Nat) : s.isOutdated line version = Outdates m line version := by
  unfold State.isOutdated Outdates
  rw [h]
  simp only [decodeProfile, rawHeader, Memory.field_two, Bool.decide_or, decide_not, Nat.zero_add]
  rfl

theorem State.raiseIf_raise (c : Bool) (k : Notice) (s : State) : (s.raiseIf c k).raise k = s.raise k := by
  cases c
  · rfl
  · exact State.raise_raise k s

theorem State.flush_ssu (s : State) : s.flush = { s with ssu := { s.ssu with
    window := [], horizon := none, steepMark := false
    flushCount := (s.ssu.flushCount + 1) % 65536 } } := rfl

/-- R143: the comparison followed by the notice. -/
theorem State.compareOutdated_raise (s : State) : s.compareOutdated.raise .profile =
    State.raise .profile { s with tgh := { s.tgh with outdated := match s.tgh.beacon with
      | none => s.tgh.outdated
      | some (line, version) => s.isOutdated line version } } := by
  unfold State.compareOutdated
  cases beacon : s.tgh.beacon with
  | none => rfl
  | some pair =>
    dsimp only
    rw [State.raiseIf_raise]

/-- R35, R143: the switch-over with what it changes in the other blocks. -/
theorem State.switchOver_eq (s : State) : s.switchOver = State.raise .profile { s with
    lps := { (s.lps.setBank s.lps.standbyId { s.lps.standby with role := .active }).setBank s.lps.standbyId.other
        { s.lps.bank s.lps.standbyId.other with role := .standby } with
      pendingAct := none, scrubPos := 0, scrubCrc := 0xFFFFFFFF }
    ssu := { s.ssu with window := [], horizon := none, steepMark := false,
                        flushCount := (s.ssu.flushCount + 1) % 65536 }
    tgh := { s.tgh with outdated := match s.tgh.beacon with
      | none => s.tgh.outdated
      | some (line, v) =>
        decide ((s.lps.standby.image.read 0).toNat * 256 + (s.lps.standby.image.read 1).toNat ≠ line ∨
          (s.lps.standby.image.read 2).toNat * 256 + (s.lps.standby.image.read 3).toNat ≠ v) } } := by
  unfold State.switchOver
  rw [State.compareOutdated_raise, State.flush_ssu]
  have compared : ∀ x : State, x.lps = s.lps.switchOver → x.isOutdated = Outdates s.lps.standby.image := by
    intro x e
    funext line version
    exact State.isOutdated_eq (e ▸ s.lps.switchOver_profile) line version
  rw [compared _ rfl]
  rfl

theorem State.mayActivate_iff (s : State) :
    s.mayActivate = true ↔ s.odu.motion = .standstill ∨ s.dka.active = none := by
  simp [State.mayActivate, State.still]

/-- Settles O16: the answers of PROFILE_ACTIVATE by the conditions of R34 in their order. -/
theorem profileActivateSwitchesOver : Obligations.ProfileActivateSwitchesOver := by
  intro s p version c b now i
  have permits := ReqKind.permits_c (k := .profileActivate) rfl
  have owner : (s.place .c .profileActivate version 0).answer .profileActivate .c version 0 =
      ((s.place .c .profileActivate version 0).activateProfile .portC version.toNat).finished := rfl
  have may : (s.place .c .profileActivate version 0).mayActivate = true ↔ now := State.mayActivate_iff _
  have refused {r : ResultCode} (code : r ≠ .accepted)
      (h : (s.place .c .profileActivate version 0).activateProfile .portC version.toNat =
        (s.place .c .profileActivate version 0).refuse r) :
      exec (.profileActivate .c version) s = .next (s.writeResult .c 15 r none) := by
    rw [exec_profileActivate, State.serve_refused_finished permits code owner h]
    rfl
  refine ⟨fun other => ?_, ?_, ?_, ?_, ?_⟩
  · rw [exec_profileActivate, State.serve_other_port rfl other]
    rfl
  · rintro rfl unchecked
    exact refused (by decide) (if_pos unchecked)
  · rintro rfl checked other
    exact refused (by decide) ((if_neg (not_not.2 checked)).trans (if_pos other))
  · rintro rfl checked same stands
    have answer : (s.place .c .profileActivate version 0).activateProfile .portC version.toNat =
        (s.place .c .profileActivate version 0).switchOver.accept :=
      (if_neg (not_not.2 checked)).trans ((if_neg (not_not.2 same)).trans (if_pos (may.2 stands)))
    have answered := State.serve_accepted_finished permits owner answer
    rw [State.switchOver_eq] at answered
    exact ⟨_, exec_profileActivate .c version s, answered⟩
  · rintro rfl checked same moving
    have answer : (s.place .c .profileActivate version 0).activateProfile .portC version.toNat =
        State.accept { s.place .c .profileActivate version 0 with
          lps := { s.lps with pendingAct := some (version.toNat, .portC) } } :=
      (if_neg (not_not.2 checked)).trans ((if_neg (not_not.2 same)).trans (if_neg fun h => moving (may.1 h)))
    exact ⟨_, exec_profileActivate .c version s, State.serve_accepted_finished permits owner answer⟩

end Sys2Proof.Machine
end

section
/-! The expiry of the 50 ms timer of the line profile store (R27, R37, R38). -/

namespace Sys2Proof.Machine

/-! ### The check -/

/-- The bytes of a check or a scrub are read on: 64, or the rest. -/
theorem readNow_eq (length pos : Nat) : readNow length pos = min 64 (length - pos) := rfl

/-- R27: what one expiry makes of the check, `i` being the standby bank. -/
structure State.CheckStep (s t : State) (i : BankId) : Prop where
  frame : t = { s with lps := t.lps, pif := t.pif }
  lps : t.lps = { s.lps with
    x := t.lps.x, y := t.lps.y, claim := t.lps.claim, blockMap := t.lps.blockMap
    checkPos := t.lps.checkPos, checkCrc := t.lps.checkCrc }
  other : t.lps.bank i.other = s.lps.bank i.other
  role : (t.lps.bank i).role = (s.lps.bank i).role
  tells : s.Tells t .profile ((t.lps.bank i).state ≠ (s.lps.bank i).state)
  checks : ∀ k, s.lps.claim = some k → (s.lps.bank i).state = .closed →
    let n := min 64 (k.length - s.lps.checkPos)
    let crc := crc32Run (s.lps.bank i).image s.lps.checkCrc s.lps.checkPos n
    (s.lps.checkPos + n < k.length →
      t.lps.bank i = s.lps.bank i ∧ t.lps.claim = s.lps.claim ∧ t.lps.blockMap = s.lps.blockMap ∧
      t.lps.checkPos = s.lps.checkPos + n ∧ t.lps.checkCrc = crc) ∧
    (k.length ≤ s.lps.checkPos + n →
      let r := structuralCheck (s.lps.bank i).image k.length k.version s.lps.closeCheck crc
      t.lps.claim = none ∧ t.lps.blockMap = 0 ∧ t.lps.checkPos = 0 ∧ t.lps.checkCrc = 0xFFFFFFFF ∧
      t.lps.bank i = { s.lps.bank i with
        state := (t.lps.bank i).state, header := (t.lps.bank i).header, result := some r } ∧
      (r ≠ .passed → (t.lps.bank i).header = (s.lps.bank i).header) ∧
      ((t.lps.bank i).state = if r = .passed then .checked else .failed) ∧
      (let b (a : Nat) : Nat := ((s.lps.bank i).image.read a).toNat
       let m := (s.lps.bank i).image
       r = .passed → (t.lps.bank i).header = some
         { lineId := b 0 * 256 + b 1, lineEnd := b 4 * 65536 + b 5 * 256 + b 6
           nSegments := b 7, nMarkers := b 8
           check := m.read 9 ++ m.read 10 ++ m.read 11 ++ m.read 12 }) ∧
      t.Has .profile)
  idle : (s.lps.bank i).state ≠ .closed ∨ s.lps.claim = none →
    t.lps.bank i = s.lps.bank i ∧ t.lps.claim = s.lps.claim ∧ t.lps.blockMap = s.lps.blockMap ∧
    t.lps.checkPos = s.lps.checkPos ∧ t.lps.checkCrc = s.lps.checkCrc

theorem State.Tells.never {s : State} {k : Notice} {c : Prop} (h : ¬c) : s.Tells s k c :=
  ⟨fun k => absurd k h, fun _ => rfl⟩

theorem State.CheckStep.refl {s : State} {i : BankId} (h : (s.lps.bank i).state ≠ .closed ∨ s.lps.claim = none) :
    s.CheckStep s i where
  frame := rfl
  lps := rfl
  other := rfl
  role := rfl
  tells := .never (not_not.2 rfl)
  checks k claim closed := by
    rcases h with h | h
    · exact absurd closed h
    · rw [claim] at h
      exact absurd h (Option.some_ne_none k)
  idle _ := ⟨rfl, rfl, rfl, rfl, rfl⟩

theorem beNat_four (a b c d : Byte) : BitVec.ofNat 32 (beNat [a, b, c, d]) = a ++ b ++ c ++ d := by
  have append {n : Nat} (x : BitVec n) (y : Byte) : (x ++ y).toNat = x.toNat * 256 + y.toNat := by
    rw [BitVec.toNat_append, ← Nat.shiftLeft_add_eq_or_of_lt y.isLt, Nat.shiftLeft_eq]
  apply BitVec.eq_of_toNat_eq
  rw [append, append, append, BitVec.toNat_ofNat]
  simp only [beNat, List.foldl_cons, List.foldl_nil]
  have := a.isLt
  have := b.isLt
  have := c.isLt
  have := d.isLt
  omega

/-- 11.5: the header's fields by the bytes of the image. -/
theorem rawHeader_bytes (m : Memory) :
    (rawHeader m).lineId = (m.read 0).toNat * 256 + (m.read 1).toNat ∧
    (rawHeader m).version = (m.read 2).toNat * 256 + (m.read 3).toNat ∧
    (rawHeader m).lineEnd = (m.read 4).toNat * 65536 + (m.read 5).toNat * 256 + (m.read 6).toNat ∧
    (rawHeader m).nSegments = (m.read 7).toNat ∧ (rawHeader m).nMarkers = (m.read 8).toNat ∧
    (rawHeader m).check = m.read 9 ++ m.read 10 ++ m.read 11 ++ m.read 12 := by
  refine ⟨Memory.field_two m 0, Memory.field_two m 2, ?_, ?_, ?_, beNat_four _ _ _ _⟩
  · simp [rawHeader, Memory.field, Memory.bytes, beNat, List.range_succ]
    omega
  · simp [rawHeader, Memory.field, Memory.bytes, beNat]
  · simp [rawHeader, Memory.field, Memory.bytes, beNat]

section
variable {s : State} {i : BankId} {k : Claim}

/-- R27: 64 more bytes are read. -/
theorem State.CheckStep.reads (claim : s.lps.claim = some k) (closed : (s.lps.bank i).state = .closed)
    (more : s.lps.checkPos + readNow k.length s.lps.checkPos < k.length) :
    s.CheckStep { s with lps := { s.lps with
      checkPos := s.lps.checkPos + readNow k.length s.lps.checkPos
      checkCrc := crc32Run (s.lps.bank i).image s.lps.checkCrc s.lps.checkPos
        (readNow k.length s.lps.checkPos) } } i where
  frame := rfl
  lps := rfl
  other := by cases i <;> rfl
  role := by cases i <;> rfl
  tells := .never (not_not.2 (by cases i <;> rfl))
  checks k' claim' _ := by
    obtain rfl : k = k' := Option.some.inj (claim.symm.trans claim')
    exact ⟨fun _ => ⟨by cases i <;> rfl, rfl, rfl, rfl, rfl⟩, fun done => absurd more (Nat.not_lt.2 done)⟩
  idle h := by
    rcases h with h | h
    · exact absurd closed h
    · rw [claim] at h
      exact absurd h (Option.some_ne_none k)

/-- The standby bank after its last byte has been read, with the result of the check. -/
def Bank.checked (b : Bank) (r : CheckResult) : Bank :=
  if r = .passed then
    { b with state := .checked, result := some .passed
             header := some { lineId := (rawHeader b.image).lineId, lineEnd := (rawHeader b.image).lineEnd
                              nSegments := (rawHeader b.image).nSegments, nMarkers := (rawHeader b.image).nMarkers
                              check := (rawHeader b.image).check } }
  else { b with state := .failed, result := some r }

theorem Bank.checked_role (b : Bank) (r : CheckResult) : (b.checked r).role = b.role := by
  unfold Bank.checked
  split <;> rfl

/-- R27: the last byte is read, and the bank is CHECKED or FAILED. -/
theorem State.CheckStep.ends (claim : s.lps.claim = some k) (closed : (s.lps.bank i).state = .closed)
    (done : k.length ≤ s.lps.checkPos + readNow k.length s.lps.checkPos) :
    s.CheckStep (State.raise .profile { s with lps := { s.lps.setBank i ((s.lps.bank i).checked
        (structuralCheck (s.lps.bank i).image k.length k.version s.lps.closeCheck
          (crc32Run (s.lps.bank i).image s.lps.checkCrc s.lps.checkPos (readNow k.length s.lps.checkPos)))) with
      claim := none, blockMap := 0, checkPos := 0, checkCrc := crc32Init } }) i := by
  have bank : ∀ b : Bank, Lps.bank { s.lps.setBank i b with
      claim := none, blockMap := 0, checkPos := 0, checkCrc := crc32Init } i = b := by cases i <;> exact fun _ => rfl
  have other : ∀ b : Bank, Lps.bank { s.lps.setBank i b with
      claim := none, blockMap := 0, checkPos := 0, checkCrc := crc32Init } i.other = s.lps.bank i.other := by
    cases i <;> exact fun _ => rfl
  generalize hr : structuralCheck (s.lps.bank i).image k.length k.version s.lps.closeCheck
    (crc32Run (s.lps.bank i).image s.lps.checkCrc s.lps.checkPos (readNow k.length s.lps.checkPos)) = r
  have state : ((s.lps.bank i).checked r).state = if r = .passed then .checked else .failed := by
    unfold Bank.checked
    split <;> rfl
  generalize made : State.raise .profile { s with lps := { s.lps.setBank i ((s.lps.bank i).checked r) with
    claim := none, blockMap := 0, checkPos := 0, checkCrc := crc32Init } } = t
  have own : t.lps.bank i = (s.lps.bank i).checked r := by rw [← made]; exact bank _
  refine ⟨by rw [← made]; rfl, by rw [← made]; cases i <;> rfl, by rw [← made]; exact other _,
    by rw [own, Bank.checked_role], ⟨fun _ => by rw [← made]; rfl, fun same => absurd ?_ same⟩, ?_, ?_⟩
  · rw [own, state, closed]
    split <;> exact BankState.noConfusion
  · intro k' claim' _
    obtain rfl : k = k' := Option.some.inj (claim.symm.trans claim')
    refine ⟨fun more => absurd more (Nat.not_lt.2 done), fun _ => ?_⟩
    intro r'
    have same : r' = r := hr
    clear_value r'
    subst same
    have has : t.Has .profile := by rw [← made]; exact State.raise_has _ _
    obtain ⟨lineId, -, lineEnd, segments, markers, check⟩ := rawHeader_bytes (s.lps.bank i).image
    refine ⟨by rw [← made]; rfl, by rw [← made]; rfl, by rw [← made]; rfl, by rw [← made]; rfl, ?_, ?_,
      by rw [own, state], ?_, has⟩
    · rw [own]
      unfold Bank.checked
      split
      · next passed => rw [passed]
      · rfl
    · intro failed
      rw [own, Bank.checked, if_neg failed]
    · intro b m passed
      rw [own, Bank.checked, if_pos passed, lineId, lineEnd, segments, markers, check]
  · rintro (h | h)
    · exact absurd closed h
    · rw [claim] at h
      exact absurd h (Option.some_ne_none k)

end

theorem State.checkStep_step {s : State} {i : BankId} (standby : i = s.lps.standbyId) : s.CheckStep s.checkStep i := by
  have bank : s.lps.standby = s.lps.bank i := by rw [standby]; rfl
  unfold State.checkStep
  split
  · next free => exact .refl (.inr free)
  · next k claim =>
    rw [bank]
    split
    · next other => exact .refl (.inl other)
    · next closed =>
      dsimp only
      split
      · next more => exact .reads claim (not_not.1 closed) more
      · next done =>
        have ends := State.CheckStep.ends claim (not_not.1 closed) (Nat.not_lt.1 done)
        unfold Lps.endCheck
        rw [bank, ← standby]
        exact ends

/-! ### The scrub -/

/-- R37, R38: what one expiry makes of the scrub, `i` being the standby bank. -/
structure State.ScrubStep (s t : State) (i : BankId) : Prop where
  frame : t = { s with lps := t.lps, ssu := t.ssu, tgh := t.tgh, pif := t.pif }
  lps : t.lps = { s.lps with
    x := t.lps.x, y := t.lps.y, scrubPos := t.lps.scrubPos, scrubCrc := t.lps.scrubCrc, passes := t.lps.passes }
  own : t.lps.bank i = s.lps.bank i
  tgh : t.tgh = { s.tgh with outdated := t.tgh.outdated }
  quiet : (t.lps.bank i.other).role = (s.lps.bank i.other).role → t.ssu = s.ssu ∧ t.tgh = s.tgh
  tells : s.Tells t .profile ((t.lps.bank i.other).role ≠ (s.lps.bank i.other).role)
  scrubs : ∀ len, (s.lps.bank i.other).role = .active → (s.lps.bank i.other).length = some len →
    let n := min 64 (len - s.lps.scrubPos)
    let crc := crc32Run (s.lps.bank i.other).image s.lps.scrubCrc s.lps.scrubPos n
    (s.lps.scrubPos + n < len →
      t.lps.bank i.other = s.lps.bank i.other ∧ t.lps.scrubPos = s.lps.scrubPos + n ∧
      t.lps.scrubCrc = crc ∧ t.lps.passes = s.lps.passes) ∧
    (len ≤ s.lps.scrubPos + n → (s.lps.bank i.other).header.map Header.check = some crc →
      t.lps.bank i.other = s.lps.bank i.other ∧ t.lps.scrubPos = 0 ∧
      t.lps.scrubCrc = 0xFFFFFFFF ∧ t.lps.passes = (s.lps.passes + 1) % 65536) ∧
    (len ≤ s.lps.scrubPos + n → (s.lps.bank i.other).header.map Header.check ≠ some crc →
      t.lps.bank i.other = { s.lps.bank i.other with
        role := .none, state := .failed, header := none, result := some .crc } ∧
      t.lps.scrubPos = 0 ∧ t.lps.scrubCrc = 0xFFFFFFFF ∧ t.lps.passes = s.lps.passes ∧
      t.ssu = { s.ssu with
        window := [], horizon := none, steepMark := false,
        flushCount := (s.ssu.flushCount + 1) % 65536 } ∧
      t.tgh.outdated = (if s.tgh.beacon = none then s.tgh.outdated else true) ∧
      t.Has .profile)
  idle : (s.lps.bank i.other).role ≠ .active →
    t.lps.bank i.other = s.lps.bank i.other ∧ t.lps.scrubPos = s.lps.scrubPos ∧
    t.lps.scrubCrc = s.lps.scrubCrc ∧ t.lps.passes = s.lps.passes

section
variable {s : State} {i : BankId} {pos passes : Nat} {crc : BitVec 32}

/-- The state with the scrub moved on, no bank being changed. -/
theorem State.ScrubStep.moved
    (scrubs : ∀ len, (s.lps.bank i.other).length = some len →
      let n := min 64 (len - s.lps.scrubPos)
      let run := crc32Run (s.lps.bank i.other).image s.lps.scrubCrc s.lps.scrubPos n
      (s.lps.scrubPos + n < len → pos = s.lps.scrubPos + n ∧ crc = run ∧ passes = s.lps.passes) ∧
      (len ≤ s.lps.scrubPos + n → (s.lps.bank i.other).header.map Header.check = some run ∧
        pos = 0 ∧ crc = 0xFFFFFFFF ∧ passes = (s.lps.passes + 1) % 65536))
    (active : (s.lps.bank i.other).role = .active) :
    s.ScrubStep { s with lps := { s.lps with scrubPos := pos, scrubCrc := crc, passes := passes } } i := by
  have bank : ∀ j, Lps.bank { s.lps with scrubPos := pos, scrubCrc := crc, passes := passes } j = s.lps.bank j := by
    rintro (_ | _) <;> rfl
  refine ⟨rfl, rfl, bank i, rfl, fun _ => ⟨rfl, rfl⟩, .never (not_not.2 (congrArg Bank.role (bank _))), ?_,
    fun inactive => absurd active inactive⟩
  intro len _ length n run
  obtain ⟨reads, ends⟩ := scrubs len length
  refine ⟨fun more => ⟨bank _, reads more⟩, fun done _ => ⟨bank _, (ends done).2⟩, fun done wrong => ?_⟩
  exact absurd (ends done).1 wrong

theorem State.ScrubStep.refl (inactive : (s.lps.bank i.other).role ≠ .active) : s.ScrubStep s i where
  frame := rfl
  lps := rfl
  own := rfl
  tgh := rfl
  quiet _ := ⟨rfl, rfl⟩
  tells := .never (not_not.2 rfl)
  scrubs _ active := absurd active inactive
  idle _ := ⟨rfl, rfl, rfl, rfl⟩

end

theorem Lps.activeId_eq {l : Lps} {i : BankId} (standby : (l.bank i).role = .standby) :
    l.activeId = if (l.bank i.other).role = .active then some i.other else none := by
  unfold Lps.activeId
  cases i with
  | x =>
    have x : l.x.role = .standby := standby
    simp [x, Lps.bank, BankId.other] <;> rfl
  | y =>
    have y : l.y.role = .standby := standby
    simp [y, Lps.bank, BankId.other] <;> rfl

theorem State.isOutdated_none {s : State} (h : s.lps.profile = none) (line version : Nat) :
    s.isOutdated line version = true := by
  unfold State.isOutdated
  rw [h]

/-- R38, R143: the active bank fails, and there is none. -/
theorem State.failed_eq {s : State} {i : BankId} (standby : (s.lps.bank i).role = .standby) :
    State.raise .profile (({ s with lps := s.lps.failActive i.other } : State).flush.compareOutdated) =
      State.raise .profile { s with
        lps := { s.lps.setBank i.other { s.lps.bank i.other with
            role := .none, state := .failed, header := none, result := some .crc } with
          scrubPos := 0, scrubCrc := crc32Init }
        ssu := { s.ssu with window := [], horizon := none, steepMark := false
                            flushCount := (s.ssu.flushCount + 1) % 65536 }
        tgh := { s.tgh with outdated := if s.tgh.beacon = none then s.tgh.outdated else true } } := by
  have bankless : (s.lps.failActive i.other).profile = none := by
    unfold Lps.profile Lps.active
    rw [Lps.activeId_eq (i := i) (by cases i <;> exact standby),
      if_neg (by cases i <;> exact Role.noConfusion)]
    rfl
  rw [State.compareOutdated_raise, State.flush_ssu]
  cases beacon : s.tgh.beacon with
  | none => rw [if_pos rfl]; rfl
  | some pair =>
    dsimp only
    rw [if_neg (Option.some_ne_none pair), State.isOutdated_none bankless]
    rfl

theorem State.ScrubStep.fails {s : State} {i : BankId} (standby : (s.lps.bank i).role = .standby)
    (active : (s.lps.bank i.other).role = .active)
    (wrong : ∀ len, (s.lps.bank i.other).length = some len →
      let n := min 64 (len - s.lps.scrubPos)
      len ≤ s.lps.scrubPos + n ∧ (s.lps.bank i.other).header.map Header.check ≠
        some (crc32Run (s.lps.bank i.other).image s.lps.scrubCrc s.lps.scrubPos n)) :
    s.ScrubStep (State.raise .profile
      (({ s with lps := s.lps.failActive i.other } : State).flush.compareOutdated)) i := by
  rw [State.failed_eq standby]
  have bank : ∀ b : Bank, Lps.bank { s.lps.setBank i.other b with scrubPos := 0, scrubCrc := crc32Init } i.other = b := by
    cases i <;> exact fun _ => rfl
  have kept : ∀ b : Bank, Lps.bank { s.lps.setBank i.other b with scrubPos := 0, scrubCrc := crc32Init } i =
      s.lps.bank i := by
    cases i <;> exact fun _ => rfl
  generalize made : State.raise .profile { s with
        lps := { s.lps.setBank i.other { s.lps.bank i.other with
            role := .none, state := .failed, header := none, result := some .crc } with
          scrubPos := 0, scrubCrc := crc32Init }
        ssu := { s.ssu with window := [], horizon := none, steepMark := false
                            flushCount := (s.ssu.flushCount + 1) % 65536 }
        tgh := { s.tgh with outdated := if s.tgh.beacon = none then s.tgh.outdated else true } } = t
  have other : t.lps.bank i.other = { s.lps.bank i.other with
      role := .none, state := .failed, header := none, result := some .crc } := by
    rw [← made]
    exact bank _
  have changed : (t.lps.bank i.other).role ≠ (s.lps.bank i.other).role := by
    rw [other, active]
    exact Role.noConfusion
  have has : t.Has .profile := by rw [← made]; exact State.raise_has _ _
  refine ⟨by rw [← made]; rfl, by rw [← made]; cases i <;> rfl, by rw [← made]; exact kept _, by rw [← made]; rfl,
    fun same => absurd same changed, ⟨fun _ => by rw [← made]; rfl, fun same => absurd changed same⟩, ?_,
    fun inactive => absurd active inactive⟩
  intro len _ length n run
  obtain ⟨done, bad⟩ := wrong len length
  refine ⟨fun more => absurd more (Nat.not_lt.2 done), fun _ right => absurd right bad, fun _ _ => ⟨other, ?_⟩⟩
  exact ⟨by rw [← made]; rfl, by rw [← made]; rfl, by rw [← made]; cases i <;> rfl, by rw [← made]; rfl,
    by rw [← made]; rfl, has⟩

theorem State.scrubStep_step {s : State} {i : BankId} (standby : (s.lps.bank i).role = .standby) :
    s.ScrubStep s.scrubStep i := by
  unfold State.scrubStep
  rw [Lps.activeId_eq standby]
  by_cases active : (s.lps.bank i.other).role = .active
  · rw [if_pos active]
    dsimp only
    split
    · next more =>
      refine .moved (fun len length => ?_) active
      rw [length] at more ⊢
      exact ⟨fun _ => ⟨rfl, rfl, rfl⟩, fun done => absurd more (Nat.not_lt.2 done)⟩
    · next done =>
      split
      · next right =>
        refine .moved (fun len length => ?_) active
        rw [length] at done right
        exact ⟨fun more => absurd more done, fun _ => ⟨right, rfl, rfl, rfl⟩⟩
      · next bad =>
        refine .fails standby active fun len length => ?_
        rw [length] at done bad
        exact ⟨Nat.not_lt.1 done, bad⟩
  · rw [if_neg active]
    exact .refl active

/-! ### The expiry -/

/-- 2.3: the state at the timer's expiry, with its next time set. -/
def State.lpsTicked (s : State) : State := { s with lps := { s.lps with timer := s.lps.timer + 50000 } }

/-- Settles O15: the check and the scrub of one expiry, one after the other. -/
theorem lpsTimerChecksAndScrubs : Obligations.LpsTimerChecksAndScrubs := by
  intro s i standby role
  have lps : (s.advanceTo s.lps.timer).lps = s.lps := by simp
  have ssu : (s.advanceTo s.lps.timer).ssu = s.ssu := by simp
  have tgh : (s.advanceTo s.lps.timer).tgh = s.tgh := by simp
  generalize hx : s.advanceTo s.lps.timer = x at lps ssu tgh
  have clock : s.lpsClock = x.lpsTicked := by
    unfold State.lpsClock State.lpsTicked
    dsimp only
    rw [hx, lps]
    rfl
  have bank : ∀ j, x.lpsTicked.lps.bank j = x.lps.bank j := by rintro (_ | _) <;> rfl
  have ticked : x.lpsTicked.lps.standbyId = x.lps.standbyId := rfl
  rw [← lps] at standby role
  have check := State.checkStep_step (s := x.lpsTicked) standby
  have scrub := State.scrubStep_step (s := x.lpsTicked.checkStep) (i := i) (by rw [check.role, bank]; exact role)
  have ends := State.finish_ends x.lpsTicked.checkStep.scrubStep
  have out : exec .lpsTimerExpiry s = .next x.lpsTicked.checkStep.scrubStep.finish := by rw [← clock]; rfl
  rw [← lps, ← ssu, ← tgh]
  generalize x.lpsTicked.checkStep.scrubStep.finish = t at ends out
  generalize x.lpsTicked.checkStep.scrubStep = u at scrub ends
  generalize x.lpsTicked.checkStep = c at check scrub
  obtain ⟨cframe, clps, cother, crole, ctells, cchecks, cidle⟩ := check
  obtain ⟨uframe, ulps, uown, utgh, uquiet, utells, uscrubs, uidle⟩ := scrub
  have rest : c.lps.claim = u.lps.claim ∧ c.lps.blockMap = u.lps.blockMap ∧ c.lps.checkPos = u.lps.checkPos ∧
      c.lps.checkCrc = u.lps.checkCrc := by rw [ulps]; exact ⟨rfl, rfl, rfl, rfl⟩
  have scrub : x.lps.scrubPos = c.lps.scrubPos ∧ x.lps.scrubCrc = c.lps.scrubCrc ∧ x.lps.passes = c.lps.passes := by
    rw [clps]; exact ⟨rfl, rfl, rfl⟩
  have cssu : c.ssu = x.ssu := by rw [cframe]; rfl
  have ctgh : c.tgh = x.tgh := by rw [cframe]; rfl
  rw [bank] at cother ctells cchecks cidle
  rw [cother] at utells uquiet uscrubs uidle
  rw [← uown] at ctells cchecks cidle
  rw [rest.1, rest.2.1, rest.2.2.1, rest.2.2.2] at cchecks cidle
  rw [← scrub.1, ← scrub.2.1, ← scrub.2.2] at uscrubs uidle
  rw [cssu, ctgh] at uquiet uscrubs
  have tells : x.Tells u .profile ((u.lps.bank i).state ≠ (x.lps.bank i).state ∨
      (u.lps.bank i.other).role ≠ (x.lps.bank i.other).role) := (ctells.trans utells).from rfl
  refine ⟨t, u, out, ends, ⟨?_, tells⟩, ?_, ?_, uquiet, ?_, cidle, uscrubs, uidle⟩
  · rw [cframe] at uframe
    exact uframe
  · rw [clps] at ulps
    dsimp only at ulps
    rw [rest.1, rest.2.1, rest.2.2.1, rest.2.2.2] at ulps
    exact ulps
  · rw [← ctgh]
    exact utgh
  · intro k claim closed
    obtain ⟨reads, done⟩ := cchecks k claim closed
    refine ⟨reads, fun whole => ?_⟩
    obtain ⟨free, map, pos, crc, own, kept, state, header, -⟩ := done whole
    refine ⟨free, map, pos, crc, own, kept, state, header, State.Has.of_tells tells (.inl ?_)⟩
    rw [state, closed]
    split <;> exact BankState.noConfusion

end Sys2Proof.Machine
end

section
/-! WRITE transactions whose words run on without coming round the record space (R163, R165), and the staging
window (R29). -/

namespace Sys2Proof.Machine

/-! ### Runs of words -/

/-- The words of a run that does not come round the record space, by their addresses. -/
theorem lastFor_run {ws : List Word} {a : Nat} (fits : a + ws.length ≤ 4096) (b : Nat) :
    lastFor a ws b = if a ≤ b then ws[b - a]? else none := by
  induction ws generalizing a with
  | nil => simp [lastFor]
  | cons w ws ih =>
    rw [List.length_cons] at fits
    rw [lastFor_cons]
    rcases Nat.lt_or_ge (a + 1) 4096 with small | last
    · rw [Nat.mod_eq_of_lt small, ih (by omega)]
      rcases Nat.lt_trichotomy a b with h | h | h
      · have e : b - a = (b - (a + 1)) + 1 := by omega
        rw [if_pos (by omega : a + 1 ≤ b), if_pos h.le, if_neg (by omega), e, List.getElem?_cons_succ, Option.or_none]
      · subst h
        simp
      · rw [if_neg (by omega), if_neg (by omega), if_neg (by omega), Option.or_none]
    · have none : ws = [] := List.eq_nil_of_length_eq_zero (by omega)
      subst none
      have empty : lastFor ((a + 1) % 4096) [] b = none := by simp [lastFor]
      rw [empty, Option.none_or]
      rcases Nat.lt_trichotomy a b with h | h | h
      · rw [if_neg (by omega), if_pos h.le, List.getElem?_eq_none (by simp; omega)]
      · subst h
        simp
      · rw [if_neg (by omega), if_neg (by omega)]

theorem foldl_kept {α β : Type} {f : α → β → α} {l : List β} (x : α) (h : ∀ x, ∀ y ∈ l, f x y = x) :
    l.foldl f x = x := by
  induction l with
  | nil => rfl
  | cons y l ih =>
    rw [List.foldl_cons, h x y List.mem_cons_self]
    exact ih fun x z m => h x z (List.mem_cons_of_mem _ m)

/-- What a run of words does to the port, where none of its moves comes onto a record's first word. -/
theorem State.wrote_run {s : State} {p : Port} {ws : List Word} {a : Nat} {kept : Bool} (at' : (s.port p).pointer = a)
    (nonempty : ws ≠ []) (fits : a + ws.length < 4096) (mask : ∀ j < ws.length, s.admitted p (a + j) = kept)
    (inside : ∀ j < ws.length, placeAt (a + (j + 1)) = none) :
    s.wrote p ws = s.setPort p { s.port p with
      pointer := a + ws.length
      refused := if kept then (s.port p).refused
        else max (s.port p).refused (min 255 ((s.port p).refused + ws.length)) } := by
  have length : 0 < ws.length := List.length_pos_of_ne_nil nonempty
  have address : ∀ j ≤ ws.length, runAddress a j = a + j := by
    intro j h
    unfold runAddress
    split
    · next zero => rw [zero, add_zero]
    · rw [Nat.mod_eq_of_lt (by omega)]
  have dropped : (List.range ws.length).countP (fun j => !s.admitted p (runAddress a j)) =
      if kept then 0 else ws.length := by
    have same : ∀ j ∈ List.range ws.length, (!s.admitted p (runAddress a j)) = !kept := by
      intro j h
      rw [List.mem_range] at h
      rw [address j h.le, mask j h]
    rw [List.countP_congr fun j h => by rw [same j h]]
    cases kept <;> simp
  unfold State.wrote
  dsimp only
  rw [at', address _ le_rfl, dropped, foldl_kept]
  · cases kept
    · rfl
    · simp
  · intro g j h
    rw [List.mem_range] at h
    rw [address _ h, inside j h]

/-! ### The staging window -/

theorem checkWritten_none {x : BitVec 32} {word : Nat → Option Word} (high : word 0x250 = none)
    (low : word 0x251 = none) : checkWritten x word = x := by
  have none := congrArg (fun s : State => s.pif.closeCheck)
    (State.closeCheck_taken [] { State.reset with pif := { Pif.reset with closeCheck := x } })
  unfold checkWritten at none ⊢
  rw [high, low]
  exact none.symm

/-- A WRITE of port C that keeps nothing outside its staging window. -/
theorem State.writeWords_staging {s : State} {ws : List Word}
    (outside : ∀ b, ¬(0x248 ≤ b ∧ b < 0x24D) → s.wordFor .c ws b = none) :
    s.writeWords .c ws = { s.wrote .c ws with lps := s.lps.written (s.wordFor .c ws) } := by
  have written := State.writeWords_c ws s
  dsimp only at written
  have text : s.tgh.textOut.written (s.wordFor .c ws) = s.tgh.textOut := by
    unfold TextOut.written
    simp only [outside _ (by decide : ¬(0x248 ≤ 0x318 ∧ 0x318 < 0x24D)),
      outside _ (by decide : ¬(0x248 ≤ 0x319 ∧ 0x319 < 0x24D)),
      outside _ (by decide : ¬(0x248 ≤ 0x31A ∧ 0x31A < 0x24D)),
      outside _ (by decide : ¬(0x248 ≤ 0x31B ∧ 0x31B < 0x24D)),
      outside _ (by decide : ¬(0x248 ≤ 0x31C ∧ 0x31C < 0x24D)),
      outside _ (by decide : ¬(0x248 ≤ 0x31D ∧ 0x31D < 0x24D)),
      outside _ (by decide : ¬(0x248 ≤ 0x31E ∧ 0x31E < 0x24D)), Option.getD_none]
  have check : checkWritten s.pif.closeCheck (s.wordFor .c ws) = s.pif.closeCheck :=
    checkWritten_none (outside _ (by decide)) (outside _ (by decide))
  have params : Param.all.foldl (Pst.handParam (State.takeWords .c ws s).1) s.pst = s.pst := by
    have taken := State.params_taken (State.takeWords .c ws s).1 s
    rw [if_neg] at taken
    · exact (congrArg State.pst taken).symm
    · rw [anyKept_iff]
      rintro ⟨i, h, kept⟩
      rw [(State.takeWords_wrote .c ws s).2, outside _ (by omega)] at kept
      exact kept rfl
  rw [written, text, check, params]
  rfl

/-- R29, R165: the masks of the staging window while port C loads. -/
theorem State.admitted_staging {s : State} (loads : s.lps.stagingOpen = true) {b : Nat} (low : 0x248 ≤ b)
    (high : b < 0x24D) : s.admitted .c b = true := by
  rw [Lps.stagingOpen_eq] at loads
  simp only [State.admitted, loads, Bool.true_and, Bool.or_eq_true, decide_eq_true_eq]
  omega

theorem exec_stagingWindowWrite (p : Port) (ws : List Word) (s : State) (h : ws ≠ []) :
    exec (.stagingWindowWrite p ws) s = .next (s.writeWords p ws) := by
  cases ws with
  | nil => exact absurd rfl h
  | cons w ws => rfl

/-- No record begins within the staging window or at its end. -/
theorem placeAt_staging {b : Nat} (low : 0x249 ≤ b) (high : b ≤ 0x24D) : placeAt b = none := by
  have all : ((List.range 5).all fun k => (placeAt (0x249 + k)).isNone) = true := by decide +kernel
  have here := List.all_eq_true.1 all (b - 0x249) (List.mem_range.2 (by omega))
  rwa [Nat.add_sub_cancel' low, Option.isNone_iff_eq_none] at here

/-- The words of a run, by their addresses. -/
def wordsAt (a : Nat) (ws : List Word) (b : Nat) : Option Word := if a ≤ b then ws[b - a]? else none

/-- R29: a WRITE within the staging window that port C may load. -/
theorem exec_stagingWindowWrite_run {s : State} {j : Nat} {ws : List Word} (at' : s.pif.c.pointer = 0x248 + j)
    (loads : s.lps.stagingOpen = true) (nonempty : ws ≠ []) (fits : j + ws.length ≤ 5) :
    exec (.stagingWindowWrite .c ws) s = .next { s with
      pif := { s.pif with c := { s.pif.c with pointer := 0x248 + j + ws.length } }
      lps := s.lps.written (wordsAt (0x248 + j) ws) } := by
  have pointer : (s.port .c).pointer = 0x248 + j := at'
  have word : s.wordFor .c ws = wordsAt (0x248 + j) ws := by
    funext b
    rw [State.wordFor_lastFor, pointer, lastFor_run (by omega)]
    unfold wordsAt
    by_cases low : 0x248 + j ≤ b
    · rw [if_pos low]
      by_cases high : b < 0x24D
      · rw [State.admitted_staging loads (by omega) high, if_pos rfl]
      · rw [List.getElem?_eq_none (by omega), ite_self]
    · rw [if_neg low, ite_self]
  have wrote := State.wrote_run (kept := true) pointer nonempty (by omega)
    (fun i h => State.admitted_staging loads (by omega) (by omega))
    (fun i h => placeAt_staging (by omega) (by omega))
  rw [exec_stagingWindowWrite _ _ _ nonempty, State.writeWords_staging, wrote, word]
  · rfl
  · intro b h
    rw [word, wordsAt]
    split
    · exact List.getElem?_eq_none (by omega)
    · rfl

theorem Lps.loads {l : Lps} {k : Claim} (claim : l.claim = some k) (mine : k.holder = .portC)
    (opened : l.standby.state = .opened) : l.stagingOpen = true := by
  rw [Lps.stagingOpen_eq, claim]
  simp [mine, opened]

/-- R29, R165: a word outside the mask of the staging window only counts. -/
theorem exec_stagingWindowWrite_refused (s : State) (p : Port) (w : Word) (at' : (s.port p).pointer = 0x24C)
    (shut : p ≠ .c ∨ s.lps.standby.state ≠ .opened ∨ ∀ k, s.lps.claim = some k → k.holder ≠ .portC) :
    exec (.stagingWindowWrite p [w]) s = .next (s.setPort p { s.port p with
      pointer := 0x24D
      refused := if (s.port p).refused < 255 then (s.port p).refused + 1 else (s.port p).refused }) := by
  have mask : s.admitted p 0x24C = false := by
    cases p with
    | u => rfl
    | l => rfl
    | c =>
      have closed : (decide (s.lps.standby.state = .opened) &&
          s.lps.claim.any fun k => decide (k.holder = .portC)) = false := by
        rcases shut with h | h | h
        · exact absurd rfl h
        · rw [decide_eq_false h, Bool.false_and]
        · cases claim : s.lps.claim with
          | none => simp
          | some k => simp [h k claim]
      simp [State.admitted, closed]
  have wrote := State.wrote_run (s := s) (p := p) (ws := [w]) (kept := false) at' (List.cons_ne_nil _ _) (by simp)
    (fun j h => by
      obtain rfl : j = 0 := by simpa using h
      exact mask)
    (fun j h => by
      obtain rfl : j = 0 := by simpa using h
      exact placeAt_staging (by decide) (by decide))
  have none : ∀ b, s.wordFor p [w] b = none := by
    intro b
    rw [State.wordFor_lastFor, at', lastFor_run (by simp)]
    by_cases here : b = 0x24C
    · rw [here, mask]
      rfl
    · split
      · split
        · exact List.getElem?_eq_none (by simp; omega)
        · rfl
      · rfl
  rw [exec_stagingWindowWrite _ _ _ (List.cons_ne_nil _ _), State.writeWords_none _ _ _ none, wrote]
  have counted : max (s.port p).refused (min 255 ((s.port p).refused + 1)) =
      if (s.port p).refused < 255 then (s.port p).refused + 1 else (s.port p).refused := by
    split <;> omega
  simp only [Bool.false_eq_true, if_false, List.length_singleton, counted]

theorem Lps.store_standby (l : Lps) (n : Nat) (bs : List Byte) : (l.store n bs).standby =
    { l.standby with image := l.standby.image.writeAll (8 * n) bs } := by
  unfold Lps.store Lps.standby Lps.standbyId
  by_cases x : l.x.role = .standby
  · simp [x, Lps.bank, Lps.setBank]
  · simp [x, Lps.bank, Lps.setBank]

/-- R29: the window written whole, and its block committed. -/
theorem Lps.written_whole {l : Lps} {k : Claim} (claim : l.claim = some k) (offset d0 d1 d2 d3 : Word) :
    l.written (wordsAt 0x248 [offset, d0, d1, d2, d3]) =
      (let w : Lps := { l with staging := { offset := offset, d0 := d0, d1 := d1, d2 := d2, d3 := d3 } }
       if offset.toNat < (k.length + 7) / 8 then w.store offset.toNat ([d0, d1, d2, d3].flatMap wordBytes)
       else w.reject) := by
  have expected : blocksExpected k.length = (k.length + 7) / 8 := by simp [blocksExpected, ceilDiv]
  have last : wordsAt 0x248 [offset, d0, d1, d2, d3] 0x24C ≠ none := by simp [wordsAt]
  unfold Lps.written
  rw [if_neg last, Lps.commit]
  dsimp only
  rw [claim]
  dsimp only
  rw [expected]
  rfl

/-- The word of a run at an offset behind the window's first word. -/
theorem wordsAt_offset (j i : Nat) (ws : List Word) : wordsAt (0x248 + j) ws (0x248 + i) =
    if j ≤ i ∧ i < j + ws.length then some (ws.getD (i - j) 0) else none := by
  unfold wordsAt
  by_cases low : j ≤ i
  · have place : 0x248 + i - (0x248 + j) = i - j := by omega
    rw [if_pos (by omega), place]
    by_cases high : i < j + ws.length
    · have inside : i - j < ws.length := by omega
      rw [if_pos ⟨low, high⟩, List.getElem?_eq_getElem inside, List.getD_eq_getElem _ _ inside]
    · rw [if_neg (by omega), List.getElem?_eq_none (by omega)]
  · rw [if_neg (by omega), if_neg (by omega)]

/-- R29: a run that reaches the window's last word, put after the words that the window held before it. -/
theorem Staging.written_prefixed (g : Staging) {j : Nat} {ws : List Word} (reaches : j + ws.length = 5) :
    g.written (wordsAt 0x248 (g.words.take j ++ ws)) = g.written (wordsAt (0x248 + j) ws) := by
  have length : (g.words.take j).length = j := by
    rw [List.length_take]
    exact min_eq_left (by simp [Staging.words]; omega)
  have same : ∀ i < 5, (wordsAt 0x248 (g.words.take j ++ ws) (0x248 + i)).getD (g.words.getD i 0) =
      (wordsAt (0x248 + j) ws (0x248 + i)).getD (g.words.getD i 0) := by
    intro i h
    have first := wordsAt_offset 0 i (g.words.take j ++ ws)
    rw [Nat.add_zero, Nat.zero_add, List.length_append, length, reaches, if_pos ⟨Nat.zero_le i, h⟩,
      Nat.sub_zero] at first
    rw [first, wordsAt_offset]
    by_cases low : j ≤ i
    · rw [if_pos ⟨low, by omega⟩, List.getD_append_right _ _ _ _ (by omega), length]
    · rw [if_neg (by omega), List.getD_append _ _ _ _ (by omega)]
      simp only [Option.getD_some, Option.getD_none, List.getD_eq_getElem?_getD]
      rw [List.getElem?_take_of_lt (by omega)]
  unfold Staging.written
  have w0 := same 0 (by omega)
  have w1 := same 1 (by omega)
  have w2 := same 2 (by omega)
  have w3 := same 3 (by omega)
  have w4 := same 4 (by omega)
  simp only [Staging.words, List.getD_cons_zero, List.getD_cons_succ, Nat.reduceAdd] at w0 w1 w2 w3 w4 ⊢
  rw [w0, w1, w2, w3, w4]

theorem Lps.written_prefixed (l : Lps) {j : Nat} {ws : List Word} (nonempty : ws ≠ []) (reaches : j + ws.length = 5) :
    l.written (wordsAt 0x248 (l.staging.words.take j ++ ws)) = l.written (wordsAt (0x248 + j) ws) := by
  have length : 0 < ws.length := List.length_pos_of_ne_nil nonempty
  have taken : (l.staging.words.take j ++ ws).length = 5 := by
    rw [List.length_append, List.length_take, min_eq_left (by simp [Staging.words]; omega), reaches]
  have first := wordsAt_offset 0 4 (l.staging.words.take j ++ ws)
  have second := wordsAt_offset j 4 ws
  rw [if_pos (by omega)] at first second
  unfold Lps.written
  rw [Staging.written_prefixed _ reaches]
  dsimp only
  rw [if_neg, if_neg]
  · exact second.trans_ne (Option.some_ne_none _)
  · exact first.trans_ne (Option.some_ne_none _)

/-- R29: a run that ends before the window's last word is only kept. -/
theorem Lps.written_part (l : Lps) {j : Nat} {ws : List Word} (short : j + ws.length ≤ 4) :
    l.written (wordsAt (0x248 + j) ws) =
      (let word (i : Nat) : Word :=
         if j ≤ i ∧ i < j + ws.length then ws.getD (i - j) 0 else l.staging.words.getD i 0
       { l with staging :=
         { offset := word 0, d0 := word 1, d1 := word 2, d2 := word 3, d3 := l.staging.d3 } }) := by
  have taken : ∀ i, (wordsAt (0x248 + j) ws (0x248 + i)).getD (l.staging.words.getD i 0) =
      if j ≤ i ∧ i < j + ws.length then ws.getD (i - j) 0 else l.staging.words.getD i 0 := by
    intro i
    rw [wordsAt_offset]
    split <;> rfl
  have last : wordsAt (0x248 + j) ws 0x24C = none := (wordsAt_offset j 4 ws).trans (if_neg (by omega))
  have w0 := taken 0
  have w1 := taken 1
  have w2 := taken 2
  have w3 := taken 3
  unfold Lps.written Staging.written
  rw [if_pos last, last]
  dsimp only
  rw [← w0, ← w1, ← w2, ← w3]
  rfl

/-- Settles O13: the whole window, a word that is refused, and a part of the window. -/
theorem stagingWindowWriteCommitsTheBlock : Obligations.StagingWindowWriteCommitsTheBlock := by
  refine ⟨fun s k offset d0 d1 d2 d3 at' claim mine opened canonical => ?_, exec_stagingWindowWrite_refused,
    fun s k j ws at' claim mine opened nonempty => ?_⟩
  · intro bytes n
    have run := exec_stagingWindowWrite_run (j := 0) (ws := [offset, d0, d1, d2, d3]) at'
      (Lps.loads claim mine opened) (List.cons_ne_nil _ _) (by simp)
    refine ⟨_, run, rfl, ?_⟩
    dsimp only
    rw [Lps.written_whole claim]
    dsimp only
    have staged : ∀ (w : Lps) (bs : List Byte), (w.store n bs).staging = w.staging := fun w bs => by
      unfold Lps.store
      cases w.standbyId <;> rfl
    by_cases expected : n < (k.length + 7) / 8
    · rw [if_pos expected, Lps.store_standby, staged]
      refine ⟨rfl, fun _ => ⟨?_, Memory.wf_writeAll _ _ _ canonical, fun a => ?_, ?_⟩,
        fun all => absurd expected (Nat.not_lt.2 all)⟩
      · unfold Lps.store Lps.standby Lps.standbyId
        dsimp only
        split <;> rfl
      · exact Memory.read_writeAll _ _ _ _ canonical
      · unfold Lps.store
        rfl
    · rw [if_neg expected]
      exact ⟨rfl, fun here => absurd here expected, fun _ => rfl⟩
  · have loads := Lps.loads claim mine opened
    refine ⟨fun short => ?_, fun reaches => ?_⟩
    · rw [exec_stagingWindowWrite_run at' loads nonempty (by omega), Lps.written_part _ short]
      rfl
    · have few : j ≤ 4 := by
        have := List.length_pos_of_ne_nil nonempty
        omega
      have length : (s.lps.staging.words.take j ++ ws).length = 5 := by
        rw [List.length_append, List.length_take, min_eq_left (by simp [Staging.words]; omega), reaches]
      have whole := exec_stagingWindowWrite_run (s := s.setPort .c { s.pif.c with pointer := 0x248 }) (j := 0)
        (ws := s.lps.staging.words.take j ++ ws) rfl loads (by simp [nonempty]) (by omega)
      rw [exec_stagingWindowWrite_run at' loads nonempty reaches.le]
      refine Eq.trans ?_ whole.symm
      rw [length, Nat.add_assoc, reaches, Nat.add_zero]
      refine congrArg (fun l => Host.Outcome.next { s with
        pif := { s.pif with c := { s.pif.c with pointer := 0x24D } }, lps := l }) ?_
      exact (Lps.written_prefixed s.lps nonempty reaches).symm

end Sys2Proof.Machine
end

section
/-! The CRC of an image and its structural check (R25, R26). -/

namespace Sys2Proof.Machine

/-! ### The CRC -/

theorem crc32Bit_eq (r : BitVec 32) (b : Bool) :
    crc32Bit r b = if r.getLsbD 31 = b then r <<< 1 else (r <<< 1) ^^^ 0x04C11DB7#32 := by
  unfold crc32Bit
  rw [BitVec.msb_eq_getLsbD_last]
  by_cases h : r.getLsbD 31 = b <;> simp [h]

/-- R25: the bits of an image's byte, the most significant first, the check field's bytes being zero. -/
def crcBits (m : Memory) (x : Nat) : List Bool :=
  let byte : Byte := if x ∈ [9, 10, 11, 12] then 0 else m.read x
  [7, 6, 5, 4, 3, 2, 1, 0].map fun i => byte.getLsbD i

theorem crcByteAt_eq (m : Memory) (x : Nat) : crcByteAt m x = if x ∈ [9, 10, 11, 12] then 0 else m.read x := by
  unfold crcByteAt
  refine if_congr ?_ rfl rfl
  simp only [List.mem_cons, List.not_mem_nil, or_false]
  omega

theorem crc32Byte_eq (m : Memory) (r : BitVec 32) (x : Nat) :
    crc32Byte r (crcByteAt m x) = (crcBits m x).foldl crc32Bit r := by
  rw [crc32Byte, crcBits, crcByteAt_eq, List.foldl_map]

theorem crc32Run_eq (m : Memory) (r : BitVec 32) (a k : Nat) :
    crc32Run m r a k = ((List.range k).flatMap fun i => crcBits m (a + i)).foldl crc32Bit r := by
  induction k generalizing r a with
  | zero => rfl
  | succ k ih =>
    rw [crc32Run, ih, crc32Byte_eq, List.range_succ_eq_map, List.flatMap_cons, List.foldl_append, List.flatMap_map]
    congr 2
    funext i
    rw [Nat.succ_eq_add_one, Nat.add_right_comm, Nat.add_assoc]

/-- R25: a run in two parts gives what the whole gives. -/
theorem crc32Run_append (m : Memory) (r : BitVec 32) (a j k : Nat) :
    crc32Run m (crc32Run m r a j) (a + j) k = crc32Run m r a (j + k) := by
  induction j generalizing r a with
  | zero => rw [Nat.add_zero, Nat.zero_add]; rfl
  | succ j ih =>
    have whole : j + 1 + k = (j + k) + 1 := by omega
    have place : a + (j + 1) = a + 1 + j := by omega
    rw [crc32Run, whole, crc32Run, place, ih]

/-! ### The records of an image in a row -/

section
variable {α : Type} (f : Nat → α)

/-- The values of a function in a row. -/
theorem row_succ (s n : Nat) : (List.range' s (n + 1)).map f = f s :: (List.range' (s + 1) n).map f := by
  rw [List.range'_succ, List.map_cons]

end

theorem startsRise_row (f : Nat → RawSegment) (s n : Nat) : startsRise ((List.range' s n).map f) = true ↔
    ∀ i, s < i → i < s + n → (f (i - 1)).start < (f i).start := by
  induction n generalizing s with
  | zero => exact ⟨fun _ i l u => by omega, fun _ => rfl⟩
  | succ n ih =>
    cases n with
    | zero => exact ⟨fun _ i l u => by omega, fun _ => rfl⟩
    | succ n =>
      rw [row_succ, row_succ, startsRise, ← row_succ, Bool.and_eq_true, decide_eq_true_eq, ih]
      constructor
      · rintro ⟨first, rest⟩ i l u
        rcases Nat.lt_or_ge (s + 1) i with h | h
        · exact rest i h (by omega)
        · obtain rfl : i = s + 1 := by omega
          exact first
      · exact fun h => ⟨h (s + 1) (by omega) (by omega), fun i l u => h i (by omega) (by omega)⟩

theorem anyShort_row (f : Nat → RawSegment) (lineEnd s n : Nat) :
    anyShort lineEnd ((List.range' s n).map f) = true ↔
      ∃ i, s ≤ i ∧ i < s + n ∧ (if i + 1 = s + n then lineEnd else (f (i + 1)).start) < (f i).start + 10 := by
  induction n generalizing s with
  | zero => exact ⟨fun h => absurd h Bool.false_ne_true, fun ⟨i, l, u, _⟩ => by omega⟩
  | succ n ih =>
    cases n with
    | zero =>
      change decide _ = true ↔ _
      rw [decide_eq_true_eq]
      constructor
      · exact fun h => ⟨s, le_rfl, by omega, by rwa [if_pos rfl]⟩
      · rintro ⟨i, l, u, h⟩
        obtain rfl : i = s := by omega
        rwa [if_pos rfl] at h
    | succ n =>
      rw [row_succ, row_succ, anyShort, ← row_succ, Bool.or_eq_true, decide_eq_true_eq, ih]
      have last : ∀ i, i + 1 = s + 1 + (n + 1) ↔ i + 1 = s + (n + 1 + 1) := fun i => by omega
      simp only [last]
      constructor
      · rintro (first | ⟨i, l, u, h⟩)
        · exact ⟨s, le_rfl, by omega, by rwa [if_neg (by omega)]⟩
        · exact ⟨i, by omega, by omega, h⟩
      · rintro ⟨i, l, u, h⟩
        rcases Nat.lt_or_ge s i with more | this
        · exact .inr ⟨i, by omega, by omega, h⟩
        · obtain rfl : i = s := by omega
          rw [if_neg (by omega)] at h
          exact .inl h

theorem entryAlone_row (f : Nat → RawSegment) (before : Bool) (s n : Nat) :
    entryAlone before ((List.range' s n).map f) = true ↔
      ∃ i, s ≤ i ∧ i < s + n ∧ (f i).kindCode = 2 ∧
        ¬(if i = s then before = true else (f (i - 1)).kindCode = 1) ∧
        ¬(i + 1 < s + n ∧ (f (i + 1)).kindCode = 1) := by
  induction n generalizing s before with
  | zero => exact ⟨fun h => absurd h Bool.false_ne_true, fun ⟨i, l, u, _⟩ => by omega⟩
  | succ n ih =>
    cases n with
    | zero =>
      change ((f s).kindCode == 2 && !before) = true ↔ _
      simp only [Bool.and_eq_true, beq_iff_eq, Bool.not_eq_true']
      constructor
      · exact fun ⟨kind, first⟩ => ⟨s, le_rfl, by omega, kind, by simp [first], by omega⟩
      · rintro ⟨i, l, u, kind, first, -⟩
        obtain rfl : i = s := by omega
        exact ⟨kind, by simpa using first⟩
    | succ n =>
      rw [row_succ, row_succ, entryAlone, ← row_succ, Bool.or_eq_true, ih]
      simp only [Bool.and_eq_true, beq_iff_eq, Bool.not_eq_true', bne_iff_ne]
      constructor
      · rintro (⟨⟨kind, first⟩, next⟩ | ⟨i, l, u, kind, prior, next⟩)
        · exact ⟨s, le_rfl, by omega, kind, by simp [first], fun h => next h.2⟩
        · refine ⟨i, by omega, by omega, kind, ?_, fun h => next ⟨by omega, h.2⟩⟩
          rw [if_neg (by omega)]
          by_cases here : i = s + 1
          · rw [if_pos here] at prior
            rw [here]
            exact prior
          · rwa [if_neg here] at prior
      · rintro ⟨i, l, u, kind, prior, next⟩
        rcases Nat.lt_or_ge s i with more | this
        · refine .inr ⟨i, by omega, by omega, kind, ?_, fun h => next ⟨by omega, h.2⟩⟩
          rw [if_neg (by omega)] at prior
          by_cases here : i = s + 1
          · rw [if_pos here]
            rw [here] at prior
            exact prior
          · rwa [if_neg here]
        · obtain rfl : i = s := by omega
          rw [if_pos rfl] at prior
          exact .inl ⟨⟨kind, by simpa using prior⟩, fun h => next ⟨by omega, h⟩⟩

theorem markersRepeat_row (f : Nat → Marker) (s n : Nat) : markersRepeat ((List.range' s n).map f) = true ↔
    ∃ j, j < s + n ∧ ∃ i, s ≤ i ∧ i < j ∧ (f i).ident = (f j).ident := by
  induction n generalizing s with
  | zero => exact ⟨fun h => absurd h Bool.false_ne_true, fun ⟨j, u, i, l, v, _⟩ => by omega⟩
  | succ n ih =>
    rw [row_succ, markersRepeat, Bool.or_eq_true, ih]
    simp only [List.any_eq_true, List.mem_map, List.mem_range'_1, beq_iff_eq]
    constructor
    · rintro (⟨_, ⟨j, ⟨l, u⟩, rfl⟩, same⟩ | ⟨j, u, i, l, v, same⟩)
      · exact ⟨j, by omega, s, le_rfl, by omega, same.symm⟩
      · exact ⟨j, by omega, i, by omega, v, same⟩
    · rintro ⟨j, u, i, l, v, same⟩
      rcases Nat.lt_or_ge s i with more | this
      · exact .inr ⟨j, by omega, i, by omega, v, same⟩
      · obtain rfl : i = s := by omega
        exact .inl ⟨f j, ⟨j, ⟨by omega, by omega⟩, rfl⟩, same.symm⟩

theorem markersFall_row (f : Nat → Marker) (s n : Nat) : markersFall ((List.range' s n).map f) = true ↔
    ∃ j, s < j ∧ j < s + n ∧ (f j).pos < (f (j - 1)).pos := by
  induction n generalizing s with
  | zero => exact ⟨fun h => absurd h Bool.false_ne_true, fun ⟨i, l, u, _⟩ => by omega⟩
  | succ n ih =>
    cases n with
    | zero => exact ⟨fun h => absurd h Bool.false_ne_true, fun ⟨i, l, u, _⟩ => by omega⟩
    | succ n =>
      rw [row_succ, row_succ, markersFall, ← row_succ, Bool.or_eq_true, decide_eq_true_eq, ih]
      constructor
      · rintro (first | ⟨j, l, u, h⟩)
        · exact ⟨s + 1, by omega, by omega, first⟩
        · exact ⟨j, by omega, by omega, h⟩
      · rintro ⟨j, l, u, h⟩
        rcases Nat.lt_or_ge (s + 1) j with more | this
        · exact .inr ⟨j, by omega, by omega, h⟩
        · obtain rfl : j = s + 1 := by omega
          exact .inl h

/-! ### The table of the structural check -/

theorem find_first (r : CheckResult) (c : Bool) (t : List (CheckResult × Bool)) :
    ((((r, c) :: t).find? Prod.snd).map Prod.fst).getD .passed =
      if c = true then r else ((t.find? Prod.snd).map Prod.fst).getD .passed := by
  cases c <;> rfl

theorem find_none : ((([] : List (CheckResult × Bool)).find? Prod.snd).map Prod.fst).getD .passed = .passed := rfl

theorem Memory.field_three (m : Memory) (a : Nat) : m.field a 3 =
    ((m.read a).toNat * 256 + (m.read (a + 1)).toNat) * 256 + (m.read (a + 2)).toNat := by
  simp [Memory.field, Memory.bytes, beNat, List.range_succ]

theorem Memory.field_one (m : Memory) (a : Nat) : m.field a 1 = (m.read a).toNat := by
  simp [Memory.field, Memory.bytes, beNat]

theorem any_range (n : Nat) (f : Nat → Bool) : (List.range n).any f = true ↔ ∃ i, i < n ∧ f i = true := by
  simp [List.any_eq_true]

theorem rawSegments_row (m : Memory) :
    rawSegments m = (List.range' 0 (rawHeader m).nSegments).map (rawSegment m) := by
  rw [rawSegments, List.range_eq_range']

theorem rawMarkers_row (m : Memory) :
    rawMarkers m = (List.range' 0 (rawHeader m).nMarkers).map (rawMarker m (rawHeader m).nSegments) := by
  rw [rawMarkers, List.range_eq_range']

theorem rawSegments_any (m : Memory) (f : RawSegment → Bool) :
    (rawSegments m).any f = (List.range (rawHeader m).nSegments).any fun i => f (rawSegment m i) := by
  rw [rawSegments, List.any_map]
  rfl

theorem rawMarkers_any (m : Memory) (f : Marker → Bool) : (rawMarkers m).any f =
    (List.range (rawHeader m).nMarkers).any fun j => f (rawMarker m (rawHeader m).nSegments j) := by
  rw [rawMarkers, List.any_map]
  rfl

theorem flags_high (b : Byte) : (b.getLsbD 6 || b.getLsbD 7) = decide (64 ≤ b.toNat) := by
  revert b
  decide +kernel

/-- The first and the last segment of an image that has one. -/
theorem rawSegments_ends {m : Memory} (some : 0 < (rawHeader m).nSegments) :
    ((rawSegments m).head?.map RawSegment.start).getD 0 = (rawSegment m 0).start ∧
      ((rawSegments m).getLast?.map RawSegment.start).getD 0 =
        (rawSegment m ((rawHeader m).nSegments - 1)).start := by
  unfold rawSegments
  obtain ⟨n, e⟩ := Nat.exists_eq_succ_of_ne_zero some.ne'
  rw [e]
  constructor
  · rw [List.range_succ_eq_map]
    rfl
  · rw [List.range_succ, List.map_append, List.map_singleton, List.getLast?_append]
    rfl

/-- Settles O14: the register bit by bit, and the table condition by condition. -/
theorem structuralCheckTakesTheFirstFailure : Obligations.StructuralCheckTakesTheFirstFailure := by
  refine ⟨fun m reg a j k => ?_, fun m length version close crc => ?_⟩
  · intro bits shift
    have shifts : shift = crc32Bit := by
      funext r b
      exact (crc32Bit_eq r b).symm
    rw [shifts]
    exact ⟨crc32Run_eq m reg a k, crc32Run_append m reg a j k⟩
  · intro b two three check lineEnd n k start gradient ceiling flags kind stop ident place tol segment marker table
    obtain ⟨-, hversion, -, hn, hk, hcheck⟩ := rawHeader_bytes m
    have hline : (rawHeader m).lineEnd = lineEnd := Memory.field_three m 4
    have hstart : ∀ i, (rawSegment m i).start = start i := fun i => Memory.field_three m _
    have hceiling : ∀ i, (rawSegment m i).ceiling = ceiling i := fun i => Memory.field_two m _
    have hgradient : ∀ i, (rawSegment m i).gradient = gradient i := fun i => by
      simp only [rawSegment, signed16, Memory.field_two]
      rfl
    have hkind : ∀ i, (rawSegment m i).kindCode = kind i := fun _ => rfl
    have hident : ∀ j, (rawMarker m n j).ident = ident j := fun j => Memory.field_two m _
    have hplace : ∀ j, (rawMarker m n j).pos = place j := fun j => Memory.field_three m _
    have htol : ∀ j, (rawMarker m n j).tol = tol j := fun j => Memory.field_one m _
    change (rawHeader m).version = two 2 at hversion
    change (rawHeader m).nSegments = n at hn
    change (rawHeader m).nMarkers = k at hk
    change (rawHeader m).check = check at hcheck
    unfold structuralCheck
    dsimp only
    rw [hn, hk, hversion, hline, hcheck]
    dsimp only [table]
    rw [find_first]
    by_cases bad : n < 1 ∨ 96 < n ∨ 48 < k ∨ 13 + 8 * n + 6 * k ≠ length
    · rw [if_pos bad, if_pos (decide_eq_true bad)]
    · rw [if_neg bad, if_neg fun h => bad (of_decide_eq_true h)]
      have occupied : 0 < (rawHeader m).nSegments := by rw [hn]; omega
      obtain ⟨first, last⟩ := rawSegments_ends occupied
      rw [find_first, find_first, find_first, find_first, find_first, find_first, find_first, find_first, find_first,
        find_first, find_first, find_first, find_none]
      refine if_congr ?_ rfl (if_congr ?_ rfl (if_congr ?_ rfl (if_congr ?_ rfl (if_congr ?_ rfl (if_congr ?_ rfl
        (if_congr ?_ rfl (if_congr ?_ rfl (if_congr ?_ rfl (if_congr ?_ rfl (if_congr ?_ rfl
          (if_congr ?_ rfl rfl)))))))))))
      · rw [decide_eq_true_iff, ne_comm (a := some check)]
      · rw [first, hstart, decide_eq_true_iff]
      · rw [Bool.not_eq_true', ← Bool.not_eq_true, rawSegments_row, startsRise_row, hn, any_range]
        simp only [decide_eq_true_eq, hstart, Nat.zero_add]
        constructor
        · intro h
          by_contra none
          exact h fun i l u => Nat.lt_of_not_le fun v => none ⟨i, u, l, v⟩
        · rintro ⟨i, u, l, v⟩ h
          exact absurd (h i l u) (Nat.not_lt.2 v)
      · rw [last, hn, hstart, decide_eq_true_iff]
      · rw [rawSegments_row, anyShort_row, hn, any_range]
        simp only [decide_eq_true_eq, hstart, Nat.zero_add, Nat.zero_le, true_and]
        rfl
      · have four : ∀ i, 3 < kind i ↔ 4 ≤ kind i := fun _ => Iff.rfl
        rw [rawSegments_any, rawMarkers_any, hn, hk]
        simp only [segment, marker, Bool.or_eq_true, any_range, decide_eq_true_eq, hgradient, hceiling, hkind, htol,
          or_assoc, four]
      · rw [rawSegments_any, hn, any_range, any_range]
        simp only [flags_high]
        rfl
      · rw [rawSegments_row, entryAlone_row, hn, any_range]
        simp only [decide_eq_true_eq, hkind, Nat.zero_add, Nat.zero_le, true_and]
        refine exists_congr fun i => and_congr_right fun _ => and_congr_right fun _ => and_congr_left fun _ =>
          not_congr ?_
        by_cases zero : i = 0
        · simp [zero]
        · simp [zero, Nat.pos_of_ne_zero zero]
      · rw [rawMarkers_any, hn, hk, any_range, any_range]
        simp only [hident]
      · rw [rawMarkers_row, markersRepeat_row, hn, hk, any_range]
        simp only [any_range, decide_eq_true_eq, hident, Nat.zero_add, Nat.zero_le, true_and]
      · rw [rawMarkers_any, Bool.or_eq_true, rawMarkers_row, markersFall_row, hn, hk, any_range, any_range]
        simp only [decide_eq_true_eq, hplace, Nat.zero_add]
        constructor
        · rintro (⟨j, l, u, h⟩ | ⟨j, u, h⟩)
          · exact ⟨j, u, .inl ⟨l, h⟩⟩
          · exact ⟨j, u, .inr h⟩
        · rintro ⟨j, u, ⟨l, h⟩ | h⟩
          · exact .inl ⟨j, l, u, h⟩
          · exact .inr ⟨j, u, h⟩
      · rw [decide_eq_true_iff]

end Sys2Proof.Machine
end

section
/-! SHUNT and FULL (R41), and what a supervision cycle computes (R42, R43, R48, R53 to R56, R59). -/

namespace Sys2Proof.Machine

/-! ### The requests for a mode -/

theorem exec_shunt (p : Port) (s : State) : exec (.shunt p) s = .next (s.serve .shunt p 0 0) := rfl

theorem exec_full (p : Port) (s : State) : exec (.full p) s = .next (s.serve .full p 0 0) := rfl

/-- R40, R52: another mode than NONE taken. -/
theorem State.setMode_eq {m : Mode} (h : m ≠ .none) (s : State) :
    s.setMode m = State.raise .supervision { s with ssu := { s.ssu with
      mode := m, prereqs := none, window := [], horizon := none, steepMark := false
      flushCount := (s.ssu.flushCount + 1) % 65536 } } := by
  unfold State.setMode
  rw [decide_eq_true h, Bool.and_true]
  rfl

section
variable {s : State} {p : Port} {m : Mode}

theorem State.requestMode_of_not_active (h : s.isActivePort p = false) :
    s.requestMode p m = s.refuse .notActiveDesk := by
  simp [State.requestMode, h]

theorem State.requestMode_of_moving (active : s.isActivePort p = true) (moving : s.odu.motion ≠ .standstill) :
    s.requestMode p m = s.refuse .moving := by
  have unstill : s.still = false := Bool.eq_false_iff.2 fun h => moving (s.still_iff.1 h)
  simp [State.requestMode, active, unstill]

theorem State.requestMode_of_still (active : s.isActivePort p = true) (stands : s.odu.motion = .standstill) :
    s.requestMode p m = (if s.ssu.mode = m then s else s.setMode m).accept := by
  have still : s.still = true := s.still_iff.2 stands
  unfold State.requestMode
  simp only [active, still, Bool.not_true, Bool.false_eq_true, if_false]
  split <;> rfl

/-- R41: the answers of a desk's request for a mode. -/
theorem serve_mode (k : ReqKind) (h : k.fromDesk = true) (known : m ≠ .none)
    (owner : ∀ x : State, x.answer k p 0 0 = (x.requestMode p m).finished) :
    (p = .c → s.serve k p 0 0 = s.writeResult p k.code .notPermitted none) ∧
    (p ≠ .c → s.dka.active ≠ portDesk p → s.serve k p 0 0 = s.writeResult p k.code .notActiveDesk none) ∧
    (p ≠ .c → s.dka.active = portDesk p → s.odu.motion ≠ .standstill →
      s.serve k p 0 0 = s.writeResult p k.code .moving none) ∧
    (p ≠ .c → s.dka.active = portDesk p → s.odu.motion = .standstill →
      let u := s.place p k 0#16 0#16
      State.Answered
        (if s.ssu.mode = m then u
          else State.raise .supervision { u with ssu := { s.ssu with
            mode := m, prereqs := none, window := [], horizon := none, steepMark := false,
            flushCount := (s.ssu.flushCount + 1) % 65536 } }) (s.serve k p 0 0) p k.code .accepted) := by
  have active {x : State} (e : x.dka = s.dka) (desk : p ≠ .c) (a : s.dka.active = portDesk p) :
      x.isActivePort p = true := State.isActivePort_of_active desk (by rw [e, a])
  have dka := State.place_dka s p k 0 0
  have odu := State.place_odu s p k 0 0
  refine ⟨?_, fun desk other => ?_, fun desk a moving => ?_, fun desk a stands => ?_⟩
  · rintro rfl
    rw [State.serve_not_permitted _ _ (ReqKind.permits_of_fromDesk h .c)]
  · rw [State.serve_refused_finished (r := .notActiveDesk) (ReqKind.permits_desk h desk) (by decide) (owner _)]
    exact State.requestMode_of_not_active (State.not_isActivePort_of_active_ne (by rwa [dka]))
  · rw [State.serve_refused_finished (r := .moving) (ReqKind.permits_desk h desk) (by decide) (owner _)]
    exact State.requestMode_of_moving (active dka desk a) (by rwa [odu])
  · intro u
    have answer := State.requestMode_of_still (m := m) (active dka desk a) (by rwa [odu])
    rw [State.setMode_eq known, State.place_ssu] at answer
    exact State.serve_accepted_finished (ReqKind.permits_desk h desk) (owner _) answer

end

/-- Settles O21, mode by mode. -/
theorem modeRequestsSelectTheMode : Obligations.ModeRequestsSelectTheMode := by
  rintro s p m (rfl | rfl) c k code
  · obtain ⟨other, inactive, moving, stands⟩ :=
      serve_mode (s := s) (p := p) (m := .shunt) .shunt rfl (by decide) fun _ => rfl
    exact ⟨fun a => congrArg _ (other a), fun a b => congrArg _ (inactive a b),
      fun a b c => congrArg _ (moving a b c), fun a b c => ⟨_, exec_shunt p s, stands a b c⟩⟩
  · obtain ⟨other, inactive, moving, stands⟩ :=
      serve_mode (s := s) (p := p) (m := .full) .full rfl (by decide) fun _ => rfl
    exact ⟨fun a => congrArg _ (other a), fun a b => congrArg _ (inactive a b),
      fun a b c => congrArg _ (moving a b c), fun a b c => ⟨_, exec_full p s, stands a b c⟩⟩

end Sys2Proof.Machine
end

section
/-! What a supervision cycle computes (R42, R43, R48, R53 to R56, R59). -/

namespace Sys2Proof.Machine

/-! ### A cycle by what it computes from -/

/-- The state that a cycle computes from: that of the event, with the travel direction set. -/
structure State.Faces (s z : State) : Prop where
  odu : z.odu = s.odu
  lps : z.lps = s.lps
  dka : z.dka = s.dka
  tgh : z.tgh = s.tgh
  par : ∀ p, z.par p = s.par p
  mode : z.ssu.mode = s.ssu.mode
  restrictions : z.ssu.restrictions = s.ssu.restrictions
  cap : z.ssu.cap = s.ssu.cap
  dir : z.ssu.dir = s.travelDir

/-- The fields of the record that a cycle takes from its computation. -/
structure State.Takes (u : State) (c : Computed) : Prop where
  mrsp : u.ssu.mrsp = .some c.mrsp
  curves : u.ssu.curves = .some c.curves
  governing : u.ssu.governing = c.governing
  window : u.ssu.window = c.built.pieces
  horizon : u.ssu.horizon = c.built.horizon
  truncated : u.ssu.truncated = c.built.truncated

theorem State.setTravelDir_faces (s : State) : s.Faces s.setTravelDir := by
  rw [State.setTravelDir_spec]
  exact ⟨rfl, rfl, rfl, rfl, fun _ => rfl, rfl, rfl, rfl, rfl⟩

theorem State.cycle_takes {s : State} (h : s.ssu.mode ≠ .none) : s.cycle.Takes s.setTravelDir.compute := by
  have e : s.cycle =
      ((s.setTravelDir.takeComputed s.setTravelDir.compute).steepNotice).overrunTest := if_neg h
  obtain ⟨_, _, taken⟩ := State.takeComputed_spec s.setTravelDir.compute s.setTravelDir
  obtain ⟨_, _, noticed⟩ := (s.setTravelDir.takeComputed s.setTravelDir.compute).steepNotice_spec
  obtain ⟨_, _, tested⟩ :=
    (s.setTravelDir.takeComputed s.setTravelDir.compute).steepNotice.overrunTest_spec
  rw [e]
  generalize s.setTravelDir.compute = c at *
  constructor <;> rw [tested, noticed, taken]

theorem State.cycleClock_eq (s : State) : s.cycleClock =
    { s.advanceTo s.ssu.timer with ssu := { (s.advanceTo s.ssu.timer).ssu with
      timer := (s.advanceTo s.ssu.timer).ssu.timer + 50000 } } := by
  unfold State.cycleClock
  dsimp only
  rw [State.advanceTo_ssu]
  rfl

theorem State.advanceTo_par (s : State) (t : Nat) (p : Param) : (s.advanceTo t).par p = s.par p :=
  State.par_congr (State.advanceTo_pst s t) p

/-- A cycle in SHUNT or FULL, its computation made from a state that faces the one of the event. -/
theorem exec_cycle {s : State} (h : s.ssu.mode ≠ .none) :
    ∃ t u z : State, exec .supervisionCycle s = .next t ∧ (s.advanceTo s.ssu.timer).Supervised u ∧ u.Ends t ∧
      s.Faces z ∧ u.Takes z.compute := by
  have odu := State.advanceTo_odu s s.ssu.timer
  have lps := State.advanceTo_lps s s.ssu.timer
  have dka := State.advanceTo_dka s s.ssu.timer
  have tgh := State.advanceTo_tgh s s.ssu.timer
  have ssu := State.advanceTo_ssu s s.ssu.timer
  have par := State.advanceTo_par s s.ssu.timer
  have clock := s.cycleClock_eq
  have ends : exec .supervisionCycle s = .next s.cycleClock.cycle.finish := rfl
  generalize s.advanceTo s.ssu.timer = x at *
  have mode : x.ssu.mode ≠ .none := by rwa [ssu]
  obtain ⟨t, out, u⟩ := exec_ends ends
  have faces := s.cycleClock.setTravelDir_faces
  have takes : s.cycleClock.cycle.Takes s.cycleClock.setTravelDir.compute :=
    State.cycle_takes (by rwa [clock])
  have supervised := x.cycle_supervised mode
  rw [← clock] at supervised
  refine ⟨t, _, _, out, supervised, u, ?_, takes⟩
  generalize s.cycleClock.setTravelDir = z at *
  have direction : x.travelDir = s.travelDir := by rw [State.travelDir, dka, odu]; rfl
  have same : x.ssu.mode = s.ssu.mode ∧ x.ssu.restrictions = s.ssu.restrictions ∧ x.ssu.cap = s.ssu.cap := by
    rw [ssu]
    exact ⟨rfl, rfl, rfl⟩
  rw [clock] at faces
  obtain ⟨fo, fl, fd, ft, fp, fm, fr, fc, fdir⟩ := faces
  exact ⟨fo.trans odu, fl.trans lps, fd.trans dka, ft.trans tgh, fun p => (fp p).trans (par p),
    fm.trans same.1, fr.trans same.2.1, fc.trans same.2.2, fdir.trans direction⟩

/-! ### Computations without a line -/

/-- The curves of a MRSP without a target. -/
theorem State.curvesOf_bare (s : State) (m buildUp : Nat) (b : Built) : s.curvesOf b buildUp m [] =
    { perm := m ^ 2, sb := (m + s.par .mSb) ^ 2, eb := (m + s.par .mEb) ^ 2 } := rfl

theorem State.computeMissing_curves (s : State) (q : Prereqs) : (s.computeMissing q).curves =
    { perm := 0, sb := s.par .mSb ^ 2, eb := s.par .mEb ^ 2 } := by
  simp [State.computeMissing, State.curvesOf, curveValue, targetValue, allowance, Built.empty]

theorem State.compute_missing {s : State} (full : s.ssu.mode = .full) (h : s.prereqsNow.met = false) :
    s.compute = s.computeMissing s.prereqsNow := by
  unfold State.compute
  rw [if_pos full, if_neg (by rw [h]; decide)]

theorem State.compute_bare {s : State} (shunt : s.ssu.mode = .shunt)
    (h : s.lps.profile = none ∨ s.odu.located = false) :
    s.compute = s.computeFrom none none (s.par .vShunt) := by
  unfold State.compute
  rw [if_neg (by rw [shunt]; decide)]
  rcases h with h | h
  · rw [h]
  · split
    · rw [h] <;> rfl
    · rfl

theorem State.compute_line {s : State} {p : Profile} (profile : s.lps.profile = some p)
    (located : s.odu.located = true)
    (mode : s.ssu.mode = .shunt ∨ (s.ssu.mode = .full ∧ s.prereqsNow.met = true)) :
    s.compute = s.computeFrom (if s.ssu.mode = .full then some s.prereqsNow else none) (some p)
      (s.mrspOnLine p s.ssu.dir) := by
  unfold State.compute
  rw [profile]
  rcases mode with shunt | ⟨full, met⟩
  · have : s.ssu.mode ≠ .full := by rw [shunt]; decide
    rw [if_neg this, if_neg this]
    dsimp only
    rw [if_pos located]
  · rw [if_pos full, if_pos full, if_pos met]

/-! ### What follows for the record -/

theorem State.Crosses.side {s u : State} (h : s.Crosses u) : u.ssu.authSide = some .beyond := h.2.2.1

theorem State.Supervised.overrun_of_noSide {s u : State} (h : s.Supervised u) (n : u.ssu.authSide = none) :
    u.ssu.overrun = s.ssu.overrun := by
  have crosses : ¬s.Crosses u := fun c => by rw [c.side] at n; cases n
  have iff := h.overrun
  rw [or_iff_left crosses] at iff
  exact Bool.eq_iff_iff.2 iff

theorem State.prereqsNow_met_iff (s : State) : s.prereqsNow.met = true ↔ s.lps.profile ≠ none ∧
    (s.odu.pos = .valid ∨ s.odu.pos = .restored) ∧
    ∃ a, s.tgh.authority = some a ∧ (s.dka.selected = none ∨ s.dka.selected = some a.dir) := by
  rw [Prereqs.met, State.prereqsNow_eq, ← Lps.profile_isSome]
  cases s.tgh.authority <;> simp [Option.isSome_iff_ne_none, and_assoc]

end Sys2Proof.Machine
end

section
/-! The obligations about a cycle without a window, the order of the curves, and the end of authority (R43,
R48, R55, R56, R59, R60). -/

namespace Sys2Proof.Machine

/-! ### Cycles without a window -/

theorem State.cycleNone_eq (s : State) : s.cycleNone =
    let u : State := { s with ssu := { s.ssu with
        status := .normal, prereqs := none, front := none, mrsp := none, buildUp := none,
        curves := none, governing := none, window := [], horizon := none, truncated := false,
        steep := false, authSide := none } }
    if s.ssu.status = .normal then u else u.raise .supervision := by
  unfold State.cycleNone State.raiseIf
  by_cases h : s.ssu.status = .normal <;> simp [h]

/-- R43: a cycle in NONE. -/
theorem exec_cycle_none {s : State} (h : s.ssu.mode = .none) :
    let u : State := { s.advanceTo s.ssu.timer with ssu := { s.ssu with
      timer := s.ssu.timer + 50000, status := .normal, prereqs := none, front := none, mrsp := none,
      buildUp := none, curves := none, governing := none, window := [], horizon := none,
      truncated := false, steep := false, authSide := none } }
    ∃ t, exec .supervisionCycle s = .next t ∧
      State.Ends (if s.ssu.status = .normal then u else u.raise .supervision) t := by
  have ssu := State.advanceTo_ssu s s.ssu.timer
  have clock := s.cycleClock_eq
  have ends : exec .supervisionCycle s = .next s.cycleClock.cycle.finish := rfl
  generalize s.advanceTo s.ssu.timer = x at *
  obtain ⟨t, out, ended⟩ := exec_ends ends
  have cycled : s.cycleClock.cycle = s.cycleClock.cycleNone := if_pos (by rw [clock, ssu]; exact h)
  rw [cycled, State.cycleNone_eq, clock, ssu] at ended
  exact ⟨t, out, ended⟩

/-- R42, R55, R56: a cycle in FULL with a prerequisite missing. -/
theorem exec_cycle_missing {s : State} (full : s.ssu.mode = .full) (missing : s.prereqsNow.met = false) :
    ∃ t u : State, exec .supervisionCycle s = .next t ∧ (s.advanceTo s.ssu.timer).Supervised u ∧ u.Ends t ∧
      u.ssu.timer = s.ssu.timer + 50000 ∧ u.ssu.mode = .full ∧ u.ssu.prereqs = some s.prereqsNow ∧
      u.ssu.mrsp = some 0 ∧
      u.ssu.curves = some { perm := 0, sb := s.par .mSb ^ 2, eb := s.par .mEb ^ 2 } ∧
      u.ssu.governing = some (0, 0) ∧ u.ssu.window = [] ∧ u.ssu.horizon = none ∧
      u.ssu.truncated = false ∧ u.ssu.authSide = none ∧ u.ssu.overrun = s.ssu.overrun ∧
      u.ssu.status =
        (if s.par .mEb ^ 2 < s.odu.speed ^ 2 then .emergency
          else if s.par .mSb ^ 2 < s.odu.speed ^ 2 ∨ (s.ssu.status = .service ∧ 0 < s.odu.speed) then .service
          else if 0 < s.odu.speed then .warning
          else .normal) := by
  obtain ⟨t, u, z, out, sup, ended, faces, takes⟩ := exec_cycle (s := s) (by rw [full]; decide)
  refine ⟨t, u, out, sup, ended, ?_⟩
  have now : z.prereqsNow = s.prereqsNow := by
    unfold State.prereqsNow
    rw [faces.odu, faces.lps, faces.tgh, faces.dka]
  rw [State.compute_missing (faces.mode.trans full) (by rw [now, missing])] at takes
  have curves := takes.curves
  rw [State.computeMissing_curves, faces.par, faces.par] at curves
  have odu := State.advanceTo_odu s s.ssu.timer
  have ssu := State.advanceTo_ssu s s.ssu.timer
  have now' : (s.advanceTo s.ssu.timer).prereqsNow = s.prereqsNow := by
    unfold State.prereqsNow
    rw [State.advanceTo_odu, State.advanceTo_lps, State.advanceTo_tgh, State.advanceTo_dka]
  rw [State.prereqsNow_eq] at now'
  generalize s.advanceTo s.ssu.timer = x at *
  have pre : u.ssu.prereqs = some s.prereqsNow := by
    rw [sup.prereqs, if_pos (by rw [ssu, full]), ← now'] <;> rfl
  have noSide : u.ssu.authSide = none := sup.noSide fun all => by
    rw [pre] at all
    rw [Option.some.inj all] at missing
    cases missing
  have kept := sup.kept
  have status := sup.status _ curves
  rw [odu, ssu] at status
  have positive (v : Nat) : 0 < v ^ 2 ↔ 0 < v := Nat.pow_pos_iff.trans (or_iff_left (by decide))
  simp only [positive] at status
  refine ⟨?_, ?_, pre, takes.mrsp, curves, takes.governing, takes.window, takes.horizon, takes.truncated,
    noSide, ?_, status⟩
  · rw [kept, ssu]
  · rw [kept, ssu]
    exact full
  · rw [sup.overrun_of_noSide noSide, ssu]

/-- R48, R55, R56: a cycle in SHUNT without a line. -/
theorem exec_cycle_bare {s : State} (shunt : s.ssu.mode = .shunt)
    (bare : s.lps.profile = none ∨ s.odu.located = false) :
    let v := s.odu.speed
    let m := s.par .vShunt
    ∃ t u : State, exec .supervisionCycle s = .next t ∧ (s.advanceTo s.ssu.timer).Supervised u ∧ u.Ends t ∧
      u.ssu.timer = s.ssu.timer + 50000 ∧ u.ssu.mrsp = some m ∧
      u.ssu.curves =
        some { perm := m ^ 2, sb := (m + s.par .mSb) ^ 2, eb := (m + s.par .mEb) ^ 2 } ∧
      u.ssu.governing = none ∧ u.ssu.window = [] ∧ u.ssu.horizon = none ∧ u.ssu.truncated = false ∧
      u.ssu.prereqs = none ∧ u.ssu.authSide = none ∧ u.ssu.overrun = s.ssu.overrun ∧
      u.ssu.status =
        (if (m + s.par .mEb) ^ 2 < v ^ 2 then .emergency
          else if (m + s.par .mSb) ^ 2 < v ^ 2 ∨ (s.ssu.status = .service ∧ m ^ 2 < v ^ 2) then
            .service
          else if m ^ 2 < v ^ 2 then .warning
          else .normal) := by
  intro v m
  obtain ⟨t, u, z, out, sup, ended, faces, takes⟩ := exec_cycle (s := s) (by rw [shunt]; decide)
  refine ⟨t, u, out, sup, ended, ?_⟩
  rw [State.compute_bare (faces.mode.trans shunt) (by rwa [faces.lps, faces.odu])] at takes
  have curves := takes.curves
  have none_given : (z.computeFrom none none (z.par .vShunt)).curves =
      { perm := m ^ 2, sb := (m + s.par .mSb) ^ 2, eb := (m + s.par .mEb) ^ 2 } := by
    rw [← faces.par, ← faces.par, show m = z.par .vShunt from (faces.par _).symm]
    rfl
  rw [none_given] at curves
  have odu := State.advanceTo_odu s s.ssu.timer
  have ssu := State.advanceTo_ssu s s.ssu.timer
  generalize s.advanceTo s.ssu.timer = x at *
  have pre : u.ssu.prereqs = none := by
    rw [sup.prereqs, if_neg (by rw [ssu, shunt]; decide)]
  have noSide : u.ssu.authSide = none := sup.noSide fun all => by
    rw [pre] at all
    cases all
  have kept := sup.kept
  have status := sup.status _ curves
  rw [odu, ssu] at status
  refine ⟨?_, takes.mrsp.trans (congrArg some (faces.par _)), curves, takes.governing, takes.window,
    takes.horizon, takes.truncated, pre, noSide, ?_, status⟩
  · rw [kept, ssu]
  · rw [sup.overrun_of_noSide noSide, ssu]

/-- Settles O17, by the mode and what is missing. -/
theorem cyclesWithoutAWindow : Obligations.CyclesWithoutAWindow := by
  refine ⟨fun s h => exec_cycle_none h, ?_, fun s shunt bare => exec_cycle_bare shunt bare⟩
  intro s full profile position authority missing v
  have now : s.prereqsNow = { profile := profile, position := position, authority := authority } :=
    s.prereqsNow_eq
  have met : s.prereqsNow.met = false := by
    rw [now]
    exact missing
  rw [← now]
  exact exec_cycle_missing full met

/-! ### The order of the curves -/

theorem foldl_min_le (l : List Nat) (a : Nat) : l.foldl min a ≤ a := by
  induction l generalizing a with
  | nil => exact le_rfl
  | cons x l ih => exact (ih _).trans (min_le_left _ _)

theorem foldl_min_mono {α : Type} {f g : α → Nat} (l : List α) {a b : Nat} (h : ∀ x, f x ≤ g x) (le : a ≤ b) :
    (l.map f).foldl min a ≤ (l.map g).foldl min b := by
  induction l generalizing a b with
  | nil => exact le
  | cons x l ih => exact ih (min_le_min le (h x))

theorem curveValue_le (pieces : List Piece) (buildUp mrsp margin : Nat) (ts : List Target) :
    curveValue pieces buildUp mrsp margin ts ≤ (mrsp + margin) ^ 2 := foldl_min_le _ _

/-- R55: a greater margin gives no lower curve. -/
theorem curveValue_mono (pieces : List Piece) (buildUp mrsp : Nat) (ts : List Target) {a b : Nat} (h : a ≤ b) :
    curveValue pieces buildUp mrsp a ts ≤ curveValue pieces buildUp mrsp b ts := by
  have square (n : Nat) : (n + a) ^ 2 ≤ (n + b) ^ 2 := Nat.pow_le_pow_left (Nat.add_le_add_left h n) 2
  exact foldl_min_mono ts (fun t => Nat.add_le_add_right (square t.2) _) (square mrsp)

/-- The curves of a computation are those of some window, build-up distance and targets, and its MRSP is
bounded. -/
structure State.Computes (s : State) (c : Computed) : Prop where
  curves : ∃ b n ts, c.curves = s.curvesOf b n c.mrsp ts
  window : c.built.pieces.length ≤ 16
  mrsp : c.mrsp ≤ max 1500 (s.par .vShunt)

theorem State.build_length (s : State) (p : Profile) (f : Nat) (d : Dir) :
    (s.build p f d).pieces.length ≤ 16 := by
  unfold State.build
  dsimp only
  split
  · exact Nat.zero_le _
  · rw [List.length_map, List.length_take]
    exact min_le_left _ _

theorem State.computeFrom_computes (s : State) (q : Option Prereqs) (p : Option Profile) {m : Nat}
    (h : m ≤ max 1500 (s.par .vShunt)) : s.Computes (s.computeFrom q p m) := by
  unfold State.computeFrom
  dsimp only
  split
  · exact ⟨⟨_, _, _, rfl⟩, State.build_length .., h⟩
  · exact ⟨⟨_, _, _, rfl⟩, Nat.zero_le _, h⟩

theorem State.compute_computes (s : State) : s.Computes s.compute := by
  have missing (q : Prereqs) : s.Computes (s.computeMissing q) := ⟨⟨_, _, _, rfl⟩, Nat.zero_le _, Nat.zero_le _⟩
  have line (q : Option Prereqs) (p : Profile) : s.Computes (s.computeFrom q (some p) (s.mrspOnLine p s.ssu.dir)) :=
    s.computeFrom_computes _ _ ((foldl_min_le _ _).trans (le_max_left _ _))
  have bare : s.Computes (s.computeFrom none none (s.par .vShunt)) :=
    s.computeFrom_computes _ _ (le_max_right _ _)
  unfold State.compute
  split
  · split
    · split
      · exact line _ _
      · exact missing _
    · exact missing _
  · split
    · split
      · exact line _ _
      · exact bare
    · exact bare

/-- Settles O19: the curves of every computation are ordered, and what follows is the record's. -/
theorem curvesAreOrderedAndGiveTheStatus : Obligations.CurvesAreOrderedAndGiveTheStatus := by
  intro s mode
  obtain ⟨t, u, z, out, sup, ended, faces, takes⟩ := exec_cycle mode
  obtain ⟨⟨b, n, ts, curves⟩, window, mrsp⟩ := z.compute_computes
  have odu := State.advanceTo_odu s s.ssu.timer
  have ssu := State.advanceTo_ssu s s.ssu.timer
  refine ⟨t, u, _, _, out, sup, ended, takes.curves, takes.mrsp, ?_⟩
  have status := sup.status _ takes.curves
  have kept := sup.kept
  have warning := sup.warning
  have notice := sup.notice
  generalize s.advanceTo s.ssu.timer = x at *
  rw [odu, ssu] at status
  rw [ssu] at warning
  have order : z.compute.curves.perm ≤ z.compute.mrsp ^ 2 ∧
      z.compute.curves.sb ≤ (z.compute.mrsp + s.par .mSb) ^ 2 ∧
      z.compute.curves.eb ≤ (z.compute.mrsp + s.par .mEb) ^ 2 ∧
      z.compute.curves.perm ≤ z.compute.curves.sb ∧
      (s.par .mSb ≤ s.par .mEb → z.compute.curves.sb ≤ z.compute.curves.eb) := by
    rw [curves, ← faces.par, ← faces.par]
    exact ⟨curveValue_le .., curveValue_le .., curveValue_le .., curveValue_mono _ _ _ _ (Nat.zero_le _),
      fun h => curveValue_mono _ _ _ _ h⟩
  obtain ⟨perm, sb, eb, rises, margins⟩ := order
  refine ⟨by rwa [faces.par] at mrsp, perm, sb, eb, rises, margins, takes.window ▸ window, status, warning, ?_⟩
  refine ⟨fun shunt => ?_, ?_, ?_, ?_, ?_, fun changed => ?_⟩
  · have noSide : u.ssu.authSide = none := sup.noSide fun all => by
      rw [sup.prereqs, if_neg (by rw [ssu, shunt]; decide)] at all
      cases all
    exact ⟨by rw [sup.overrun_of_noSide noSide, ssu], noSide⟩
  · rw [kept, ssu]
  · rw [kept, ssu]
  · rw [kept, ssu]
  · rw [kept, ssu]
  · exact State.Has.of_tells notice (Or.inl (by rwa [ssu]))

/-! ### The end of authority -/

theorem State.takePending_overrun (s : State) : s.takePending.ssu.overrun = s.ssu.overrun := by
  unfold State.takePending
  split
  · rw [State.switchOver_eq] <;> rfl
  · rfl

/-- R60: an event that ends with OVERRUN set ends with its row and the level at EMERGENCY. -/
theorem State.Ends.overrun {u t : State} (h : u.Ends t) (o : u.ssu.overrun = true) :
    t.brm.rows.supervision = { level := .emergency, reason := some .overrun } ∧ t.brm.level = .emergency := by
  have kept : t.ssu.overrun = true := by rw [h.1.ssu, State.takePending_overrun, o]
  have row := h.rowsTrue.supervision
  rw [if_pos kept] at row
  exact ⟨row, h.2.1.level.trans (Brm.effective_emergency (i := .supervision) (congrArg Row.level row))⟩

theorem side_by_direction (d : Dir) (p q : Prop) [Decidable p] [Decidable q] :
    (match d with
      | .up => if p then Side.beyond else .ahead
      | .down => if q then Side.beyond else .ahead) =
    if (match d with
      | .up => decide p
      | .down => decide q) = true then Side.beyond else .ahead := by
  cases d <;> simp

/-- Settles O20, from the side that the cycle records. -/
theorem passingTheEndOfAuthorityIsAnOverrun : Obligations.PassingTheEndOfAuthorityIsAnOverrun := by
  intro s a full profile located authority selected d beyond crossed
  obtain ⟨t, u, z, out, sup, ended, -, -⟩ := exec_cycle (s := s) (by rw [full]; decide)
  refine ⟨t, u, out, sup, ended, ?_⟩
  have odu := State.advanceTo_odu s s.ssu.timer
  have ssu := State.advanceTo_ssu s s.ssu.timer
  have dka := State.advanceTo_dka s s.ssu.timer
  have tgh := State.advanceTo_tgh s s.ssu.timer
  have lps := State.advanceTo_lps s s.ssu.timer
  have par := State.advanceTo_par s s.ssu.timer
  generalize s.advanceTo s.ssu.timer = x at *
  have dir : u.ssu.dir = d := by rw [sup.dir, dka, odu] <;> rfl
  have met : u.ssu.prereqs = some { profile := true, position := true, authority := true } := by
    have now : x.prereqsNow.met = true :=
      x.prereqsNow_met_iff.2 ⟨by rwa [lps], by rwa [odu], a, by rwa [tgh], by rwa [dka]⟩
    rw [sup.prereqs, if_pos (by rw [ssu, full]), ← (Prereqs.met_iff _).1 now, State.prereqsNow_eq] <;> rfl
  have same : d = some a.dir → u.ssu.authSide = some (if beyond = true then .beyond else .ahead) := by
    intro e
    rw [sup.side a a.dir met (tgh ▸ authority) (dir.trans e) rfl, odu, par]
    exact congrArg some (side_by_direction a.dir _ _)
  have other : d ≠ some a.dir → u.ssu.authSide = none := by
    intro n
    refine sup.noSide fun _ b hb => ?_
    rw [tgh, authority] at hb
    cases hb
    rwa [dir]
  have crosses : x.Crosses u ↔ crossed := by
    unfold State.Crosses
    rw [dir, odu, ssu]
    constructor
    · rintro ⟨e, ahead, found, moving⟩
      have here : d = some a.dir := by
        by_contra n
        rw [other n] at found
        cases found
      rw [same here] at found
      refine ⟨here, e ▸ here, ahead, ?_, moving⟩
      by_contra n
      rw [if_neg n] at found
      cases found
    · rintro ⟨here, e, ahead, passed, moving⟩
      exact ⟨here.trans e.symm, ahead, by rw [same here, if_pos passed], moving⟩
  have overrun := sup.overrun
  rw [crosses, ssu] at overrun
  refine ⟨same, other, fun c => ?_, fun n => ?_⟩
  · have row := ended.overrun (overrun.2 (Or.inr c))
    exact ⟨overrun.2 (Or.inr c), sup.warning.2 (Or.inr (Or.inr (crosses.2 c))),
      State.Has.of_tells sup.notice (Or.inr (Or.inl (crosses.2 c))), row.1, row.2⟩
  · exact Bool.eq_iff_iff.2 (overrun.trans (or_iff_left n))

end Sys2Proof.Machine
end

section
/-! The window of a cycle: its cuts and pieces (R49, R50), its targets and the governing one (R53 to R55). -/

namespace Sys2Proof.Machine

/-! ### The cuts -/

theorem mem_insertCut {x y : Int} {l : List Int} : y ∈ insertCut x l ↔ y = x ∨ y ∈ l := by
  induction l with
  | nil => simp [insertCut]
  | cons a l ih =>
    unfold insertCut
    split
    · simp
    · split
      · next h =>
        subst h
        simp
      · simp only [List.mem_cons, ih]
        tauto

theorem insertCut_pairwise (x : Int) {l : List Int} (h : l.Pairwise (· < ·)) :
    (insertCut x l).Pairwise (· < ·) := by
  induction l with
  | nil => exact List.pairwise_singleton _ _
  | cons a l ih =>
    obtain ⟨first, rest⟩ := List.pairwise_cons.1 h
    unfold insertCut
    split
    · next lt =>
      refine List.pairwise_cons.2 ⟨fun y hy => ?_, h⟩
      rcases List.mem_cons.1 hy with rfl | hy
      · exact lt
      · exact lt.trans (first y hy)
    · split
      · exact h
      · refine List.pairwise_cons.2 ⟨fun y hy => ?_, ih rest⟩
        rcases mem_insertCut.1 hy with rfl | hy
        · omega
        · exact first y hy

theorem foldr_insertCut (l : List Int) :
    (l.foldr insertCut []).Pairwise (· < ·) ∧ ∀ x, x ∈ l.foldr insertCut [] ↔ x ∈ l := by
  induction l with
  | nil => exact ⟨List.Pairwise.nil, fun x => Iff.rfl⟩
  | cons a l ih => exact ⟨insertCut_pairwise a ih.1, fun x => by
      rw [List.foldr_cons, mem_insertCut, ih.2, List.mem_cons]⟩

theorem sortedCuts_pairwise (h : Int) (xs : List Int) : (sortedCuts h xs).Pairwise (· < ·) :=
  (foldr_insertCut _).1

theorem mem_sortedCuts {h : Int} {xs : List Int} {x : Int} :
    x ∈ sortedCuts h xs ↔ x ∈ xs ∧ 0 < x ∧ x < h := by
  unfold sortedCuts
  rw [(foldr_insertCut _).2]
  simp

/-- R49: the boundaries of the pieces before truncation. -/
def boundaries (h : Int) (xs : List Int) : List Int := 0 :: (sortedCuts h xs ++ [h])

theorem boundaries_pairwise {h : Int} (pos : 0 < h) (xs : List Int) :
    (boundaries h xs).Pairwise (· < ·) := by
  refine List.pairwise_cons.2 ⟨fun y hy => ?_, List.pairwise_append.2
    ⟨sortedCuts_pairwise h xs, List.pairwise_singleton _ _, fun a ha b hb => ?_⟩⟩
  · rcases List.mem_append.1 hy with hy | hy
    · exact (mem_sortedCuts.1 hy).2.1
    · rwa [List.mem_singleton.1 hy]
  · rw [List.mem_singleton.1 hb]
    exact (mem_sortedCuts.1 ha).2.2

theorem mem_boundaries {h : Int} {xs : List Int} {x : Int} :
    x ∈ boundaries h xs ↔ x = 0 ∨ x = h ∨ (0 < x ∧ x < h ∧ x ∈ xs) := by
  simp only [boundaries, List.mem_cons, List.mem_append, mem_sortedCuts, List.not_mem_nil, or_false]
  tauto

theorem spans_length (a : Int) (l : List Int) : (spans a l).length = l.length := by
  induction l generalizing a with
  | nil => rfl
  | cons b l ih => simp [spans, ih]

/-- A span lies between two neighbours of the boundaries. -/
theorem spans_getElem (a : Int) (l : List Int) (k : Nat) (b : Int × Int) (h : (spans a l)[k]? = some b) :
    (a :: l)[k]? = some b.1 ∧ (a :: l)[k + 1]? = some b.2 := by
  induction l generalizing a k with
  | nil => cases h
  | cons c l ih =>
    cases k with
    | zero =>
      obtain rfl : (a, c) = b := Option.some.inj h
      exact ⟨rfl, rfl⟩
    | succ k => exact ih c k h

theorem spans_getLast (a : Int) (l : List Int) (n : Nat) (h : l ≠ []) (pos : 0 < n) :
    ((spans a l).take n).getLast?.map Prod.snd = (a :: l)[min n l.length]? := by
  obtain ⟨k, e⟩ : ∃ k, min n l.length = k + 1 :=
    Nat.exists_eq_succ_of_ne_zero (by have := List.length_pos_iff.2 h; omega)
  have len : ((spans a l).take n).length = k + 1 := by rw [List.length_take, spans_length, e]
  have lt : k < (spans a l).length := by rw [spans_length]; omega
  rw [List.getLast?_eq_getElem?, len, Nat.add_sub_cancel, List.getElem?_take, if_pos (by omega), e]
  obtain ⟨b, hb⟩ : ∃ b, (spans a l)[k]? = some b := ⟨_, List.getElem?_eq_getElem lt⟩
  rw [hb, (spans_getElem a l k b hb).2]
  rfl

/-! ### The pieces -/

/-- R49: what cuts the window. -/
def State.cutsAt (s : State) (p : Profile) (d : Dir) : List Nat :=
  let rs := s.ssu.restrictions.filter fun r => r.applies.appliesTo d
  p.segments.map Segment.start ++ rs.map Restriction.first ++ rs.map Restriction.last ++ (s.limitAhead d).toList

theorem State.mem_cutsAt {s : State} {p : Profile} {d : Dir} {x : Nat} :
    x ∈ s.cutsAt p d ↔ x ∈ p.segments.map Segment.start ∨
      (∃ r ∈ s.ssu.restrictions, r.applies.appliesTo d = true ∧ (x = r.first ∨ x = r.last)) ∨
      s.limitAhead d = some x := by
  simp only [State.cutsAt, List.mem_append, List.mem_map, List.mem_filter, Option.mem_toList]
  constructor
  · rintro (((h | ⟨r, ⟨hr, ha⟩, e⟩) | ⟨r, ⟨hr, ha⟩, e⟩) | h)
    · exact Or.inl h
    · exact Or.inr (Or.inl ⟨r, hr, ha, Or.inl e.symm⟩)
    · exact Or.inr (Or.inl ⟨r, hr, ha, Or.inr e.symm⟩)
    · exact Or.inr (Or.inr h)
  · rintro (h | ⟨r, hr, ha, e | e⟩ | h)
    · exact Or.inl (Or.inl (Or.inl h))
    · exact Or.inl (Or.inl (Or.inr ⟨r, ⟨hr, ha⟩, e.symm⟩))
    · exact Or.inl (Or.inr ⟨r, ⟨hr, ha⟩, e.symm⟩)
    · exact Or.inr h

section
variable (s : State) (p : Profile) (f : Nat) (d : Dir)

/-- The horizon before truncation. -/
def State.horizonOf : Int := horizonAhead (s.par .lAhead) p.lineEnd f d

/-- The boundaries of the pieces from a front. -/
def State.boundsOf : List Int := boundaries (s.horizonOf p f d) ((s.cutsAt p d).map (distAhead f d))

theorem State.build_short (h : s.horizonOf p f d ≤ 0) :
    s.build p f d = { pieces := [], horizon := some (s.horizonOf p f d), truncated := false } := if_pos h

/-- The spans of the pieces, the first sixteen. -/
def State.keptSpans : List (Int × Int) :=
  (spans 0 (sortedCuts (s.horizonOf p f d) ((s.cutsAt p d).map (distAhead f d)) ++ [s.horizonOf p f d])).take 16

theorem State.build_long (h : 0 < s.horizonOf p f d) : s.build p f d =
    { pieces := (s.keptSpans p f d).map fun b => s.piece p f d b.1 b.2
      horizon := some (((s.keptSpans p f d).getLast?.map Prod.snd).getD (s.horizonOf p f d))
      truncated := decide (((s.keptSpans p f d).getLast?.map Prod.snd).getD (s.horizonOf p f d) <
        s.horizonOf p f d) } := if_neg (not_le.2 h)

theorem State.boundsOf_length : (s.boundsOf p f d).length =
    (sortedCuts (s.horizonOf p f d) ((s.cutsAt p d).map (distAhead f d))).length + 2 := by
  simp [State.boundsOf, boundaries]

theorem State.keptSpans_length : (s.keptSpans p f d).length = min 16 ((s.boundsOf p f d).length - 1) := by
  rw [State.keptSpans, List.length_take, spans_length, s.boundsOf_length]
  simp

/-- R49: a piece spans two neighbours of the boundaries. -/
theorem State.build_piece (h : 0 < s.horizonOf p f d) {k : Nat} {q : Piece}
    (hq : (s.build p f d).pieces[k]? = some q) : ∃ near far, 0 ≤ near ∧ near < far ∧ far ≤ s.horizonOf p f d ∧
      (s.boundsOf p f d)[k]? = some near ∧ (s.boundsOf p f d)[k + 1]? = some far ∧
      q = s.piece p f d near far := by
  rw [s.build_long p f d h, List.getElem?_map, Option.map_eq_some_iff] at hq
  obtain ⟨b, hb, rfl⟩ := hq
  rw [State.keptSpans, List.getElem?_take] at hb
  split at hb
  · obtain ⟨near, far⟩ := spans_getElem _ _ _ _ hb
    change (s.boundsOf p f d)[k]? = _ at near
    change (s.boundsOf p f d)[k + 1]? = _ at far
    have order := List.pairwise_iff_getElem.1 (boundaries_pairwise h ((s.cutsAt p d).map (distAhead f d)))
    obtain ⟨i, en⟩ := List.getElem?_eq_some_iff.1 near
    obtain ⟨j, ef⟩ := List.getElem?_eq_some_iff.1 far
    have lt := order k (k + 1) i j (Nat.lt_succ_self k)
    change (s.boundsOf p f d)[k] < (s.boundsOf p f d)[k + 1] at lt
    rw [en, ef] at lt
    have inside {x : Int} (hx : x ∈ s.boundsOf p f d) : 0 ≤ x ∧ x ≤ s.horizonOf p f d := by
      rcases mem_boundaries.1 hx with rfl | rfl | ⟨a, b, _⟩ <;> omega
    exact ⟨b.1, b.2, (inside (en ▸ List.getElem_mem i)).1, lt, (inside (ef ▸ List.getElem_mem j)).2, near, far, rfl⟩
  · cases hb

/-- R49: the window ends at the last boundary, or at the sixteenth after the front. -/
theorem State.build_ends (h : 0 < s.horizonOf p f d) :
    (s.build p f d).pieces.length = min 16 ((s.boundsOf p f d).length - 1) ∧
    (s.boundsOf p f d)[(s.build p f d).pieces.length]? = (s.build p f d).horizon ∧
    (s.build p f d).truncated = decide (17 < (s.boundsOf p f d).length) := by
  have len : (s.build p f d).pieces.length = min 16 ((s.boundsOf p f d).length - 1) := by
    rw [s.build_long p f d h, List.length_map, s.keptSpans_length]
  have size := s.boundsOf_length p f d
  have last : (s.keptSpans p f d).getLast?.map Prod.snd =
      (s.boundsOf p f d)[min 16 ((s.boundsOf p f d).length - 1)]? := by
    rw [State.keptSpans, spans_getLast 0 _ 16 (by simp) (by decide), s.boundsOf_length]
    simp [State.boundsOf, boundaries]
  have lt : min 16 ((s.boundsOf p f d).length - 1) < (s.boundsOf p f d).length := by omega
  rw [List.getElem?_eq_getElem lt] at last
  have final : (s.boundsOf p f d)[(s.boundsOf p f d).length - 1]'(by omega) = s.horizonOf p f d := by
    simp [State.boundsOf, boundaries]
  refine ⟨len, ?_, ?_⟩
  · rw [len, s.build_long p f d h, last, List.getElem?_eq_getElem lt]
    rfl
  · rw [s.build_long p f d h, last]
    have order := List.pairwise_iff_getElem.1 (boundaries_pairwise h ((s.cutsAt p d).map (distAhead f d)))
    change ∀ i j (hi : i < (s.boundsOf p f d).length) (hj : j < (s.boundsOf p f d).length), i < j →
      (s.boundsOf p f d)[i] < (s.boundsOf p f d)[j] at order
    refine decide_eq_decide.2 ⟨fun below => ?_, fun more => ?_⟩
    · by_contra few
      have e : min 16 ((s.boundsOf p f d).length - 1) = (s.boundsOf p f d).length - 1 := by omega
      simp only [e, Option.getD_some, final, lt_irrefl] at below
    · have e : min 16 ((s.boundsOf p f d).length - 1) = 16 := by omega
      have := order 16 ((s.boundsOf p f d).length - 1) (by omega) (by omega) (by omega)
      rw [final] at this
      simpa only [e, Option.getD_some] using this

end

/-! ### One piece -/

section
variable (s : State) (p : Profile) (f : Nat) (d : Dir)

/-- The lower end of a piece, as an integer. -/
def Piece.lower (q : Piece) (f : Nat) (d : Dir) : Int :=
  match d with
  | .up => (f : Int) + q.near
  | .down => (f : Int) - (q.near + q.length)

/-- R50: the deceleration of a kind and gradient. -/
theorem pieceDecel_eq (rack adh : Nat) (k : SegKind) (gradient : Int) (d : Dir) :
    (pieceDecel rack adh k gradient d : Int) =
      let base : Int := if k = .rack ∨ k = .rackEntry then rack else adh
      let g : Int := match d with
        | .up => gradient
        | .down => -gradient
      let a : Int :=
        if 0 ≤ g then base + g * 900 / 1000 else base - ((g.natAbs * 981 + 999) / 1000 : Nat)
      if a < 10 then 0 else a := by
  have base : (match k with
      | .rack => (rack : Int)
      | .rackEntry => rack
      | .adhesion => adh
      | .depot => adh) = if k = .rack ∨ k = .rackEntry then (rack : Int) else adh := by
    cases k <;> rfl
  have integer (a : Int) : ((if a < 10 then 0 else a.toNat : Nat) : Int) = if a < 10 then 0 else a := by
    split <;> omega
  unfold pieceDecel
  exact (congrArg _ (by rw [← base] <;> rfl)).trans (integer _)

/-- Of two distances ahead, the one at the lower position. -/
def Dir.lowEnd (d : Dir) (near far : Int) : Int :=
  match d with
  | .up => near
  | .down => far

/-- R50: a piece takes its segment's kind and gradient, and the least ceiling of those that cover it. -/
theorem State.piece_eq {near far : Int} (pos : 0 ≤ near) (lt : near < far)
    (below : d = .down → far ≤ f) :
    let q := s.piece p f d near far
    let lower := q.lower f d
    (q.near : Int) = near ∧ (q.near : Int) + q.length = far ∧
    q.decel = pieceDecel (s.par .aRack) (s.par .aAdh) q.kind q.gradient d ∧
    ∀ h, (p.segments.find? fun h => decide ((h.start : Int) ≤ lower ∧
        (lower < h.stop ∨ (h.final = true ∧ lower = h.stop)))) = some h →
      q.kind = h.kind ∧ q.gradient = h.gradient ∧
      q.ceiling = ((s.ssu.restrictions.filter fun r => r.applies.appliesTo d &&
          decide ((r.first : Int) ≤ lower ∧ lower + q.length ≤ r.last)).map Restriction.speed ++
        (if h.kind = .rackEntry then [s.par .vRentry] else [])).foldl min h.ceiling := by
  intro q lower
  have near_eq : (q.near : Int) = near := Int.toNat_of_nonneg pos
  have length_eq : (q.length : Int) = far - near := Int.toNat_of_nonneg (by omega)
  have low : (posAhead f d (d.lowEnd near far) : Int) = lower := by
    simp only [lower, Piece.lower, posAhead, Dir.lowEnd]
    cases d with
    | up => dsimp only; omega
    | down => have := below rfl; dsimp only; omega
  have high : (posAhead f d (d.lowEnd far near) : Int) = lower + q.length := by
    simp only [lower, Piece.lower, posAhead, Dir.lowEnd]
    cases d with
    | up => dsimp only; omega
    | down => have := below rfl; dsimp only; omega
  refine ⟨near_eq, by omega, rfl, fun h found => ?_⟩
  have at_lower : p.segmentAt (posAhead f d (d.lowEnd near far)) = some h := by
    rw [← found, Profile.segmentAt, Segment.holds_eq]
    congr 1
    funext g
    rw [← low]
    simp only [Nat.cast_le, Nat.cast_lt, Nat.cast_inj]
  have taken : p.pieceSegment (posAhead f d (d.lowEnd near far)) =
      (h.kind, h.gradient, h.ceiling) := by
    rw [Profile.pieceSegment, at_lower]
  have covers : (fun r : Restriction => r.applies.appliesTo d &&
        decide ((r.first : Int) ≤ lower ∧ lower + q.length ≤ r.last)) =
      fun r => r.applies.appliesTo d &&
        decide (r.first ≤ posAhead f d (d.lowEnd near far)) &&
        decide (posAhead f d (d.lowEnd far near) ≤ r.last) := by
    funext r
    rw [high.symm, ← low, Bool.and_assoc, ← Bool.decide_and]
    simp only [Nat.cast_le]
  rw [covers]
  refine ⟨congrArg Prod.fst taken, congrArg (fun x => x.2.1) taken, ?_⟩
  have made : q.ceiling = ((s.ssu.restrictions.filter fun r => r.applies.appliesTo d &&
        decide (r.first ≤ posAhead f d (d.lowEnd near far)) &&
        decide (posAhead f d (d.lowEnd far near) ≤ r.last)).map Restriction.speed ++
      (if (p.pieceSegment (posAhead f d (d.lowEnd near far))).1 = .rackEntry then [s.par .vRentry] else [])).foldl
        min (p.pieceSegment (posAhead f d (d.lowEnd near far))).2.2 := rfl
  rw [made, taken]

end

/-! ### The governing target -/

/-- R55: a target governs before another: its value is the less, or it is the nearer of two equal ones. -/
def Governs (pieces : List Piece) (buildUp : Nat) (x y : Target) : Prop :=
  targetValue pieces buildUp 0 x < targetValue pieces buildUp 0 y ∨
    (targetValue pieces buildUp 0 x = targetValue pieces buildUp 0 y ∧ x.1 ≤ y.1)

section
variable {pieces : List Piece} {buildUp : Nat} {a b c : Target}

theorem Governs.refl : Governs pieces buildUp a a := Or.inr ⟨rfl, le_rfl⟩

theorem Governs.trans (h : Governs pieces buildUp a b) (k : Governs pieces buildUp b c) :
    Governs pieces buildUp a c := by
  unfold Governs at *
  omega

theorem closerTarget_governs : (closerTarget pieces buildUp a b = a ∨ closerTarget pieces buildUp a b = b) ∧
    Governs pieces buildUp (closerTarget pieces buildUp a b) a ∧
    Governs pieces buildUp (closerTarget pieces buildUp a b) b := by
  unfold closerTarget
  dsimp only
  split
  · next h => exact ⟨Or.inr rfl, by unfold Governs; omega, Governs.refl⟩
  · next h => exact ⟨Or.inl rfl, Governs.refl, by unfold Governs; omega⟩

theorem foldl_closer (l : List Target) (a : Target) :
    l.foldl (closerTarget pieces buildUp) a ∈ a :: l ∧
      ∀ y ∈ a :: l, Governs pieces buildUp (l.foldl (closerTarget pieces buildUp) a) y := by
  induction l generalizing a with
  | nil => exact ⟨List.mem_singleton_self _, fun y hy => List.mem_singleton.1 hy ▸ Governs.refl⟩
  | cons b l ih =>
    obtain ⟨choice, before_a, before_b⟩ := closerTarget_governs (pieces := pieces) (buildUp := buildUp) (a := a) (b := b)
    obtain ⟨member, least⟩ := ih (closerTarget pieces buildUp a b)
    rw [List.foldl_cons]
    refine ⟨?_, fun y hy => ?_⟩
    · rcases List.mem_cons.1 member with e | e
      · rw [e]
        rcases choice with c | c <;> rw [c] <;> simp
      · exact List.mem_cons_of_mem _ (List.mem_cons_of_mem _ e)
    · have chosen := least _ List.mem_cons_self
      rcases List.mem_cons.1 hy with rfl | hy
      · exact chosen.trans before_a
      · rcases List.mem_cons.1 hy with rfl | hy
        · exact chosen.trans before_b
        · exact least y (List.mem_cons_of_mem _ hy)

/-- R55: the governing target is the nearest of the least, absent where each is above the MRSP. -/
theorem governingTarget_spec (pieces : List Piece) (buildUp mrsp : Nat) (ts : List Target) :
    (governingTarget pieces buildUp mrsp ts = none ↔ ∀ x ∈ ts, mrsp ^ 2 < targetValue pieces buildUp 0 x) ∧
    ∀ x, governingTarget pieces buildUp mrsp ts = some x →
      x ∈ ts ∧ ∀ y ∈ ts, Governs pieces buildUp x y := by
  cases ts with
  | nil => simp [governingTarget]
  | cons t r =>
    obtain ⟨member, least⟩ := foldl_closer (pieces := pieces) (buildUp := buildUp) r t
    unfold governingTarget
    dsimp only
    generalize r.foldl (closerTarget pieces buildUp) t = g at *
    split
    · next above =>
      refine ⟨⟨fun _ x hx => above.trans_le ?_, fun _ => rfl⟩, fun x hx => nomatch hx⟩
      rcases least x hx with lt | ⟨e, _⟩
      · exact lt.le
      · exact e.le
    · next low =>
      refine ⟨⟨fun h => (nomatch h), fun all => absurd (all g member) low⟩, fun x hx => ?_⟩
      obtain rfl := Option.some.inj hx
      exact ⟨member, least⟩

end

end Sys2Proof.Machine
end

section
/-! A supervision cycle with a line ahead (R47 to R55). -/

namespace Sys2Proof.Machine

/-! ### The MRSP and the targets -/

theorem appliesTo_eq (d : Dir) (a : Applies) : a.appliesTo d = match a, d with
    | .both, _ => true
    | .up, .up => true
    | .down, .down => true
    | _, _ => false := by
  cases a <;> cases d <;> rfl

/-- R48: the terms of a MRSP, by the restrictions that count. -/
def State.mrspTerms (s : State) (p : Profile) (counts : Restriction → Bool) : List Nat :=
  let top := s.odu.pHi + s.par .lCar
  let here := p.segments.filter fun g =>
    decide (g.start ≤ top ∧ (s.odu.pLo < g.stop ∨ (g.final = true ∧ s.odu.pLo = g.stop)))
  here.map Segment.ceiling ++
    (s.ssu.restrictions.filter fun r =>
      counts r && decide (r.first ≤ top ∧ s.odu.pLo ≤ r.last)).map Restriction.speed ++
    s.ssu.cap.toList ++ (if s.tgh.link = .ok then [] else [s.par .vRloss]) ++
    (if s.ssu.mode = .shunt then [s.par .vShunt] else []) ++
    (if here.any fun g => g.kind == .rackEntry then [s.par .vRentry] else [])

theorem State.mrspOnLine_eq (s : State) (p : Profile) (d : Option Dir) :
    s.mrspOnLine p d = (s.mrspTerms p fun r => r.counts d).foldl min 1500 := by
  have here : p.segmentsMeeting s.odu.pLo s.extentHi = p.segments.filter fun g =>
      decide (g.start ≤ s.odu.pHi + s.par .lCar ∧
        (s.odu.pLo < g.stop ∨ (g.final = true ∧ s.odu.pLo = g.stop))) := by
    unfold Profile.segmentsMeeting Segment.meets State.extentHi
    simp [Bool.decide_and, Bool.decide_or]
  have counted : (fun r : Restriction => r.meets s.odu.pLo s.extentHi && r.counts d) =
      fun r => r.counts d && decide (r.first ≤ s.odu.pHi + s.par .lCar ∧ s.odu.pLo ≤ r.last) := by
    funext r
    rw [Bool.and_comm, Bool.decide_and]
    rfl
  unfold State.mrspOnLine State.mrspTerms
  dsimp only
  rw [here, counted]

theorem State.Faces.mrsp {s z : State} (h : s.Faces z) (p : Profile) (d : Option Dir) :
    z.mrspOnLine p d = (s.mrspTerms p fun r => r.counts d).foldl min 1500 := by
  rw [State.mrspOnLine_eq]
  unfold State.mrspTerms
  rw [h.odu, h.tgh, h.mode, h.restrictions, h.cap]
  simp only [h.par]

theorem State.Faces.limit {s z : State} (h : s.Faces z) (d : Dir) : z.limitAhead d = s.limitAhead d := by
  unfold State.limitAhead
  rw [h.tgh, h.mode]

/-- R53: the targets of a window that has a horizon. -/
theorem State.targets_eq (s : State) {b : Built} {h : Int} (horizon : b.horizon = some h) (m f : Nat) (d : Dir) :
    s.targets b m f d = ((b.pieces.filter fun q => decide (q.ceiling < m)).map fun q => ((q.near : Int), q.ceiling)) ++
      (match s.limitAhead d, b.horizon with
        | some l, some h => if distAhead f d l ≤ h then [(distAhead f d l, 0)] else []
        | _, _ => []) ++ (b.horizon.map fun h => (h, 0)).toList := by
  unfold State.targets
  rw [horizon]
  cases s.limitAhead d <;> rfl

theorem State.build_horizon (s : State) (p : Profile) (f : Nat) (d : Dir) :
    ∃ h, (s.build p f d).horizon = some h := by
  by_cases h : 0 < s.horizonOf p f d
  · exact ⟨_, congrArg Built.horizon (s.build_long p f d h)⟩
  · exact ⟨_, congrArg Built.horizon (s.build_short p f d (not_lt.1 h))⟩

/-! ### A cycle with a line -/

/-- The conditions of a cycle with a line: SHUNT, or FULL with the prerequisites. -/
theorem exec_cycle_line {s : State} {p : Profile} (profile : s.lps.profile = some p)
    (located : s.odu.pos = .valid ∨ s.odu.pos = .restored)
    (mode : s.ssu.mode = .shunt ∨ (s.ssu.mode = .full ∧
      ∃ a, s.tgh.authority = some a ∧ (s.dka.selected = none ∨ s.dka.selected = some a.dir))) :
    ∃ t u z : State, exec .supervisionCycle s = .next t ∧ (s.advanceTo s.ssu.timer).Supervised u ∧ u.Ends t ∧
      s.Faces z ∧ ∃ q, u.Takes (z.computeFrom q (some p) (z.mrspOnLine p z.ssu.dir)) := by
  obtain ⟨t, u, z, out, sup, ended, faces, takes⟩ := exec_cycle (s := s) (by
    rcases mode with h | ⟨h, _⟩ <;> rw [h] <;> decide)
  have met : z.ssu.mode = .shunt ∨ (z.ssu.mode = .full ∧ z.prereqsNow.met = true) := by
    rw [faces.mode]
    refine mode.imp id fun ⟨full, a, authority, selected⟩ => ⟨full, z.prereqsNow_met_iff.2 ⟨?_, ?_, a, ?_, ?_⟩⟩
    · rw [faces.lps, profile]
      exact Option.some_ne_none p
    · rwa [faces.odu]
    · rwa [faces.tgh]
    · rwa [faces.dka]
  have made := State.compute_line (s := z) (p := p) (by rw [faces.lps, profile])
    (by rw [faces.odu]; exact s.odu.located_iff.2 located) met
  rw [made] at takes
  exact ⟨t, u, z, out, sup, ended, faces, _, takes⟩

theorem State.computeFrom_noDir {s : State} (h : s.ssu.dir = none) (q : Option Prereqs) (p : Profile) (m : Nat) :
    s.computeFrom q (some p) m = s.computeFrom q none m := by
  unfold State.computeFrom
  rw [h] <;> rfl

/-- R48: the conservative front in a direction. -/
def State.frontIn (s : State) (d : Dir) : Nat :=
  match d with
  | .up => s.odu.pHi + s.par .lCar
  | .down => s.odu.pLo

theorem State.Faces.front {s z : State} (h : s.Faces z) (d : Dir) : z.frontIn d = s.frontIn d := by
  unfold State.frontIn
  rw [h.odu, h.par]

theorem State.computeFrom_dir {s : State} {d : Dir} (h : s.ssu.dir = some d) (q : Option Prereqs) (p : Profile)
    (m : Nat) :
    let f := s.frontIn d
    let n := ceilDiv (s.odu.speed * s.par .tB) 100
    let b := s.build p f d
    s.computeFrom q (some p) m =
      { prereqs := q, front := some f, mrsp := m, buildUp := n, built := b
        curves := s.curvesOf b n m (s.targets b m f d)
        governing := governingTarget b.pieces n m (s.targets b m f d) } := by
  have front : s.frontFor s.ssu.dir = some (s.frontIn d) := by
    rw [h]
    rfl
  unfold State.computeFrom
  rw [front, h] <;> rfl

/-- R47, R48: a cycle with a line and without a direction. -/
theorem cycle_without_direction (s : State) (p : Profile) (profile : s.lps.profile = some p)
    (located : s.odu.pos = .valid ∨ s.odu.pos = .restored) (free : s.dka.selected = none)
    (stands : s.odu.motion = .standstill)
    (mode : s.ssu.mode = .shunt ∨ (s.ssu.mode = .full ∧ s.tgh.authority ≠ none)) :
    let m := (s.mrspTerms p fun _ => true).foldl min 1500
    let changed := s.ssu.dir ≠ none
    ∃ t u : State, exec .supervisionCycle s = .next t ∧ (s.advanceTo s.ssu.timer).Supervised u ∧ u.Ends t ∧
      u.ssu.dir = none ∧ u.ssu.front = none ∧ u.ssu.mrsp = some m ∧
      u.ssu.window = [] ∧ u.ssu.horizon = none ∧ u.ssu.truncated = false ∧ u.ssu.steep = false ∧
      u.ssu.governing = none ∧ u.ssu.authSide = none ∧ u.ssu.overrun = s.ssu.overrun ∧
      u.ssu.curves = some { perm := m ^ 2, sb := (m + s.par .mSb) ^ 2, eb := (m + s.par .mEb) ^ 2 } ∧
      u.ssu.steepMark = (s.ssu.steepMark && !decide changed) ∧
      u.ssu.flushCount = (if changed then (s.ssu.flushCount + 1) % 65536 else s.ssu.flushCount) := by
  intro m changed
  have authority : s.ssu.mode = .shunt ∨ (s.ssu.mode = .full ∧
      ∃ a, s.tgh.authority = some a ∧ (s.dka.selected = none ∨ s.dka.selected = some a.dir)) :=
    mode.imp id fun ⟨full, given⟩ => ⟨full, by
      obtain ⟨a, ha⟩ := Option.ne_none_iff_exists'.1 given
      exact ⟨a, ha, Or.inl free⟩⟩
  obtain ⟨t, u, z, out, sup, ended, faces, q, takes⟩ := exec_cycle_line profile located authority
  refine ⟨t, u, out, sup, ended, ?_⟩
  have zdir : z.ssu.dir = none := by rw [faces.dir, State.travelDir, free, stands]
  have mrsp : z.mrspOnLine p z.ssu.dir = m := by rw [zdir, faces.mrsp]; rfl
  rw [mrsp, State.computeFrom_noDir zdir] at takes
  have curves := takes.curves
  rw [show (z.computeFrom q none m).curves = { perm := m ^ 2, sb := (m + z.par .mSb) ^ 2, eb := (m + z.par .mEb) ^ 2 }
    from rfl, faces.par, faces.par] at curves
  have odu := State.advanceTo_odu s s.ssu.timer
  have ssu := State.advanceTo_ssu s s.ssu.timer
  have dka := State.advanceTo_dka s s.ssu.timer
  generalize s.advanceTo s.ssu.timer = x at *
  have dir : u.ssu.dir = none := by rw [sup.dir, dka, odu, free, stands]
  have noSide : u.ssu.authSide = none := sup.noSide fun _ a _ => by rw [dir]; exact (Option.some_ne_none _).symm
  have window : u.ssu.window = [] := takes.window
  have steep : u.ssu.steep = false := by rw [sup.steep, window]; rfl
  have same : (none = s.ssu.dir) ↔ ¬changed := by simp only [changed, ne_eq, not_not]; exact eq_comm
  refine ⟨dir, ?_, takes.mrsp, window, takes.horizon, takes.truncated, steep, takes.governing, noSide, ?_,
    curves, ?_, ?_⟩
  · rw [sup.front, dir]
  · rw [sup.overrun_of_noSide noSide, ssu]
  · rw [sup.steepMark, steep, dir, ssu, Bool.false_or, decide_eq_decide.2 same, decide_not]
  · rw [sup.flush, dir, ssu]
    simp only [same]
    exact ite_not ..

theorem State.horizonOf_down (s : State) (p : Profile) (f : Nat) : s.horizonOf p f .down ≤ f :=
  (min_le_right _ _).trans (Int.sub_le_self _ (Int.natCast_nonneg 0))

/-- Settles O18: without a direction, and with one by the window that is built from the front. -/
theorem cycleBuildsTheWindowAndTheTargets : Obligations.CycleBuildsTheWindowAndTheTargets := by
  refine ⟨fun s p profile located free stands mode => ?_, ?_⟩
  · exact cycle_without_direction s p profile located free stands mode
  intro s p d profile located facing mode top front ahead applies here terms mrsp buildUp limit far cut changed
  obtain ⟨t, u, z, out, sup, ended, faces, q, takes⟩ := exec_cycle_line profile located mode
  refine ⟨t, u, out, sup, ended, ?_⟩
  have direction : s.travelDir = some d := by
    rw [State.travelDir]
    rcases facing with h | ⟨h, moves⟩
    · rw [h]
    · rw [h, moves]
      cases d <;> rfl
  have applied : applies = fun r => r.applies.appliesTo d := by
    funext r
    exact (appliesTo_eq d r.applies).symm
  have zdir : z.ssu.dir = some d := faces.dir.trans direction
  have least : z.mrspOnLine p z.ssu.dir = mrsp := by
    rw [zdir, faces.mrsp]
    simp only [mrsp, terms, applied]
    rfl
  have horizon : z.horizonOf p (s.frontIn d) d = far := by
    unfold State.horizonOf
    rw [faces.par]
    rfl
  have limited : z.limitAhead d = limit := faces.limit d
  have buildUp_eq : ceilDiv (z.odu.speed * z.par .tB) 100 = buildUp := by
    rw [faces.odu, faces.par]
    rfl
  rw [least, State.computeFrom_dir zdir, faces.front, buildUp_eq] at takes
  have window := takes.window
  have horizon_eq := takes.horizon
  have truncated := takes.truncated
  have curves := takes.curves
  have governing := takes.governing
  have mrsp_eq := takes.mrsp
  dsimp only at window horizon_eq truncated curves governing mrsp_eq
  have ssu := State.advanceTo_ssu s s.ssu.timer
  have odu := State.advanceTo_odu s s.ssu.timer
  have dka := State.advanceTo_dka s s.ssu.timer
  have par := State.advanceTo_par s s.ssu.timer
  generalize s.advanceTo s.ssu.timer = x at *
  have dir : u.ssu.dir = some d := by
    rw [sup.dir, ← direction, State.travelDir_eq, dka, odu] <;> rfl
  have same : (some d = s.ssu.dir) ↔ ¬changed := by simp only [changed, ne_eq, not_not]; exact eq_comm
  have mark : u.ssu.steepMark = ((s.ssu.steepMark && !decide changed) || u.ssu.steep) := by
    rw [sup.steepMark, dir, ssu, decide_eq_decide.2 same, decide_not, Bool.or_comm]
  obtain ⟨h, given⟩ := z.build_horizon p (s.frontIn d) d
  have targets_eq := z.targets_eq given mrsp (s.frontIn d) d
  rw [limited, ← window, ← horizon_eq] at targets_eq
  have below {v : Int} (le : v ≤ z.horizonOf p (s.frontIn d) d) : d = .down → v ≤ s.frontIn d := by
    rintro rfl
    exact le.trans (z.horizonOf_down p _)
  refine ⟨dir, ?_, mrsp_eq, ?_, ?_, fun short => ?_, fun long => ?_, ?_, ⟨sup.steep, mark, ?_⟩, ?_⟩
  · rw [sup.front, dir, odu, par] <;> cases d <;> rfl
  · rw [sup.buildUp, odu, par]
  · rw [sup.flush, dir, ssu]
    simp only [same]
    exact ite_not ..
  · rw [window, horizon_eq, truncated, z.build_short p _ d (by rwa [horizon])]
    exact ⟨rfl, congrArg some horizon, rfl⟩
  · have long' : 0 < z.horizonOf p (s.frontIn d) d := by rwa [horizon]
    obtain ⟨length, ends, cuts⟩ := z.build_ends p (s.frontIn d) d long'
    refine ⟨z.boundsOf p (s.frontIn d) d, boundaries_pairwise long' _, fun y => ?_, ?_, ?_, ?_, fun k b hb => ?_⟩
    · have cut_iff (c : Nat) : c ∈ z.cutsAt p d ↔ cut c := by
        rw [State.mem_cutsAt, faces.restrictions, limited]
        simp only [cut, applied]
      rw [State.boundsOf, mem_boundaries, horizon, List.mem_map]
      simp only [cut_iff]
      exact or_congr_right (or_congr_right (and_congr_right fun _ => and_congr_right fun _ =>
        exists_congr fun c => and_congr_right fun _ => eq_comm))
    · rw [window, length]
    · rw [window, horizon_eq, ends]
    · rw [truncated, cuts]
    · rw [window] at hb
      obtain ⟨near, far', pos, lt, le, first, second, rfl⟩ := z.build_piece p _ d long' hb
      obtain ⟨near_eq, far_eq, _⟩ := z.piece_eq p (s.frontIn d) d pos lt (below le)
      rw [first, second, far_eq, near_eq]
      exact ⟨rfl, rfl⟩
  · intro b hb lower upper base g a covers
    rw [window] at hb
    have long' : 0 < z.horizonOf p (s.frontIn d) d := by
      by_contra short
      rw [z.build_short p _ d (not_lt.1 short)] at hb
      cases hb
    obtain ⟨k, hk⟩ := List.mem_iff_getElem?.1 hb
    obtain ⟨near, far', pos, lt, le, -, -, rfl⟩ := z.build_piece p _ d long' hk
    obtain ⟨-, -, decel, found⟩ := z.piece_eq p (s.frontIn d) d pos lt (below le)
    refine ⟨?_, fun i hi => ?_⟩
    · rw [decel, pieceDecel_eq, faces.par, faces.par] <;> rfl
    · have covered : covers = fun r => r.applies.appliesTo d &&
          decide ((r.first : Int) ≤ lower ∧ lower + (z.piece p (s.frontIn d) d near far').length ≤ r.last) := by
        simp only [covers, applied, upper]
      rw [covered, ← faces.restrictions, ← faces.par]
      exact found i hi
  · intro steep unmarked
    refine State.Has.of_tells sup.notice (Or.inr (Or.inr ⟨steep, ?_⟩))
    rw [dir, ssu, same]
    rintro ⟨marked, still⟩
    rw [marked, decide_eq_false still] at unmarked
    cases unmarked
  · intro targets inside allowance value curve
    have listed : targets = z.targets (z.build p (s.frontIn d) d) mrsp (s.frontIn d) d := targets_eq.symm
    have valued (m : Nat) : value m = targetValue (z.build p (s.frontIn d) d).pieces buildUp m := by
      rw [← window]
      rfl
    have curved (m : Nat) : curve m =
        curveValue (z.build p (s.frontIn d) d).pieces buildUp mrsp m targets := by
      simp only [curve, curveValue, valued]
    have spec := governingTarget_spec (z.build p (s.frontIn d) d).pieces buildUp mrsp targets
    rw [governing, valued, curved, curved, curved, listed]
    rw [listed] at spec
    refine ⟨?_, spec⟩
    rw [curves, State.curvesOf, faces.par, faces.par]

end Sys2Proof.Machine
end

section
/-! The freshness timer, activation and deactivation (R113 to R121). -/

namespace Sys2Proof.Machine

/-! ### A record that becomes stale -/

theorem exec_freshnessExpiry {s : State} {desk : Desk} {d : Nat} (h : (s.dka.cab desk).fresh = some d) :
    exec (.freshnessExpiry desk) s = .next ((s.advanceTo d).goStale desk).finish := by
  change execFreshnessExpiry desk s = _
  rw [execFreshnessExpiry, h]

theorem Dka.cab_setCab (k : Dka) (d : Desk) (c : CabRecord) : (k.setCab d c).cab d = c := by cases d <;> rfl

theorem State.goStale_eq (s : State) (desk : Desk) : s.goStale desk =
    let u : State := { s with dka := s.dka.setCab desk { s.dka.cab desk with fresh := none } }
    if s.dka.active = some desk then u.raise .cabStale else u := by
  unfold State.goStale State.raiseIf
  by_cases h : s.dka.active = some desk <;> simp [h]

/-- The demand and the CAB row at the end of an event that leaves the active desk's record stale. -/
theorem State.Ends.stale {u t : State} {desk : Desk} (h : u.Ends t) (active : u.dka.active = some desk)
    (stale : (u.dka.cab desk).fresh = none) : t.demand = 0 ∧
    t.brm.rows.cab = (if (u.dka.cab desk).handle = .emergency then
        { level := .emergency, reason := some .handleEmergency }
      else { level := .fullService, reason := some .cabStale }) := by
  have active' : t.dka.active = some desk := h.active.trans active
  have record : t.dka.cab desk = u.dka.cab desk := by rw [h.1.dka]; cases desk <;> rfl
  refine ⟨?_, ?_⟩
  · rw [State.demand, active']
    dsimp only
    rw [record, if_pos stale]
  · rw [h.rowsTrue.cab desk active', record]
    cases e : (u.dka.cab desk).handle with
    | emergency => rfl
    | percent p =>
      dsimp only
      rw [if_pos stale, if_neg (by nofun)]

/-- R67, R69, R70: from a state without a release, a departure or a demand, a level that an event changes brings
its target and its valves. -/
theorem State.finish_level {u : State} (sides : ∀ i, (u.drc.side i).granted = none)
    (departure : u.brm.departure = .idle) (demand : u.demand = 0) (changed : u.finish.brm.level ≠ u.brm.level) :
    u.finish.brm.target = u.pressureAt u.finish.brm.level ∧
      u.finish.brm.valves = u.brm.valvesAfter (u.choiceAt u.finish.brm.level) (u.now + u.par .tDead * 1000) := by
  rw [State.finish_once sides departure demand] at changed ⊢
  have reads := u.readersPass_reads.brakes.other
  generalize u.readersPass = r at *
  rw [State.refreshTraction_brm_level] at changed ⊢
  rw [State.refreshTraction_brm_target, Brm.valves, State.refreshTraction_brm_valve,
    State.refreshTraction_brm_lastOpen, State.refreshTraction_brm_waiting, State.refreshTraction_brm_deadTimer]
  obtain ⟨target, _, valves⟩ := reads changed
  exact ⟨target, valves⟩

theorem State.advanceTo_side (s : State) (d : Nat) (i : CarSide) : (s.advanceTo d).drc.side i = s.drc.side i := by
  cases i <;> simp [Drc.side]

theorem State.advanceTo_valves (s : State) (d : Nat) : (s.advanceTo d).brm.valves = s.brm.valves := by
  simp [Brm.valves]

/-- R113 to R115: the expiry of a record's freshness. -/
theorem freshnessExpiry_effect (s : State) (desk : Desk) (d : Nat) (h : (s.dka.cab desk).fresh = some d) :
    let x := s.advanceTo d
    let u : State := { x with dka := s.dka.setCab desk { s.dka.cab desk with fresh := none } }
    ∃ t : State, exec (.freshnessExpiry desk) s = .next t ∧
      State.Ends (if s.dka.active = some desk then u.raise .cabStale else u) t ∧
      (s.dka.active = some desk →
        t.demand = 0 ∧
        t.brm.rows.cab =
          (if (s.dka.cab desk).handle = .emergency then
            { level := .emergency, reason := some .handleEmergency }
          else { level := .fullService, reason := some .cabStale }) ∧
        (s.Quiet → t.brm.level ≠ s.brm.level → t.brm.target = x.pressureAt t.brm.level ∧
          t.brm.valves =
            x.brm.valvesAfter (x.choiceAt t.brm.level) (x.now + s.par .tDead * 1000))) := by
  intro x u
  obtain ⟨t, out, ends, finished⟩ := exec_ends_finish (exec_freshnessExpiry h)
  have dka : x.dka = s.dka := State.advanceTo_dka s d
  have sides : ∀ i, x.drc.side i = s.drc.side i := s.advanceTo_side d
  have departure : x.brm.departure = s.brm.departure := by simp [x]
  have level : x.brm.level = s.brm.level := by simp [x]
  have par : ∀ p, x.par p = s.par p := s.advanceTo_par d
  rw [State.goStale_eq] at ends finished
  change State.Ends (let u : State := { x with dka := x.dka.setCab desk { x.dka.cab desk with fresh := none } }
    if x.dka.active = some desk then u.raise .cabStale else u) t at ends
  change t = State.finish (let u : State := { x with dka := x.dka.setCab desk { x.dka.cab desk with fresh := none } }
    if x.dka.active = some desk then u.raise .cabStale else u) at finished
  rw [dka] at ends finished
  refine ⟨t, out, ends, fun active => ?_⟩
  dsimp only at ends finished
  rw [if_pos active] at ends finished
  change State.Ends (u.raise .cabStale) t at ends
  change t = State.finish (u.raise .cabStale) at finished
  have record : (u.raise .cabStale).dka.cab desk = { s.dka.cab desk with fresh := none } := Dka.cab_setCab ..
  have active' : (u.raise .cabStale).dka.active = some desk := (Dka.setCab_active ..).trans active
  obtain ⟨demand, cab⟩ := ends.stale active' (by rw [record])
  rw [record] at cab
  refine ⟨demand, cab, fun quiet changed => ?_⟩
  have asked : (u.raise .cabStale).demand = 0 := by
    rw [State.demand, active']
    dsimp only
    rw [record, if_pos rfl]
  have first := State.finish_level (u := u.raise .cabStale) (fun i => (congrArg SideRelease.granted (sides i)).trans (quiet.sides i))
    (departure.trans quiet.departure) asked
  rw [← finished] at first
  rw [← par]
  exact first (by change _ ≠ x.brm.level; rwa [level])

/-! ### ACTIVATE -/

theorem State.raise_comm (a b : Notice) (s : State) : (s.raise a).raise b = (s.raise b).raise a := by
  have swap (q : PortState) : (q.raise a).raise b = (q.raise b).raise a := by
    simp only [PortState.raise, BitVec.or_assoc, BitVec.or_comm a.bit b.bit]
  simp only [State.raise, swap]

theorem exec_activate (p : Port) (s : State) : exec (.activate p) s = .next (s.serve .activate p 0 0) := rfl

theorem State.activateDesk_eq (s : State) (desk : Desk) : s.activateDesk desk =
    let u : State := { s with
      dka := { s.dka with active := some desk, switch := some .neutral, selected := none,
                          running := none, lock := false }
      ssu := { s.ssu with mode := .shunt, prereqs := none, window := [], horizon := none,
                          steepMark := false, flushCount := (s.ssu.flushCount + 1) % 65536 } }
    if (s.dka.cab desk).fresh = none then (u.raise .supervision).raise .cabStale else u.raise .supervision := by
  have stale : (!(s.dka.cab desk).isFresh) = true ↔ (s.dka.cab desk).fresh = none := by
    unfold CabRecord.isFresh
    cases (s.dka.cab desk).fresh <;> simp
  unfold State.activateDesk
  rw [State.setMode_eq (by decide), State.raiseIf]
  by_cases h : (s.dka.cab desk).fresh = none
  · simp only [if_pos (stale.2 h), if_pos h]
    exact State.raise_comm .cabStale .supervision { s with
      dka := { s.dka with active := some desk, switch := some .neutral, selected := none,
                          running := none, lock := false }
      ssu := { s.ssu with mode := .shunt, prereqs := none, window := [], horizon := none,
                          steepMark := false, flushCount := (s.ssu.flushCount + 1) % 65536 } }
  · simp only [if_neg (mt stale.1 h), if_neg h]

/-- R116, R117: the answers of ACTIVATE. -/
theorem activate_answers (s : State) (p : Port) :
    (p = .c → exec (.activate p) s = .next (s.writeResult p 1 .notPermitted none)) ∧
    (p ≠ .c → s.pst.frozen = false →
      exec (.activate p) s = .next (s.writeResult p 1 .notReady none)) ∧
    (p ≠ .c → s.pst.frozen = true → s.dka.active ≠ none →
      exec (.activate p) s = .next (s.writeResult p 1 .busy none)) ∧
    (p ≠ .c → s.pst.frozen = true → s.dka.active = none → s.odu.motion ≠ .standstill →
      exec (.activate p) s = .next (s.writeResult p 1 .moving none)) ∧
    (∀ desk, portDesk p = some desk → s.pst.frozen = true → s.dka.active = none →
      s.odu.motion = .standstill →
        let u : State := { s.place p .activate 0#16 0#16 with
          dka := { s.dka with active := some desk, switch := some .neutral, selected := none,
                              running := none, lock := false }
          ssu := { s.ssu with mode := .shunt, prereqs := none, window := [], horizon := none,
                              steepMark := false, flushCount := (s.ssu.flushCount + 1) % 65536 } }
        ∃ t, exec (.activate p) s = .next t ∧
          State.Answered
            (if (s.dka.cab desk).fresh = none then (u.raise .supervision).raise .cabStale
              else u.raise .supervision) t p 1 .accepted) := by
  have named (desk : p ≠ .c) : ∃ d, portDesk p = some d := by
    cases p with
    | u => exact ⟨_, rfl⟩
    | l => exact ⟨_, rfl⟩
    | c => exact absurd rfl desk
  have permits (desk : p ≠ .c) : ReqKind.activate.permits p = true := ReqKind.permits_desk rfl desk
  generalize hx : s.place p .activate 0 0 = x
  have owner {d : Desk} (h : portDesk p = some d) :
      (s.place p .activate 0 0).answer .activate p 0 0 = (x.requestActivate d).finished := by
    rw [← hx]
    change (State.forDesk p _ _).finished = _
    rw [State.forDesk, h]
  have pst : x.pst = s.pst := by rw [← hx]; exact State.setPort_pst s p _
  have dka : x.dka = s.dka := by rw [← hx]; exact State.place_dka ..
  have odu : x.odu = s.odu := by rw [← hx]; exact State.place_odu ..
  have ssu : x.ssu = s.ssu := by rw [← hx]; exact State.place_ssu ..
  have still : x.still = true ↔ s.odu.motion = .standstill := by rw [State.still_iff, odu]
  have refused {r : ResultCode} (desk : p ≠ .c) (code : r ≠ .accepted)
      (h : ∀ d, x.requestActivate d = x.refuse r) :
      exec (.activate p) s = .next (s.writeResult p 1 r none) := by
    obtain ⟨d, hd⟩ := named desk
    rw [exec_activate, State.serve_refused_finished (permits desk) code (owner hd) (by rw [h, hx])]
    rfl
  refine ⟨?_, fun desk config => ?_, fun desk frozen busy => ?_, fun desk frozen free moving => ?_,
    fun desk named frozen free stands => ?_⟩
  · rintro rfl
    rw [exec_activate, State.serve_not_permitted _ _ (ReqKind.permits_of_fromDesk rfl .c)]
    rfl
  · exact refused desk (by decide) fun d => by simp [State.requestActivate, pst, config]
  · have some_active : s.dka.active.isSome = true := Option.isSome_iff_ne_none.2 busy
    exact refused desk (by decide) fun d => by simp [State.requestActivate, pst, dka, frozen, some_active]
  · have unstill : x.still = false := Bool.eq_false_iff.2 (mt still.1 moving)
    exact refused desk (by decide) fun d => by simp [State.requestActivate, pst, dka, frozen, free, unstill]
  · have accepted : x.requestActivate desk = (x.activateDesk desk).accept := by
      simp [State.requestActivate, pst, dka, frozen, free, still.2 stands]
    rw [State.activateDesk_eq, dka, ssu] at accepted
    have port : p ≠ .c := by rintro rfl; cases named
    have answered := State.serve_accepted_finished (permits port) (owner named) accepted
    subst hx
    exact ⟨_, exec_activate p s, answered⟩

/-- Settles O36, by the timer and the request. -/
theorem freshnessAndActivation : Obligations.FreshnessAndActivation := by
  refine ⟨fun s desk => ⟨fun h => ?_, fun d h => freshnessExpiry_effect s desk d h⟩, activate_answers⟩
  change execFreshnessExpiry desk s = _
  rw [execFreshnessExpiry, h]

end Sys2Proof.Machine
end

section
/-! Deactivation by each of its means (R118 to R121). -/

namespace Sys2Proof.Machine

/-! ### What a deactivation makes of the state -/

/-- R107, R120: a side that a deactivation closes. -/
theorem State.withdrawIfGranted_desk (s x : State) (pst : x.pst = s.pst) (i : CarSide) :
    x.withdrawIfGranted i .desk =
      let shuts (d : Door) : Door :=
        let off := d.motor.off (s.par .tPwm) x.now
        let warns : Door :=
          { d with state := .warning, timer := some (.tWarn, x.now + s.par .tWarn * 1000), motor := off }
        match d.state with
        | .released => { d with state := .locked, timer := none, motor := off }
        | .opening => warns
        | .opened => warns
        | .reversing _ => warns
        | _ => d
      if (x.drc.side i).granted = none then x
      else State.raise .door (State.moveSide i shuts
        { x with drc := x.drc.setSide i { x.drc.side i with granted := none, cause := some .desk } }) := by
  have par : ∀ p, s.par p = x.par p := fun p => (State.par_congr pst p).symm
  rw [State.withdrawIfGranted_eq]
  simp only [par]
  rfl

/-- R120: a deactivation. -/
theorem State.deactivateDesk_eq (x : State) : x.deactivateDesk =
    let y := State.withdrawIfGranted .b .desk (State.withdrawIfGranted .a .desk { x with dka :=
      { x.dka with active := none, switch := none, selected := none, orphan := none } })
    State.raise .supervision { y with ssu := { y.ssu with
      mode := .none, prereqs := none, warning := false, window := [], horizon := none,
      steepMark := false, flushCount := (y.ssu.flushCount + 1) % 65536 } } := by
  unfold State.deactivateDesk State.setMode
  simp only [ne_eq, not_true_eq_false, decide_false, Bool.and_false]
  rfl

theorem State.deactivateDesk_dka (x : State) : x.deactivateDesk.dka =
    { x.dka with active := none, switch := none, selected := none, orphan := none } := by
  rw [State.deactivateDesk_eq]
  simp

theorem State.deactivateDesk_mode (x : State) : x.deactivateDesk.ssu.mode = .none := by
  rw [State.deactivateDesk_eq]
  rfl

theorem State.deactivateDesk_granted (x : State) (i : CarSide) : (x.deactivateDesk.drc.side i).granted = none := by
  have ungranted {y : State} : (y.drc.side i).granted = none ↔ y.isGranted i = false := by
    rw [← not_iff_not, ← ne_eq, Bool.not_eq_false, State.isGranted_iff]
  rw [State.deactivateDesk_eq]
  refine ungranted.2 (Bool.eq_false_iff.2 fun h => ?_)
  change State.isGranted (State.withdrawIfGranted .b .desk _) i = true at h
  cases i with
  | a =>
    have left := State.withdrawIfGranted_other _ _ _ _ h
    rw [State.withdrawIfGranted_granted] at left
    cases left
  | b =>
    rw [State.withdrawIfGranted_granted] at h
    cases h

/-- R81, R120: a state without a desk, at the end of the event. -/
structure State.Undriven (t : State) : Prop where
  active : t.dka.active = none
  selected : t.dka.selected = none
  mode : t.ssu.mode = .none
  sides : ∀ i, (t.drc.side i).granted = none
  hold : t.brm.rows.hold = { level := .fullService, reason := some .noDesk }
  pinion : t.brm.pinion = .applied

theorem State.Ends.undriven {u t : State} (h : u.Ends t) (active : u.dka.active = none)
    (selected : u.dka.selected = none) (mode : u.ssu.mode = .none)
    (sides : ∀ i, (u.drc.side i).granted = none) : t.Undriven where
  active := h.active.trans active
  selected := by rw [h.1.dka]; exact selected
  mode := by rw [h.1.ssu, u.takePending_mode.1, mode]
  sides i := by
    rcases h.1.sides i with ⟨e, _⟩ | ⟨_, c, _, e, _⟩
    · rw [e, sides i]
    · rw [e]
  hold := by rw [h.rowsTrue.hold, if_pos (h.active.trans active)]
  pinion := by
    rw [h.2.1.pinion, State.pinionCommand, if_pos]
    exact Or.inr (Or.inr (Or.inr (h.active.trans active)))

theorem State.writeResult_undriven {t : State} (h : t.Undriven) (p : Port) (code : Word) (r : ResultCode)
    (detail : Option Word) : (t.writeResult p code r detail).Undriven := by
  cases p <;> exact ⟨h.active, h.selected, h.mode, h.sides, h.hold, h.pinion⟩

/-- R120: an event that leaves a deactivation ends without a desk. -/
theorem State.Ends.deactivated {x t : State} (h : x.deactivateDesk.Ends t) : t.Undriven :=
  h.undriven (by rw [State.deactivateDesk_dka]) (by rw [State.deactivateDesk_dka]) x.deactivateDesk_mode
    x.deactivateDesk_granted

theorem State.Answered.deactivated {x t : State} {p : Port} {code : Word} {r : ResultCode}
    (h : x.deactivateDesk.Answered t p code r) : t.Undriven := by
  obtain ⟨u, ends, rfl⟩ := h
  exact State.writeResult_undriven ends.deactivated p code r none

/-! ### The requests -/

theorem exec_deactivate (p : Port) (s : State) : exec (.deactivate p) s = .next (s.serve .deactivate p 0 0) := rfl

theorem exec_forceDeactivate (p : Port) (s : State) :
    exec (.forceDeactivate p) s = .next (s.serve .forceDeactivate p 0 0) := rfl

theorem exec_orphanExpiry {s : State} {d : Nat} (h : s.dka.orphan = some d) :
    exec .orphanExpiry s = .next (s.advanceTo d).orphaned.finish := by
  change execOrphanExpiry s = _
  rw [execOrphanExpiry, h]

section
variable {x : State} {p : Port}

theorem State.requestDeactivate_of_not_active (h : x.isActivePort p = false) :
    x.requestDeactivate p = x.refuse .notActiveDesk := by
  simp [State.requestDeactivate, h]

theorem State.requestDeactivate_of_moving (active : x.isActivePort p = true) (moving : x.still = false) :
    x.requestDeactivate p = x.refuse .moving := by
  simp [State.requestDeactivate, active, moving]

theorem State.requestDeactivate_of_still (active : x.isActivePort p = true) (still : x.still = true) :
    x.requestDeactivate p = x.deactivateDesk.accept := by
  simp [State.requestDeactivate, active, still]

theorem State.requestForce_of_free (h : x.dka.active = none) : x.requestForce = x.refuse .conditions := by
  simp [State.requestForce, h]

theorem State.requestForce_of_moving (driven : x.dka.active ≠ none) (moving : x.still = false) :
    x.requestForce = x.refuse .moving := by
  simp [State.requestForce, driven, moving]

theorem State.requestForce_of_still (driven : x.dka.active ≠ none) (still : x.still = true) :
    x.requestForce = x.deactivateDesk.accept := by
  simp [State.requestForce, driven, still]

end

/-- R118: the answers of DEACTIVATE. -/
theorem deactivate_answers (s : State) (p : Port) :
    (p = .c → exec (.deactivate p) s = .next (s.writeResult p 2 .notPermitted none)) ∧
    (p ≠ .c → s.dka.active ≠ portDesk p →
      exec (.deactivate p) s = .next (s.writeResult p 2 .notActiveDesk none)) ∧
    (p ≠ .c → s.dka.active = portDesk p → s.odu.motion ≠ .standstill →
      exec (.deactivate p) s = .next (s.writeResult p 2 .moving none)) ∧
    (p ≠ .c → s.dka.active = portDesk p → s.odu.motion = .standstill →
      ∃ t, exec (.deactivate p) s = .next t ∧
        State.Answered (s.place p .deactivate 0#16 0#16).deactivateDesk t p 2 .accepted ∧ t.Undriven) := by
  have owner : (s.place p .deactivate 0 0).answer .deactivate p 0 0 =
      ((s.place p .deactivate 0 0).requestDeactivate p).finished := rfl
  have active (desk : p ≠ .c) (a : s.dka.active = portDesk p) :
      (s.place p .deactivate 0 0).isActivePort p = true :=
    State.isActivePort_of_active desk (by rwa [State.place_dka])
  have odu : (s.place p .deactivate 0 0).odu = s.odu := State.place_odu ..
  refine ⟨?_, fun desk other => ?_, fun desk a moving => ?_, fun desk a stands => ?_⟩
  · rintro rfl
    rw [exec_deactivate, State.serve_not_permitted _ _ (ReqKind.permits_of_fromDesk rfl .c)]
    rfl
  · have inactive : (s.place p .deactivate 0 0).isActivePort p = false :=
      State.not_isActivePort_of_active_ne (by rwa [State.place_dka])
    rw [exec_deactivate, State.serve_refused_finished (r := .notActiveDesk) (ReqKind.permits_desk rfl desk)
      (by decide) owner (State.requestDeactivate_of_not_active inactive)]
    rfl
  · have unstill : (s.place p .deactivate 0 0).still = false :=
      Bool.eq_false_iff.2 fun h => moving (by rw [← odu]; exact (State.still_iff _).1 h)
    rw [exec_deactivate, State.serve_refused_finished (r := .moving) (ReqKind.permits_desk rfl desk)
      (by decide) owner (State.requestDeactivate_of_moving (active desk a) unstill)]
    rfl
  · have still : (s.place p .deactivate 0 0).still = true := (State.still_iff _).2 (by rw [odu, stands])
    have answered := State.serve_accepted_finished (ReqKind.permits_desk rfl desk) owner
      (u := (s.place p .deactivate 0 0).deactivateDesk)
      (State.requestDeactivate_of_still (active desk a) still)
    exact ⟨_, exec_deactivate p s, answered, answered.deactivated⟩

/-- R119: the answers of FORCE_DEACTIVATE. -/
theorem forceDeactivate_answers (s : State) (p : Port) :
    (p ≠ .c → exec (.forceDeactivate p) s = .next (s.writeResult p 3 .notPermitted none)) ∧
    (p = .c → s.dka.active = none →
      exec (.forceDeactivate p) s = .next (s.writeResult p 3 .conditions none)) ∧
    (p = .c → s.dka.active ≠ none → s.odu.motion ≠ .standstill →
      exec (.forceDeactivate p) s = .next (s.writeResult p 3 .moving none)) ∧
    (p = .c → s.dka.active ≠ none → s.odu.motion = .standstill →
      ∃ t, exec (.forceDeactivate p) s = .next t ∧
        State.Answered (s.place p .forceDeactivate 0#16 0#16).deactivateDesk t p 3 .accepted ∧ t.Undriven) := by
  have owner : (s.place .c .forceDeactivate 0 0).answer .forceDeactivate .c 0 0 =
      ((s.place .c .forceDeactivate 0 0).requestForce).finished := rfl
  have permits := ReqKind.permits_c (k := .forceDeactivate) rfl
  have odu : (s.place .c .forceDeactivate 0 0).odu = s.odu := State.place_odu ..
  have dka : (s.place .c .forceDeactivate 0 0).dka = s.dka := State.place_dka ..
  refine ⟨fun other => ?_, ?_, ?_, ?_⟩
  · rw [exec_forceDeactivate, State.serve_other_port rfl other]
    rfl
  · rintro rfl free
    rw [exec_forceDeactivate, State.serve_refused_finished (r := .conditions) permits (by decide) owner
      (State.requestForce_of_free (by rwa [dka]))]
    rfl
  · rintro rfl a moving
    have unstill : (s.place .c .forceDeactivate 0 0).still = false :=
      Bool.eq_false_iff.2 fun h => moving (by rw [← odu]; exact (State.still_iff _).1 h)
    rw [exec_forceDeactivate, State.serve_refused_finished (r := .moving) permits (by decide) owner
      (State.requestForce_of_moving (by rwa [dka]) unstill)]
    rfl
  · rintro rfl a stands
    have still : (s.place .c .forceDeactivate 0 0).still = true := (State.still_iff _).2 (by rw [odu, stands])
    have answered := State.serve_accepted_finished permits owner
      (u := (s.place .c .forceDeactivate 0 0).deactivateDesk) (State.requestForce_of_still (by rwa [dka]) still)
    exact ⟨_, exec_forceDeactivate .c s, answered, answered.deactivated⟩

/-- Settles O37: the three means, each with the one deactivation. -/
theorem deactivationByEachOfItsMeans : Obligations.DeactivationByEachOfItsMeans := by
  intro s p close off noDesk still
  have closed (i : CarSide) (x : State) (pst : x.pst = s.pst) : close i x = x.withdrawIfGranted i .desk :=
    (State.withdrawIfGranted_desk s x pst i).symm
  have offed (x : State) (pst : x.pst = s.pst) : off x = x.deactivateDesk := by
    have first := closed .a { x with dka :=
      { x.dka with active := none, switch := none, selected := none, orphan := none } } pst
    have second := closed .b _ (show (close .a { x with dka :=
      { x.dka with active := none, switch := none, selected := none, orphan := none } }).pst = s.pst by
        rw [first, State.withdrawIfGranted_pst]
        exact pst)
    rw [State.deactivateDesk_eq]
    simp only [off, first] at second ⊢
    rw [second]
  have undriven {t : State} (h : t.Undriven) : noDesk t :=
    ⟨h.active, h.selected, h.mode, h.sides, h.hold, h.pinion⟩
  obtain ⟨listed, active, moving, accepted⟩ := deactivate_answers s p
  obtain ⟨listed', conditions, moving', accepted'⟩ := forceDeactivate_answers s p
  refine ⟨listed, active, moving, fun desk a stands => ?_, listed', conditions, moving', fun port a stands => ?_,
    fun h => ?_, fun d h => ?_⟩
  · obtain ⟨t, out, answered, ended⟩ := accepted desk a stands
    rw [offed (State.place ..) (State.setPort_pst s p _)]
    exact ⟨t, out, answered, undriven ended⟩
  · obtain ⟨t, out, answered, ended⟩ := accepted' port a stands
    rw [offed (State.place ..) (State.setPort_pst s p _)]
    exact ⟨t, out, answered, undriven ended⟩
  · change execOrphanExpiry s = _
    rw [execOrphanExpiry, h]
  · obtain ⟨t, out, ends⟩ := exec_ends (exec_orphanExpiry h)
    have raised : t.Has .cabStale := ends.has (State.raise_has _ _)
    rw [offed _ (State.advanceTo_pst s d)]
    refine ⟨t, out, ends, undriven ?_, raised⟩
    exact ends.undriven (by rw [State.orphaned, State.raise_dka, State.deactivateDesk_dka])
      (by rw [State.orphaned, State.raise_dka, State.deactivateDesk_dka])
      (State.deactivateDesk_mode _) (State.deactivateDesk_granted _)

end Sys2Proof.Machine
end

section
/-! The door inputs and the door timers (R89 to R100). -/

namespace Sys2Proof.Machine

section
variable (s : State) (i : DoorId) (d : Door)

/-- R100: a door whose input has just changed enters FAULT. -/
theorem State.doorFault_setDoor (r : DoorFault) : (s.setDoor i d).doorFault i r = State.raise .door
    (s.setDoor i { d with state := .fault r, timer := none, motor := d.motor.off (s.par .tPwm) s.now }) := by
  unfold State.doorFault
  rw [State.setDoor_door, State.setDoor_setDoor]
  rfl

/-- R97, R98: a door whose input has just changed locks. -/
theorem State.doorLocks_setDoor : (s.setDoor i d).doorLocks i d = { d with
    state := if (s.drc.side (doorSide i)).granted ≠ none then .released else .locked
    timer := none, motor := d.motor.off (s.par .tPwm) s.now, reversals := 0 } := by
  unfold State.doorLocks
  rw [State.setDoor_isGranted]
  simp only [State.isGranted_iff]
  rfl

/-- R95: a door whose input has just changed opens. -/
theorem State.doorOpen_setDoor : (s.setDoor i d).doorOpen i d = { d with
    state := .opened, motor := d.motor.off (s.par .tPwm) s.now
    timer := if (s.drc.side (doorSide i)).granted ≠ none ∧ s.par .tDwell ≠ 0 then
      some (.dwell, s.now + s.par .tDwell * 1000) else none } := by
  unfold State.doorOpen State.dwellTimer
  rw [State.setDoor_isGranted]
  simp only [State.isGranted_iff]
  rfl

theorem State.countedReversal_setDoor : (s.setDoor i d).countedReversal i =
    if d.reversals < 3 then s.setDoor i { d with
      state := .reversing .stop, timer := some (.stopInterval, s.now + 100000)
      motor := d.motor.off (s.par .tPwm) s.now, reversals := d.reversals + 1 }
    else State.raise .door (s.setDoor i { d with
      state := .fault .reversalLimit, timer := none, motor := d.motor.off (s.par .tPwm) s.now }) := by
  unfold State.countedReversal
  rw [State.setDoor_door, State.setDoor_setDoor, State.doorFault_setDoor]
  rfl

/-! ### The inputs -/

theorem State.lkSet_eq :
    let d := s.door i
    let off := d.motor.off (s.par .tPwm) s.now
    s.lkSet i =
      if d.state.tested && d.op then State.raise .door
        (s.setDoor i { d with lk := true, state := .fault .switchConflict, timer := none, motor := off })
      else if d.state = .closing ∨ d.state = .reversing .stop then s.setDoor i { d with
        lk := true, state := if (s.drc.side (doorSide i)).granted ≠ none then .released else .locked
        timer := none, motor := off, reversals := 0 }
      else s.setDoor i { d with lk := true } := by
  unfold State.lkSet
  dsimp only
  rw [State.doorFault_setDoor, State.doorLocks_setDoor, State.setDoor_setDoor]
  generalize s.door i = d
  congr 1
  cases d.state with
  | reversing ph => cases ph <;> simp
  | _ => simp

theorem State.lkCleared_eq :
    let d := s.door i
    s.lkCleared i =
      if d.state = .locked ∨ d.state = .released then State.raise .door (s.setDoor i { d with
        lk := false, state := .fault .lockLost, timer := none, motor := d.motor.off (s.par .tPwm) s.now })
      else s.setDoor i { d with lk := false } := by
  unfold State.lkCleared
  dsimp only
  rw [State.doorFault_setDoor]
  generalize s.door i = d
  cases d.state <;> simp

theorem State.opSet_eq :
    let d := s.door i
    let off := d.motor.off (s.par .tPwm) s.now
    s.opSet i =
      if d.state.tested && d.lk then State.raise .door
        (s.setDoor i { d with op := true, state := .fault .switchConflict, timer := none, motor := off })
      else if d.state = .opening then s.setDoor i { d with
        op := true, state := .opened, motor := off
        timer := if (s.drc.side (doorSide i)).granted ≠ none ∧ s.par .tDwell ≠ 0 then
          some (.dwell, s.now + s.par .tDwell * 1000) else none }
      else if d.state = .reversing .stop ∨ d.state = .reversing .drive then s.setDoor i { d with
        op := true, state := .warning, motor := off, timer := some (.tWarn, s.now + s.par .tWarn * 1000) }
      else s.setDoor i { d with op := true } := by
  unfold State.opSet
  dsimp only
  rw [State.doorFault_setDoor, State.doorOpen_setDoor, State.setDoor_setDoor, State.setDoor_setDoor]
  generalize s.door i = d
  congr 1
  cases d.state with
  | reversing ph => cases ph <;> simp [State.doorWarning, State.doorAtRest, State.doorTimer] <;> rfl
  | _ => simp

theorem State.edLevel_eq (active : Bool) :
    let d := s.door i
    s.edLevel i active =
      if active = true ∧ d.state = .closing then
        (s.setDoor i { d with ed := active }).countedReversal i
      else s.setDoor i { d with ed := active } := by
  intro d
  unfold State.edLevel
  simp only [Bool.and_eq_true, beq_iff_eq]
  rfl

theorem State.pressed_setDoor : (s.setDoor i d).pressed i = s.setDoor i (match d.state with
    | .released => { d with
        state := .opening, timer := some (.tOpen, s.now + s.par .tOpen * 1000)
        motor := { d.motor with latched := s.par .dOpen, latchedDir := .opens } }
    | .opened =>
      if d.timer = none then d else { d with timer := some (.dwell, s.now + s.par .tDwell * 1000) }
    | .warning =>
      if (s.drc.side (doorSide i)).granted ≠ none then { d with
        state := .opened, motor := d.motor.off (s.par .tPwm) s.now
        timer := if s.par .tDwell = 0 then none else some (.dwell, s.now + s.par .tDwell * 1000) }
      else d
    | .closing =>
      if (s.drc.side (doorSide i)).granted ≠ none then { d with
        state := .reversing .stop, motor := d.motor.off (s.par .tPwm) s.now
        timer := some (.stopInterval, s.now + 100000) }
      else d
    | _ => d) := by
  unfold State.pressed
  dsimp only
  simp only [State.setDoor_door, State.doorOpen_setDoor, State.setDoor_setDoor, State.setDoor_isGranted,
    State.isGranted_iff]
  cases d.state with
  | opened => cases d.timer <;> simp <;> rfl
  | warning =>
    by_cases g : (s.drc.side (doorSide i)).granted = none
    · simp [g]
    · simp [g]
  | closing =>
    by_cases g : (s.drc.side (doorSide i)).granted = none
    · simp [g]
    · simp [g]
      rfl
  | _ => rfl

end

/-- Settles O30, input by input. -/
theorem doorInputsMoveTheDoor : Obligations.DoorInputsMoveTheDoor := by
  refine ⟨fun s i => ?_, fun s i => ?_⟩
  · intro d granted off tested fault locks opens warns
    have test : tested = d.state.tested := by
      simp only [tested]
      cases d.state <;> rfl
    refine ⟨?_, ?_, ?_, exec_ends rfl⟩
    · obtain ⟨t, out, ends⟩ := exec_ends (c := .lkSet i) (s := s) rfl
      rw [State.lkSet_eq, ← test] at ends
      exact ⟨t, out, ends⟩
    · obtain ⟨t, out, ends⟩ := exec_ends (c := .lkCleared i) (s := s) rfl
      rw [State.lkCleared_eq] at ends
      exact ⟨t, out, ends⟩
    · obtain ⟨t, out, ends⟩ := exec_ends (c := .opSet i) (s := s) rfl
      rw [State.opSet_eq, ← test] at ends
      exact ⟨t, out, ends⟩
  · intro d granted off reverses pressed dwell
    refine ⟨exec_ends rfl, ?_, exec_ends rfl, ?_⟩
    · obtain ⟨t, out, ends⟩ := exec_ends (c := .edActive i true) (s := s) rfl
      refine ⟨t, out, ?_⟩
      rw [State.edLevel_eq, State.countedReversal_setDoor] at ends
      by_cases closing : d.state = .closing
      · rw [if_pos ⟨rfl, closing⟩] at ends
        rw [if_neg (not_not.2 closing)]
        exact ends
      · rw [if_neg fun h => closing h.2] at ends
        rw [if_pos closing]
        exact ends
    · obtain ⟨t, out, ends⟩ := exec_ends (c := .pbPressed i true) (s := s) rfl
      refine ⟨t, out, ?_⟩
      change State.Ends ((s.setDoor i pressed).pressed i) t at ends
      rw [State.pressed_setDoor] at ends
      exact ends

/-! ### The timers -/

/-- R94 to R99: what the expiry of a door's timer of a kind does. -/
def doorExpires (i : DoorId) : DoorTimer → State → State
  | .tOpen, x => x.doorFault i .openTimeout
  | .dwell, x => x.setDoor i (x.doorWarning (x.door i))
  | .tWarn, x => x.startClosing i
  | .tClose, x => x.countedReversal i
  | .stopInterval, x => x.setDoor i (x.doorDriving (x.door i))
  | .tRev, x => x.setDoor i (x.doorWarning (x.door i))

theorem exec_doorExpiry (i : DoorId) (k : DoorTimer) (s : State) :
    exec (doorExpiryCommand i k) s = .next (s.doorExpiry i k (doorExpires i k)) := by
  cases k <;> rfl

theorem exec_doorExpiry_other {i : DoorId} {k : DoorTimer} {s : State}
    (h : ∀ τ, (s.door i).timer ≠ some (k, τ)) : exec (doorExpiryCommand i k) s = .next s := by
  rw [exec_doorExpiry, State.doorExpiry]
  cases e : (s.door i).timer with
  | none => rfl
  | some x =>
    obtain ⟨k', t⟩ := x
    dsimp only
    rw [if_neg]
    rintro rfl
    exact h t e

theorem exec_doorExpiry_due {i : DoorId} {k : DoorTimer} {s : State} {τ : Nat}
    (h : (s.door i).timer = some (k, τ)) :
    exec (doorExpiryCommand i k) s = .next (doorExpires i k (s.advanceTo τ)).finish := by
  rw [exec_doorExpiry, State.doorExpiry, h]
  dsimp only
  rw [if_pos rfl]

theorem State.setDoor_same (s : State) (i : DoorId) : s.setDoor i (s.door i) = s := by
  cases i <;> rfl

/-- R97: a door that enters CLOSING. -/
theorem State.startClosing_eq (s : State) (i : DoorId) :
    let d := s.door i
    let closes : Motor := { d.motor with latched := s.par .dClose, latchedDir := .closes }
    let off (m : Motor) := m.off (s.par .tPwm) s.now
    s.startClosing i =
      if d.ed then
        if d.reversals < 3 then s.setDoor i { d with
          state := .reversing .stop, timer := some (.stopInterval, s.now + 100000), motor := off closes
          reversals := d.reversals + 1 }
        else State.raise .door (s.setDoor i { d with
          state := .fault .reversalLimit, timer := none, motor := off closes })
      else if d.lk ∧ d.op then State.raise .door (s.setDoor i { d with
        state := .fault .switchConflict, timer := none, motor := off d.motor })
      else if d.lk then s.setDoor i { d with
        state := if (s.drc.side (doorSide i)).granted ≠ none then .released else .locked
        timer := none, motor := off closes, reversals := 0 }
      else s.setDoor i { d with
        state := .closing, timer := some (.tClose, s.now + s.par .tClose * 1000), motor := closes } := by
  unfold State.startClosing
  dsimp only
  rw [State.countedReversal_setDoor, State.doorFault]
  unfold State.doorLocks
  simp only [State.isGranted_iff]
  rfl

/-- Settles O31, timer by timer. -/
theorem doorTimersMoveTheDoor : Obligations.DoorTimersMoveTheDoor := by
  intro s i k c
  have named : c = doorExpiryCommand i k := by cases k <;> rfl
  rw [named]
  refine ⟨exec_doorExpiry_other, ?_⟩
  intro τ running x d granted off closes fault reversal warns
  obtain ⟨t, out, ends⟩ := exec_ends (exec_doorExpiry_due running)
  refine ⟨t, out, ?_⟩
  have par : ∀ p, x.par p = s.par p := s.advanceTo_par τ
  have sides : (x.drc.side (doorSide i)).granted = (s.drc.side (doorSide i)).granted :=
    congrArg SideRelease.granted (s.advanceTo_side τ _)
  have reversed : x.countedReversal i = reversal d.motor := by
    have e := State.countedReversal_setDoor x i d
    rw [State.setDoor_same, par] at e
    exact e
  have warned : x.setDoor i (x.doorWarning d) = warns := by
    unfold State.doorWarning State.doorAtRest State.doorTimer
    rw [par, par]
  cases k with
  | tOpen =>
    change State.Ends (x.doorFault i .openTimeout) t at ends
    unfold State.doorFault State.doorAtRest at ends
    rw [par] at ends
    exact ends
  | dwell =>
    change State.Ends (x.setDoor i (x.doorWarning d)) t at ends
    rwa [warned] at ends
  | tWarn =>
    change State.Ends (x.startClosing i) t at ends
    rw [State.startClosing_eq] at ends
    simp only [par, sides] at ends
    exact ends
  | tClose =>
    change State.Ends (x.countedReversal i) t at ends
    rwa [reversed] at ends
  | stopInterval =>
    change State.Ends (x.setDoor i (x.doorDriving d)) t at ends
    unfold State.doorDriving State.doorTimer at ends
    rw [par, par] at ends
    exact ends
  | tRev =>
    change State.Ends (x.setDoor i (x.doorWarning d)) t at ends
    rwa [warned] at ends

end Sys2Proof.Machine
end

section
/-! DOOR_RELEASE (R104): a grant on a side whose doors are out of service does not outlast a departure that the
same event lets go. -/

namespace Sys2Proof.Machine

/-- An image of one RACK segment from 0 to 60,000 dm with platform side A. -/
def platformImage : Memory :=
  Memory.writeAll [] 0 [0, 1, 0, 212, 0, 0xEA, 0x60, 1, 0, 0, 0, 0, 0, 0, 0, 0, 0, 180, 0x01, 0x4D, 9]

/-- Desk L at rest in SHUNT on that segment, side A's doors out of service and the others locked, T_hold at its
end, with a demand: PULLING, and without valid effort feedback. -/
def pullingAtPlatform : State :=
  State.finish { State.reset with
    odu := { Odu.reset with pos := .valid, lo := 3960200000, hi := 3961200000, regime := .adhesion }
    lps := { Lps.reset with y := { Lps.reset.y with
      role := .active, state := .checked, image := platformImage } }
    ssu := { Ssu.reset with mode := .shunt }
    brm := { Brm.reset with latch := none, holdElapsed := true, measured := some 400, holding := true }
    drc := { Drc.reset with
      a1 := { Drc.reset.a1 with state := .isolated }, a2 := { Drc.reset.a2 with state := .isolated } }
    dka := { Dka.reset with
      active := some .l, switch := some .forward, selected := some .down
      cabL := { traction := 50, handle := .percent 0, switch := .forward, writes := 0, fresh := some 300000 } } }

/-- The same with the effort that the departure requires, which the departure has not yet been tried against. -/
def effortAtPlatform : State :=
  { pullingAtPlatform with brm := { pullingAtPlatform.brm with effortValid := true } }

/-- No reader is about the effort feedback. -/
theorem State.Settled.withEffort {s : State} (h : s.Settled) (valid : Bool) :
    State.Settled { s with brm := { s.brm with effortValid := valid } } :=
  ⟨h.cab, h.supervision, h.doors, h.radio, h.odometry, h.loop, h.hold, h.level, h.pinion, h.energised, h.holding,
    h.proving, h.summary, h.grants, h.traction⟩

theorem pullingAtPlatform_settled : pullingAtPlatform.Settled := by
  unfold pullingAtPlatform
  exact State.finish_settled _

theorem effortAtPlatform_settled : effortAtPlatform.Settled := by
  have settled := pullingAtPlatform_settled
  unfold effortAtPlatform
  generalize pullingAtPlatform = s at *
  exact settled.withEffort true

/-- The grant of side A when the event of a command ends. -/
def grantAfter (c : Instr) (s : State) : Option (Option Desk) :=
  match exec c s with
  | .next t => some (t.drc.side .a).granted
  | .fault _ => none
  | .refused _ => none

/-- Refutes O33: from a settled state in which every condition of the grant holds, the grant of a side whose doors
are both ISOLATED leaves the doors proven closed, so that the departure, whose required effort is there, is
released in the same event, which ends HOLDING and with it the grant. -/
theorem not_doorReleaseGrantsTheSide : ¬ Obligations.DoorReleaseGrantsTheSide := by
  rintro ⟨-, requests⟩
  obtain ⟨-, -, named⟩ := requests effortAtPlatform .l 0#16 .l rfl
  obtain ⟨-, granted⟩ := named .a (by decide +kernel) (by decide)
  obtain ⟨t, out, -, stands⟩ := granted (by decide +kernel)
  obtain ⟨side, -⟩ := stands effortAtPlatform_settled (by decide +kernel)
  have withdrawn : grantAfter (.doorRelease .l 0#16) effortAtPlatform = some none := by decide +kernel
  have free : (effortAtPlatform.drc.side .a).granted = none := by decide +kernel
  unfold grantAfter at withdrawn
  rw [out] at withdrawn
  have kept : (t.drc.side .a).granted = (none : Option Desk).or (some .l) := by rw [side, free]
  rw [Option.some.inj withdrawn] at kept
  cases kept

end Sys2Proof.Machine
end

section
/-! The delivery of a telegram (R130, R138, R139, R142). -/

namespace Sys2Proof.Machine

/-! ### The envelope -/

theorem isUplink_iff (e : Envelope) : isUplink e = true ↔ 8 ≤ e.flags.toNat := by
  have all : ∀ f : BitVec 4, f.getLsbD 3 = decide (8 ≤ f.toNat) := by decide
  rw [isUplink, all, decide_eq_true_iff]

theorem hasReserved_iff (e : Envelope) : hasReserved e = true ↔ e.flags.toNat % 8 ≠ 0 := by
  have all : ∀ f : BitVec 4, (f.extractLsb' 0 3 != 0#3) = decide (f.toNat % 8 ≠ 0) := by decide
  rw [hasReserved, all, decide_eq_true_iff]

theorem State.isMine_iff (s : State) (e : Envelope) : s.isMine e = true ↔ e.addr.toNat = s.par .carAddress := by
  simp [State.isMine]

theorem isBeacon_iff (m : Telegram) :
    isBeacon m = true ↔ m.kind = 1#4 ∧ m.env.addr = 0#8 ∧ m.env.payload.length = 4 := by
  have code : ∀ c : BitVec 4, (TelegramKind.ofCode c == some .beacon) = decide (c = 1#4) := by decide
  rw [isBeacon, code]
  simp [and_assoc]

/-- The address and the length that a kind's code has in the table of 8.1. -/
def State.Shaped (s : State) (code : Nat) (e : Envelope) : Prop :=
  let n := e.payload.length
  let all := e.addr = 0#8
  let car := ¬e.addr = 0#8 ∧ e.addr.toNat = s.par .carAddress
  match code with
  | 1 => all ∧ n = 4
  | 2 => car ∧ n = 11
  | 3 => car ∧ n = 1
  | 4 => (all ∨ car) ∧ n = 10
  | 5 => (all ∨ car) ∧ n = 1
  | 6 => (all ∨ car) ∧ n = 8
  | 7 => (all ∨ car) ∧ n = 1
  | 8 => car ∧ n = 4
  | 9 => car ∧ n = 9
  | 10 => car ∧ n = 6
  | 11 => car ∧ n = 2
  | 12 => (all ∨ car) ∧ n ≤ 12
  | _ => False

theorem State.fits_iff (s : State) (k : TelegramKind) (e : Envelope) : s.fits k e = true ↔
    ((e.addr = 0#8 ∧ k.takesAll = true) ∨
      ((¬e.addr = 0#8 ∧ e.addr.toNat = s.par .carAddress) ∧ k.takesCar = true)) ∧
      k.takesLength e.payload.length = true := by
  unfold State.fits
  by_cases all : e.addr = 0
  · simp [all]
  · simp only [all, if_false, Bool.and_eq_true, State.isMine_iff]
    tauto

/-- 8.1: a telegram that fits the table has a kind other than the position report, which no car receives. -/
theorem State.shaped_iff (s : State) (m : Telegram) : s.Shaped m.kind.toNat m.env ↔
    ∃ k, TelegramKind.ofCode m.kind = some k ∧ k ≠ .positionReport ∧ s.fits k m.env = true := by
  simp only [State.fits_iff]
  have lt := m.kind.isLt
  unfold TelegramKind.ofCode State.Shaped
  generalize m.kind.toNat = c at *
  generalize m.env = e
  interval_cases c <;>
    simp [TelegramKind.takesAll, TelegramKind.takesCar, TelegramKind.takesLength]

/-! ### The admission (R142) -/

section
variable {s : State} {m : Telegram}

theorem State.fate_discarded (h : s.pst.frozen = false) : s.fate m = .discarded := by
  simp [State.fate, h]

theorem State.fate_foreign (h : s.pst.frozen = true)
    (foreign : 8 ≤ m.env.flags.toNat ∨ (¬m.env.addr = 0#8 ∧ ¬m.env.addr.toNat = s.par .carAddress)) :
    s.fate m = .foreign := by
  unfold State.fate
  rw [if_neg (by simp [h])]
  rcases foreign with up | ⟨addr, other⟩
  · rw [if_pos ((isUplink_iff _).2 up)]
  · have : (!s.isMine m.env) = true := by simpa [State.isMine] using other
    by_cases up : isUplink m.env = true
    · rw [if_pos up]
    · rw [if_neg up, if_pos ⟨addr, this⟩]

/-- R142: a telegram that passes the first two tests goes by its flags and its shape. -/
theorem State.fate_known (h : s.pst.frozen = true)
    (mine : ¬(8 ≤ m.env.flags.toNat ∨ (¬m.env.addr = 0#8 ∧ ¬m.env.addr.toNat = s.par .carAddress))) :
    s.fate m = if hasReserved m.env = true then .formatError else
      match TelegramKind.ofCode m.kind with
      | none => .formatError
      | some k => if k = .positionReport then .formatError else if s.fits k m.env then .admitted k else .formatError := by
  obtain ⟨down, here⟩ := not_or.1 mine
  unfold State.fate
  have passes : ¬(m.env.addr ≠ 0 ∧ (!s.isMine m.env) = true) := by
    rintro ⟨addr, other⟩
    exact here ⟨addr, by simpa [State.isMine] using other⟩
  rw [if_neg (by simp [h]), if_neg fun up => down ((isUplink_iff _).1 up), if_neg passes] <;> rfl

theorem State.fate_format (h : s.pst.frozen = true)
    (mine : ¬(8 ≤ m.env.flags.toNat ∨ (¬m.env.addr = 0#8 ∧ ¬m.env.addr.toNat = s.par .carAddress)))
    (bad : m.env.flags.toNat % 8 ≠ 0 ∨ ¬s.Shaped m.kind.toNat m.env) : s.fate m = .formatError := by
  rw [State.fate_known h mine]
  split_ifs with reserved
  · rfl
  · have unshaped := bad.resolve_left (mt (hasReserved_iff _).2 reserved)
    rw [State.shaped_iff] at unshaped
    cases code : TelegramKind.ofCode m.kind with
    | none => rfl
    | some k =>
      dsimp only
      split_ifs with report fits
      · rfl
      · exact absurd ⟨k, code, report, fits⟩ unshaped
      · rfl

theorem State.fate_admitted {k : TelegramKind} (h : s.pst.frozen = true) (flags : m.env.flags = 0#4)
    (code : TelegramKind.ofCode m.kind = some k) (report : k ≠ .positionReport) (fits : s.fits k m.env = true) :
    s.fate m = .admitted k := by
  have mine : ¬(8 ≤ m.env.flags.toNat ∨ (¬m.env.addr = 0#8 ∧ ¬m.env.addr.toNat = s.par .carAddress)) := by
    rw [flags]
    rintro (up | ⟨addr, other⟩)
    · exact absurd up (by decide)
    · rcases ((State.fits_iff ..).1 fits).1 with ⟨all, _⟩ | ⟨⟨_, car⟩, _⟩
      · exact addr all
      · exact other car
  rw [State.fate_known h mine, if_neg, code]
  · dsimp only
    rw [if_neg report, if_pos fits]
  · rw [hasReserved_iff, flags]
    decide

end

/-! ### The delivery -/

/-- R138: a telegram counted as received, with the receiver in HUNT. -/
def State.received (s : State) : State := { s with vrl := { s.vrl with
  received := (s.vrl.received + 1) % 65536
  rx := { s.vrl.rx with state := .hunt, flagReg := 0, flagLen := 0 } } }

/-- R139: the state that the Telegram Handler takes a telegram in. -/
def State.examined (s : State) (m : Telegram) : State :=
  if isBeacon m && s.pst.frozen then s.received.takeSync else s.received

theorem State.deliver_eq (s : State) (m : Telegram) : s.deliver m = (s.examined m).takeTelegram m := rfl

theorem State.takeSync_only (s : State) : s.takeSync = { s with vrl := s.takeSync.vrl, pif := s.takeSync.pif } := by
  unfold State.takeSync State.setSync
  dsimp only
  split <;> rfl

theorem State.examined_frame (s : State) (m : Telegram) :
    s.examined m = { s with vrl := (s.examined m).vrl, pif := (s.examined m).pif } := by
  unfold State.examined
  split
  · rw [State.takeSync_only]
    rfl
  · rfl

theorem State.examined_pst (s : State) (m : Telegram) : (s.examined m).pst = s.pst :=
  (congrArg State.pst (s.examined_frame m)).trans rfl

theorem State.examined_tgh (s : State) (m : Telegram) : (s.examined m).tgh = s.tgh :=
  (congrArg State.tgh (s.examined_frame m)).trans rfl

theorem State.fate_congr {s t : State} (h : t.pst = s.pst) (m : Telegram) : t.fate m = s.fate m := by
  have par := State.par_congr h
  unfold State.fate State.fits State.isMine
  rw [h]
  simp only [par]

theorem State.receive_idle {s : State} (h : s.vrl.tx.state = .idle) (m : Telegram) :
    s.receive m = (s.deliver m).finish := if_neg (by rw [Transmitter.keyed, h]; decide)

theorem State.receive_keyed {s : State} (h : s.vrl.tx.state ≠ .idle) (m : Telegram) : s.receive m = s :=
  if_pos (by simpa [Transmitter.keyed] using h)

/-- The telegram commands are deliveries of the telegram of their kind. -/
theorem exec_telegram {s : State} (h : s.vrl.tx.state = .idle) (m : Telegram) :
    exec (.telegramNotAdmitted m) s = .next (s.deliver m).finish :=
  congrArg Host.Outcome.next (State.receive_idle h m)

/-- R142: a telegram that is not admitted, by its fate. -/
theorem State.deliver_discarded {s : State} {m : Telegram} (h : s.fate m = .discarded) :
    s.deliver m = s.examined m := by
  have fate : (s.examined m).fate m = .discarded := (State.fate_congr (s.examined_pst m) m).trans h
  rw [State.deliver_eq, State.takeTelegram, fate]

theorem State.deliver_foreign {s : State} {m : Telegram} (h : s.fate m = .foreign) :
    s.deliver m = { s.examined m with tgh := { s.tgh with
      foreign := if s.tgh.foreign < 65535 then s.tgh.foreign + 1 else s.tgh.foreign } } := by
  have fate : (s.examined m).fate m = .foreign := (State.fate_congr (s.examined_pst m) m).trans h
  rw [State.deliver_eq, State.takeTelegram, fate]
  dsimp only
  rw [State.foreignTelegram, s.examined_tgh]
  rfl

theorem State.deliver_formatError {s : State} {m : Telegram} (h : s.fate m = .formatError) :
    s.deliver m = { s.examined m with tgh := { s.tgh with
      formatErrors := if s.tgh.formatErrors < 65535 then s.tgh.formatErrors + 1 else s.tgh.formatErrors } } := by
  have fate : (s.examined m).fate m = .formatError := (State.fate_congr (s.examined_pst m) m).trans h
  rw [State.deliver_eq, State.takeTelegram, fate]
  dsimp only
  rw [State.formatError, s.examined_tgh]
  rfl

theorem State.examined_unfrozen {s : State} (h : s.pst.frozen = false) (m : Telegram) :
    s.examined m = s.received := if_neg (by simp [h])

/-- Settles O42, by the fate of the telegram. -/
theorem telegramsNotAdmittedAreCounted : Obligations.TelegramsNotAdmittedAreCounted := by
  intro s m e n x y mine all car shape foreign
  have made : s.examined m = y := by
    have test : (isBeacon m && s.pst.frozen) = true ↔ m.kind = 1#4 ∧ e.addr = 0#8 ∧ n = 4 ∧ s.pst.frozen = true := by
      rw [Bool.and_eq_true, isBeacon_iff, and_assoc, and_assoc]
    unfold State.examined
    simp only [test]
    rfl
  have shaped : shape ↔ s.Shaped m.kind.toNat e := Iff.rfl
  have ended (u : State) (idle : s.vrl.tx.state = .idle) (h : s.deliver m = u) :
      ∃ t, exec (.telegramNotAdmitted m) s = .next t ∧ u.Ends t := h ▸ exec_ends (exec_telegram idle m)
  refine ⟨fun keyed c hc => ?_, fun y hy => ?_, fun idle => ended _ idle rfl, fun idle config => ?_,
    fun idle frozen other => ?_, fun idle frozen here bad => ?_⟩
  · have deaf := State.receive_keyed keyed
    simp only [List.mem_cons, List.not_mem_nil, or_false] at hc
    rcases hc with rfl | rfl | rfl | rfl | rfl | rfl | rfl | rfl | rfl | rfl | rfl | rfl | rfl <;>
      exact congrArg Host.Outcome.next (deaf _)
  · simp only [List.mem_cons, List.not_mem_nil, or_false] at hy
    rcases hy with rfl | rfl | rfl | rfl | rfl | rfl | rfl | rfl | rfl | rfl | rfl | rfl <;> rfl
  · refine ended _ idle ?_
    rw [State.deliver_discarded (State.fate_discarded config), State.examined_unfrozen config]
    rfl
  · refine ended _ idle ?_
    rw [State.deliver_foreign (State.fate_foreign frozen other), made]
  · refine ended _ idle ?_
    rw [State.deliver_formatError (State.fate_format frozen here bad), made]

end Sys2Proof.Machine
end

section
/-! What the Telegram Handler takes an admitted telegram in (R142, R152, R153), and BEACON (R143). -/

namespace Sys2Proof.Machine

/-! ### A valid telegram -/

/-- R152, R153: the state after a valid telegram, whose silence allowances are at least one cycle. -/
theorem State.hearValley_eq {s : State} (loss : 0 < s.par .nLoss) (stop : 0 < s.par .nStop)
    (shadow : 0 < s.par .nShadow) : s.hearValley =
      let h : State := { s with tgh := { s.tgh with silent := 0, shadowUsed := s.inShadow, link := .ok } }
      if s.tgh.link = .ok then h else h.raise .link := by
  have ok (x : State) (par : ∀ p, x.par p = s.par p) (silent : x.tgh.silent = 0) (b : Bool) : x.linkFor b = .ok := by
    unfold State.linkFor
    rw [silent, par, par, par, if_neg, if_neg (by omega)]
    split <;> omega
  have evaluated := ok { s with tgh := { s.tgh with silent := 0 } } (fun _ => rfl) rfl s.inShadow
  change State.setLink (State.linkFor { s with tgh := { s.tgh with silent := 0 } } s.inShadow)
    { s with tgh := { s.tgh with silent := 0, shadowUsed := s.inShadow } } = _
  rw [evaluated]
  unfold State.setLink
  by_cases link : s.tgh.link = .ok
  · rw [if_pos link]
    dsimp only
    rw [if_pos link, ← link]
  · rw [if_neg link]
    dsimp only
    rw [if_neg link, if_neg link]

section
variable {s : State} {k : TelegramKind} {e : Envelope}

/-- R142: an admitted telegram that is no beacon. -/
theorem State.deliver_admitted (frozen : s.pst.frozen = true) (flags : e.flags = 0#4)
    (code : TelegramKind.ofCode k.code = some k) (report : k ≠ .positionReport) (beacon : k ≠ .beacon)
    (fits : s.fits k e = true) : s.deliver (telegramOf k e) =
      State.actOn k e (if e.addr = 0#8 then s.received else s.received.hearValley) := by
  have fate : s.fate (telegramOf k e) = .admitted k := State.fate_admitted frozen flags code report fits
  have plain : isBeacon (telegramOf k e) = false := by
    have other : k.code ≠ 1#4 := fun one => beacon (by
      rw [one] at code
      exact (Option.some.inj code).symm)
    exact Bool.eq_false_iff.2 fun h => other ((isBeacon_iff _).1 h).1
  have examined : s.examined (telegramOf k e) = s.received := if_neg (by simp [plain])
  have admitted : s.received.fate (telegramOf k e) = .admitted k := (State.fate_congr rfl _).trans fate
  rw [State.deliver_eq, examined, State.takeTelegram, admitted]
  have valid : isValidTelegram k (telegramOf k e).env = true ↔ ¬e.addr = 0#8 := by
    simp [isValidTelegram, beacon, telegramOf]
  dsimp only
  by_cases all : e.addr = 0#8
  · rw [if_neg (fun h => valid.1 h all), if_pos all] <;> rfl
  · rw [if_pos (valid.2 all), if_neg all] <;> rfl

end

/-- R152: the state in which a telegram for this car, or for all cars, is taken. -/
def State.reached (s : State) (addr : Byte) : State :=
  let heard : State :=
    { s.received with tgh := { s.tgh with silent := 0, shadowUsed := s.inShadow, link := .ok } }
  if addr = 0#8 then s.received else if s.tgh.link = .ok then heard else heard.raise .link

section
variable (s : State) (addr : Byte)

theorem State.reached_frame : s.reached addr =
    { s with vrl := s.received.vrl, tgh := (s.reached addr).tgh, pif := (s.reached addr).pif } := by
  unfold State.reached
  dsimp only
  split_ifs <;> rfl

theorem State.reached_tgh : (s.reached addr).tgh = { s.tgh with
    silent := (s.reached addr).tgh.silent, shadowUsed := (s.reached addr).tgh.shadowUsed
    link := (s.reached addr).tgh.link } := by
  unfold State.reached
  dsimp only
  split_ifs <;> rfl

theorem State.reached_odu : (s.reached addr).odu = s.odu := (congrArg State.odu (s.reached_frame addr)).trans rfl
theorem State.reached_lps : (s.reached addr).lps = s.lps := (congrArg State.lps (s.reached_frame addr)).trans rfl
theorem State.reached_ssu : (s.reached addr).ssu = s.ssu := (congrArg State.ssu (s.reached_frame addr)).trans rfl
theorem State.reached_dka : (s.reached addr).dka = s.dka := (congrArg State.dka (s.reached_frame addr)).trans rfl
theorem State.reached_pst : (s.reached addr).pst = s.pst := (congrArg State.pst (s.reached_frame addr)).trans rfl
theorem State.reached_now : (s.reached addr).now = s.now := (congrArg State.now (s.reached_frame addr)).trans rfl

end

/-- R142, R152: what an admitted telegram command does. -/
theorem exec_admitted {s : State} {c : Instr} {k : TelegramKind} {e : Envelope}
    (command : exec c s = .next (s.receive (telegramOf k e))) (idle : s.vrl.tx.state = .idle)
    (frozen : s.pst.frozen = true) (flags : e.flags = 0#4) (code : TelegramKind.ofCode k.code = some k)
    (report : k ≠ .positionReport) (beacon : k ≠ .beacon) (fits : s.fits k e = true)
    (loss : 0 < s.par .nLoss) (stop : 0 < s.par .nStop) (shadow : 0 < s.par .nShadow) :
    ∃ t, exec c s = .next t ∧ (State.actOn k e (s.reached e.addr)).Ends t := by
  rw [State.receive_idle idle, State.deliver_admitted frozen flags code report beacon fits,
    State.hearValley_eq (s := s.received) loss stop shadow] at command
  exact exec_ends command

/-! ### BEACON -/

theorem beNat_two (a b : Byte) : beNat [a, b] = a.toNat * 256 + b.toNat := by simp [beNat]

theorem State.inShadow_congr {s t : State} (odu : t.odu = s.odu) (lps : t.lps = s.lps) (pst : t.pst = s.pst) :
    t.inShadow = s.inShadow := by
  unfold State.inShadow State.extentSegments State.extentHi
  rw [odu, lps, State.par_congr pst]

theorem State.hearValley_tells {s : State} (loss : 0 < s.par .nLoss) (stop : 0 < s.par .nStop)
    (shadow : 0 < s.par .nShadow) : s.Tells s.hearValley .link (s.tgh.link ≠ .ok) := by
  rw [State.hearValley_eq loss stop shadow]
  dsimp only
  split_ifs with link
  · exact ⟨fun h => absurd link h, fun _ => rfl⟩
  · exact ⟨fun _ => rfl, fun h => absurd link h⟩

theorem State.setSync_spec (y : Sync) (s : State) :
    s.Tells (s.setSync y) .link (s.vrl.sync ≠ y) ∧ (s.setSync y).vrl = { s.vrl with sync := y } := by
  unfold State.setSync
  by_cases sync : s.vrl.sync = y
  · rw [if_pos sync, ← sync]
    exact ⟨State.Tells.never fun h => h rfl, rfl⟩
  · rw [if_neg sync]
    exact ⟨⟨fun _ => rfl, fun h => absurd sync h⟩, rfl⟩

theorem State.takeSync_tells (s : State) : s.Tells s.takeSync .link (s.vrl.sync ≠ .synced) :=
  ((State.setSync_spec .synced _).1.from rfl).congr Iff.rfl

theorem State.takeSync_vrl (s : State) :
    let out : Int := ((192 * s.vrl.slot + s.vrl.bit : Nat) - 112 + 1536) % 3072 - 1536
    s.takeSync.vrl = { s.vrl with
      sync := .synced, slot := 0, bit := 112, missed := 0, mark := true, txTimer := s.now + s.par .tBit
      cycle := if 8 ≤ s.vrl.slot then (s.vrl.cycle + 1) % 4 else s.vrl.cycle
      resync :=
        if s.vrl.sync ≠ .unsynced ∧ (out < -2 ∨ 2 < out) ∧ s.vrl.resync < 255 then s.vrl.resync + 1
        else s.vrl.resync } := by
  intro out
  have offset : beaconOffset s.vrl.slot s.vrl.bit = out := by simp [beaconOffset, out]
  have counted : (if s.vrl.sync ≠ .unsynced ∧ (out < -2 ∨ 2 < out) then satSucc 255 s.vrl.resync
        else s.vrl.resync) =
      if s.vrl.sync ≠ .unsynced ∧ (out < -2 ∨ 2 < out) ∧ s.vrl.resync < 255 then s.vrl.resync + 1
        else s.vrl.resync := by
    unfold satSucc
    split_ifs <;> tauto
  refine (State.setSync_spec .synced _).2.trans ?_
  rw [offset, counted]

theorem State.isOutdated_match (s : State) (line version : Nat) : s.isOutdated line version =
    match s.lps.profile with
    | none => true
    | some p => decide (p.lineId ≠ line ∨ p.version ≠ version) := by
  unfold State.isOutdated
  cases s.lps.profile with
  | none => rfl
  | some p =>
    simp [Bool.decide_or]
    rfl

theorem State.takeBeacon_spec (s : State) (l1 l0 v1 v0 : Byte) :
    let line := l1.toNat * 256 + l0.toNat
    let version := v1.toNat * 256 + v0.toNat
    let u := s.takeBeacon [l1, l0, v1, v0]
    u = { s with tgh := u.tgh, pif := u.pif } ∧
      s.Tells u .profile (s.tgh.outdated ≠ s.isOutdated line version) ∧
      u.tgh = { s.tgh with beacon := some (line, version), outdated := s.isOutdated line version } := by
  intro line version u
  have fields : payloadField [l1, l0, v1, v0] 0 2 = line ∧ payloadField [l1, l0, v1, v0] 2 2 = version :=
    ⟨beNat_two l1 l0, beNat_two v1 v0⟩
  have made : u = State.raiseIf (s.isOutdated line version != s.tgh.outdated) .profile
      { s with tgh := { s.tgh with beacon := some (line, version), outdated := s.isOutdated line version } } := by
    simp only [u, State.takeBeacon, fields.1, fields.2]
    rfl
  rw [made]
  refine ⟨?_, State.Tells.of_raiseIf _ _ _ _ (by rw [bne_iff_ne]; exact ne_comm), ?_⟩
  · cases s.isOutdated line version != s.tgh.outdated <;> rfl
  · cases s.isOutdated line version != s.tgh.outdated <;> rfl

/-- Settles O43, by the three stages of a beacon. -/
theorem beaconSynchronisesAndCompares : Obligations.BeaconSynchronisesAndCompares := by
  intro s l1 l0 v1 v0 frozen idle loss stop shadow line version out outdated
  let e : Envelope := { flags := 0#4, addr := 0#8, payload := [l1, l0, v1, v0] }
  have fate : s.fate (telegramOf .beacon e) = .admitted .beacon :=
    State.fate_admitted frozen rfl rfl (by decide) (by simp [State.fits, TelegramKind.takesAll,
      TelegramKind.takesLength, telegramOf, e])
  have examined : s.examined (telegramOf .beacon e) = s.received.takeSync :=
    if_pos (by rw [(isBeacon_iff _).2 ⟨rfl, rfl, rfl⟩, frozen]; rfl)
  have synced := State.takeSync_only s.received
  have told := State.takeSync_tells s.received
  have vrl := State.takeSync_vrl s.received
  have pst : s.received.takeSync.pst = s.pst := (congrArg State.pst synced).trans rfl
  have delivered : s.deliver (telegramOf .beacon e) = s.received.takeSync.hearValley.takeBeacon [l1, l0, v1, v0] := by
    have admitted := (State.fate_congr pst (telegramOf .beacon e)).trans fate
    rw [State.deliver_eq, examined, State.takeTelegram, admitted]
    rfl
  have par := State.par_congr pst
  have heard := State.hearValley_eq (s := s.received.takeSync) (by rwa [par]) (by rwa [par]) (by rwa [par])
  have heardTells := State.hearValley_tells (s := s.received.takeSync) (by rwa [par]) (by rwa [par]) (by rwa [par])
  have lit : s.received.takeSync.inShadow = s.inShadow :=
    State.inShadow_congr ((congrArg State.odu synced).trans rfl) ((congrArg State.lps synced).trans rfl) pst
  obtain ⟨t, out', ends⟩ := exec_ends (c := .beacon e) (s := s)
    (congrArg Host.Outcome.next (State.receive_idle idle (telegramOf .beacon e)))
  rw [delivered] at ends
  generalize s.received.takeSync = x at *
  have tgh : x.tgh = s.tgh := (congrArg State.tgh synced).trans rfl
  have spec := State.takeBeacon_spec x.hearValley l1 l0 v1 v0
  have frame : x.hearValley = { x with
      tgh := { x.tgh with silent := 0, shadowUsed := x.inShadow, link := .ok }, pif := x.hearValley.pif } := by
    rw [heard]
    dsimp only
    split_ifs <;> rfl
  generalize x.hearValley = v at *
  obtain ⟨made, tells, record⟩ := spec
  dsimp only at made tells record
  generalize v.takeBeacon [l1, l0, v1, v0] = u at *
  have lps : v.lps = s.lps := (congrArg State.lps frame).trans ((congrArg State.lps synced).trans rfl)
  have compared : v.isOutdated line version = outdated := by
    rw [State.isOutdated_match, lps] <;> rfl
  have line_vrl : u.vrl = x.vrl :=
    (congrArg State.vrl made).trans ((congrArg State.vrl frame).trans rfl)
  have whole : ({ v with tgh := u.tgh, pif := u.pif } : State) =
      { s with vrl := x.vrl, tgh := u.tgh, pif := u.pif } := by
    rw [frame, synced]
    rfl
  refine ⟨t, u, out', ends, ?_, ⟨v, ?_, ?_⟩, ?_, ?_⟩
  · rw [line_vrl]
    exact made.trans whole
  · exact ((told.trans heardTells).from rfl).congr (by rw [tgh] <;> rfl)
  · refine tells.congr ?_
    rw [compared, frame, tgh]
  · exact line_vrl.trans vrl
  · rw [record, compared, frame, tgh, lit]

end Sys2Proof.Machine
end

section
/-! AUTHORITY and REVOKE (R144 to R146), and the restriction telegrams (R44 to R46, R147). -/

namespace Sys2Proof.Machine

theorem beNat_one (a : Byte) : beNat [a] = a.toNat := by simp [beNat]

theorem beNat_three (a b c : Byte) : beNat [a, b, c] = a.toNat * 65536 + b.toNat * 256 + c.toNat := by
  simp [beNat]
  omega

theorem satSucc_eq (limit n : Nat) : satSucc limit n = if n < limit then n + 1 else n := rfl

/-! ### AUTHORITY and REVOKE -/

theorem State.changeAuthority_eq (a : Option Authority) (x : State) : x.changeAuthority a =
    State.raise .authorityChanged { x with
      tgh := { x.tgh with authority := a }
      ssu := { x.ssu with authSide := none, window := [], horizon := none, steepMark := false
                          flushCount := (x.ssu.flushCount + 1) % 65536 } } := rfl

theorem authorityDir_none {b : Nat} (h : 2 ≤ b % 4) : authorityDir b = none := by
  unfold authorityDir
  have : b % 4 = 2 ∨ b % 4 = 3 := by omega
  rcases this with e | e <;> rw [e] <;> rfl

theorem authorityDir_some {b : Nat} {d : Dir} (h : b % 4 = d.code) : authorityDir b = some d := by
  unfold authorityDir
  rw [h]
  cases d <;> rfl

section
variable (x : State) (issue dirs l2 l1 l0 : Byte) (stretch : List Byte)

/-- The limit of an AUTHORITY. -/
def limitOf (l2 l1 l0 : Byte) : Nat := l2.toNat * 65536 + l1.toNat * 256 + l0.toNat

theorem State.takeAuthority_eq (six : stretch.length = 6) :
    x.takeAuthority ([issue, dirs, l2, l1, l0] ++ stretch) =
      match authorityDir dirs.toNat with
      | none => x.formatError
      | some d =>
        if 120000 < limitOf l2 l1 l0 then x.formatError
        else
          let a : Authority :=
            { issue := issue.toNat, dir := d, limit := limitOf l2 l1 l0, stretchId := stretch
              holdDoors := decide (128 ≤ dirs.toNat) }
          match x.tgh.authority with
          | none => x.acceptAuthority a
          | some old => if issueNewer old.issue issue.toNat then x.acceptAuthority a else x.ignoreAuthority := by
  have first : payloadField ([issue, dirs, l2, l1, l0] ++ stretch) 0 1 = issue.toNat := beNat_one issue
  have second : payloadField ([issue, dirs, l2, l1, l0] ++ stretch) 1 1 = dirs.toNat := beNat_one dirs
  have third : payloadField ([issue, dirs, l2, l1, l0] ++ stretch) 2 3 = limitOf l2 l1 l0 := beNat_three l2 l1 l0
  have rest : (([issue, dirs, l2, l1, l0] ++ stretch).drop 5).take 6 = stretch :=
    List.take_of_length_le (by simp [six])
  unfold State.takeAuthority
  rw [first, second, third, rest] <;> rfl

theorem issueNewer_iff (i j : Nat) :
    issueNewer i j = true ↔ 1 ≤ (j + 256 - i) % 256 ∧ (j + 256 - i) % 256 ≤ 127 := by
  simp [issueNewer]

theorem State.takeRevoke_eq : x.takeRevoke [issue] =
    match x.tgh.authority with
    | none => x.ignoreAuthority
    | some a => if a.issue = issue.toNat then x.changeAuthority none else x.ignoreAuthority := by
  unfold State.takeRevoke
  rw [show payloadField [issue] 0 1 = issue.toNat from beNat_one issue] <;> rfl

end

theorem State.fits_car {s : State} {k : TelegramKind} {e : Envelope} (other : e.addr ≠ 0#8)
    (mine : e.addr.toNat = s.par .carAddress) (car : k.takesCar = true)
    (length : k.takesLength e.payload.length = true) : s.fits k e = true :=
  (State.fits_iff ..).2 ⟨Or.inr ⟨⟨other, mine⟩, car⟩, length⟩

theorem State.fits_any {s : State} {k : TelegramKind} {e : Envelope}
    (addr : e.addr = 0#8 ∨ e.addr.toNat = s.par .carAddress) (all : k.takesAll = true) (car : k.takesCar = true)
    (length : k.takesLength e.payload.length = true) : s.fits k e = true := by
  refine (State.fits_iff ..).2 ⟨?_, length⟩
  by_cases zero : e.addr = 0#8
  · exact Or.inl ⟨zero, all⟩
  · exact Or.inr ⟨⟨zero, addr.resolve_left zero⟩, car⟩

/-- Settles O44, by the format and the issue. -/
theorem authorityAndRevokeChangeTheRecord : Obligations.AuthorityAndRevokeChangeTheRecord := by
  intro s addr issue dirs l2 l1 l0 stretch frozen idle other mine six loss stop shadow h x limit ignored changed
    takes newer
  have reached : s.reached addr = x := if_neg other
  have tgh := s.reached_tgh addr
  have ssu := s.reached_ssu addr
  rw [reached] at tgh ssu
  have formatted : x.formatError = { x with tgh := { x.tgh with
      formatErrors := if s.tgh.formatErrors < 65535 then s.tgh.formatErrors + 1 else s.tgh.formatErrors } } := by
    rw [State.formatError, satSucc_eq, show x.tgh.formatErrors = s.tgh.formatErrors by rw [tgh]]
  have ignores : x.ignoreAuthority = ignored := by
    rw [State.ignoreAuthority, satSucc_eq, show x.tgh.ignored = s.tgh.ignored by rw [tgh]]
  have accepted (a : Authority) : x.acceptAuthority a = changed (some a) (some a.issue) := by
    rw [State.acceptAuthority, State.changeAuthority_eq]
    dsimp only
    rw [ssu]
  have cleared : x.changeAuthority none = changed none s.tgh.lastIssue := by
    rw [State.changeAuthority_eq, ssu, show s.tgh.lastIssue = x.tgh.lastIssue by rw [tgh]]
  have present : x.tgh.authority = s.tgh.authority := by rw [tgh]
  refine ⟨?_, ?_⟩
  · obtain ⟨t, out, ends⟩ := exec_admitted (c := .authority
        { flags := 0#4, addr := addr, payload := [issue, dirs, l2, l1, l0] ++ stretch }) (k := .authority)
      rfl idle frozen rfl rfl (by decide) (by decide)
      (State.fits_car other mine rfl (by simp [TelegramKind.takesLength, six])) loss stop shadow
    change (State.takeAuthority ([issue, dirs, l2, l1, l0] ++ stretch) (s.reached addr)).Ends t at ends
    rw [reached, State.takeAuthority_eq _ _ _ _ _ _ _ six, present, formatted, ignores] at ends
    simp only [accepted] at ends
    refine ⟨t, out, fun bad => ?_, fun d named inside => ⟨fun free => ?_, fun a held n => ?_, fun a held n => ?_⟩⟩
    · cases dir : authorityDir dirs.toNat with
      | none =>
        rw [dir] at ends
        exact ends
      | some d =>
        have over' : 120000 < limitOf l2 l1 l0 := bad.resolve_left fun high => by
          rw [authorityDir_none high] at dir
          cases dir
        rw [dir] at ends
        dsimp only at ends
        rwa [if_pos over'] at ends
    all_goals
      rw [authorityDir_some named] at ends
      dsimp only at ends
      rw [if_neg (show ¬120000 < limitOf l2 l1 l0 from not_lt.2 inside)] at ends
    · rw [free] at ends
      exact ends
    · rw [held] at ends
      dsimp only at ends
      rwa [if_pos ((issueNewer_iff _ _).2 n)] at ends
    · rw [held] at ends
      dsimp only at ends
      rwa [if_neg (mt (issueNewer_iff _ _).1 n)] at ends
  · obtain ⟨t, out, ends⟩ := exec_admitted (c := .revoke { flags := 0#4, addr := addr, payload := [issue] })
      (k := .revoke) rfl idle frozen rfl rfl (by decide) (by decide) (State.fits_car other mine rfl rfl)
      loss stop shadow
    change (State.takeRevoke [issue] (s.reached addr)).Ends t at ends
    rw [reached, State.takeRevoke_eq, present, ignores, cleared] at ends
    refine ⟨t, out, fun free => ?_, fun a held n => ?_, fun a held e => ?_⟩
    · rw [free] at ends
      exact ends
    · rw [held] at ends
      dsimp only at ends
      rwa [if_neg n] at ends
    · rw [held] at ends
      dsimp only at ends
      rwa [if_pos e] at ends

end Sys2Proof.Machine
end

section
/-! RESTRICT_SET and RESTRICT_CLEAR (R44 to R46, R147), EMERGENCY_CALL and CALL_CANCEL (R148 to R150). -/

namespace Sys2Proof.Machine

/-! ### The restriction list -/

/-- 3.2: the order of the list, by start and identity. -/
def Restriction.Before (p q : Restriction) : Prop := p.first < q.first ∨ (p.first = q.first ∧ p.ident < q.ident)

theorem Restriction.before_iff (p q : Restriction) : p.before q = true ↔ p.Before q := by
  simp [Restriction.before, Restriction.Before]

theorem insertRestriction_sorted (r : Restriction) {l : List Restriction}
    (fresh : ∀ q ∈ l, q.ident ≠ r.ident) (h : l.Pairwise Restriction.Before) :
    (insertRestriction r l).Pairwise Restriction.Before := by
  induction l with
  | nil => exact List.pairwise_singleton _ _
  | cons x l ih =>
    obtain ⟨first, rest⟩ := List.pairwise_cons.1 h
    unfold insertRestriction
    split
    · next lt =>
      rw [Restriction.before_iff] at lt
      refine List.pairwise_cons.2 ⟨fun q hq => ?_, h⟩
      rcases List.mem_cons.1 hq with rfl | hq
      · exact lt
      · have := first q hq
        unfold Restriction.Before at *
        omega
    · next ge =>
      rw [Restriction.before_iff] at ge
      refine List.pairwise_cons.2 ⟨fun q hq => ?_, ih (fun q hq => fresh q (List.mem_cons_of_mem _ hq)) rest⟩
      rcases List.mem_cons.1 ((insertRestriction_perm r l).mem_iff.1 hq) with rfl | hq
      · have other := fresh x List.mem_cons_self
        unfold Restriction.Before at *
        omega
      · exact first q hq

theorem withoutIdent_eq (ident : Nat) (l : List Restriction) :
    withoutIdent ident l = l.filter fun q => decide (q.ident ≠ ident) := by
  unfold withoutIdent
  congr 1
  funext q
  simp [bne, beq_eq_decide]

theorem withoutIdent_fresh {ident : Nat} {l : List Restriction} {q : Restriction} (h : q ∈ withoutIdent ident l) :
    q.ident ≠ ident := by
  rw [withoutIdent_eq] at h
  simpa using (List.mem_filter.1 h).2

section
variable (x : State)

theorem State.changeRestrictions_eq (l : List Restriction) (cap : Option Nat) : x.changeRestrictions l cap =
    State.raise .restriction { x with ssu := { x.ssu with
      restrictions := l, cap := cap, window := [], horizon := none, steepMark := false
      flushCount := (x.ssu.flushCount + 1) % 65536 } } := rfl

theorem any_ident {ident : Nat} {l : List Restriction} :
    (l.any fun q => q.ident == ident) = true ↔ ∃ q ∈ l, q.ident = ident := by
  simp

/-- R44, R45: a set operation whose applies-to is named. -/
theorem State.restrictionSet_eq (r : Restriction) :
    let l := x.ssu.restrictions
    let held := ∃ q ∈ l, q.ident = r.ident
    x.restrictionSet r.ident r.first r.last r.speed (some r.applies) =
      if r.ident = 0 ∨ r.last ≤ r.first ∨ 120000 < r.last ∨ 1500 < r.speed then
        { x with ssu := { x.ssu with
          malformed := if x.ssu.malformed < 255 then x.ssu.malformed + 1 else x.ssu.malformed } }
      else if r ∈ l then x
      else if held ∨ l.length < 12 then
        x.changeRestrictions (insertRestriction r (withoutIdent r.ident l)) x.ssu.cap
      else if capAfter x.ssu.cap r.speed = x.ssu.cap then x.raise .restriction
      else x.changeRestrictions l (capAfter x.ssu.cap r.speed) := by
  have malformed : malformedSet r.ident r.first r.last r.speed (some r.applies) = true ↔
      r.ident = 0 ∨ r.last ≤ r.first ∨ 120000 < r.last ∨ 1500 < r.speed := by
    simp [malformedSet, or_assoc]
  have room : ((x.ssu.restrictions.any fun q => q.ident == r.ident) || decide (x.ssu.restrictions.length < 12)) =
      true ↔ (∃ q ∈ x.ssu.restrictions, q.ident = r.ident) ∨ x.ssu.restrictions.length < 12 := by
    rw [Bool.or_eq_true, any_ident, decide_eq_true_iff]
  obtain ⟨ident, first, last, speed, applies⟩ := r
  unfold State.restrictionSet
  dsimp only at *
  simp only [malformed, List.contains_iff_mem, room]
  rfl

/-- R46: a clear operation. -/
theorem State.restrictionClear_eq (ident : Nat) :
    let l := x.ssu.restrictions
    x.restrictionClear ident =
      if ident = 0 then
        if l = [] ∧ x.ssu.cap = none then x else x.changeRestrictions [] none
      else if ∃ q ∈ l, q.ident = ident then x.changeRestrictions (withoutIdent ident l) x.ssu.cap
      else x := by
  unfold State.restrictionClear
  simp only [any_ident]

end

/-- The state in which O45's and O46's telegrams are taken, in the words of the statements. -/
theorem State.reached_eq (s : State) (addr : Byte) : s.reached addr =
    let got : State := { s with vrl := { s.vrl with
      received := (s.vrl.received + 1) % 65536
      rx := { s.vrl.rx with state := .hunt, flagReg := 0, flagLen := 0 } } }
    let heard : State :=
      { got with tgh := { s.tgh with silent := 0, shadowUsed := s.inShadow, link := .ok } }
    if addr = 0#8 then got else if s.tgh.link = .ok then heard else heard.raise .link := rfl

theorem capAfter_some {c speed : Nat} : capAfter (some c) speed = some (min c speed) := rfl

/-- R147: the set operation of a telegram, with an applies-to that its byte names or does not name. -/
theorem State.takeRestrictSet_eq (x : State) (ident f2 f1 f0 l2 l1 l0 v1 v0 applies : Byte) :
    x.takeRestrictSet [ident, f2, f1, f0, l2, l1, l0, v1, v0, applies] =
      x.restrictionSet ident.toNat (limitOf f2 f1 f0) (limitOf l2 l1 l0) (v1.toNat * 256 + v0.toNat)
        (Applies.ofCode applies.toNat) := by
  have first : payloadField [ident, f2, f1, f0, l2, l1, l0, v1, v0, applies] 0 1 = ident.toNat := beNat_one _
  have second : payloadField [ident, f2, f1, f0, l2, l1, l0, v1, v0, applies] 1 3 = limitOf f2 f1 f0 :=
    beNat_three _ _ _
  have third : payloadField [ident, f2, f1, f0, l2, l1, l0, v1, v0, applies] 4 3 = limitOf l2 l1 l0 :=
    beNat_three _ _ _
  have fourth : payloadField [ident, f2, f1, f0, l2, l1, l0, v1, v0, applies] 7 2 = v1.toNat * 256 + v0.toNat :=
    beNat_two _ _
  have fifth : payloadField [ident, f2, f1, f0, l2, l1, l0, v1, v0, applies] 9 1 = applies.toNat := beNat_one _
  unfold State.takeRestrictSet
  rw [first, second, third, fourth, fifth]

theorem Applies.ofCode_code (a : Applies) : Applies.ofCode a.code = some a := by cases a <;> rfl

theorem Applies.ofCode_none {n : Nat} (h : 2 < n) : Applies.ofCode n = none := by
  unfold Applies.ofCode
  rw [if_neg (by omega), if_neg (by omega), if_neg (by omega)]

theorem Applies.ofCode_some {n : Nat} (h : n ≤ 2) : ∃ a, Applies.ofCode n = some a ∧ a.code = n := by
  interval_cases n
  exacts [⟨.both, rfl, rfl⟩, ⟨.up, rfl, rfl⟩, ⟨.down, rfl, rfl⟩]

/-- Settles O45, by the cases of the two operations. -/
theorem restrictionTelegramsChangeTheList : Obligations.RestrictionTelegramsChangeTheList := by
  intro s addr ident f2 f1 f0 l2 l1 l0 v1 v0 applies frozen idle mine loss stop shadow got heard x r l held rest
    before changed bad
  have reached : s.reached addr = x := s.reached_eq addr
  have ssu := s.reached_ssu addr
  rw [reached] at ssu
  have changes (l' : List Restriction) (cap : Option Nat) : x.changeRestrictions l' cap = changed l' cap := by
    rw [State.changeRestrictions_eq, ssu]
  have filtered : withoutIdent ident.toNat l = rest := withoutIdent_eq _ _
  refine ⟨?_, ?_⟩
  · obtain ⟨t, out, ends⟩ := exec_admitted (c := .restrictSet
        { flags := 0#4, addr := addr, payload := [ident, f2, f1, f0, l2, l1, l0, v1, v0, applies] })
      (k := .restrictSet) rfl idle frozen rfl rfl (by decide) (by decide) (State.fits_any mine rfl rfl rfl)
      loss stop shadow
    change (State.takeRestrictSet [ident, f2, f1, f0, l2, l1, l0, v1, v0, applies] (s.reached addr)).Ends t at ends
    rw [reached, State.takeRestrictSet_eq] at ends
    have named {a : Applies} (h : Applies.ofCode applies.toNat = some a) :
        State.Ends (x.restrictionSet (r a).ident (r a).first (r a).last (r a).speed (some (r a).applies)) t := by
      rw [h] at ends
      exact ends
    refine ⟨t, out, fun isBad => ?_, fun a good code => ?_⟩
    · by_cases known : 2 < applies.toNat
      · rw [Applies.ofCode_none known] at ends
        change State.Ends { x with ssu := { x.ssu with malformed := satSucc 255 x.ssu.malformed } } t at ends
        rw [ssu] at ends
        exact ends
      · obtain ⟨a, code, _⟩ := Applies.ofCode_some (not_lt.1 known)
        have ended := named code
        rw [State.restrictionSet_eq, ssu, if_pos] at ended
        · exact ended
        · rcases isBad with h | h | h | h | h
          · exact Or.inl h
          · exact Or.inr (Or.inl h)
          · exact Or.inr (Or.inr (Or.inl h))
          · exact Or.inr (Or.inr (Or.inr h))
          · exact absurd h known
    · have ended := named (a := a) (by rw [code, Applies.ofCode_code])
      rw [State.restrictionSet_eq, ssu, if_neg] at ended
      · simp only [changes] at ended
        refine ⟨fun repeats => ?_, fun fresh room => ?_, fun fresh free full => ⟨fun c capped low => ?_,
          fun c capped high => ?_, fun uncapped => ?_⟩⟩
        · rwa [if_pos repeats] at ended
        · rw [if_neg fresh, if_pos room] at ended
          refine ⟨insertRestriction (r a) rest, insertRestriction_perm _ _, fun sorted => ?_, ?_⟩
          · refine insertRestriction_sorted _ (fun q hq => withoutIdent_fresh (l := l) ?_) (sorted.filter _)
            exact filtered.symm ▸ hq
          · rw [← filtered]
            exact ended
        all_goals rw [if_neg fresh, if_neg fun h => h.elim free (not_lt.2 full)] at ended
        · rwa [capped, capAfter_some, Nat.min_eq_left low, if_pos rfl] at ended
        · have other : ¬(some (r a).speed = some c) := fun h => (ne_of_lt high) (Option.some.inj h)
          rwa [capped, capAfter_some, Nat.min_eq_right high.le, if_neg other] at ended
        · rw [uncapped, if_neg (by nofun)] at ended
          exact ended
      · rintro (h | h | h | h)
        · exact good (Or.inl h)
        · exact good (Or.inr (Or.inl h))
        · exact good (Or.inr (Or.inr (Or.inl h)))
        · exact good (Or.inr (Or.inr (Or.inr (Or.inl h))))
  · obtain ⟨t, out, ends⟩ := exec_admitted (c := .restrictClear { flags := 0#4, addr := addr, payload := [ident] })
      (k := .restrictClear) rfl idle frozen rfl rfl (by decide) (by decide) (State.fits_any mine rfl rfl rfl)
      loss stop shadow
    change (State.restrictionClear (payloadField [ident] 0 1) (s.reached addr)).Ends t at ends
    rw [reached, show payloadField [ident] 0 1 = ident.toNat from beNat_one ident, State.restrictionClear_eq, ssu]
      at ends
    simp only [changes] at ends
    refine ⟨t, out, fun zero empty free => ?_, fun zero some_ => ?_, fun one present => ?_, fun one absent => ?_⟩
    · rwa [if_pos zero, if_pos ⟨empty, free⟩] at ends
    · rwa [if_pos zero, if_neg fun h => some_.elim (fun k => k h.1) fun k => k h.2] at ends
    · rw [if_neg one, if_pos present, ← filtered] at *
      exact ends
    · rwa [if_neg one, if_neg absent] at ends

end Sys2Proof.Machine
end

section
/-! EMERGENCY_CALL and CALL_CANCEL (R148 to R150), and the text queues (R157 to R160). -/

namespace Sys2Proof.Machine

/-! ### The calls -/

theorem any_call {ident : Nat} {l : List Call} : (l.any fun q => q.ident == ident) = true ↔ ∃ q ∈ l, q.ident = ident := by
  simp

/-- R148: the whole-line call that an overflow leaves. -/
theorem wholeLineAfter_eq (w : Option Severity) (v : Severity) :
    wholeLineAfter w v = if w = some .emergency then .emergency else v := by
  cases w with
  | none => rfl
  | some x => cases x <;> rfl

theorem State.takeCall_eq (x : State) (c : Call) : x.takeCall c =
    if ∃ q ∈ x.tgh.calls, q.ident = c.ident then
      x.setCalls (x.tgh.calls.map fun q => if q.ident = c.ident then c else q) x.tgh.wholeLine
    else if x.tgh.calls.length < 4 then x.setCalls (x.tgh.calls ++ [c]) x.tgh.wholeLine
    else x.setCalls x.tgh.calls
      (some (if x.tgh.wholeLine = some .emergency then .emergency else c.severity)) := by
  unfold State.takeCall
  simp only [any_call, wholeLineAfter_eq]
  rfl

theorem Severity.ofCode_some {n : Nat} (h : n ≤ 1) :
    Severity.ofCode n = some (if n = 0 then .service else .emergency) := by
  interval_cases n <;> rfl

theorem Severity.ofCode_none {n : Nat} (h : 1 < n) : Severity.ofCode n = none := by
  unfold Severity.ofCode
  rw [if_neg (by omega), if_neg (by omega)]

theorem State.takeEmergencyCall_eq (x : State) (ident f2 f1 f0 l2 l1 l0 sev : Byte) :
    x.takeEmergencyCall [ident, f2, f1, f0, l2, l1, l0, sev] =
      match Severity.ofCode sev.toNat with
      | none => x.formatError
      | some v =>
        if ident.toNat = 0 ∨ 120000 < limitOf l2 l1 l0 ∨ limitOf l2 l1 l0 < limitOf f2 f1 f0 then x.formatError
        else x.takeCall
          { ident := ident.toNat, first := limitOf f2 f1 f0, last := limitOf l2 l1 l0, severity := v } := by
  have first : payloadField [ident, f2, f1, f0, l2, l1, l0, sev] 0 1 = ident.toNat := beNat_one _
  have second : payloadField [ident, f2, f1, f0, l2, l1, l0, sev] 1 3 = limitOf f2 f1 f0 := beNat_three _ _ _
  have third : payloadField [ident, f2, f1, f0, l2, l1, l0, sev] 4 3 = limitOf l2 l1 l0 := beNat_three _ _ _
  have fourth : payloadField [ident, f2, f1, f0, l2, l1, l0, sev] 7 1 = sev.toNat := beNat_one _
  unfold State.takeEmergencyCall
  rw [first, second, third, fourth] <;> rfl

theorem State.setCalls_eq (x : State) (l : List Call) (w : Option Severity) : x.setCalls l w =
    if l = x.tgh.calls ∧ w = x.tgh.wholeLine then x
    else State.raise .link { x with tgh := { x.tgh with calls := l, wholeLine := w } } := rfl

theorem State.setCalls_tgh (x : State) (l : List Call) (w : Option Severity) :
    (x.setCalls l w).tgh.calls = l ∧ (x.setCalls l w).tgh.wholeLine = w := by
  rw [State.setCalls_eq]
  split_ifs with same
  · exact ⟨same.1.symm, same.2.symm⟩
  · exact ⟨rfl, rfl⟩

theorem State.setCalls_odu (x : State) (l : List Call) (w : Option Severity) : (x.setCalls l w).odu = x.odu := by
  rw [State.setCalls_eq]
  split_ifs <;> rfl

/-- R148: after an EMERGENCY_CALL taken, it or the whole-line call stands with its severity. -/
theorem State.takeCall_stands (x : State) (c : Call) (emergency : c.severity = .emergency) :
    (x.takeCall c).tgh.wholeLine = some .emergency ∨ c ∈ (x.takeCall c).tgh.calls := by
  rw [State.takeCall_eq]
  split_ifs with held room whole
  · rw [(x.setCalls_tgh _ _).1]
    obtain ⟨q, hq, same⟩ := held
    exact Or.inr (List.mem_map.2 ⟨q, hq, if_pos same⟩)
  · rw [(x.setCalls_tgh _ _).1]
    exact Or.inr (by simp)
  · rw [(x.setCalls_tgh _ _).2]
    exact Or.inl rfl
  · rw [(x.setCalls_tgh _ _).2, emergency]
    exact Or.inl rfl

theorem State.takeCall_odu (x : State) (c : Call) : (x.takeCall c).odu = x.odu := by
  simp

/-- R150: without a position, a standing emergency call makes the RADIO row EMERGENCY. -/
theorem State.Ends.called {u t : State} (h : u.Ends t) {c : Call} (severity : c.severity = .emergency)
    (stands : u.tgh.wholeLine = some .emergency ∨ c ∈ u.tgh.calls) (lost : u.odu.located = false) :
    t.brm.rows.radio = { level := .emergency, reason := some .callEmergency } ∧ t.brm.level = .emergency := by
  obtain ⟨-, -, calls, whole, -⟩ := u.takePending_reads
  have unplaced : ¬(t.odu.pos = .valid ∨ t.odu.pos = .restored) := by
    rw [h.1.odu, ← Odu.located_iff, lost]
    decide
  have raised : t.Calls .emergency := by
    unfold State.Calls
    rw [h.1.tgh, calls, whole]
    exact stands.imp id fun mem => ⟨c, mem, severity, fun placed => absurd placed unplaced⟩
  have row := h.lineRowsTrue.emergency raised
  exact ⟨row, h.2.1.level.trans (Brm.effective_emergency (i := .radio) (congrArg Row.level row))⟩

/-- Settles O46, by the cases of the two telegrams. -/
theorem callsChangeTheListAndBrake : Obligations.CallsChangeTheListAndBrake := by
  intro s addr ident f2 f1 f0 l2 l1 l0 sev frozen idle mine loss stop shadow got heard x first last c l held sets bad
  have reached : s.reached addr = x := s.reached_eq addr
  have tgh := s.reached_tgh addr
  have odu := s.reached_odu addr
  rw [reached] at tgh odu
  have calls : x.tgh.calls = l := by rw [tgh]
  have whole : x.tgh.wholeLine = s.tgh.wholeLine := by rw [tgh]
  have set_eq (l' : List Call) (w : Option Severity) : x.setCalls l' w = sets l' w := by
    rw [State.setCalls_eq, calls, whole]
  have formatted : x.formatError = { x with tgh := { x.tgh with
      formatErrors := if s.tgh.formatErrors < 65535 then s.tgh.formatErrors + 1 else s.tgh.formatErrors } } := by
    rw [State.formatError, satSucc_eq, show x.tgh.formatErrors = s.tgh.formatErrors by rw [tgh]]
  refine ⟨?_, ?_⟩
  · obtain ⟨t, out, ends⟩ := exec_admitted (c := .emergencyCall
        { flags := 0#4, addr := addr, payload := [ident, f2, f1, f0, l2, l1, l0, sev] })
      (k := .emergencyCall) rfl idle frozen rfl rfl (by decide) (by decide) (State.fits_any mine rfl rfl rfl)
      loss stop shadow
    change (State.takeEmergencyCall [ident, f2, f1, f0, l2, l1, l0, sev] (s.reached addr)).Ends t at ends
    rw [reached, State.takeEmergencyCall_eq] at ends
    have good (h : ¬bad) : (x.takeCall c).Ends t := by
      have ends' := ends
      obtain ⟨known, rest⟩ := not_or.1 h
      rw [Severity.ofCode_some (not_lt.1 known)] at ends'
      dsimp only at ends'
      rwa [if_neg (show ¬(ident.toNat = 0 ∨ 120000 < limitOf l2 l1 l0 ∨ limitOf l2 l1 l0 < limitOf f2 f1 f0) from rest)]
        at ends'
    refine ⟨t, out, fun isBad => ?_, fun h present => ?_, fun h absent room => ?_, fun h absent full => ?_,
      fun h emergency lost => ?_⟩
    · rw [formatted] at ends
      by_cases known : 1 < sev.toNat
      · rw [Severity.ofCode_none known] at ends
        exact ends
      · rw [Severity.ofCode_some (not_lt.1 known)] at ends
        dsimp only at ends
        rwa [if_pos (show ident.toNat = 0 ∨ 120000 < limitOf l2 l1 l0 ∨ limitOf l2 l1 l0 < limitOf f2 f1 f0 from
          isBad.resolve_left known)] at ends
    · have ended := good h
      rwa [State.takeCall_eq, calls, whole, if_pos present, set_eq] at ended
    · have ended := good h
      rwa [State.takeCall_eq, calls, whole, if_neg absent, if_pos room, set_eq] at ended
    · have ended := good h
      rwa [State.takeCall_eq, calls, whole, if_neg absent, if_neg (not_lt.2 full), set_eq] at ended
    · exact (good h).called emergency (x.takeCall_stands c emergency) (by rw [State.takeCall_odu, odu, lost])
  · obtain ⟨t, out, ends⟩ := exec_admitted (c := .callCancel { flags := 0#4, addr := addr, payload := [ident] })
      (k := .callCancel) rfl idle frozen rfl rfl (by decide) (by decide) (State.fits_any mine rfl rfl rfl)
      loss stop shadow
    change (State.takeCallCancel [ident] (s.reached addr)).Ends t at ends
    unfold State.takeCallCancel at ends
    rw [reached, show payloadField [ident] 0 1 = ident.toNat from beNat_one ident] at ends
    refine ⟨t, out, fun zero => ?_, fun one => ?_⟩
    · rwa [if_pos zero, set_eq] at ends
    · have filtered : (l.filter fun q => q.ident != ident.toNat) = l.filter fun q => decide (q.ident ≠ ident.toNat) := by
        congr 1
        funext q
        simp [bne, beq_eq_decide]
      rwa [if_neg one, set_eq, calls, whole, filtered] at ends

/-! ### The text queues -/

/-- R158: the texts that wait, told to port C. -/
theorem State.notifyTexts_eq (y : State) : y.notifyTexts = State.raiseOn .c .textQueued
    { y with tgh := { y.tgh with rxTexts := y.tgh.rxTexts.map fun q => { q with notified := true } } } := rfl

theorem State.takeText_eq (x : State) (e : Envelope) : x.takeText e =
    let y : State := { x with tgh := { x.tgh with rxTexts := x.tgh.rxTexts ++
      [{ payload := e.payload, toCar := decide (e.addr ≠ 0), arrival := x.now, notified := false }] } }
    if 8 ≤ x.tgh.rxTexts.length then { x with tgh := { x.tgh with
        rxOverflow := if x.tgh.rxOverflow < 255 then x.tgh.rxOverflow + 1 else x.tgh.rxOverflow } }
      else if x.par .qTrig ≤ x.tgh.rxTexts.length + 1 then y.notifyTexts
      else y := by
  unfold State.takeText
  dsimp only
  rw [List.length_append]
  by_cases full : 8 ≤ x.tgh.rxTexts.length
  · rw [if_neg (not_lt.2 full), if_pos full]
    rfl
  · rw [if_pos (not_le.1 full), if_neg full]
    rfl

/-- R157, R158: an admitted TEXT. -/
theorem text_queued (s : State) (addr : Byte) (bs : List Byte) (frozen : s.pst.frozen = true)
    (idle : s.vrl.tx.state = .idle) (mine : addr = 0#8 ∨ addr.toNat = s.par .carAddress)
    (loss : 0 < s.par .nLoss) (stop : 0 < s.par .nStop) (shadow : 0 < s.par .nShadow) (short : bs.length ≤ 12) :
    let x := s.reached addr
    let y : State := { x with tgh := { x.tgh with rxTexts := s.tgh.rxTexts ++
      [{ payload := bs, toCar := decide (addr ≠ 0#8), arrival := s.now, notified := false }] } }
    ∃ t, exec (.text { flags := 0#4, addr := addr, payload := bs }) s = .next t ∧
      State.Ends
        (if 8 ≤ s.tgh.rxTexts.length then { x with tgh := { x.tgh with
            rxOverflow := if s.tgh.rxOverflow < 255 then s.tgh.rxOverflow + 1 else s.tgh.rxOverflow } }
          else if s.par .qTrig ≤ s.tgh.rxTexts.length + 1 then y.notifyTexts
          else y) t := by
  intro x y
  have tgh := s.reached_tgh addr
  have now := s.reached_now addr
  have par := State.par_congr (s.reached_pst addr)
  have texts : x.tgh.rxTexts = s.tgh.rxTexts := by simp only [x]; rw [tgh]
  have overflow : x.tgh.rxOverflow = s.tgh.rxOverflow := by simp only [x]; rw [tgh]
  obtain ⟨t, out, ends⟩ := exec_admitted (c := .text { flags := 0#4, addr := addr, payload := bs })
    (k := .text) rfl idle frozen rfl rfl (by decide) (by decide)
    (State.fits_any mine rfl rfl (by simpa [TelegramKind.takesLength] using short)) loss stop shadow
  change (State.takeText { flags := 0#4, addr := addr, payload := bs } x).Ends t at ends
  rw [State.takeText_eq, texts, overflow, show x.par .qTrig = s.par .qTrig from par _] at ends
  refine ⟨t, out, ?_⟩
  simp only [y]
  rw [show s.now = x.now from now.symm]
  exact ends

theorem exec_textWaitExpiry_none {s : State} (h : s.textDue = none) : exec .textWaitExpiry s = .next s := by
  change execTextWaitExpiry s = _
  rw [execTextWaitExpiry, h]

theorem exec_textWaitExpiry_due {s : State} {d : Nat} (h : s.textDue = some d) :
    exec .textWaitExpiry s = .next (s.advanceTo d).notifyTexts := by
  change execTextWaitExpiry s = _
  rw [execTextWaitExpiry, h]

section
variable {s : State} {q : TextEntry} {rest : List TextEntry}

theorem State.textDue_none (h : s.tgh.rxTexts = q :: rest)
    (told : q.notified = true ∨ s.par .qTrig ≤ rest.length + 1) : s.textDue = none := by
  unfold State.textDue
  rw [h]
  simp only [List.length_cons]
  rcases told with told | told <;> simp [told]

theorem State.textDue_some (h : s.tgh.rxTexts = q :: rest) (untold : q.notified = false)
    (few : rest.length + 1 < s.par .qTrig) : s.textDue = some (q.arrival + s.par .tText * 1000) := by
  unfold State.textDue
  rw [h]
  simp [untold, few]

end

/-- R158: what the head of the queue waits for, when the entry before it is taken. -/
theorem State.testWaiting_due {z : State} {q : TextEntry} {rest : List TextEntry} (h : z.tgh.rxTexts = q :: rest)
    (due : q.notified = false ∧ rest.length + 1 < z.par .qTrig ∧ q.arrival + z.par .tText * 1000 ≤ z.now) :
    z.testWaiting = z.notifyTexts := by
  obtain ⟨untold, few, past⟩ := due
  unfold State.testWaiting
  rw [State.textDue_some h untold few]
  exact if_pos past

theorem State.testWaiting_not_due {z : State} {q : TextEntry} {rest : List TextEntry} (h : z.tgh.rxTexts = q :: rest)
    (waits : ¬(q.notified = false ∧ rest.length + 1 < z.par .qTrig ∧ q.arrival + z.par .tText * 1000 ≤ z.now)) :
    z.testWaiting = z := by
  unfold State.testWaiting
  by_cases told : q.notified = true ∨ z.par .qTrig ≤ rest.length + 1
  · rw [State.textDue_none h told]
  · obtain ⟨untold, few⟩ := not_or.1 told
    have untold' : q.notified = false := Bool.eq_false_iff.2 untold
    rw [State.textDue_some h untold' (not_le.1 few)]
    exact if_neg fun past => waits ⟨untold', not_le.1 few, past⟩

theorem State.testWaiting_empty {z : State} (h : z.tgh.rxTexts = []) : z.testWaiting = z := by
  unfold State.testWaiting State.textDue
  rw [h]

theorem exec_popText (p : Port) (s : State) : exec (.popText p) s = .next (s.serve .popText p 0 0) := rfl

theorem exec_sendText (p : Port) (s : State) : exec (.sendText p) s = .next (s.serve .sendText p 0 0) := rfl

/-- Settles O48, by the telegram, the timer and the two requests. -/
theorem textsAreQueuedAndTaken : Obligations.TextsAreQueuedAndTaken := by
  intro s addr bs p told
  have pops := ReqKind.permits_c (k := .popText) rfl
  have sends := ReqKind.permits_c (k := .sendText) rfl
  refine ⟨fun frozen idle mine loss stop shadow short => text_queued s addr bs frozen idle mine loss stop shadow short,
    fun empty => exec_textWaitExpiry_none ?_, fun q rest h k => exec_textWaitExpiry_none (State.textDue_none h k),
    fun q rest h untold few => exec_textWaitExpiry_due (State.textDue_some h untold few), fun other => ?_, ?_, ?_,
    fun other => ?_, ?_, ?_, ?_⟩
  · unfold State.textDue
    rw [empty]
  · rw [exec_popText, State.serve_other_port rfl other]
    rfl
  · rintro rfl empty
    rw [exec_popText, State.serve_refused (r := .conditions) pops]
    · rfl
    · change State.popHead _ = _
      unfold State.popHead
      rw [show (s.place .c .popText 0 0).tgh.rxTexts = s.tgh.rxTexts from rfl, empty]
  · rintro q rest rfl queue y waited
    have popped : (s.place .c .popText 0 0).answer .popText .c 0 0 = (State.testWaiting
        { s.place .c .popText 0 0 with tgh := { s.tgh with rxTexts := rest } }).accept := by
      change State.popHead _ = _
      unfold State.popHead
      rw [show (s.place .c .popText 0 0).tgh.rxTexts = s.tgh.rxTexts from rfl, queue]
      rfl
    rw [exec_popText, State.serve_accepted_only pops popped]
    cases rest with
    | nil =>
      refine ⟨fun _ => ?_, fun due => due.elim⟩
      rw [State.testWaiting_empty (z := { s.place .c .popText 0 0 with tgh := { s.tgh with rxTexts := [] } }) rfl]
      rfl
    | cons r more =>
      have queued : ({ s.place .c .popText 0 0 with tgh := { s.tgh with rxTexts := r :: more } } : State).tgh.rxTexts =
        r :: more := rfl
      refine ⟨fun waits => ?_, fun due => ?_⟩
      · rw [State.testWaiting_not_due queued waits]
        rfl
      · rw [State.testWaiting_due queued due]
        rfl
  · rw [exec_sendText, State.serve_other_port rfl other]
    rfl
  · rintro rfl long
    rw [exec_sendText, State.serve_refused (r := .badArgument) sends (if_pos long)]
    rfl
  · rintro rfl short full
    rw [exec_sendText, State.serve_refused (r := .full) sends
      ((if_neg (not_lt.2 short)).trans (if_neg (not_lt.2 full)))]
    rfl
  · rintro rfl short room o bytes
    rw [exec_sendText, State.serve_accepted_only sends ((if_neg (not_lt.2 short)).trans (if_pos room))]
    rfl

end Sys2Proof.Machine
end

section
/-! The profile telegrams (R151). -/

namespace Sys2Proof.Machine

theorem Lps.otherHolds_radio (l : Lps) :
    l.otherHolds .radio = true ↔ ∃ k, l.claim = some k ∧ k.holder = .portC := by
  unfold Lps.otherHolds
  cases l.claim with
  | none => simp
  | some k =>
    obtain ⟨holder, _, _⟩ := k
    cases holder <;> simp

theorem blocksExpected_eq (n : Nat) : blocksExpected n = (n + 7) / 8 := by simp [blocksExpected, ceilDiv]

section
variable (x : State)

theorem State.takeProfileOpen_eq (v1 v0 n1 n0 : Byte) : x.takeProfileOpen [v1, v0, n1, n0] =
    State.recordProfile .profileOpen none
      (x.openProfile .radio (v1.toNat * 256 + v0.toNat) (n1.toNat * 256 + n0.toNat)) := by
  unfold State.takeProfileOpen
  rw [show payloadField [v1, v0, n1, n0] 0 2 = _ from beNat_two v1 v0,
    show payloadField [v1, v0, n1, n0] 2 2 = _ from beNat_two n1 n0]

theorem State.takeProfileBlock_eq (offset : Byte) (block : List Byte) : x.takeProfileBlock (offset :: block) =
    State.recordProfile .profileBlock (some offset.toNat) (x.radioBlock offset.toNat block) := by
  unfold State.takeProfileBlock
  rw [show payloadField (offset :: block) 0 1 = _ from beNat_one offset]
  rfl

theorem State.takeProfileClose_eq (v1 v0 c3 c2 c1 c0 : Byte) : x.takeProfileClose [v1, v0, c3, c2, c1, c0] =
    State.recordProfile .profileClose none
      (x.closeProfile .radio (v1.toNat * 256 + v0.toNat) (c3 ++ c2 ++ c1 ++ c0)) := by
  unfold State.takeProfileClose
  rw [show payloadField [v1, v0, c3, c2, c1, c0] 0 2 = _ from beNat_two v1 v0,
    show BitVec.ofNat 32 (payloadField [v1, v0, c3, c2, c1, c0] 2 4) = _ from beNat_four c3 c2 c1 c0]

theorem State.takeProfileActivate_eq (v1 v0 : Byte) : x.takeProfileActivate [v1, v0] =
    State.recordProfile .profileActivate none (x.activateProfile .radio (v1.toNat * 256 + v0.toNat)) := by
  unfold State.takeProfileActivate
  rw [show payloadField [v1, v0] 0 2 = _ from beNat_two v1 v0]

/-- R151: the radio profile record, and the count of refusals. -/
theorem State.recordProfile_eq (k : TelegramKind) (o : Option Nat) (a : Answer) : State.recordProfile k o a =
    { a.state with tgh := { a.state.tgh with
      radioProfile := some { kind := k.code.toNat, result := a.result, offset := o }
      refusedProfile :=
        if a.result ≠ .accepted ∧ a.state.tgh.refusedProfile < 255 then a.state.tgh.refusedProfile + 1
        else a.state.tgh.refusedProfile } } := by
  unfold State.recordProfile
  have counted : (if a.result = .accepted then a.state.tgh.refusedProfile
      else satSucc 255 a.state.tgh.refusedProfile) =
      if a.result ≠ .accepted ∧ a.state.tgh.refusedProfile < 255 then a.state.tgh.refusedProfile + 1
        else a.state.tgh.refusedProfile := by
    by_cases accepted : a.result = .accepted <;> simp [accepted, satSucc_eq]
  rw [counted]

end

/-- Settles O47, telegram by telegram and by the answers of R28, R30, R31 and R34 in their order. -/
theorem profileTelegramsLoadTheStandbyBank : Obligations.ProfileTelegramsLoadTheStandbyBank := by
  intro s addr v1 v0 n1 n0 c3 c2 c1 c0 offset block frozen idle mine mine' eight loss stop shadow env h x writes
    version length check b i o switched port rejects
  have reached : s.reached addr = x := (s.reached_eq addr).trans (if_neg mine)
  have frame := s.reached_frame addr
  have tgh := s.reached_tgh addr
  have lps := s.reached_lps addr
  have odu := s.reached_odu addr
  have dka := s.reached_dka addr
  have ssu := s.reached_ssu addr
  rw [reached] at tgh lps odu dka ssu
  have wrote {k : TelegramKind} {q : Option Nat} {a : Answer} {t : State} {y : State} {r : ResultCode}
      (ends : (State.recordProfile k q a).Ends t) (answer : a = ⟨y, r, none⟩)
      (kept : y.tgh.refusedProfile = s.tgh.refusedProfile) : (writes y k.code.toNat q r).Ends t := by
    rw [State.recordProfile_eq, answer] at ends
    dsimp only at ends
    rw [kept] at ends
    exact ends
  have refused : x.tgh.refusedProfile = s.tgh.refusedProfile := by rw [tgh]
  have admitted {c : Instr} {k : TelegramKind} {bs : List Byte}
      (command : exec c s = .next (s.receive (telegramOf k (env bs)))) (code : TelegramKind.ofCode k.code = some k)
      (report : k ≠ .positionReport) (beacon : k ≠ .beacon) (fits : s.fits k (env bs) = true) :
      ∃ t, exec c s = .next t ∧ (State.actOn k (env bs) x).Ends t := by
    obtain ⟨t, out, ends⟩ := exec_admitted command idle frozen rfl code report beacon fits loss stop shadow
    exact ⟨t, out, reached ▸ ends⟩
  refine ⟨?_, ?_, ?_, ?_⟩
  · obtain ⟨t, out, ends⟩ := admitted (c := .profileOpenTelegram (env [v1, v0, n1, n0])) (k := .profileOpen)
      rfl rfl (by decide) (by decide) (State.fits_car mine mine' rfl rfl)
    change (State.takeProfileOpen [v1, v0, n1, n0] x).Ends t at ends
    rw [State.takeProfileOpen_eq] at ends
    have held : x.lps.otherHolds .radio = true ↔ port := by rw [Lps.otherHolds_radio, lps]
    refine ⟨t, out, fun busy => wrote ends (if_pos (held.2 busy)) refused, fun free bad => ?_, fun free low high => ?_⟩
    · exact wrote ends ((if_neg fun h => free (held.1 h)).trans (if_pos bad)) refused
    · refine wrote ends (((if_neg fun h => free (held.1 h)).trans
        (if_neg (not_or.2 ⟨Nat.not_lt.2 low, Nat.not_lt.2 high⟩))).trans ?_) refused
      rw [lps] <;> rfl
  · obtain ⟨t, out, ends⟩ := admitted (c := .profileBlock (env (offset :: block))) (k := .profileBlock)
      rfl rfl (by decide) (by decide) (State.fits_car mine mine' rfl (by simp [env, TelegramKind.takesLength, eight]))
    change (State.takeProfileBlock (offset :: block) x).Ends t at ends
    rw [State.takeProfileBlock_eq] at ends
    have rejected : ({ x with lps := x.lps.reject } : State) = rejects := by rw [lps] <;> rfl
    refine ⟨t, out, fun free => ?_, fun k claim => ?_⟩
    · refine wrote ends ?_ refused
      rw [State.radioBlock, lps, free, ← lps, rejected] <;> rfl
    · have answer : x.radioBlock o block =
          if k.holder = .portC then rejects.refuse .bankBusy
          else if b.state ≠ .opened then rejects.refuse .conditions
          else if blocksExpected k.length ≤ o then rejects.refuse .badArgument
          else ({ x with lps := s.lps.store o block } : State).accept := by
        rw [State.radioBlock, rejected, lps, claim]
      rw [answer, blocksExpected_eq] at ends
      have other (radio : k.holder = .radio) : k.holder ≠ .portC := by rw [radio]; decide
      refine ⟨fun busy => wrote ends (if_pos busy) refused, fun radio closed => ?_, fun radio opened late => ?_,
        fun radio opened expected => ?_⟩
      · exact wrote ends ((if_neg (other radio)).trans (if_pos closed)) refused
      · exact wrote ends ((if_neg (other radio)).trans ((if_neg (not_not.2 opened)).trans (if_pos late))) refused
      · exact wrote ends ((if_neg (other radio)).trans ((if_neg (not_not.2 opened)).trans
          (if_neg (not_le.2 expected)))) refused
  · obtain ⟨t, out, ends⟩ := admitted (c := .profileCloseTelegram (env [v1, v0, c3, c2, c1, c0])) (k := .profileClose)
      rfl rfl (by decide) (by decide) (State.fits_car mine mine' rfl rfl)
    change (State.takeProfileClose [v1, v0, c3, c2, c1, c0] x).Ends t at ends
    rw [State.takeProfileClose_eq] at ends
    refine ⟨t, out, fun free => ?_, fun k claim => ?_⟩
    · refine wrote ends ?_ refused
      rw [State.closeProfile, lps, free] <;> rfl
    · have answer : x.closeProfile .radio version check =
          if k.holder ≠ .radio then x.refuse .bankBusy
          else if b.state = .closed then x.refuse .conditions
          else if version ≠ k.version then x.refuse .version
          else (State.raiseIf (s.lps.blocksReceived != (k.length + 7) / 8) .profile
            { x with lps := s.lps.closed k check }).accept := by
        rw [State.closeProfile, lps, claim]
        dsimp only
        rw [blocksExpected_eq] <;> rfl
      rw [answer] at ends
      refine ⟨fun busy => ?_, fun mine closed => ?_, fun mine open' other => ?_, fun mine open' same whole => ?_,
        fun mine open' same part => ?_⟩
      · have other : k.holder ≠ .radio := by rw [busy]; decide
        exact wrote ends (if_pos other) refused
      · exact wrote ends ((if_neg (not_not.2 mine)).trans (if_pos closed)) refused
      · exact wrote ends ((if_neg (not_not.2 mine)).trans ((if_neg open').trans (if_pos other))) refused
      · refine wrote ends ((if_neg (not_not.2 mine)).trans ((if_neg open').trans
          ((if_neg (not_not.2 same)).trans ?_))) refused
        rw [Lps.closed, blocksExpected_eq, if_pos whole, whole, bne_self_eq_false] <;> rfl
      · have missing : (s.lps.blocksReceived != (k.length + 7) / 8) = true := by simpa using part
        refine wrote (y := State.raise .profile { x with lps := { s.lps.setBank i
            { b with state := .failed, result := some .missingBlocks } with
          claim := none, closeCheck := some check, blockMap := 0 } }) ends
          ((if_neg (not_not.2 mine)).trans ((if_neg open').trans ((if_neg (not_not.2 same)).trans ?_))) refused
        rw [Lps.closed, blocksExpected_eq, if_neg part, missing] <;> rfl
  · obtain ⟨t, out, ends⟩ := admitted (c := .profileActivateTelegram (env [v1, v0])) (k := .profileActivate)
      rfl rfl (by decide) (by decide) (State.fits_car mine mine' rfl rfl)
    change (State.takeProfileActivate [v1, v0] x).Ends t at ends
    rw [State.takeProfileActivate_eq] at ends
    have may : x.mayActivate = true ↔ s.odu.motion = .standstill ∨ s.dka.active = none := by
      rw [State.mayActivate_iff, odu, dka]
    have answer : x.activateProfile .radio version =
        if b.state ≠ .checked then x.refuse .notChecked
        else if b.version ≠ some version then x.refuse .version
        else if x.mayActivate then switched.accept
        else ({ x with lps := { s.lps with pendingAct := some (version, .radio) } } : State).accept := by
      have beacon : x.tgh.beacon = s.tgh.beacon := by rw [tgh]
      have outdated : x.tgh.outdated = s.tgh.outdated := by rw [tgh]
      rw [State.activateProfile, State.switchOver_eq, lps, ssu, beacon, outdated] <;> rfl
    rw [answer] at ends
    refine ⟨t, out, fun unchecked => ?_, fun checked other => ?_, fun checked same moves desk => ?_,
      fun checked same stands => ?_⟩
    · exact wrote ends (if_pos unchecked) refused
    · exact wrote ends ((if_neg (not_not.2 checked)).trans (if_pos other)) refused
    · exact wrote ends ((if_neg (not_not.2 checked)).trans ((if_neg (not_not.2 same)).trans
        (if_neg fun h => (may.1 h).elim moves desk))) refused
    · exact wrote ends ((if_neg (not_not.2 checked)).trans ((if_neg (not_not.2 same)).trans
        (if_pos (may.2 stands)))) refused

end Sys2Proof.Machine
end

section
/-! The receiver: half-periods, bits and frames (R130 to R138). -/

namespace Sys2Proof.Machine

/-! ### Bits -/

theorem ofBool_setWidth (n : Nat) (b : Bool) : (BitVec.ofBool b).setWidth n = if b then 1#n else 0#n := by
  apply BitVec.eq_of_toNat_eq
  cases b <;> simp

theorem crc16Bit_eq (r : BitVec 16) (b : Bool) :
    crc16Bit r b = if r.getLsbD 15 = b then r <<< 1 else (r <<< 1) ^^^ 0x1021#16 := by
  unfold crc16Bit
  rw [BitVec.msb_eq_getLsbD_last]
  cases r.getLsbD 15 <;> cases b <;> rfl

theorem headerLength_eq (h : BitVec 24) : headerLength h = h.toNat % 256 := by
  simp [headerLength, BitVec.extractLsb'_toNat]

theorem Transmitter.keyed_iff (t : Transmitter) : t.keyed = true ↔ t.state ≠ .idle := by
  simp [Transmitter.keyed]

theorem Receiver.inTelegram_iff (r : Receiver) : r.inTelegram = true ↔ r.state ≠ .hunt := by
  simp [Receiver.inTelegram]

/-! ### A decided bit -/

section
variable {s : State} {b : Bool}

theorem State.takeBit_hunt (h : s.vrl.rx.state = .hunt) : s.takeBit (some b) =
    { s with vrl := { s.vrl with rx := s.vrl.rx.countRun.huntBit b } } := by
  unfold State.takeBit
  dsimp only
  rw [show s.vrl.rx.countRun.state = .hunt from h]

theorem State.takeBit_header (h : s.vrl.rx.state = .header) : s.takeBit (some b) =
    State.headerBit b { s with vrl := { s.vrl with rx := s.vrl.rx.countRun } } := by
  unfold State.takeBit
  dsimp only
  rw [show s.vrl.rx.countRun.state = .header from h]

theorem State.takeBit_payload (h : s.vrl.rx.state = .payload) : s.takeBit (some b) =
    { s with vrl := { s.vrl with rx := s.vrl.rx.countRun.payloadBit b } } := by
  unfold State.takeBit
  dsimp only
  rw [show s.vrl.rx.countRun.state = .payload from h]

theorem State.takeBit_check (h : s.vrl.rx.state = .check) : s.takeBit (some b) =
    State.checkBit b { s with vrl := { s.vrl with rx := s.vrl.rx.countRun } } := by
  unfold State.takeBit
  dsimp only
  rw [show s.vrl.rx.countRun.state = .check from h]

end

theorem Receiver.huntBit_eq (r : Receiver) (b : Bool) : r.huntBit b =
    let reg := (r.flagReg <<< 1) ||| (if b then 1#16 else 0#16)
    if 15 ≤ r.flagLen ∧ reg = 0xB4C3#16 then
      { r with state := .header, flagReg := 0, flagLen := 0, crc := 0xFFFF#16, bitCount := 0, header := 0,
               payload := [], acc := 0, check := 0 }
    else { r with flagReg := reg, flagLen := min 16 (r.flagLen + 1) } := by
  have full : min 16 (r.flagLen + 1) = 16 ↔ 15 ≤ r.flagLen := by omega
  unfold Receiver.huntBit
  simp only [ofBool_setWidth, full]

theorem Receiver.payloadBit_eq (r : Receiver) (b : Bool) : r.payloadBit b =
    let acc := (r.acc <<< 1) ||| (if b then 1#8 else 0#8)
    let byte := (r.bitCount + 1) % 8 = 0
    let more := r.bitCount + 1 < 8 * (r.header.toNat % 256)
    { r with
      crc := if r.crc.getLsbD 15 = b then r.crc <<< 1 else (r.crc <<< 1) ^^^ 0x1021#16
      acc := if byte then 0#8 else acc
      payload := if byte then r.payload ++ [acc] else r.payload
      state := if more then r.state else .check
      bitCount := if more then r.bitCount + 1 else 0 } := by
  unfold Receiver.payloadBit
  simp only [ofBool_setWidth, headerLength_eq, crc16Bit_eq]
  split_ifs <;> rfl

theorem State.headerBit_eq (s : State) (b : Bool) : s.headerBit b =
    let r := s.vrl.rx
    let h := (r.header <<< 1) ||| (if b then 1#24 else 0#24)
    let n := h.toNat % 256
    let r' : Receiver := { r with
      header := h, crc := if r.crc.getLsbD 15 = b then r.crc <<< 1 else (r.crc <<< 1) ^^^ 0x1021#16
      bitCount := r.bitCount + 1 }
    if r.bitCount + 1 < 24 then { s with vrl := { s.vrl with rx := r' } }
    else if 12 < n then
      { s with vrl := { s.vrl with rx := r'.hunt, lengthErrors := satSucc 65535 s.vrl.lengthErrors } }
    else { s with vrl := { s.vrl with rx := { r' with
      state := if n = 0 then .check else .payload, bitCount := 0 } } } := by
  unfold State.headerBit
  simp only [ofBool_setWidth, headerLength_eq, crc16Bit_eq]
  split_ifs <;> rfl

/-! ### Edges -/

/-- R133: the settling of the bit in progress, with the parameters of another state. -/
theorem State.settleBit_eq {y : State} (start : Nat) {half last now : Nat} (width : y.par .tBit / 2 = half)
    (decided : y.vrl.rx.lastDecision = last) (clock : y.now = now) : y.settleBit start =
      if half ≤ start - last then State.decideBit now y
      else { y with vrl := { y.vrl with rx := { y.vrl.rx with nMark := 0, nSpace := 0, nNoise := 0 } } } := by
  rw [State.settleBit, width, decided, clock]

/-- R130 to R133: an edge, by its half-period. -/
theorem comparatorEdge_cases (s : State) (time : Nat) :
    let x := s.advanceTo time
    let q := s.vrl.rx
    let noted : State := { x with vrl := { x.vrl with rx := { q with lastEdge := some time } } }
    let at' (y : State) (r : Receiver) : State := { y with vrl := { y.vrl with rx := r } }
    (s.vrl.tx.state ≠ .idle →
      ∃ t, exec (.comparatorEdge time) s = .next t ∧ State.Ends x t) ∧
    (s.vrl.tx.state = .idle → q.lastEdge = none →
      ∃ t, exec (.comparatorEdge time) s = .next t ∧ State.Ends noted t) ∧
    (∀ e, s.vrl.tx.state = .idle → q.lastEdge = some e →
      let w := time - e
      let mark := s.par .markLo ≤ w ∧ w ≤ s.par .markHi
      let space := ¬mark ∧ s.par .spaceLo ≤ w ∧ w ≤ s.par .spaceHi
      let noise := ¬mark ∧ ¬space
      let same := (mark ∧ q.lastTone = some true) ∨ (space ∧ q.lastTone = some false)
      let z : State :=
        if s.par .tBit / 2 ≤ e - q.lastDecision then State.decideBit x.now noted
        else at' noted { noted.vrl.rx with nMark := 0, nSpace := 0, nNoise := 0 }
      ∃ t, exec (.comparatorEdge time) s = .next t ∧
        (noise → State.Ends (at' noted { noted.vrl.rx with nNoise := q.nNoise + 1 }) t) ∧
        (mark → same → State.Ends (at' noted { noted.vrl.rx with nMark := q.nMark + 1 }) t) ∧
        (space → same → State.Ends (at' noted { noted.vrl.rx with nSpace := q.nSpace + 1 }) t) ∧
        (mark → ¬same → State.Ends (at' z { z.vrl.rx with
          lastTone := some true, clock := some (e + s.par .tBit), nMark := z.vrl.rx.nMark + 1 }) t) ∧
        (space → ¬same → State.Ends (at' z { z.vrl.rx with
          lastTone := some false, clock := some (e + s.par .tBit), nSpace := z.vrl.rx.nSpace + 1 }) t)) := by
  intro x q noted at'
  obtain ⟨t, out, ends⟩ := exec_ends (show exec (.comparatorEdge time) s = .next (x.comparator time).finish from rfl)
  have rx : x.vrl.rx = q := by simp only [x, State.advanceTo_vrl, q]
  have keyed : x.vrl.tx.keyed = true ↔ s.vrl.tx.state ≠ .idle := by
    rw [Transmitter.keyed_iff]
    simp only [x, State.advanceTo_tx]
  have par (p : Param) : x.par p = s.par p := State.par_congr (State.advanceTo_pst s time) p
  rw [State.comparator, rx] at ends
  refine ⟨fun held => ?_, fun idle first => ?_, ?_⟩
  · rw [if_pos (keyed.2 held)] at ends
    exact ⟨t, out, ends⟩
  · rw [if_neg fun h => keyed.1 h idle, first] at ends
    exact ⟨t, out, ends⟩
  · intro e idle last w mark space noise same z
    rw [if_neg fun h => keyed.1 h idle, last] at ends
    have settled : State.settleBit e noted = z :=
      State.settleBit_eq e (congrArg (· / 2) (par .tBit)) rfl rfl
    have class_eq : noted.classify w = if mark then .mark else if s.par .spaceLo ≤ w ∧ w ≤ s.par .spaceHi then .space
        else .noise := by
      unfold State.classify
      rw [show noted.par .markLo = _ from par _, show noted.par .markHi = _ from par _,
        show noted.par .spaceLo = _ from par _, show noted.par .spaceHi = _ from par _]
    change (noted.halfPeriod e (noted.classify w)).Ends t at ends
    have rephased (tone : Bool) : noted.rephase e tone =
        at' z { z.vrl.rx with lastTone := some tone, clock := some (e + s.par .tBit) } := by
      rw [State.rephase, settled, show noted.par .tBit = s.par .tBit from par _]
    have fresh (m : mark) (sp : space) : False := sp.1 m
    refine ⟨t, out, fun n => ?_, fun m again => ?_, fun sp again => ?_, fun m new => ?_, fun sp new => ?_⟩
    · rw [class_eq, if_neg n.1, if_neg fun h => n.2 ⟨n.1, h⟩] at ends
      exact ends
    · have tone : noted.vrl.rx.lastTone = some true := again.elim (·.2) fun h => (fresh m h.1).elim
      rw [class_eq, if_pos m, State.halfPeriod] at ends
      dsimp only at ends
      rwa [if_pos tone] at ends
    · have tone : noted.vrl.rx.lastTone = some false := again.elim (fun h => (fresh h.1 sp).elim) (·.2)
      rw [class_eq, if_neg sp.1, if_pos sp.2, State.halfPeriod] at ends
      dsimp only at ends
      rwa [if_pos tone] at ends
    · have tone : noted.vrl.rx.lastTone ≠ some true := fun h => new (Or.inl ⟨m, h⟩)
      rw [class_eq, if_pos m, State.halfPeriod] at ends
      dsimp only at ends
      rw [if_neg tone, rephased] at ends
      exact ends
    · have tone : noted.vrl.rx.lastTone ≠ some false := fun h => new (Or.inr ⟨sp, h⟩)
      rw [class_eq, if_neg sp.1, if_pos sp.2, State.halfPeriod] at ends
      dsimp only at ends
      rw [if_neg tone, rephased] at ends
      exact ends

theorem frameDropped_cases (s : State) :
    let q := s.vrl.rx
    let hunt : Receiver := { q with state := .hunt, flagReg := 0, flagLen := 0 }
    (s.vrl.tx.state ≠ .idle → ∀ cause, exec (.frameDropped cause) s = .next s) ∧
    (s.vrl.tx.state = .idle →
      exec (.frameDropped .lengthError) s = .next { s with vrl := { s.vrl with
        rx := hunt
        lengthErrors :=
          if s.vrl.lengthErrors < 65535 then s.vrl.lengthErrors + 1 else s.vrl.lengthErrors } } ∧
      exec (.frameDropped .crcError) s = .next { s with vrl := { s.vrl with
        rx := hunt
        crcErrors := if s.vrl.crcErrors < 65535 then s.vrl.crcErrors + 1 else s.vrl.crcErrors } } ∧
      exec (.frameDropped .noise) s = .next { s with vrl := { s.vrl with
        rx := { hunt with run := 0, carrier := false }
        aborts := if s.vrl.aborts < 65535 then s.vrl.aborts + 1 else s.vrl.aborts } }) := by
  have command (cause : DropCause) : exec (.frameDropped cause) s =
      if s.vrl.tx.keyed then .next s else .next (s.dropFrame cause) := rfl
  refine ⟨fun held cause => ?_, fun idle => ⟨?_, ?_, ?_⟩⟩
  · rw [command, if_pos (s.vrl.tx.keyed_iff.2 held)]
  all_goals
    rw [command, if_neg fun h => s.vrl.tx.keyed_iff.1 h idle]
    rfl

/-! ### The receive bit clock -/

/-- R132: the bit of the half-periods counted, the receiver that starts the next one, and its run. -/
theorem exec_receiveBitClockEvent {s : State} {d : Nat} (h : s.vrl.rx.clock = some d) :
    let q := s.vrl.rx
    let y : Receiver := { q with
      clock := some (d + s.par .tBit), lastDecision := d, nMark := 0, nSpace := 0, nNoise := 0 }
    let bit : Option Bool :=
      if q.nSpace < q.nMark ∧ q.nNoise < q.nMark then some true
      else if q.nMark < q.nSpace ∧ q.nNoise < q.nSpace then some false
      else none
    let x := s.advanceTo d
    ∃ t, exec .receiveBitClockEvent s = .next t ∧
      (State.takeBit bit { x with vrl := { x.vrl with rx := y } }).Ends t := by
  intro q y bit x
  obtain ⟨t, out, ends⟩ := exec_ends (show exec .receiveBitClockEvent s = .next s.rxEvent.finish from rfl)
  have rx : x.vrl.rx = q := by simp only [x, State.advanceTo_vrl, q]
  have event : s.rxEvent = State.takeBit bit { x with vrl := { x.vrl with rx := y } } := by
    rw [State.rxEvent, h]
    change State.decideBit d { x with vrl := { x.vrl with rx := { x.vrl.rx with clock := some (d + s.par .tBit) } } } = _
    rw [rx]
    rfl
  exact ⟨t, out, event ▸ ends⟩

/-- Settles O41, edge by edge and bit by bit. -/
theorem receiverClassesEdgesAndDecidesBits : Obligations.ReceiverClassesEdgesAndDecidesBits := by
  refine ⟨fun s time => ?_, fun s => ⟨fun stopped => ?_, ?_⟩⟩
  · obtain ⟨keyed, first, next⟩ := comparatorEdge_cases s time
    obtain ⟨gated, dropped⟩ := frameDropped_cases s
    exact ⟨keyed, first, next, gated, dropped⟩
  · obtain ⟨t, out, ends⟩ := exec_ends (show exec .receiveBitClockEvent s = .next s.rxEvent.finish from rfl)
    rw [State.rxEvent, stopped] at ends
    exact ⟨t, out, ends⟩
  intro d running q x y bit takes run heard more crc size
  obtain ⟨t, out, ends⟩ := exec_receiveBitClockEvent running
  obtain ⟨aborts, lengths, crcs⟩ : x.vrl.aborts = s.vrl.aborts ∧ x.vrl.lengthErrors = s.vrl.lengthErrors ∧
      x.vrl.crcErrors = s.vrl.crcErrors := by simp [x]
  change (State.takeBit bit (takes y x.vrl)).Ends t at ends
  have counted : y.countRun = heard := rfl
  refine ⟨t, out, ?_, ?_, ?_, ?_, ?_, ?_, ?_⟩
  · intro noise
    rw [noise] at ends
    have counts : (if y.inTelegram then satSucc 65535 x.vrl.aborts else x.vrl.aborts) =
        if q.state = .hunt then s.vrl.aborts else more s.vrl.aborts := by
      rw [aborts]
      by_cases hunt : q.state = .hunt
      · rw [if_neg fun h => y.inTelegram_iff.1 h hunt, if_pos hunt]
      · rw [if_pos (y.inTelegram_iff.2 hunt), if_neg hunt] <;> rfl
    rw [← counts]
    exact ends
  · intro b decided hunt reg
    rw [decided, State.takeBit_hunt (s := takes y x.vrl) hunt] at ends
    change (takes (heard.huntBit b) x.vrl).Ends t at ends
    rwa [Receiver.huntBit_eq] at ends
  · intro b decided header few
    rw [decided, State.takeBit_header (s := takes y x.vrl) header] at ends
    change (State.headerBit b (takes heard x.vrl)).Ends t at ends
    rw [State.headerBit_eq] at ends
    dsimp only at ends
    rwa [if_pos (show q.bitCount + 1 < 24 by omega)] at ends
  · intro b decided header last h r n
    rw [decided, State.takeBit_header (s := takes y x.vrl) header] at ends
    change (State.headerBit b (takes heard x.vrl)).Ends t at ends
    rw [State.headerBit_eq] at ends
    dsimp only at ends
    rw [if_neg (show ¬q.bitCount + 1 < 24 by omega), show (takes heard x.vrl).vrl.rx.bitCount = 23 from last] at ends
    rw [← lengths]
    exact ends
  · intro b decided payload acc byte
    rw [decided, State.takeBit_payload (s := takes y x.vrl) payload] at ends
    change (takes (heard.payloadBit b) x.vrl).Ends t at ends
    rw [Receiver.payloadBit_eq, show heard.state = .payload from payload] at ends
    exact ends
  · intro b decided check few
    rw [decided, State.takeBit_check (s := takes y x.vrl) check] at ends
    change (State.checkBit b (takes heard x.vrl)).Ends t at ends
    unfold State.checkBit at ends
    rw [ofBool_setWidth] at ends
    dsimp only at ends
    rwa [if_pos (show q.bitCount + 1 < 16 by omega)] at ends
  · intro b decided check last c r telegram
    rw [decided, State.takeBit_check (s := takes y x.vrl) check] at ends
    change (State.checkBit b (takes heard x.vrl)).Ends t at ends
    unfold State.checkBit at ends
    rw [ofBool_setWidth] at ends
    dsimp only at ends
    rw [if_neg (show ¬q.bitCount + 1 < 16 by omega)] at ends
    rw [show (takes heard x.vrl).vrl.rx.bitCount = 15 from last] at ends
    rw [← crcs]
    exact ends

end Sys2Proof.Machine
end

section
/-! The transmit bit clock and the slots (R125 to R128, R140), and the slot wrap (R152 to R154). -/

namespace Sys2Proof.Machine

/-! ### The clock and the counters -/

/-- R125: a transmit bit clock event that brings the counters to a place. -/
def State.placed (s : State) (slot bit cycle : Nat) : State :=
  let x := s.advanceTo s.vrl.txTimer
  { x with vrl := { x.vrl with
    txTimer := s.vrl.txTimer + s.par .tBit, slot := slot, bit := bit, cycle := cycle } }

theorem State.txEventAt_eq (s : State) (slot cycle : Nat) : s.txEventAt slot cycle = (s.placed slot 0 cycle).arrive :=
  rfl

theorem State.txEvent_eq (s : State) : s.txEvent =
    if s.vrl.bit < 191 then (s.placed s.vrl.slot (s.vrl.bit + 1) s.vrl.cycle).arrive
    else if s.vrl.slot < 15 then (s.placed (s.vrl.slot + 1) 0 s.vrl.cycle).arrive
    else s.txEventAt 0 ((s.vrl.cycle + 1) % 4) := by
  obtain ⟨slot, bit, cycle⟩ : (s.advanceTo s.vrl.txTimer).vrl.slot = s.vrl.slot ∧
      (s.advanceTo s.vrl.txTimer).vrl.bit = s.vrl.bit ∧ (s.advanceTo s.vrl.txTimer).vrl.cycle = s.vrl.cycle := by
    simp
  rw [State.txEventAt_eq]
  unfold State.txEvent State.txClock State.atTimer State.placed Vrl.advance
  dsimp only
  rw [slot, bit, cycle]
  split_ifs <;> rfl

section
variable (s : State)

theorem exec_transmitBitClockEvent_within (h : s.vrl.bit < 191) : exec .transmitBitClockEvent s =
    .next (s.placed s.vrl.slot (s.vrl.bit + 1) s.vrl.cycle).arrive.finish := by
  change Host.Outcome.next s.txEvent.finish = _
  rw [State.txEvent_eq, if_pos h]

theorem exec_transmitBitClockEvent_slot (h : 191 ≤ s.vrl.bit) (slot : s.vrl.slot < 15) : exec .transmitBitClockEvent s =
    .next (s.placed (s.vrl.slot + 1) 0 s.vrl.cycle).arrive.finish := by
  change Host.Outcome.next s.txEvent.finish = _
  rw [State.txEvent_eq, if_neg (not_lt.2 h), if_pos slot]

theorem exec_slotWrap : exec .slotWrap s = .next (s.placed 0 0 ((s.vrl.cycle + 1) % 4)).arrive.finish := rfl

theorem exec_transmitBitClockEvent_wrap (h : 191 ≤ s.vrl.bit) (slot : 15 ≤ s.vrl.slot) :
    exec .transmitBitClockEvent s = exec .slotWrap s := by
  change Host.Outcome.next s.txEvent.finish = .next (s.txEventAt 0 _).finish
  rw [State.txEvent_eq, if_neg (not_lt.2 h), if_neg (not_lt.2 slot)]

theorem exec_missedBeaconTest : exec .missedBeaconTest s = .next (s.placed 1 0 s.vrl.cycle).arrive.finish := rfl

theorem exec_ownSlotEvent (own : s.par .carAddress ≠ 0) : exec .ownSlotEvent s =
    .next (s.placed (s.par .carAddress) 0 s.vrl.cycle).arrive.finish := by
  change (if s.par .carAddress = 0 then _ else _) = _
  rw [if_neg own] <;> rfl

theorem exec_ownSlotEvent_none (own : s.par .carAddress = 0) : exec .ownSlotEvent s = .next s :=
  if_pos own

theorem State.placed_par (slot bit cycle : Nat) (p : Param) : (s.placed slot bit cycle).par p = s.par p :=
  State.par_congr (State.advanceTo_pst s _) p

theorem State.placed_tx (slot bit cycle : Nat) :
    (s.placed slot bit cycle).vrl.tx = (s.advanceTo s.vrl.txTimer).vrl.tx := rfl

theorem State.placed_tx_state (slot bit cycle : Nat) : (s.placed slot bit cycle).vrl.tx.state = s.vrl.tx.state := by
  rw [State.placed_tx]
  simp

theorem State.placed_tx_next (slot bit cycle : Nat) : (s.placed slot bit cycle).vrl.tx.next = s.vrl.tx.next := by
  rw [State.placed_tx]
  simp

end

/-! ### The slots -/

/-- R140: the test for a missed beacon, in the words of the statements. -/
theorem State.missedTest_eq (y : State) : y.missedTest =
    let n := if y.vrl.missed < 255 then y.vrl.missed + 1 else y.vrl.missed
    let sync : Sync :=
      if y.vrl.sync = .unsynced then .unsynced
      else if n ≤ y.par .nCoast then .coasting
      else .unsynced
    let z : State := { y with vrl := { y.vrl with missed := n, sync := sync } }
    if y.vrl.mark then y else if sync = y.vrl.sync then z else z.raise .link := by
  unfold State.missedTest State.setSync syncAfterMiss satSucc
  by_cases marked : y.vrl.mark = true
  · rw [if_pos marked, if_pos marked]
  · rw [if_neg marked, if_neg marked]
    dsimp only
    generalize (if y.vrl.sync = .unsynced then Sync.unsynced
      else if (if y.vrl.missed < 255 then y.vrl.missed + 1 else y.vrl.missed) ≤ y.par .nCoast then .coasting
      else .unsynced) = sync
    by_cases same : sync = y.vrl.sync
    · rw [if_pos same, if_pos same.symm, same]
    · rw [if_neg same, if_neg (Ne.symm same)]

theorem State.slotEvents_within {y : State} (h : y.vrl.bit ≠ 0) : y.slotEvents = y := if_pos h

/-- R128, R140: bit 0 of a slot that the counters reach without a wrap. -/
theorem State.slotEvents_slot {y : State} (bit : y.vrl.bit = 0) (slot : y.vrl.slot ≠ 0) : y.slotEvents =
    let z := if y.vrl.slot = 1 then y.missedTest else y
    if y.vrl.slot = y.par .carAddress ∧ y.par .carAddress ≠ 0 then z.ownSlot else z := by
  unfold State.slotEvents
  rw [if_neg (not_not.2 bit), if_neg slot]

theorem State.slotEvents_wrap {y : State} (bit : y.vrl.bit = 0) (slot : y.vrl.slot = 0) :
    y.slotEvents = y.slotZero := by
  unfold State.slotEvents
  rw [if_neg (not_not.2 bit), if_pos slot]
  exact if_neg fun own => own.2 (own.1.symm.trans slot)

theorem State.missedTest_tx (y : State) : y.missedTest.vrl.tx = y.vrl.tx := by
  rw [State.missedTest_eq]
  dsimp only
  split_ifs <;> rfl

theorem State.ownSlot_keyed {y : State} (h : y.vrl.tx.state ≠ .idle) : y.ownSlot = y := by
  unfold State.ownSlot
  exact if_neg fun may => by simp [State.mayTransmit, (y.vrl.tx.keyed_iff).2 h] at may

/-! ### The shift -/

theorem State.shiftTx_idle {y : State} (h : y.vrl.tx.state = .idle) : y.shiftTx = y := by
  have unkeyed : y.vrl.tx.keyed = false := Bool.eq_false_iff.2 fun k => y.vrl.tx.keyed_iff.1 k h
  unfold State.shiftTx
  dsimp only
  rw [unkeyed] <;> rfl

theorem State.shiftTx_none {y : State} (h : y.vrl.tx.state ≠ .idle) (next : y.vrl.tx.next = none) :
    y.shiftTx = y.endTransmission := by
  unfold State.shiftTx
  dsimp only
  rw [y.vrl.tx.keyed_iff.2 h, next] <;> rfl

/-- R126: the transmitter with its next bit taken, in the words of the statements. -/
theorem State.shiftTx_some {y : State} {b : Bool} (h : y.vrl.tx.state ≠ .idle) (next : y.vrl.tx.next = some b) :
    y.shiftTx = { y with vrl := { y.vrl with tx := { y.vrl.tx with
      current := b, next := y.vrl.tx.stream.head?, stream := y.vrl.tx.stream.tail, count := y.vrl.tx.count + 1
      state := if y.vrl.tx.count < 7 then .lead else .sending
      halfEnd :=
        if y.vrl.tx.halfStart = y.now ∧ y.vrl.tx.halfEnd ≠ none then
          some (y.now + y.halfWidth y.vrl.tx.tone b)
        else y.vrl.tx.halfEnd } } } := by
  have half : y.halfEndWith b = if y.vrl.tx.halfStart = y.now ∧ y.vrl.tx.halfEnd ≠ none then
          some (y.now + y.halfWidth y.vrl.tx.tone b)
        else y.vrl.tx.halfEnd := by
    unfold State.halfEndWith
    simp only [Option.isSome_iff_ne_none]
  have lead : y.vrl.tx.count + 1 < 8 ↔ y.vrl.tx.count < 7 := by omega
  unfold State.shiftTx
  dsimp only
  rw [y.vrl.tx.keyed_iff.2 h, next]
  simp only [lead, half, Bool.not_true, Bool.false_eq_true, if_false]

theorem State.shiftTx_keyed {y : State} {b : Bool} (h : y.vrl.tx.state ≠ .idle) (next : y.vrl.tx.next = some b) :
    y.shiftTx.vrl.tx.state ≠ .idle := by
  rw [State.shiftTx_some h next]
  dsimp only
  split_ifs <;> decide

end Sys2Proof.Machine
end

section
/-! The slot wrap and the link state (R152 to R154). -/

namespace Sys2Proof.Machine

/-- R153: the radio shadow, in the words of the statements. -/
theorem State.inShadow_eq (s : State) : s.inShadow = match s.lps.profile with
    | none => false
    | some p => decide (s.odu.pos = .valid ∨ s.odu.pos = .restored) && p.segments.any fun g =>
        g.shadow && decide (g.start ≤ s.odu.pHi + s.par .lCar ∧
          (s.odu.pLo < g.stop ∨ (g.final = true ∧ s.odu.pLo = g.stop))) := by
  have located : s.odu.located = decide (s.odu.pos = .valid ∨ s.odu.pos = .restored) := by
    simp [Odu.located, Bool.decide_or, beq_eq_decide]
  unfold State.inShadow State.extentSegments
  rw [located]
  cases s.lps.profile with
  | none => simp
  | some p =>
    have any : (p.segmentsMeeting s.odu.pLo s.extentHi).any (fun g => g.shadow) = p.segments.any fun g =>
        g.shadow && decide (g.start ≤ s.odu.pHi + s.par .lCar ∧
          (s.odu.pLo < g.stop ∨ (g.final = true ∧ s.odu.pLo = g.stop))) := by
      unfold Profile.segmentsMeeting Segment.meets State.extentHi
      rw [List.any_filter]
      congr 1
      funext g
      rw [Bool.and_comm]
      simp only [Bool.decide_and, Bool.decide_or, Bool.decide_eq_true]
    simp only [Option.map_some]
    rw [any]

/-- R33: the radio's claim. -/
theorem State.abortRadioLoad_spec (s : State) :
    s.Tells s.abortRadioLoad .profile (∃ k, s.lps.claim = some k ∧ k.holder = .radio) ∧
    (¬(∃ k, s.lps.claim = some k ∧ k.holder = .radio) → s.abortRadioLoad.lps = s.lps) ∧
    ((∃ k, s.lps.claim = some k ∧ k.holder = .radio) → s.abortRadioLoad.lps = s.lps.emptyStandby) := by
  unfold State.abortRadioLoad
  cases claim : s.lps.claim with
  | none => exact ⟨State.Tells.never (by simp), fun _ => rfl, by simp⟩
  | some k =>
    have held : (∃ j, some k = some j ∧ j.holder = .radio) ↔ k.holder = .radio := by simp
    simp only [held]
    by_cases radio : k.holder = .radio
    · rw [if_pos radio]
      exact ⟨⟨fun _ => rfl, fun h => absurd radio h⟩, fun h => absurd radio h, fun _ => rfl⟩
    · rw [if_neg radio]
      exact ⟨State.Tells.never radio, fun _ => rfl, fun h => absurd h radio⟩

/-- R154: the link state set, with its notice, and the radio load that its leaving OK aborts. -/
theorem State.setLink_spec (s : State) (l : Link) :
    let aborts := s.tgh.link = .ok ∧ l ≠ .ok ∧ ∃ k, s.lps.claim = some k ∧ k.holder = .radio
    (∃ v, s.Tells v .link (l ≠ s.tgh.link) ∧ v.Tells (s.setLink l) .profile aborts) ∧
    (s.setLink l).tgh = { s.tgh with link := l } ∧
    (¬aborts → (s.setLink l).lps = s.lps) ∧ (aborts → (s.setLink l).lps = s.lps.emptyStandby) := by
  intro aborts
  unfold State.setLink
  by_cases same : s.tgh.link = l
  · have kept : ¬aborts := fun h => h.2.1 (same.symm.trans h.1)
    rw [if_pos same]
    exact ⟨⟨s, .never fun h => h same.symm, .never kept⟩, by rw [← same], fun _ => rfl, fun h => absurd h kept⟩
  · rw [if_neg same]
    generalize raised : State.raise .link { s with tgh := { s.tgh with link := l } } = v
    have told : s.Tells v .link (l ≠ s.tgh.link) := ⟨fun _ => by rw [← raised] <;> rfl, fun h => absurd (Ne.symm same) h⟩
    have tgh : v.tgh = { s.tgh with link := l } := by rw [← raised] <;> rfl
    have lps : v.lps = s.lps := by rw [← raised] <;> rfl
    dsimp only
    by_cases ok : s.tgh.link = .ok
    · have held : aborts ↔ ∃ k, v.lps.claim = some k ∧ k.holder = .radio := by
        rw [lps]
        exact ⟨fun h => h.2.2, fun h => ⟨ok, fun l' => same (ok.trans l'.symm), h⟩⟩
      obtain ⟨tells, kept, emptied⟩ := v.abortRadioLoad_spec
      rw [if_pos ok, ← lps]
      exact ⟨⟨v, told, tells.congr held⟩, by simp [tgh], fun h => kept fun k => h (held.2 k),
        fun h => emptied (held.1 h)⟩
    · have kept : ¬aborts := fun h => ok h.1
      rw [if_neg ok]
      exact ⟨⟨v, told, .never kept⟩, tgh, fun _ => lps, fun h => absurd h kept⟩

theorem State.setLink_frame_eq (s : State) (l : Link) : s.setLink l =
    { s with lps := (s.setLink l).lps, tgh := (s.setLink l).tgh, pif := (s.setLink l).pif } := by
  unfold State.setLink State.abortRadioLoad
  dsimp only
  split_ifs
  · rfl
  · split
    · rfl
    · split_ifs <;> rfl
  · rfl

/-- R126: what the slot wrap's event leaves of the transmitter. -/
theorem State.shiftTx_wrap {y : State} (h : y.vrl.tx.state = .idle ∨ y.vrl.tx.next ≠ none) :
    ∃ tx, y.shiftTx = { y with vrl := { y.vrl with tx := tx } } ∧
      (y.vrl.tx.state = .idle → tx = y.vrl.tx) ∧
      (y.vrl.tx.state ≠ .idle → ∀ b, y.vrl.tx.next = some b → tx = { y.vrl.tx with
        current := b, next := y.vrl.tx.stream.head?, stream := y.vrl.tx.stream.tail, count := y.vrl.tx.count + 1
        state := if y.vrl.tx.count < 7 then .lead else .sending
        halfEnd :=
          if y.vrl.tx.halfStart = y.now ∧ y.vrl.tx.halfEnd ≠ none then
            some (y.now + y.halfWidth y.vrl.tx.tone b)
          else y.vrl.tx.halfEnd }) := by
  by_cases idle : y.vrl.tx.state = .idle
  · exact ⟨_, (State.shiftTx_idle idle).trans rfl, fun _ => rfl, fun k => absurd idle k⟩
  · obtain ⟨b, next⟩ := Option.ne_none_iff_exists'.1 (h.resolve_left idle)
    refine ⟨_, State.shiftTx_some idle next, fun k => absurd k idle, fun _ c other => ?_⟩
    cases next.symm.trans other
    rfl

/-- Settles O39, by the shift, the count of silent cycles and the link state it gives. -/
theorem slotWrapCountsASilentCycle : Obligations.SlotWrapCountsASilentCycle := by
  intro s held x tx shifted shadow n link aborts
  obtain ⟨t, out, ends⟩ := exec_ends (exec_slotWrap s)
  have shadow_eq : s.inShadow = shadow := s.inShadow_eq
  generalize placed : s.placed 0 0 ((s.vrl.cycle + 1) % 4) = y at ends
  have frame : y = { x with vrl := { x.vrl with
    txTimer := s.vrl.txTimer + s.par .tBit, slot := 0, bit := 0, cycle := (s.vrl.cycle + 1) % 4 } } := placed.symm
  have ytx : y.vrl.tx = tx := by rw [frame]
  have state : tx.state = s.vrl.tx.state := by simp only [tx, x, State.advanceTo_tx]
  have next : tx.next = s.vrl.tx.next := by simp only [tx, x, State.advanceTo_tx]
  obtain ⟨tx', shift, idle, keyed⟩ := State.shiftTx_wrap (y := y) (by rwa [ytx, state, next])
  have tx'_eq : tx' = if tx.state = .idle then tx else shifted := by
    by_cases h : tx.state = .idle
    · rw [if_pos h, idle (ytx ▸ h), ytx]
    · obtain ⟨b, hb⟩ := Option.ne_none_iff_exists'.1 (held.resolve_left fun k => h (state.trans k))
      have hb' : tx.next = some b := next.trans hb
      rw [if_neg h, keyed (ytx ▸ h) b (ytx ▸ hb')]
      simp only [shifted, hb']
      have width (high mark : Bool) : y.halfWidth high mark = s.halfWidth high mark := by
        unfold State.halfWidth
        have par (p : Param) : y.par p = s.par p := by
          rw [← placed, State.placed_par]
        simp only [par]
      rw [width, frame]
      rfl
  generalize marked : ({ y.shiftTx with
      vrl := { y.shiftTx.vrl with mark := false }
      tgh := { y.shiftTx.tgh with silent := satSucc 255 y.shiftTx.tgh.silent } } : State) = z
  have zframe : z = { x with
      vrl := { x.vrl with
        txTimer := s.vrl.txTimer + s.par .tBit, slot := 0, bit := 0, cycle := (s.vrl.cycle + 1) % 4, mark := false
        tx := if tx.state = .idle then tx else shifted }
      tgh := { x.tgh with silent := satSucc 255 x.tgh.silent } } := by
    rw [← marked, shift, tx'_eq, frame]
  have odu : z.odu = s.odu := by rw [zframe]; exact s.advanceTo_odu _
  have lps : z.lps = s.lps := by rw [zframe]; exact s.advanceTo_lps _
  have pst : z.pst = s.pst := by rw [zframe]; exact s.advanceTo_pst _
  have tgh : z.tgh = { s.tgh with silent := n } := by
    rw [zframe]
    simp only [x, State.advanceTo_tgh]
    rfl
  have shade : z.inShadow = shadow := (State.inShadow_congr odu lps pst).trans shadow_eq
  have zlink : z.linkFor shadow = link := by
    unfold State.linkFor
    rw [tgh, State.par_congr pst, State.par_congr pst, State.par_congr pst]
  have arrive : y.arrive = State.setLink link { z with tgh := { z.tgh with shadowUsed := shadow } } := by
    rw [State.arrive, State.slotEvents_wrap (by rw [shift, frame]) (by rw [shift, frame]), ← zlink, ← shade, ← marked]
    rfl
  rw [arrive] at ends
  have spec := State.setLink_spec { z with tgh := { z.tgh with shadowUsed := shadow } } link
  have rest := State.setLink_frame_eq { z with tgh := { z.tgh with shadowUsed := shadow } } link
  generalize State.setLink link { z with tgh := { z.tgh with shadowUsed := shadow } } = u at ends spec rest
  have pif : z.pif = x.pif := by rw [zframe]
  have here : z.tgh.link = s.tgh.link := by rw [tgh]
  dsimp only at spec
  rw [here, lps, tgh] at spec
  obtain ⟨⟨v, told, tells⟩, utgh, kept, emptied⟩ := spec
  refine ⟨t, u, out, ends, ?_, ⟨v, told.from pif, tells⟩, ?_, utgh, shadow_eq, kept, emptied⟩
  · rw [rest, zframe]
  · rw [rest, zframe]

end Sys2Proof.Machine
end

section
/-! A transmission in progress (R126 to R130). -/

namespace Sys2Proof.Machine

/-! ### The clock and a transmission -/

theorem State.placed_eq (s : State) (slot bit : Nat) : s.placed slot bit s.vrl.cycle =
    let x := s.advanceTo s.vrl.txTimer
    { x with vrl := { x.vrl with txTimer := s.vrl.txTimer + s.par .tBit, slot := slot, bit := bit } } := by
  unfold State.placed
  dsimp only
  congr 2
  simp

theorem State.placed_within (s : State) (bit : Nat) : s.placed s.vrl.slot bit s.vrl.cycle =
    let x := s.advanceTo s.vrl.txTimer
    { x with vrl := { x.vrl with txTimer := s.vrl.txTimer + s.par .tBit, bit := bit } } := by
  rw [State.placed_eq]
  dsimp only
  congr 2
  simp

/-- A transmitter with no half-wave in progress stands while the clock advances. -/
theorem State.rollTone_still {s : State} (h : s.vrl.tx.halfEnd = none) (now : Nat) : s.rollTone now = s.vrl.tx := by
  unfold State.rollTone
  rw [h]

/-- R128, R130: the clock's advance commutes with the end of a transmission. -/
theorem State.advanceTo_released (s : State) (d : Nat) (rx : Receiver) (transmitted : Nat) (tx : Transmitter)
    (still : tx.halfEnd = none) :
    State.advanceTo d { s with vrl := { s.vrl with tx := tx, rx := rx, transmitted := transmitted } } =
      let x := s.advanceTo d
      { x with vrl := { x.vrl with tx := tx, rx := rx, transmitted := transmitted } } := by
  unfold State.advanceTo
  dsimp only
  split_ifs
  · rfl
  · rw [State.rollTone_still still] <;> rfl

/-- The tone output does not depend on the bits that follow. -/
theorem Transmitter.toneRoll_emptied (width : Bool → Bool → Nat) (now : Nat) (n : Nat) (tx : Transmitter) :
    Transmitter.toneRoll width now n { tx with next := none, stream := [] } =
      { Transmitter.toneRoll width now n tx with next := none, stream := [] } := by
  induction n generalizing tx with
  | zero => rfl
  | succ n ih =>
    obtain ⟨state, current, next, stream, count, tone, start, half⟩ := tx
    cases half with
    | none => rfl
    | some e =>
      unfold Transmitter.toneRoll
      dsimp only
      split_ifs
      · rfl
      · exact ih { state := state, current := current, next := next, stream := stream, count := count, tone := !tone,
                   halfStart := e, halfEnd := some (e + width (!tone) current) }

theorem State.advanceTo_emptied (s : State) (d slot bit cycle : Nat) :
    State.advanceTo d { s with vrl := { s.vrl with
      bit := bit, slot := slot, cycle := cycle, tx := { s.vrl.tx with next := none, stream := [] } } } =
      let x := s.advanceTo d
      { x with vrl := { x.vrl with
        bit := bit, slot := slot, cycle := cycle, tx := { x.vrl.tx with next := none, stream := [] } } } := by
  unfold State.advanceTo
  dsimp only
  split_ifs
  · rfl
  · have rolled : State.rollTone { s with vrl := { s.vrl with
        bit := bit, slot := slot, cycle := cycle, tx := { s.vrl.tx with next := none, stream := [] } } } d =
        { s.rollTone d with next := none, stream := [] } := by
      unfold State.rollTone
      dsimp only
      split
      · rfl
      · exact Transmitter.toneRoll_emptied _ _ _ _
    rw [rolled] <;> rfl

/-! ### An event that takes a bit -/

theorem State.arrive_shifted {y : State} {b : Bool} (keyed : y.vrl.tx.state ≠ .idle)
    (next : y.vrl.tx.next = some b) (bit : y.vrl.bit = 0) (slot : y.vrl.slot ≠ 0) :
    y.arrive = if y.vrl.slot = 1 then y.shiftTx.missedTest else y.shiftTx := by
  have same : y.shiftTx.vrl.bit = y.vrl.bit ∧ y.shiftTx.vrl.slot = y.vrl.slot := by
    rw [State.shiftTx_some keyed next]
    exact ⟨rfl, rfl⟩
  unfold State.arrive
  rw [State.slotEvents_slot (same.1.trans bit) (same.2 ▸ slot)]
  dsimp only
  have still : (if y.shiftTx.vrl.slot = 1 then y.shiftTx.missedTest else y.shiftTx).vrl.tx.state ≠ .idle := by
    split_ifs
    · rw [State.missedTest_tx]
      exact State.shiftTx_keyed keyed next
    · exact State.shiftTx_keyed keyed next
  rw [State.ownSlot_keyed still, ite_self, same.2]

/-! ### The counters -/

/-- The place of the counters, in bits from the start of cycle 0. -/
def Vrl.place (v : Vrl) : Nat := (v.cycle * 16 + v.slot) * 192 + v.bit

/-- The counters at a place. -/
def Vrl.at (v : Vrl) (n : Nat) : Vrl :=
  { v with bit := n % 192, slot := n / 192 % 16, cycle := n / 3072 % 4 }

theorem Vrl.at_place {v : Vrl} (bit : v.bit < 192) (slot : v.slot < 16) (cycle : v.cycle < 4) :
    v.at v.place = v := by
  unfold Vrl.at Vrl.place
  rw [show ((v.cycle * 16 + v.slot) * 192 + v.bit) % 192 = v.bit by omega,
    show ((v.cycle * 16 + v.slot) * 192 + v.bit) / 192 % 16 = v.slot by omega,
    show ((v.cycle * 16 + v.slot) * 192 + v.bit) / 3072 % 4 = v.cycle by omega]

/-- R125: an advance moves the place on by one. -/
theorem Vrl.advance_at (v : Vrl) (n : Nat) : (v.at n).advance = v.at (n + 1) := by
  unfold Vrl.advance Vrl.at
  dsimp only
  split_ifs with bit slot
  · rw [show (n + 1) % 192 = n % 192 + 1 by omega, show (n + 1) / 192 % 16 = n / 192 % 16 by omega,
      show (n + 1) / 3072 % 4 = n / 3072 % 4 by omega]
  · rw [show (n + 1) % 192 = 0 by omega, show (n + 1) / 192 % 16 = n / 192 % 16 + 1 by omega,
      show (n + 1) / 3072 % 4 = n / 3072 % 4 by omega]
  · rw [show (n + 1) % 192 = 0 by omega, show (n + 1) / 192 % 16 = 0 by omega,
      show (n + 1) / 3072 % 4 = (n / 3072 % 4 + 1) % 4 by omega]

theorem Vrl.advanceBy_at (v : Vrl) (k n : Nat) : (v.at n).advanceBy k = v.at (n + k) := by
  induction k generalizing n with
  | zero => rfl
  | succ k ih => rw [Vrl.advanceBy, Vrl.advance_at, ih, Nat.add_right_comm, Nat.add_assoc]

/-- R125: advances within a slot. -/
theorem Vrl.advanceBy_within (v : Vrl) (k : Nat) (h : v.bit + k ≤ 191) :
    v.advanceBy k = { v with bit := v.bit + k } := by
  induction k generalizing v with
  | zero => rfl
  | succ k ih =>
    have one : v.advance = { v with bit := v.bit + 1 } := if_pos (by omega)
    rw [Vrl.advanceBy, one, ih _ (by dsimp only; omega)]
    dsimp only
    rw [Nat.add_right_comm, Nat.add_assoc]

/-! ### The last event -/

theorem exec_transmissionEnd {s : State} (keyed : s.vrl.tx.state ≠ .idle) :
    exec .transmissionEnd s = .next s.txLastEvent.finish := by
  change (if s.vrl.tx.keyed then _ else _) = _
  rw [if_pos (s.vrl.tx.keyed_iff.2 keyed)]

theorem exec_transmissionEnd_idle {s : State} (idle : s.vrl.tx.state = .idle) :
    exec .transmissionEnd s = .next s := by
  change (if s.vrl.tx.keyed then _ else _) = _
  rw [if_neg fun k => s.vrl.tx.keyed_iff.1 k idle]

/-- R128: an event that finds no bit ends the transmission first. -/
theorem State.arrive_ended {y : State} (keyed : y.vrl.tx.state ≠ .idle) (next : y.vrl.tx.next = none) :
    y.arrive = y.endTransmission.slotEvents := by
  rw [State.arrive, State.shiftTx_none keyed next]

/-- R128, R130: the state from which the event that finds no bit is one that finds the key released. -/
def State.released (s : State) : State :=
  let x := s.advanceTo s.vrl.txTimer
  { s with vrl := { s.vrl with
    tx := { x.vrl.tx with state := .idle, next := none, stream := [], tone := false, halfEnd := none }
    rx := s.vrl.rx.restart x.now (s.par .tBit)
    transmitted := (s.vrl.transmitted + 1) % 65536 } }

theorem State.released_arrive {s : State} (keyed : s.vrl.tx.state ≠ .idle) (next : s.vrl.tx.next = none)
    (slot bit cycle : Nat) : (s.placed slot bit cycle).arrive = (s.released.placed slot bit cycle).arrive := by
  have idle : (s.released.placed slot bit cycle).vrl.tx.state = .idle := State.placed_tx_state _ slot bit cycle
  have placed : s.released.placed slot bit cycle = (s.placed slot bit cycle).endTransmission := by
    have rx : (s.advanceTo s.vrl.txTimer).vrl.rx = s.vrl.rx := by simp
    have count : (s.advanceTo s.vrl.txTimer).vrl.transmitted = s.vrl.transmitted := by simp
    have advanced : s.released.advanceTo s.released.vrl.txTimer = _ :=
      State.advanceTo_released s s.vrl.txTimer (s.vrl.rx.restart _ (s.par .tBit)) _ _ rfl
    unfold State.endTransmission
    rw [State.placed_par, State.placed, advanced]
    unfold State.placed
    dsimp only
    rw [rx, count] <;> rfl
  rw [State.arrive_ended (by rwa [State.placed_tx_state]) (by rwa [State.placed_tx_next]), State.arrive,
    State.shiftTx_idle idle, placed]

theorem exec_released {s : State} (keyed : s.vrl.tx.state ≠ .idle) (next : s.vrl.tx.next = none) {c : Instr}
    (h : c ∈ [Instr.transmitBitClockEvent, .slotWrap, .missedBeaconTest, .ownSlotEvent])
    (own : c ≠ .ownSlotEvent ∨ s.par .carAddress ≠ 0) : exec c s = exec c s.released := by
  have arrives := State.released_arrive keyed next
  simp only [List.mem_cons, List.not_mem_nil, or_false] at h
  rcases h with rfl | rfl | rfl | rfl
  · by_cases within : s.vrl.bit < 191
    · rw [exec_transmitBitClockEvent_within s within, exec_transmitBitClockEvent_within s.released within, arrives] <;> rfl
    · by_cases slot : s.vrl.slot < 15
      · rw [exec_transmitBitClockEvent_slot s (not_lt.1 within) slot,
          exec_transmitBitClockEvent_slot s.released (not_lt.1 within) slot, arrives] <;> rfl
      · rw [exec_transmitBitClockEvent_wrap s (not_lt.1 within) (not_lt.1 slot),
          exec_transmitBitClockEvent_wrap s.released (not_lt.1 within) (not_lt.1 slot), exec_slotWrap, exec_slotWrap,
          arrives] <;> rfl
  · rw [exec_slotWrap, exec_slotWrap, arrives] <;> rfl
  · rw [exec_missedBeaconTest, exec_missedBeaconTest, arrives] <;> rfl
  · have addressed := own.resolve_left fun h => h rfl
    rw [exec_ownSlotEvent s addressed, exec_ownSlotEvent s.released addressed, arrives] <;> rfl

theorem Vrl.advance_tx (v : Vrl) (tx : Transmitter) : ({ v with tx := tx } : Vrl).advance = { v.advance with tx := tx } := by
  unfold Vrl.advance
  dsimp only
  split_ifs <;> rfl

/-- R128: TRANSMISSION_END is the last of the events that remain. -/
theorem State.txLastEvent_eq {s : State} (keyed : s.vrl.tx.state ≠ .idle) (bit : s.vrl.bit < 192)
    (slot : s.vrl.slot < 16) (cycle : s.vrl.cycle < 4) {k : Nat} (left : s.vrl.tx.eventsLeft = k + 1) :
    let n := s.vrl.place + k
    s.txLastEvent = State.txEvent { s with vrl := { s.vrl with
      bit := n % 192, slot := n / 192 % 16, cycle := n / 3072 % 4
      tx := { s.vrl.tx with next := none, stream := [] } } } := by
  intro n
  obtain ⟨vbit, vslot, vcycle⟩ : (s.advanceTo s.vrl.txTimer).vrl.bit = s.vrl.bit ∧
      (s.advanceTo s.vrl.txTimer).vrl.slot = s.vrl.slot ∧ (s.advanceTo s.vrl.txTimer).vrl.cycle = s.vrl.cycle := by
    simp
  have state : (s.advanceTo s.vrl.txTimer).vrl.tx.state = s.vrl.tx.state := by simp
  have advanced := s.advanceTo_emptied s.vrl.txTimer (n / 192 % 16) (n % 192) (n / 3072 % 4)
  unfold State.txLastEvent State.txEvent State.txClock State.atTimer
  dsimp only at advanced ⊢
  rw [advanced, left]
  generalize s.advanceTo s.vrl.txTimer = x at vbit vslot vcycle state
  dsimp only
  generalize clocked : ({ x.vrl with txTimer := s.vrl.txTimer + s.par .tBit } : Vrl) = v
  have place : v.place = s.vrl.place := by
    rw [← clocked, Vrl.place, Vrl.place, ← vbit, ← vslot, ← vcycle]
  have here : v.at s.vrl.place = v := by
    rw [← place]
    refine Vrl.at_place ?_ ?_ ?_
    · rw [← clocked]
      exact vbit ▸ bit
    · rw [← clocked]
      exact vslot ▸ slot
    · rw [← clocked]
      exact vcycle ▸ cycle
  have counted : v.advanceBy (k + 1) = (v.at n).advance := by
    have last := Vrl.advanceBy_at v (k + 1) s.vrl.place
    rw [here] at last
    rw [Vrl.advance_at, last]
    rfl
  have tx : (v.at n).advance.tx = x.vrl.tx := by
    rw [Vrl.advance_at, ← clocked] <;> rfl
  rw [counted]
  subst clocked
  change _ = State.arrive { x with vrl :=
    ({ Vrl.at { x.vrl with txTimer := s.vrl.txTimer + s.par .tBit } n with
      tx := { x.vrl.tx with next := none, stream := [] } } : Vrl).advance }
  rw [Vrl.advance_tx _ { x.vrl.tx with next := none, stream := [] }]
  have keyed' : x.vrl.tx.state ≠ .idle := by rwa [state]
  refine Eq.trans ?_ (State.arrive_ended (by exact keyed') rfl).symm
  unfold State.endTransmission
  dsimp only
  rw [tx] <;> rfl

/-- Settles O40, by the event that takes a bit and the one that finds none. -/
theorem transmissionIsShiftedOutAndEnds : Obligations.TransmissionIsShiftedOutAndEnds := by
  intro s x tx place ended shifted tested own reaches released left
  have state (slot bit cycle : Nat) : (s.placed slot bit cycle).vrl.tx.state = tx.state := s.placed_tx_state slot bit cycle
  have next (slot bit cycle : Nat) : (s.placed slot bit cycle).vrl.tx.next = tx.next := s.placed_tx_next slot bit cycle
  have width (slot bit cycle : Nat) (high mark : Bool) : (s.placed slot bit cycle).halfWidth high mark =
      s.halfWidth high mark := by
    unfold State.halfWidth
    simp only [State.placed_par]
  have stream : x.vrl.tx.stream = tx.stream := by simp [x, tx]
  have count : x.vrl.tx.count = tx.count := by simp [x, tx]
  have shift (b : Bool) (slot bit cycle : Nat) (keyed : tx.state ≠ .idle) (more : tx.next = some b) :
      (s.placed slot bit cycle).shiftTx = shifted b (s.placed slot bit cycle) := by
    rw [State.shiftTx_some (by rwa [state]) ((next _ _ _).trans more), width]
    simp only [shifted]
    rw [show (s.placed slot bit cycle).vrl.tx.stream = tx.stream from stream,
      show (s.placed slot bit cycle).vrl.tx.count = tx.count from count]
    rfl
  have placed (slot bit : Nat) : s.placed slot bit s.vrl.cycle =
      { x with vrl := { x.vrl with txTimer := s.vrl.txTimer + s.par .tBit, slot := slot, bit := bit } } :=
    s.placed_eq slot bit
  have within (bit : Nat) : s.placed s.vrl.slot bit s.vrl.cycle = place bit := s.placed_within bit
  have ends_of (y : State) (par : y.par .tBit = s.par .tBit) : y.endTransmission = ended y := by
    unfold State.endTransmission
    rw [par] <;> rfl
  have tested_eq (y : State) (par : y.par .nCoast = s.par .nCoast) : y.missedTest = tested y := by
    rw [State.missedTest_eq, par]
  have reaches_eq (b : Bool) (n : Nat) (nonzero : n ≠ 0) (keyed : tx.state ≠ .idle) (more : tx.next = some b) :
      (s.placed n 0 s.vrl.cycle).arrive = reaches b n := by
    have par : (shifted b (s.placed n 0 s.vrl.cycle)).par .nCoast = s.par .nCoast := State.placed_par s n 0 s.vrl.cycle _
    rw [State.arrive_shifted (by rwa [state]) ((next _ _ _).trans more) rfl nonzero, shift b n 0 _ keyed more,
      tested_eq _ par, placed] <;> rfl
  refine ⟨fun b keyed more inside => ?_, fun b keyed more => ⟨fun last slot => ?_, ?_, fun addressed => ?_⟩,
    exec_transmitBitClockEvent_wrap s, exec_ownSlotEvent_none s, fun keyed none' c mem other => ?_,
    fun keyed none' inside => ?_, exec_transmissionEnd_idle, fun keyed inside => ?_, fun keyed bit slot cycle => ?_⟩
  · obtain ⟨t, out, ends⟩ := exec_ends (exec_transmitBitClockEvent_within s inside)
    have arrived : (s.placed s.vrl.slot (s.vrl.bit + 1) s.vrl.cycle).arrive = shifted b (place (s.vrl.bit + 1)) := by
      rw [State.arrive, shift b _ _ _ keyed more, within]
      exact State.slotEvents_within (Nat.succ_ne_zero _)
    exact ⟨t, out, arrived ▸ ends⟩
  · obtain ⟨t, out, ends⟩ := exec_ends (exec_transmitBitClockEvent_slot s last slot)
    exact ⟨t, out, reaches_eq b _ (Nat.succ_ne_zero _) keyed more ▸ ends⟩
  · obtain ⟨t, out, ends⟩ := exec_ends (exec_missedBeaconTest s)
    exact ⟨t, out, reaches_eq b 1 one_ne_zero keyed more ▸ ends⟩
  · obtain ⟨t, out, ends⟩ := exec_ends (exec_ownSlotEvent s addressed)
    exact ⟨t, out, reaches_eq b _ addressed keyed more ▸ ends⟩
  · exact exec_released keyed none' mem other
  · obtain ⟨t, out, ends⟩ := exec_ends (exec_transmitBitClockEvent_within s inside)
    have arrived : (s.placed s.vrl.slot (s.vrl.bit + 1) s.vrl.cycle).arrive = ended (place (s.vrl.bit + 1)) := by
      rw [State.arrive_ended (by rwa [state]) ((next _ _ _).trans none'),
        ends_of _ (State.placed_par s _ _ _ _), within]
      exact State.slotEvents_within (Nat.succ_ne_zero _)
    exact ⟨t, out, arrived ▸ ends⟩
  · obtain ⟨t, out, ends⟩ := exec_ends (exec_transmissionEnd keyed)
    have left_eq : tx.eventsLeft = left := by
      unfold Transmitter.eventsLeft bitOf
      simp only [left]
    have bit : x.vrl.bit = s.vrl.bit := by simp [x]
    have last : s.txLastEvent = ended (place (s.vrl.bit + left)) := by
      have moved : ({ x.vrl with txTimer := s.vrl.txTimer + s.par .tBit } : Vrl).advanceBy left =
          { x.vrl with txTimer := s.vrl.txTimer + s.par .tBit, bit := s.vrl.bit + left } := by
        rw [Vrl.advanceBy_within _ _ (by dsimp only; omega)]
        dsimp only
        rw [bit]
      change State.slotEvents (State.endTransmission
        { x with vrl := ({ x.vrl with txTimer := s.vrl.txTimer + s.par .tBit } : Vrl).advanceBy tx.eventsLeft }) = _
      rw [left_eq, moved]
      change (place (s.vrl.bit + left)).endTransmission.slotEvents = _
      rw [ends_of (place (s.vrl.bit + left)) (State.par_congr (State.advanceTo_pst s _) _)]
      have some' : s.vrl.bit + left ≠ 0 := Nat.succ_ne_zero _
      exact State.slotEvents_within some'
    exact ⟨t, out, last ▸ ends⟩
  · intro n
    have left_eq : tx.eventsLeft = (left - 1) + 1 := by
      unfold Transmitter.eventsLeft bitOf
      simp only [left]
      omega
    rw [exec_transmissionEnd keyed, State.txLastEvent_eq keyed bit slot cycle left_eq] <;> rfl

end Sys2Proof.Machine
end

section
/-! The slots with the key released: the missed beacon, and the own slot's telegram (R127, R128, R140, R155,
R156). -/

namespace Sys2Proof.Machine

/-! ### Bytes, bits and codes -/

theorem bytesOf_eq (n v : Nat) : bytesOf n v = (List.range n).map fun i => BitVec.ofNat 8 (v / 256 ^ (n - 1 - i)) := by
  induction n with
  | zero => rfl
  | succ n ih =>
    rw [bytesOf, ih, List.range_succ_eq_map, List.map_cons, List.map_map]
    refine congrArg₂ _ (by simp) (List.map_congr_left fun i _ => ?_)
    rw [Function.comp, show n + 1 - 1 - i.succ = n - 1 - i by omega]

theorem fieldBits_eq (n v : Nat) :
    fieldBits n v = (List.range n).map fun i => decide (v / 2 ^ (n - 1 - i) % 2 = 1) := by
  unfold fieldBits
  simp only [Nat.testBit_eq_decide_div_mod_eq]

theorem Motion.code_idxOf (m : Motion) : m.code = [Motion.standstill, .movingUp, .movingDown].idxOf m := by
  cases m <;> rfl

theorem Mode.code_idxOf (m : Mode) : m.code = [Mode.none, .shunt, .full].idxOf m := by
  cases m <;> rfl

theorem Status.code_idxOf (x : Status) : x.code = [Status.normal, .warning, .service, .emergency].idxOf x := by
  cases x <;> rfl

theorem dirCode_idxOf (d : Option Dir) : dirCode d = [some Dir.up, some .down, none].idxOf d := by
  rcases d with _ | _ | _ <;> rfl

theorem Link.code_idxOf (l : Link) : l.code = [Link.ok, .lost, .stop].idxOf l := by
  cases l <;> rfl

theorem bitOf_eq (b : Bool) : bitOf b = if b then 1 else 0 := rfl

/-- R156: the payload of a position report, in the words of the statement. -/
theorem State.reportPayload_eq (y : State) : y.reportPayload =
    let num (n v : Nat) : List Byte := (List.range n).map fun i => BitVec.ofNat 8 (v / 256 ^ (n - 1 - i))
    let yes (b : Bool) : Nat := if b then 1 else 0
    let position : Nat := match y.odu.pos with
      | .valid => 0
      | .restored => 1
      | .invalid _ => 2
    let version := y.lps.profile.map Profile.version
    num 3 (y.odu.lo / 100000) ++ num 3 ((y.odu.hi + 99999) / 100000) ++
      num 2 (16384 * position + 4096 * [Motion.standstill, .movingUp, .movingDown].idxOf y.odu.motion +
        2048 * yes y.ssu.overrun + y.odu.speed) ++
      num 1 (64 * [Mode.none, .shunt, .full].idxOf y.ssu.mode +
        16 * [Status.normal, .warning, .service, .emergency].idxOf y.ssu.status +
        4 * [some Dir.up, some .down, none].idxOf y.dka.selected + [Link.ok, .lost, .stop].idxOf y.tgh.link) ++
      num 1 (128 * yes y.brm.latch.isSome + 64 * yes y.drc.summary + 32 * yes y.ssu.cap.isSome +
        16 * yes y.vrl.rx.carrier + 8 * yes y.tgh.lastIssue.isSome + 4 * yes version.isSome) ++
      num 1 (y.tgh.lastIssue.getD 0) ++ num 1 (version.getD 0) := by
  have hi : y.odu.pHi = (y.odu.hi + 99999) / 100000 := by simp [Odu.pHi, ceilDiv]
  unfold State.reportPayload
  simp only [bytesOf_eq, hi, Motion.code_idxOf, Mode.code_idxOf, Status.code_idxOf, dirCode_idxOf, Link.code_idxOf,
    bitOf_eq]
  rfl

/-- R127, R137: the bits of a framed telegram, in the words of the statement. -/
theorem frameBits_eq (m : Telegram) : frameBits m =
    let bits (n v : Nat) : List Bool := (List.range n).map fun i => decide (v / 2 ^ (n - 1 - i) % 2 = 1)
    let body := bits 4 m.kind.toNat ++ bits 4 m.env.flags.toNat ++ bits 8 m.env.addr.toNat ++
      bits 8 m.env.payload.length ++ m.env.payload.flatMap fun b => bits 8 b.toNat
    let crc : BitVec 16 := body.foldl (fun r b =>
      if r.getLsbD 15 = b then r <<< 1 else (r <<< 1) ^^^ 0x1021#16) 0xFFFF#16
    bits 16 0xAAAA ++ bits 16 0xB4C3 ++ body ++ bits 16 crc.toNat := by
  have step : crc16Bit = fun (r : BitVec 16) b => if r.getLsbD 15 = b then r <<< 1 else (r <<< 1) ^^^ 0x1021#16 :=
    funext fun r => funext fun b => crc16Bit_eq r b
  unfold frameBits crc16 bodyBits
  rw [step]
  simp only [fieldBits_eq]

/-- R155: the telegram of the own slot, and the queue that its hand-over leaves. -/
theorem State.ownTelegram_eq (y : State) : y.ownTelegram =
    match decide (y.vrl.cycle = 3), y.tgh.txTexts with
    | true, t :: _ =>
      { kind := 12#4, env := { flags := 8#4, addr := BitVec.ofNat 8 (y.par .carAddress), payload := t } }
    | _, _ =>
      { kind := 13#4
        env := { flags := 8#4, addr := BitVec.ofNat 8 (y.par .carAddress), payload := y.reportPayload } } := by
  unfold State.ownTelegram State.slotTelegram
  generalize decide (y.vrl.cycle = 3) = third
  cases third <;> cases y.tgh.txTexts <;> rfl

theorem State.slotTelegram_texts (y : State) :
    y.slotTelegram.2.2 = if y.vrl.cycle = 3 then y.tgh.txTexts.tail else y.tgh.txTexts := by
  unfold State.slotTelegram
  by_cases third : y.vrl.cycle = 3
  · rw [decide_eq_true third, if_pos third]
    cases y.tgh.txTexts <;> rfl
  · rw [decide_eq_false third, if_neg third]

/-! ### The own slot -/

theorem State.mayTransmit_iff (y : State) : y.mayTransmit = true ↔
    y.vrl.sync ≠ .unsynced ∧ y.pst.frozen = true ∧ y.pst.strapLatch = false ∧ y.vrl.tx.state = .idle := by
  simp [State.mayTransmit, Transmitter.keyed, and_assoc]

theorem State.missedTest_pst (y : State) : y.missedTest.pst = y.pst := by
  rw [State.missedTest_eq]
  dsimp only
  split_ifs <;> rfl

/-- Settles O38, by the place that each event brings the counters to. -/
theorem transmitBitClockRunsTheSlots : Obligations.TransmitBitClockRunsTheSlots := by
  intro s idle x own place tested num bits yes report framed starts may reaches
  have starts_eq (y : State) (pst : y.pst = s.pst) : y.startTransmission = starts y := by
    have par (p : Param) : y.par p = s.par p := State.par_congr pst p
    have aborts : (if y.vrl.rx.inTelegram then satSucc 65535 y.vrl.aborts else y.vrl.aborts) =
        if y.vrl.rx.state ≠ .hunt ∧ y.vrl.aborts < 65535 then y.vrl.aborts + 1 else y.vrl.aborts := by
      simp only [Receiver.inTelegram_iff, satSucc_eq, ite_and]
    unfold State.startTransmission
    rw [frameBits_eq, State.ownTelegram_eq, State.reportPayload_eq, State.slotTelegram_texts, aborts, par, par] <;> rfl
  have arrives (n : Nat) (nonzero : n ≠ 0) : (s.placed n 0 s.vrl.cycle).arrive = reaches n := by
    have tested_eq : (s.placed n 0 s.vrl.cycle).missedTest = tested (place n 0 s.vrl.cycle) := by
      rw [State.missedTest_eq, State.placed_par] <;> rfl
    have pst : (if n = 1 then tested (place n 0 s.vrl.cycle) else place n 0 s.vrl.cycle).pst = s.pst := by
      split_ifs
      · rw [← tested_eq, State.missedTest_pst]
        exact s.advanceTo_pst _
      · exact s.advanceTo_pst _
    have still : (if n = 1 then tested (place n 0 s.vrl.cycle) else place n 0 s.vrl.cycle).vrl.tx.state = .idle := by
      split_ifs
      · rw [← tested_eq, State.missedTest_tx, State.placed_tx_state, idle]
      · exact (s.placed_tx_state n 0 s.vrl.cycle).trans idle
    rw [State.arrive, State.shiftTx_idle ((s.placed_tx_state n 0 _).trans idle), State.slotEvents_slot rfl nonzero,
      tested_eq, State.placed_par]
    change (if n = own ∧ own ≠ 0 then
      State.ownSlot (if n = 1 then tested (place n 0 s.vrl.cycle) else place n 0 s.vrl.cycle)
      else if n = 1 then tested (place n 0 s.vrl.cycle) else place n 0 s.vrl.cycle) = _
    simp only [reaches]
    generalize (if n = 1 then tested (place n 0 s.vrl.cycle) else place n 0 s.vrl.cycle) = z at pst still
    have may_iff : z.mayTransmit = true ↔ may z := by
      rw [State.mayTransmit_iff, pst]
      simp only [may, still, and_true]
    unfold State.ownSlot
    rw [starts_eq z pst]
    simp only [may_iff]
    by_cases here : n = own ∧ own ≠ 0
    · rw [if_pos here]
      by_cases ready : may z
      · rw [if_pos ready, if_pos ⟨here.1, here.2, ready⟩]
      · rw [if_neg ready, if_neg fun h => ready h.2.2]
    · rw [if_neg here, if_neg fun h => here ⟨h.1, h.2.1⟩]
  refine ⟨fun inside => ?_, fun last slot => ?_, exec_transmitBitClockEvent_wrap s, ?_, exec_ownSlotEvent_none s,
    fun addressed => ?_⟩
  · obtain ⟨t, out, ends⟩ := exec_ends (exec_transmitBitClockEvent_within s inside)
    have arrived : (s.placed s.vrl.slot (s.vrl.bit + 1) s.vrl.cycle).arrive =
        place s.vrl.slot (s.vrl.bit + 1) s.vrl.cycle := by
      rw [State.arrive, State.shiftTx_idle ((s.placed_tx_state _ _ _).trans idle)]
      exact State.slotEvents_within (Nat.succ_ne_zero _)
    exact ⟨t, out, arrived ▸ ends⟩
  · obtain ⟨t, out, ends⟩ := exec_ends (exec_transmitBitClockEvent_slot s last slot)
    exact ⟨t, out, arrives _ (Nat.succ_ne_zero _) ▸ ends⟩
  · obtain ⟨t, out, ends⟩ := exec_ends (exec_missedBeaconTest s)
    exact ⟨t, out, arrives 1 one_ne_zero ▸ ends⟩
  · obtain ⟨t, out, ends⟩ := exec_ends (exec_ownSlotEvent s addressed)
    exact ⟨t, out, arrives _ addressed ▸ ends⟩

end Sys2Proof.Machine
end

section
/-! The clock: timers that fall due, and the outputs that follow (R75, R78, R91, R126). -/

namespace Sys2Proof.Machine

/-! ### The timers -/

theorem State.mem_doorTimers {s : State} {d : Nat} {c : Instr} : (some d, c) ∈ allDoors.map s.doorTimerOf ↔
    ∃ i k, (s.drc.door i).timer = some (k, d) ∧ c = doorExpiryCommand i k := by
  have one (i : DoorId) : s.doorTimerOf i = (some d, c) ↔
      ∃ k, (s.drc.door i).timer = some (k, d) ∧ c = doorExpiryCommand i k := by
    unfold State.doorTimerOf State.door
    rcases (s.drc.door i).timer with _ | ⟨k, t⟩
    · simp
    · simp [eq_comm]
  rw [List.mem_map]
  constructor
  · rintro ⟨i, -, h⟩
    exact ⟨i, (one i).1 h⟩
  · rintro ⟨i, h⟩
    exact ⟨i, by cases i <;> decide, (one i).2 h⟩

theorem exists_bogie {p : Bogie → Prop} : (∃ b, p b) ↔ p .upper ∨ p .lower :=
  ⟨fun ⟨b, h⟩ => by cases b; exacts [Or.inl h, Or.inr h], fun h => h.elim (fun h => ⟨_, h⟩) fun h => ⟨_, h⟩⟩

theorem exists_desk {p : Desk → Prop} : (∃ k, p k) ↔ p .u ∨ p .l :=
  ⟨fun ⟨k, h⟩ => by cases k; exacts [Or.inl h, Or.inr h], fun h => h.elim (fun h => ⟨_, h⟩) fun h => ⟨_, h⟩⟩

/-- R158: the head of the queue, while it waits for its notice. -/
theorem State.textDue_iff {s : State} {d : Nat} : s.textDue = some d ↔
    ∃ q rest, s.tgh.rxTexts = q :: rest ∧ q.notified = false ∧
      rest.length + 1 < s.par .qTrig ∧ d = q.arrival + s.par .tText * 1000 := by
  cases texts : s.tgh.rxTexts with
  | nil =>
    unfold State.textDue
    rw [texts]
    simp
  | cons q rest =>
    by_cases told : q.notified = true ∨ s.par .qTrig ≤ rest.length + 1
    · rw [State.textDue_none texts told]
      refine ⟨(fun h => nomatch h), ?_⟩
      rintro ⟨q', rest', same, untold, few, -⟩
      cases same
      exact told.elim (fun h => by simp [untold] at h) fun h => absurd few (not_lt.2 h)
    · obtain ⟨untold, few⟩ := not_or.1 told
      rw [State.textDue_some texts (Bool.eq_false_iff.2 untold) (not_le.1 few)]
      constructor
      · rintro ⟨⟩
        exact ⟨q, rest, rfl, Bool.eq_false_iff.2 untold, not_le.1 few, rfl⟩
      · rintro ⟨q', rest', same, -, -, rfl⟩
        cases same
        rfl

theorem State.mem_timers (s : State) (d : Nat) (c : Instr) : (some d, c) ∈ s.timers ↔
    (c = .oduSample ∧ d = s.odu.sampleTimer) ∨
    (c = .regimeTimerExpiry ∧ s.odu.regimeTimer = some d) ∨
    (c = .standstillTimerExpiry ∧ s.odu.standTimer = some d) ∨
    (c = .collectionTimeout ∧ s.odu.reader.timeout = some d) ∨
    (c = .lpsTimerExpiry ∧ d = s.lps.timer) ∨
    (c = .supervisionCycle ∧ d = s.ssu.timer) ∨
    (c = .pressureGateEnd ∧ d = s.brm.gateTimer) ∨
    (c = .deadTimeExpiry ∧ s.brm.deadTimer = some d) ∨
    (c = .frictionProveExpiry ∧ s.brm.proveTimer = some d) ∨
    (∃ b, c = .pinionProveExpiry b ∧ (s.brm.bandOf b).prove = some d) ∨
    (c = .feedbackTimeout ∧ s.brm.feedbackTimer = some d) ∨
    (c = .holdDelayExpiry ∧ s.brm.holdTimer = some d) ∨
    (c = .stallTimerExpiry ∧ s.brm.stallTimer = some d) ∨
    (∃ i k, (s.drc.door i).timer = some (k, d) ∧ c = doorExpiryCommand i k) ∨
    (∃ k, c = .freshnessExpiry k ∧ (s.dka.cab k).fresh = some d) ∨
    (c = .orphanExpiry ∧ s.dka.orphan = some d) ∨
    (c = .transmitBitClockEvent ∧ d = s.vrl.txTimer) ∨
    (c = .receiveBitClockEvent ∧ s.vrl.rx.clock = some d) ∨
    (c = .textWaitExpiry ∧ ∃ q rest, s.tgh.rxTexts = q :: rest ∧ q.notified = false ∧
      rest.length + 1 < s.par .qTrig ∧ d = q.arrival + s.par .tText * 1000) := by
  have entry {t : Timer} {e : Instr} : (some d, c) = (t, e) ↔ c = e ∧ t = some d := by
    rw [Prod.mk.injEq, and_comm, eq_comm (a := some d)]
  have running {t : Nat} {e : Instr} : (some d, c) = (some t, e) ↔ c = e ∧ d = t := by
    rw [Prod.mk.injEq, and_comm, Option.some.injEq]
  rw [← State.textDue_iff, exists_bogie, exists_desk]
  unfold State.timers
  rw [List.mem_append, List.mem_append, State.mem_doorTimers]
  simp only [List.mem_cons, List.not_mem_nil, or_false, running, entry, Brm.bandOf, Dka.cab]
  exact Iff.of_eq (by ac_rfl)

/-! ### The timers that have fallen due -/

theorem mem_dueFrom {now : Nat} {x : Due} {l : List (Timer × Instr)} {k : Nat} (h : x ∈ dueFrom now k l) :
    (some x.time, x.command) ∈ l ∧ x.time ≤ now := by
  induction l generalizing k with
  | nil => cases h
  | cons a l ih =>
    obtain ⟨t, c⟩ := a
    cases t with
    | none => exact (ih h).imp (List.mem_cons_of_mem _) id
    | some d =>
      unfold dueFrom at h
      split_ifs at h with due
      · rcases List.mem_cons.1 h with rfl | h
        · exact ⟨List.mem_cons_self, due⟩
        · exact (ih h).imp (List.mem_cons_of_mem _) id
      · exact (ih h).imp (List.mem_cons_of_mem _) id

theorem exists_mem_dueFrom {now d : Nat} {c : Instr} {l : List (Timer × Instr)} (k : Nat) (h : (some d, c) ∈ l)
    (due : d ≤ now) : ∃ x ∈ dueFrom now k l, x.time = d ∧ x.command = c := by
  induction l generalizing k with
  | nil => cases h
  | cons a l ih =>
    obtain ⟨t, e⟩ := a
    rcases List.mem_cons.1 h with same | later
    · cases same
      unfold dueFrom
      rw [if_pos due]
      exact ⟨_, List.mem_cons_self, rfl, rfl⟩
    · cases t with
      | none => exact ih (k + 1) later
      | some d' =>
        obtain ⟨x, hx, times⟩ := ih (k + 1) later
        unfold dueFrom
        split_ifs
        · exact ⟨x, List.mem_cons_of_mem _ hx, times⟩
        · exact ⟨x, hx, times⟩

theorem mem_insertDue {x y : Due} {l : List Due} : y ∈ insertDue x l ↔ y = x ∨ y ∈ l := by
  induction l with
  | nil => simp [insertDue]
  | cons z l ih =>
    unfold insertDue
    split_ifs
    · rw [List.mem_cons, ih, List.mem_cons]
      tauto
    · rw [List.mem_cons]

theorem Due.time_le_of_before {a b : Due} (h : a.before b = true) : a.time ≤ b.time := by
  simp only [Due.before, Bool.or_eq_true, Bool.and_eq_true, decide_eq_true_eq, beq_iff_eq] at h
  omega

theorem Due.time_le_of_not_before {a b : Due} (h : ¬a.before b = true) : b.time ≤ a.time := by
  simp only [Due.before, Bool.or_eq_true, Bool.and_eq_true, decide_eq_true_eq, beq_iff_eq] at h
  omega

theorem insertDue_sorted {x : Due} {l : List Due} (h : l.Pairwise fun a b => a.time ≤ b.time) :
    (insertDue x l).Pairwise fun a b => a.time ≤ b.time := by
  induction l with
  | nil => simp [insertDue]
  | cons y l ih =>
    obtain ⟨least, rest⟩ := List.pairwise_cons.1 h
    unfold insertDue
    split_ifs with before
    · refine List.pairwise_cons.2 ⟨fun z hz => ?_, ih rest⟩
      rcases mem_insertDue.1 hz with rfl | hz
      · exact Due.time_le_of_before before
      · exact least z hz
    · have first := Due.time_le_of_not_before before
      refine List.pairwise_cons.2 ⟨fun z hz => ?_, h⟩
      rcases List.mem_cons.1 hz with rfl | hz
      · exact first
      · exact first.trans (least z hz)

/-- The timers that have fallen due, the earliest first. -/
def State.dueTimers (s : State) : List Due := (dueFrom s.now 0 s.timers).foldr insertDue []

theorem State.dueCommands_eq (s : State) : s.dueCommands = s.dueTimers.map Due.command := rfl

theorem mem_sortDue {x : Due} {l : List Due} : x ∈ l.foldr insertDue [] ↔ x ∈ l := by
  induction l with
  | nil => rfl
  | cons y l ih => rw [List.foldr_cons, mem_insertDue, ih, List.mem_cons]

theorem sortDue_sorted (l : List Due) : (l.foldr insertDue []).Pairwise fun a b => a.time ≤ b.time := by
  induction l with
  | nil => exact .nil
  | cons y l ih => exact insertDue_sorted ih

theorem State.dueTimers_nil {s : State} (h : ∀ d c, (some d, c) ∈ s.timers → s.now < d) : s.dueTimers = [] := by
  refine List.eq_nil_iff_forall_not_mem.2 fun x hx => ?_
  obtain ⟨mem, due⟩ := mem_dueFrom (mem_sortDue.1 hx)
  exact absurd due (not_le.2 (h _ _ mem))

/-- The first of the timers that have fallen due. -/
theorem State.dueTimers_cons {s : State} (h : ∃ d c, (some d, c) ∈ s.timers ∧ d ≤ s.now) :
    ∃ x rest, s.dueTimers = x :: rest ∧ (some x.time, x.command) ∈ s.timers ∧ x.time ≤ s.now ∧
      ∀ d' c', (some d', c') ∈ s.timers → d' ≤ s.now → x.time ≤ d' := by
  obtain ⟨d, c, mem, due⟩ := h
  obtain ⟨y, hy, -, -⟩ := exists_mem_dueFrom 0 mem due
  have sorted := sortDue_sorted (dueFrom s.now 0 s.timers)
  cases list : s.dueTimers with
  | nil => exact absurd (mem_sortDue.2 hy) (by rw [← State.dueTimers, list]; exact List.not_mem_nil)
  | cons x rest =>
    rw [← State.dueTimers, list] at sorted
    have here : x ∈ s.dueTimers := by rw [list]; exact List.mem_cons_self
    obtain ⟨running, past⟩ := mem_dueFrom (mem_sortDue.1 here)
    refine ⟨x, rest, rfl, running, past, fun d' c' mem' due' => ?_⟩
    obtain ⟨z, hz, rfl, -⟩ := exists_mem_dueFrom 0 mem' due'
    have listed : z ∈ x :: rest := by rw [← list]; exact mem_sortDue.2 hz
    rcases List.mem_cons.1 listed with rfl | later
    · exact le_rfl
    · exact (List.pairwise_cons.1 sorted).1 z later

theorem State.queueDue_cons {s : State} {x : Due} {rest : List Due} (h : s.dueTimers = x :: rest) :
    s.queueDue = { s with pending := s.pending ++ [x.command] } := by
  unfold State.queueDue
  rw [State.dueCommands_eq, h] <;> rfl

theorem State.queueDue_nil {s : State} (h : s.dueTimers = []) : s.queueDue = s := by
  unfold State.queueDue
  rw [State.dueCommands_eq, h]
  simp

theorem idle_step (s : State) (idle : s.pending = []) :
    ∃ t : State, step s = .next t ∧
      ((∃ d c, (some d, c) ∈ s.timers ∧ d ≤ s.now) →
        ∃ d c, (some d, c) ∈ s.timers ∧ d ≤ s.now ∧ t = { s with pending := [c] } ∧
          ∀ d' c', (some d', c') ∈ s.timers → d' ≤ s.now → d ≤ d') ∧
      ((∀ d c, (some d, c) ∈ s.timers → s.now < d) →
        t.now = s.now + 1 ∧ { t with pending := [] } = s.advanceTo (s.now + 1) ∧
          ((∀ d c, (some d, c) ∈ (s.advanceTo (s.now + 1)).timers → s.now + 1 < d) → t.pending = []) ∧
          ((∃ d c, (some d, c) ∈ (s.advanceTo (s.now + 1)).timers ∧ d ≤ s.now + 1) →
            ∃ d c, (some d, c) ∈ (s.advanceTo (s.now + 1)).timers ∧ d ≤ s.now + 1 ∧ t.pending = [c])) := by
  have run : step s = .next s.tick := by
    unfold step
    rw [idle]
  refine ⟨_, run, fun due => ?_, fun none_due => ?_⟩
  · obtain ⟨x, rest, list, mem, past, least⟩ := State.dueTimers_cons due
    refine ⟨x.time, x.command, mem, past, ?_, least⟩
    unfold State.tick
    rw [State.dueCommands_eq, if_neg (by rw [list]; simp), State.queueDue_cons list, idle] <;> rfl
  · have ticks : s.tick = (s.advanceTo (s.now + 1)).queueDue := by
      unfold State.tick
      rw [State.dueCommands_eq, State.dueTimers_nil none_due] <;> rfl
    have now : (s.advanceTo (s.now + 1)).now = s.now + 1 := by
      rw [State.advanceTo_now]
      omega
    have queue : (s.advanceTo (s.now + 1)).pending = [] := (s.advanceTo_pending _).trans idle
    rw [ticks]
    generalize s.advanceTo (s.now + 1) = x at now queue
    refine ⟨now, ?_, fun later => ?_, fun due => ?_⟩
    · obtain ⟨odu, lps, ssu, brm, drc, dka, vrl, tgh, pif, pst, now, pending⟩ := x
      cases queue
      rfl
    · rw [State.queueDue_nil (State.dueTimers_nil (by rwa [now])), queue]
    · obtain ⟨e, rest, list, mem, past, -⟩ := State.dueTimers_cons (s := x) (by rwa [now])
      refine ⟨e.time, e.command, mem, now ▸ past, ?_⟩
      rw [State.queueDue_cons list, queue] <;> rfl

/-! ### The outputs that follow the clock -/

/-- The end of the period in progress lies whole periods after an earlier end. -/
theorem rollNext_spec {next period now : Nat} (positive : 0 < period) (ended : next ≤ now) :
    now < rollNext next period now ∧ rollNext next period now ≤ now + period ∧
      (rollNext next period now - next) % period = 0 := by
  have split := Nat.div_add_mod (now - next) period
  have small := Nat.mod_lt (now - next) positive
  unfold rollNext
  rw [if_neg (not_lt.2 ended), Nat.mul_add, Nat.mul_one]
  refine ⟨by omega, by omega, ?_⟩
  rw [Nat.add_sub_cancel_left, Nat.add_mod_right, Nat.mul_mod_right]

theorem Pwm.roll_spec (w : Pwm) (time : Nat) :
    (time < w.next → w.roll time = w) ∧
    (w.next ≤ time → (w.roll time).latched = w.latched ∧ (w.roll time).driven = w.latched ∧
      time < (w.roll time).next ∧ (w.roll time).next ≤ time + 1000 ∧ ((w.roll time).next - w.next) % 1000 = 0) := by
  unfold Pwm.roll
  refine ⟨fun before => if_pos before, fun ended => ?_⟩
  rw [if_neg (not_lt.2 ended)]
  exact ⟨rfl, rfl, rollNext_spec (by decide) ended⟩

theorem Motor.roll_spec (m : Motor) (period time : Nat) :
    (time < m.next → m.roll period time = m) ∧
    (m.next ≤ time →
      m.roll period time = { m with
        driven := m.latched, drivenDir := m.latchedDir, next := (m.roll period time).next } ∧
      (0 < period → time < (m.roll period time).next ∧ (m.roll period time).next ≤ time + period ∧
        ((m.roll period time).next - m.next) % period = 0)) := by
  unfold Motor.roll
  refine ⟨fun before => if_pos before, fun ended => ?_⟩
  rw [if_neg (not_lt.2 ended)]
  exact ⟨rfl, fun positive => rollNext_spec positive ended⟩

/-- A half-wave that is in progress stands, whatever the fuel. -/
theorem Transmitter.toneRoll_before {width : Bool → Bool → Nat} {now e : Nat} {tx : Transmitter}
    (half : tx.halfEnd = some e) (before : now < e) (n : Nat) : tx.toneRoll width now n = tx := by
  cases n with
  | zero => rfl
  | succ n =>
    unfold Transmitter.toneRoll
    rw [half]
    exact if_pos before

theorem Transmitter.toneRoll_step {width : Bool → Bool → Nat} {now e : Nat} {tx : Transmitter}
    (half : tx.halfEnd = some e) (ended : e ≤ now) (n : Nat) : tx.toneRoll width now (n + 1) =
      Transmitter.toneRoll width now n { tx with
        tone := !tx.tone, halfStart := e, halfEnd := some (e + width (!tx.tone) tx.current) } := by
  conv_lhs => unfold Transmitter.toneRoll
  rw [half]
  exact if_neg (not_lt.2 ended)

/-- With half-waves of some width, fuel for each µs is enough. -/
theorem Transmitter.toneRoll_fuel {width : Bool → Bool → Nat} (positive : ∀ high mark, 0 < width high mark) {now : Nat}
    (n m e : Nat) (tx : Transmitter) (half : tx.halfEnd = some e) (hn : now < e + n) (hm : now < e + m) :
    tx.toneRoll width now n = tx.toneRoll width now m := by
  induction n generalizing m e tx with
  | zero => rw [Transmitter.toneRoll_before half (by omega), Transmitter.toneRoll_before half (by omega)]
  | succ n ih =>
    by_cases ended : e ≤ now
    · obtain ⟨m, rfl⟩ : ∃ k, m = k + 1 := ⟨m - 1, by omega⟩
      have wide := positive (!tx.tone) tx.current
      rw [Transmitter.toneRoll_step half ended, Transmitter.toneRoll_step half ended]
      exact ih m _ _ rfl (by omega) (by omega)
    · rw [Transmitter.toneRoll_before half (by omega), Transmitter.toneRoll_before half (by omega)]

/-- R126: the tone output brought to a later time. -/
theorem State.rollTone_spec (s : State) {time : Nat} (later : s.now < time) :
    let tx := s.vrl.tx
    (tx.halfEnd = none → s.rollTone time = tx) ∧
    ∀ e, tx.halfEnd = some e →
      (time < e → s.rollTone time = tx) ∧
      (e ≤ time → (∀ p ∈ [Param.wMarkHi, .wMarkLo, .wSpaceHi, .wSpaceLo], 0 < s.par p) →
        let width := match tx.tone, tx.current with
          | true, true => s.par .wMarkLo
          | false, true => s.par .wMarkHi
          | true, false => s.par .wSpaceLo
          | false, false => s.par .wSpaceHi
        let half : Transmitter :=
          { tx with tone := !tx.tone, halfStart := e, halfEnd := some (e + width) }
        s.rollTone time = (State.advanceTo time { s with vrl := { s.vrl with tx := half } }).vrl.tx) := by
  intro tx
  refine ⟨fun silent => State.rollTone_still silent time, fun e half => ⟨fun before => ?_, fun ended wide => ?_⟩⟩
  · unfold State.rollTone
    rw [show s.vrl.tx.halfEnd = some e from half]
    exact Transmitter.toneRoll_before half before _
  · intro width next
    have positive (high mark : Bool) : 0 < s.halfWidth high mark := by
      cases high <;> cases mark <;> exact wide _ (by decide)
    have same : width = s.halfWidth (!tx.tone) tx.current := by
      simp only [width]
      cases tx.tone <;> cases tx.current <;> rfl
    rw [show State.advanceTo time { s with vrl := { s.vrl with tx := next } } = _ from if_neg (not_le.2 later)]
    change s.rollTone time = State.rollTone { s with vrl := { s.vrl with tx := next } } time
    unfold State.rollTone
    rw [show s.vrl.tx.halfEnd = some e from half]
    dsimp only
    rw [Transmitter.toneRoll_step half ended]
    have wide := positive (!tx.tone) tx.current
    rw [show { s.vrl.tx with
        tone := !s.vrl.tx.tone, halfStart := e, halfEnd := some (e + s.halfWidth (!s.vrl.tx.tone) s.vrl.tx.current) } =
      next by simp only [next, same]; rfl]
    exact Transmitter.toneRoll_fuel positive _ _ (e + width) next rfl (by omega) (by omega)

/-- Settles O3, by the list of the timers, the idle step and the clock's advance. -/
theorem idleStepQueuesTheEarliestDueTimer : Obligations.IdleStepQueuesTheEarliestDueTimer := by
  refine ⟨fun s d c => ?_, idle_step, fun s time => ⟨fun past => if_pos past, fun later => ?_⟩⟩
  · rw [State.mem_timers]
    rfl
  · rw [show s.advanceTo time = _ from if_neg (not_le.2 later)]
    refine ⟨rfl, ?_, fun i => ?_, ?_⟩
    · simp only [List.mem_cons, List.not_mem_nil, or_false]
      rintro w (rfl | rfl)
      exacts [s.brm.ebrake.roll_spec time, s.brm.traction.roll_spec time]
    · cases i
      exacts [s.drc.a1.motor.roll_spec _ time, s.drc.a2.motor.roll_spec _ time, s.drc.b1.motor.roll_spec _ time,
        s.drc.b2.motor.roll_spec _ time]
    · exact s.rollTone_spec later

end Sys2Proof.Machine
end

section
/-! The state after reset (R22, R39, R62, R88, R110, R124, R141, R161, R172, R181). -/

namespace Sys2Proof.Machine

theorem reset_brakesSafe : State.reset.BrakesSafe where
  latched _ := by decide
  level := by decide
  energised h := by revert h; decide
  gate _ := by decide

theorem reset_shut (i : DoorId) : (State.reset.drc.door i).shut := by
  cases i <;> exact Or.inl rfl

theorem reset_rowsTrue : State.reset.RowsTrue where
  noDesk _ := rfl
  cab d h := nomatch h
  supervision := rfl
  doorsShut _ := rfl
  doorsStill := fun ⟨i, hi⟩ => absurd (reset_shut i) hi
  doorsMoving := fun ⟨i, hi⟩ => absurd (reset_shut i) hi
  loop := rfl
  hold := rfl

theorem reset_not_calls (v : Severity) : ¬State.reset.Calls v := by
  rintro (whole | ⟨c, mem, -⟩)
  · cases whole
  · cases mem

theorem reset_lineRowsTrue : State.reset.LineRowsTrue where
  emergency h := absurd h (reset_not_calls _)
  service _ h := absurd h (reset_not_calls _)
  link _ _ := rfl
  odometry := rfl

theorem reset_not_gate : ¬State.reset.GateButLevel := fun h => by
  obtain ⟨d, active, -⟩ := h.fresh
  cases active

theorem reset_outputsTrue : State.reset.OutputsTrue where
  latched _ := rfl
  highest h := nomatch h
  pinion := ⟨fun _ => Or.inl rfl, fun _ => rfl⟩
  outputs := by decide
  electric := rfl
  doors := ⟨fun _ => reset_shut, fun _ => rfl⟩
  carried h := absurd h.others reset_not_gate
  closed _ := ⟨rfl, rfl⟩
  seen := rfl
  holding h := nomatch h
  unmeasured _ _ := rfl
  departure h := by rcases h with h | h <;> cases h
  released h := nomatch h
  stall h := absurd rfl h

theorem reset_doorsSafe : State.reset.DoorsSafe where
  released i h := by revert h; cases i <;> decide
  granted i d h := by cases i <;> cases h

theorem reset_banksSound : State.reset.BanksSound where
  standby := ⟨.x, rfl, Or.inl rfl⟩
  claim h := nomatch h
  banks i := by
    cases i <;> exact ⟨by decide, by decide, by decide⟩

theorem reset_par (p : Param) : State.reset.par p = p.default := by
  cases p <;> rfl

theorem default_in_range (p : Param) : p.least ≤ p.default ∧ p.default ≤ p.greatest := by
  cases p <;> decide

theorem reset_bounded : State.reset.Bounded where
  params p := reset_par p ▸ default_in_range p
  motion := ⟨by decide, by decide, by decide, by decide, fun m h => (nomatch h)⟩
  motionCounts := by decide
  sources i := by cases i <;> exact ⟨by decide, by decide, fun h => (nomatch h)⟩
  histories := by decide
  claim k h := nomatch h
  banks i := by
    cases i <;> exact ⟨fun n h => (nomatch h), fun v h => (nomatch h), fun x h => (nomatch h), fun h => (nomatch h)⟩
  profileCounts := by decide
  supervision := ⟨by decide, by decide, by decide, fun c h => (nomatch h), fun m h => (nomatch h)⟩
  restrictions := ⟨by decide, .nil, .nil, fun r h => (nomatch h)⟩
  levels p h := by
    rcases h with h | ⟨i, h⟩
    · cases h
    · cases i <;> cases h
  brakes := ⟨fun m h => (nomatch h), by decide⟩
  doors i := by cases i <;> decide
  desks d := by
    cases d <;> exact ⟨by decide, by decide, fun p h => by cases h; decide⟩
  slots := by decide
  radioCounts := by decide
  receiver := ⟨by decide, by decide, fun h => (nomatch h), fun h => (nomatch h), fun h => (nomatch h)⟩
  authority a h := nomatch h
  telegramCounts := by decide
  calls := ⟨by decide, .nil, fun c h => (nomatch h)⟩
  texts := ⟨by decide, fun x h => (nomatch h), by decide, fun x h => (nomatch h)⟩
  ports p := by cases p <;> decide

/-- Settles O60, invariant by invariant. -/
theorem resetIsSafe : Obligations.ResetIsSafe :=
  ⟨reset_brakesSafe, reset_rowsTrue, reset_lineRowsTrue, reset_outputsTrue, reset_doorsSafe, reset_banksSound,
    reset_bounded, rfl, rfl, rfl, rfl, rfl, rfl, rfl, rfl, reset_par, fun i => by cases i <;> rfl,
    fun i => by cases i <;> rfl⟩

end Sys2Proof.Machine
end

section
/-! A WRITE by its words, the notices and the interrupt line (R162 to R165, R170, R174). -/

namespace Sys2Proof.Machine

/-! ### The commands -/

section
variable {s : State} {p : Port} {ws : List Word} {c : Instr}

theorem exec_writes (h : c ∈ [Instr.write p ws, .cabControlWrite p ws, .stagingWindowWrite p ws, .parameterWrite p ws]) :
    exec c s = .next (s.writeTransaction p ws) := by
  simp only [List.mem_cons, List.not_mem_nil, or_false] at h
  rcases h with rfl | rfl | rfl | rfl <;> rfl

theorem State.writeTransaction_words (h : ws ≠ []) : s.writeTransaction p ws = s.writeWords p ws := by
  cases ws with
  | nil => exact absurd rfl h
  | cons w ws => rfl

end

/-! ### What the owners of port C's records take -/

/-- R29: a WRITE that reaches the fourth data word commits as a write of the whole window does. -/
theorem Lps.written_commits (l : Lps) {word : Nat → Option Word} (last : word 0x24C ≠ none) :
    let g := l.staging.written word
    l.written word = l.written (wordsAt 0x248 [g.offset, g.d0, g.d1, g.d2, g.d3]) := by
  intro g
  have whole : l.staging.written (wordsAt 0x248 [g.offset, g.d0, g.d1, g.d2, g.d3]) = g := rfl
  have there : wordsAt 0x248 [g.offset, g.d0, g.d1, g.d2, g.d3] 0x24C ≠ none := by simp [wordsAt]
  unfold Lps.written
  rw [if_neg last, if_neg there, whole]

/-- 9.3: a word of the staging window is kept only while port C may load. -/
theorem State.stagingOpen_of_word {s : State} {ws : List Word} (h : s.wordFor .c ws 0x24C ≠ none) :
    s.lps.stagingOpen = true := by
  by_contra shut
  rw [Lps.stagingOpen_eq] at shut
  have closed : s.admitted .c 0x24C = false := by
    simp [State.admitted, Bool.eq_false_iff.2 shut]
  exact h (by rw [State.wordFor_lastFor, closed] <;> rfl)

theorem Param.firstWord_eq {k : Param} (h : k ≠ .pRack) :
    areaAddr k.firstWord = 0x410 + (if k.idx.val < 2 then k.idx.val else k.idx.val + 1) := by
  revert h
  cases k <;> decide

theorem Param.idx_lt (k : Param) : k.idx.val < 61 := by
  cases k <;> decide

theorem Param.isClamped_eq (k : Param) (n : Nat) : k.isClamped n = decide (n < k.least ∨ k.greatest < n) := by
  simp [Param.isClamped, Bool.decide_or]

theorem ofNat_low (n : Nat) : BitVec.ofNat 16 (n % 65536) = BitVec.ofNat 16 n := by
  apply BitVec.eq_of_toNat_eq
  simp

/-- R174: what the words of a WRITE make of the parameters. -/
theorem Pst.handParams_spec (ks : List Kept) (t : Pst) {word : Nat → Option Word} (kept : ∀ b, keptAt ks b = word b) :
    let r := Param.all.foldl (Pst.handParam ks) t
    r = { t with params := r.params, clamped := r.clamped } ∧
    (∀ k : Param, k ≠ .pRack →
      let new := word (0x410 + (if k.idx.val < 2 then k.idx.val else k.idx.val + 1))
      (new = none → r.params.get k.idx = t.params.get k.idx ∧
        r.clamped.getLsbD k.idx = t.clamped.getLsbD k.idx) ∧
      (∀ x, new = some x → r.params.get k.idx = max k.least (min k.greatest x.toNat) ∧
        r.clamped.getLsbD k.idx = decide (x.toNat < k.least ∨ k.greatest < x.toNat))) ∧
    (let k := Param.pRack
     let high := word 0x412
     let low := word 0x413
     (high = none → low = none → r.params.get k.idx = t.params.get k.idx ∧
       r.clamped.getLsbD k.idx = t.clamped.getLsbD k.idx) ∧
     (high ≠ none ∨ low ≠ none →
       let n := (high.getD (BitVec.ofNat 16 (t.params.get k.idx / 65536))).toNat * 65536 +
         (low.getD (BitVec.ofNat 16 (t.params.get k.idx % 65536))).toNat
       r.params.get k.idx = max k.least (min k.greatest n) ∧
         r.clamped.getLsbD k.idx = decide (n < k.least ∨ k.greatest < n))) ∧
    (∀ j, 61 ≤ j → r.clamped.getLsbD j = t.clamped.getLsbD j) := by
  intro r
  obtain ⟨frame, -, bits, given⟩ := Pst.handParams_get ks Param.all Param.all_nodup t
  have kept' : keptAt ks = word := funext kept
  rw [kept'] at given
  have give (k : Param) := given k k.mem_all
  refine ⟨frame, fun k single => ?_, ⟨fun high low => ?_, fun some_kept => ?_⟩, fun j far => bits j fun k _ e => ?_⟩
  · have one := give k
    rw [Param.given, if_neg single, Param.firstWord_eq single] at one
    refine ⟨fun none_kept => ?_, fun x some_kept => ?_⟩
    · rw [none_kept] at one
      exact one
    · rw [some_kept] at one
      rw [← Param.clamp_eq, ← Param.isClamped_eq]
      exact one
  · have two := give .pRack
    rw [Param.given, if_pos rfl, if_pos ⟨high, low⟩] at two
    exact two
  · have two := give .pRack
    rw [Param.given, if_pos rfl, if_neg (fun h => some_kept.elim (fun k => k h.1) fun k => k h.2)] at two
    intro n
    rw [← Param.clamp_eq, ← Param.isClamped_eq]
    simp only [n, ofNat_low]
    exact two
  · have := k.idx_lt
    omega

/-! ### The interrupt line -/

/-- The place of a notice in the mask. -/
def Notice.place : Notice → Nat
  | .supervision => 0
  | .brake => 1
  | .door => 2
  | .link => 3
  | .authorityChanged => 4
  | .textQueued => 5
  | .profile => 6
  | .position => 7
  | .requestDone => 8
  | .cabStale => 9
  | .departureStall => 10
  | .restriction => 11

theorem Notice.bit_eq (k : Notice) : k.bit = BitVec.twoPow 12 k.place := by
  cases k <;> rfl

theorem Notice.in_iff (k : Notice) (v : NoticeSet) : k.bit &&& v = k.bit ↔ v.getLsbD k.place = true := by
  have small : k.place < 12 := by cases k <;> decide
  rw [Notice.bit_eq, BitVec.and_comm, BitVec.and_twoPow]
  by_cases h : v.getLsbD k.place = true
  · rw [if_pos h]
    exact ⟨fun _ => h, fun _ => rfl⟩
  · rw [if_neg h]
    refine ⟨fun zero => ?_, fun set => absurd set h⟩
    have bit := congrArg (fun x => BitVec.getLsbD x k.place) zero
    simp [small] at bit

theorem exists_notice_at {i : Nat} (h : i < 12) : ∃ k : Notice, k.place = i := by
  interval_cases i
  exacts [⟨.supervision, rfl⟩, ⟨.brake, rfl⟩, ⟨.door, rfl⟩, ⟨.link, rfl⟩, ⟨.authorityChanged, rfl⟩, ⟨.textQueued, rfl⟩,
    ⟨.profile, rfl⟩, ⟨.position, rfl⟩, ⟨.requestDone, rfl⟩, ⟨.cabStale, rfl⟩, ⟨.departureStall, rfl⟩, ⟨.restriction, rfl⟩]

/-- R170: the line is asserted while a kind is both pending and enabled. -/
theorem PortState.interrupt_iff (q : PortState) : q.interrupt = true ↔
    ∃ k : Notice, k.bit &&& q.pending = k.bit ∧ k.bit &&& q.enable = k.bit := by
  simp only [Notice.in_iff]
  constructor
  · intro h
    have nonzero : q.pending &&& q.enable ≠ 0 := by simpa [PortState.interrupt] using h
    by_contra none_set
    refine nonzero (BitVec.eq_of_getLsbD_eq fun i hi => ?_)
    obtain ⟨k, rfl⟩ := exists_notice_at hi
    rw [BitVec.getLsbD_and]
    by_contra set
    have both : (q.pending.getLsbD k.place && q.enable.getLsbD k.place) = true := by simpa using set
    exact none_set ⟨k, Bool.and_eq_true_iff.1 both⟩
  · rintro ⟨k, pending, enabled⟩
    have nonzero : q.pending &&& q.enable ≠ 0 := by
      intro zero
      have bit := congrArg (fun x => BitVec.getLsbD x k.place) zero
      simp [pending, enabled] at bit
    simpa [PortState.interrupt] using nonzero

theorem setWidth_twelve (w : Word) : w.setWidth 12 = w.extractLsb' 0 12 := by
  apply BitVec.eq_of_toNat_eq
  simp

/-- Settles O51, by the masks, the owners and the notices. -/
theorem writesGoThroughTheMasks : Obligations.WritesGoThroughTheMasks := by
  intro s p ws w q word y
  refine ⟨fun c mem => ⟨exec_writes mem, ?_, fun nonempty none_kept => ?_, ?_⟩, q.interrupt_iff, ?_, ?_⟩
  · rintro rfl
    rw [exec_writes mem]
    rfl
  · rw [exec_writes mem, State.writeTransaction_words nonempty, State.writeWords_none s p ws none_kept]
  · rintro nonempty rfl text check window
    obtain ⟨-, kept⟩ := State.takeWords_wrote .c ws s
    obtain ⟨frame, single, double, far⟩ := Pst.handParams_spec (State.takeWords .c ws s).1 s.pst kept
    have written := State.writeWords_c ws s
    dsimp only at written
    refine ⟨_, (exec_writes mem).trans (congrArg _ (State.writeTransaction_words nonempty)), ?_⟩
    rw [written]
    refine ⟨?_, fun last => if_pos last, fun last => ?_, single, double, far⟩
    · exact congrArg (fun t : Pst => ({ s.wrote .c ws with
        lps := s.lps.written word
        tgh := { s.tgh with textOut := s.tgh.textOut.written word }
        pif := { (s.wrote .c ws).pif with closeCheck := checkWritten s.pif.closeCheck word }
        pst := t } : State)) frame
    · have loads : s.lps.stagingOpen = true := State.stagingOpen_of_word last
      have run := exec_stagingWindowWrite_run (s := s.setPort .c { s.pif.c with pointer := 0x248 }) (j := 0)
        (ws := [window.offset, window.d0, window.d1, window.d2, window.d3]) rfl loads
        (List.cons_ne_nil _ _) (by simp)
      exact ⟨_, Lps.written_commits s.lps last, run⟩
  · change Host.Outcome.next (s.clearMask p w) = _
    rw [State.clearMask, setWidth_twelve]
  · change Host.Outcome.next (s.enableMask p w) = _
    rw [State.enableMask, setWidth_twelve]

end Sys2Proof.Machine
end

section
/-! The cab control records (R111, R112, R122, R123). -/

namespace Sys2Proof.Machine

/-- R112: the record that the words kept make of a cab control record, in the words of the statement. -/
theorem State.writtenCab_eq (s : State) (w : CabWords) (c : CabRecord) : s.writtenCab w c =
    { traction := match w.demand with
        | none => c.traction
        | some x => min 100 x.toNat
      handle := match w.handle with
        | none => c.handle
        | some x => if x = 255#16 then .emergency else .percent (min 100 x.toNat)
      switch := match w.switch with
        | none => c.switch
        | some x => if x = 0#16 then .forward else if x = 2#16 then .reverse else .neutral
      writes := (c.writes + 1) % 65536
      fresh := some (s.now + s.par .tFresh * 1000) } := by
  obtain ⟨demand, handle, switch⟩ := w
  cases demand <;> cases handle <;> cases switch <;> rfl

/-- R111: the direction of a switch, by the desk. -/
theorem deskDir_eq (d : Desk) (w : DirSwitch) : deskDir d w = match d, w with
    | _, .neutral => none
    | .u, .forward => some .up
    | .u, .reverse => some .down
    | .l, .forward => some .down
    | .l, .reverse => some .up := by
  cases d <;> cases w <;> rfl

theorem Dka.derived_active {k : Dka} {d : Desk} {w : DirSwitch} (active : k.active = some d)
    (switch : k.switch = some w) : k.derived = if k.lock then none else deskDir d w := by
  unfold Dka.derived Dka.switchDir
  rw [active, switch]

theorem reverses_iff (a b : Option Dir) : reverses a b = true ↔ a ≠ none ∧ b ≠ none ∧ a ≠ b := by
  cases a <;> cases b <;> simp [reverses]

section
variable {s : State} {d : Desk} {w : DirSwitch}

/-- R122: a switch taken at STANDSTILL that does not reverse the direction. -/
theorem State.switchStanding_once (active : s.dka.active = some d) {free : Option Dir}
    (derived : free = if s.dka.lock then none else deskDir d w) (turns : reverses s.dka.selected free = false) :
    s.switchStanding w = { s with dka := { s.dka with switch := some w, selected := free } } := by
  have own : ({ s.dka with switch := some w } : Dka).derived = free :=
    (Dka.derived_active (k := { s.dka with switch := some w }) active rfl).trans derived.symm
  unfold State.switchStanding Dka.derive
  dsimp only
  rw [own, turns] <;> rfl

/-- R122: a reversal is two changes. -/
theorem State.switchStanding_twice (active : s.dka.active = some d) {free : Option Dir}
    (derived : free = if s.dka.lock then none else deskDir d w) (turns : reverses s.dka.selected free = true) :
    ∃ v : State, State.Ends { s with dka := { s.dka with switch := some w, selected := none } } v ∧
      s.switchStanding w = { v with dka := { v.dka with
        switch := some w, selected := free, lock := s.dka.lock } } := by
  have own : ({ s.dka with switch := some w } : Dka).derived = free :=
    (Dka.derived_active (k := { s.dka with switch := some w }) active rfl).trans derived.symm
  have ends := State.finish_ends { s with dka := { s.dka with switch := some w, selected := none } }
  unfold State.switchStanding
  dsimp only
  rw [own, turns]
  generalize State.finish { s with dka := { s.dka with switch := some w, selected := none } } = v at ends
  refine ⟨v, ends, ?_⟩
  have dka := ends.1.dka
  have after : v.dka.derived = free := by
    rw [dka, derived]
    exact Dka.derived_active (d := d) (w := w) active rfl
  have kept : v.dka.switch = some w ∧ v.dka.lock = s.dka.lock := by rw [dka]; exact ⟨rfl, rfl⟩
  rw [if_pos rfl, Dka.derive, after, ← kept.1, ← kept.2]

/-- R123: a switch taken in motion. -/
theorem Dka.switchMoving_eq (k : Dka) (d : Desk) (w : DirSwitch) :
    (deskDir d w = none → k.switchMoving d w = { k with switch := some w, selected := none }) ∧
    (deskDir d w ≠ none → k.running = deskDir d w → k.switchMoving d w =
      { k with switch := some w, selected := if k.lock then none else deskDir d w }) ∧
    (deskDir d w ≠ none → k.running ≠ deskDir d w → k.switchMoving d w =
      { k with switch := some w, lock := true, selected := none }) := by
  unfold Dka.switchMoving
  cases deskDir d w with
  | none => exact ⟨fun _ => rfl, fun h => absurd rfl h, fun h => absurd rfl h⟩
  | some x => exact ⟨fun h => (nomatch h), fun _ same => if_pos same, fun _ other => if_neg other⟩

end

/-- R112, R165: a WRITE that reaches a field of the desk's record: the record takes it, and of the active desk the
direction follows its switch. -/
theorem exec_cabControlWrite {s : State} {p : Port} {d : Desk} (mine : portDesk p = some d) {ws : List Word}
    (nonempty : ws ≠ []) :
    let word (i : Nat) := s.wordFor p ws (cabBase d + i)
    let r := s.writtenCab { demand := word 0, handle := word 1, switch := word 2 } (s.dka.cab d)
    let x : State := { s.wrote p ws with dka := s.dka.setCab d r }
    word 0 ≠ none ∨ word 1 ≠ none ∨ word 2 ≠ none →
      exec (.cabControlWrite p ws) s =
        .next (if s.dka.active = some d then x.takeSwitch d r.switch else x).finish := by
  intro word r x kept
  have frame : s.wrote p ws = { s with pif := (s.wrote p ws).pif } := by
    cases p <;> rfl
  have written : (s.wrote p ws).writtenCab { demand := word 0, handle := word 1, switch := word 2 }
      (s.dka.cab d) = r := by
    rw [frame] <;> rfl
  have taken : (s.wrote p ws).takeCab d { demand := word 0, handle := word 1, switch := word 2 } =
      if s.dka.active = some d then x.takeSwitch d r.switch else x := by
    have dka : (s.wrote p ws).dka = s.dka := by rw [frame]
    unfold State.takeCab
    rw [dka]
    dsimp only
    rw [written]
  exact (exec_writes (by simp)).trans (congrArg _ ((State.writeTransaction_words nonempty).trans
    ((State.writeWords_desk mine ws s).trans ((if_pos kept).trans (congrArg State.finish taken)))))

/-- Settles O35, by the desk that is active and the motion of the car. -/
theorem cabControlWriteIsTakenWhole : Obligations.CabControlWriteIsTakenWhole := by
  intro s p desk ws mine word kept c w r x sets dir free still acts turns
  have nonempty : ws ≠ [] := by
    rintro rfl
    have empty (b : Nat) : s.wordFor p [] b = none := by
      rw [State.wordFor_lastFor]
      split <;> rfl
    exact kept.elim (fun h => h (empty _)) fun h => h.elim (fun h => h (empty _)) fun h => h (empty _)
  have words (i : Nat) : word i = s.wordFor p ws (cabBase desk + i) := by
    cases desk <;> rfl
  have record : s.writtenCab { demand := word 0, handle := word 1, switch := word 2 } c = r :=
    State.writtenCab_eq _ _ _
  have frame : s.wrote p ws = { s with pif := (s.wrote p ws).pif } := by
    cases p <;> rfl
  have run : exec (.cabControlWrite p ws) s =
      .next (if s.dka.active = some desk then x.takeSwitch desk w else x).finish := by
    have own := exec_cabControlWrite (s := s) mine nonempty
    simp only [← words] at own
    rw [own kept, record]
  obtain ⟨t, out, ends⟩ := exec_ends run
  have active : x.dka.active = s.dka.active := Dka.setCab_active s.dka desk r
  obtain ⟨switch, selected, lock, running⟩ : x.dka.switch = s.dka.switch ∧ x.dka.selected = s.dka.selected ∧
      x.dka.lock = s.dka.lock ∧ x.dka.running = s.dka.running := by
    cases desk <;> exact ⟨rfl, rfl, rfl, rfl⟩
  have dir_eq : deskDir desk w = dir := deskDir_eq desk w
  have odu : x.odu = s.odu := (congrArg State.odu frame).trans rfl
  have standing : x.still = true ↔ still := by
    unfold State.still
    rw [odu]
    simp [still]
  refine ⟨t, out, fun passive => ?_, fun acting stands once => ?_, fun acting stands twice => ?_,
    fun acting moves none_dir => ?_, fun acting moves some_dir same => ?_, fun acting moves some_dir other => ?_⟩
  · by_cases mine : s.dka.active = some desk
    · have same : s.dka.switch = some w := by
        by_contra differs
        exact passive ⟨mine, differs⟩
      rw [if_pos mine, State.takeSwitch, switch, if_pos same] at ends
      exact ends
    · rwa [if_neg mine] at ends
  all_goals
    rw [if_pos acting.1, State.takeSwitch, switch, if_neg acting.2] at ends
  · rw [if_pos (standing.2 stands)] at ends
    have straight : reverses x.dka.selected free = false := by
      rw [selected]
      exact Bool.eq_false_iff.2 fun h => once ((reverses_iff _ _).1 h)
    rw [State.switchStanding_once (active.trans acting.1) (free := free) (by rw [lock, dir_eq]) straight] at ends
    simp only [sets]
    rw [← lock]
    exact ends
  · rw [if_pos (standing.2 stands)] at ends
    obtain ⟨v, first, second⟩ := State.switchStanding_twice (s := x) (w := w) (active.trans acting.1) (free := free)
      (by rw [lock, dir_eq]) ((reverses_iff _ _).2 (by rw [selected]; exact twice))
    rw [second, lock] at ends
    refine ⟨v, ?_, ends⟩
    simp only [sets]
    rw [← lock]
    exact first
  all_goals
    rw [if_neg fun h => moves (standing.1 h)] at ends
    obtain ⟨neutral, kept_dir, turned⟩ := Dka.switchMoving_eq x.dka desk w
  · rw [neutral (dir_eq.trans none_dir)] at ends
    simp only [sets]
    rw [← lock]
    exact ends
  · rw [kept_dir (dir_eq ▸ some_dir) (by rw [running, dir_eq, same]), lock, dir_eq] at ends
    exact ends
  · rw [turned (dir_eq ▸ some_dir) (by rw [running, dir_eq]; exact other)] at ends
    exact ends

end Sys2Proof.Machine
end

section
/-! The pointer, READ and READ_STATUS (R162 to R164, R171). -/

namespace Sys2Proof.Machine

/-! ### The record map -/

/-- The number of words of a record. -/
def RecordId.size : RecordId → Nat
  | .motion => 14
  | .source => 7
  | .desk => 8
  | .cab _ => 5
  | .supervision => 14
  | .curve => 14
  | .restrictionSummary => 4
  | .piece _ => 6
  | .restriction _ => 7
  | .row _ => 4
  | .brake => 13
  | .brakeOutput => 9
  | .door _ => 12
  | .side _ => 6
  | .interlock => 5
  | .bank _ => 13
  | .claim => 9
  | .blockMap => 9
  | .activation => 5
  | .staging => 5
  | .closeCheck => 2
  | .radio => 14
  | .link => 8
  | .authority => 11
  | .radioProfile => 5
  | .call _ => 7
  | .wholeLine => 2
  | .rxText => 13
  | .txText => 1
  | .textOut => 7
  | .parameterStatus => 8
  | .parameters k => if k = 3 then 14 else 16

theorem twoWords_length (n : Nat) : (twoWords n).length = 2 := rfl

theorem bytesToWords_length (n : Nat) (bs : List Byte) : (bytesToWords n bs).length = n := by
  simp [bytesToWords]

theorem State.recordWords_length (s : State) (i : RecordId) : (s.recordWords i).length = i.size := by
  cases i with
  | piece k => cases h : s.ssu.window[k]? <;> simp [State.recordWords, h, pieceWords, RecordId.size]
  | restriction k =>
    cases h : s.ssu.restrictions[k]? <;>
      simp [State.recordWords, h, restrictionWords, RecordId.size, twoWords_length]
  | call k => cases h : s.tgh.calls[k]? <;> simp [State.recordWords, h, callWords, RecordId.size, twoWords_length]
  | authority => simp [State.recordWords, Tgh.authorityWords, RecordId.size, optTwo, twoWords_length, bytesToWords_length]
  | rxText => simp [State.recordWords, State.rxTextWords, RecordId.size, bytesToWords_length]
  | parameters k => simp [State.recordWords, RecordId.size]
  | _ => rfl

theorem recordMap_sizes : (recordMap.all fun r => r.record.size == r.words) = true := by decide +kernel

/-- Every word of a record's place is its own. -/
theorem recordMap_places : (recordMap.all fun r => decide (0 < r.words ∧ r.base + r.words < 4096) &&
    (List.range r.words).all fun k => placeOf (r.base + k) == some r) = true := by decide +kernel

section
variable {r : Place}

theorem recordWords_words (s : State) (h : r ∈ recordMap) : (s.recordWords r.record).length = r.words := by
  rw [s.recordWords_length]
  exact eq_of_beq (List.all_eq_true.1 recordMap_sizes r h)

theorem place_words (h : r ∈ recordMap) : 0 < r.words ∧ r.base + r.words < 4096 := by
  have all := List.all_eq_true.1 recordMap_places r h
  exact of_decide_eq_true (Bool.and_eq_true_iff.1 all).1

/-- No record with the words before the next one is longer than a READ may be. -/
theorem recordMap_short : (recordMap.all fun r => decide (r.words ≤ 256)) = true := by decide +kernel

theorem place_short (h : r ∈ recordMap) : r.words ≤ 256 :=
  of_decide_eq_true (List.all_eq_true.1 recordMap_short r h)

theorem placeOf_base (h : r ∈ recordMap) {k : Nat} (lt : k < r.words) : placeOf (r.base + k) = some r := by
  have all := List.all_eq_true.1 recordMap_places r h
  exact eq_of_beq (List.all_eq_true.1 (Bool.and_eq_true_iff.1 all).2 k (List.mem_range.2 lt))

theorem placeOf_within {b : Nat} (h : r ∈ recordMap) (low : r.base ≤ b) (high : b < r.base + r.words) :
    placeOf b = some r := by
  have here := placeOf_base h (k := b - r.base) (by omega)
  rwa [Nat.add_sub_cancel' low] at here

theorem placeOf_mem {b : Nat} (h : placeOf b = some r) : r ∈ recordMap ∧ r.base ≤ b ∧ b < r.base + r.words :=
  ⟨List.mem_of_find?_eq_some h, (placeOf_some h).2⟩

theorem placeAt_mem {b : Nat} (h : placeAt b = some r) : r ∈ recordMap ∧ r.base = b :=
  ⟨List.mem_of_find?_eq_some h, eq_of_beq (List.find?_some (p := fun r : Place => r.base == b) h)⟩

theorem placeAt_base (h : r ∈ recordMap) : placeAt r.base = some r := by
  cases found : placeAt r.base with
  | none => exact absurd (List.find?_eq_none.1 found r h) (by simp)
  | some x =>
    obtain ⟨mem, base⟩ := placeAt_mem found
    have pos := (place_words h).1
    have pos' := (place_words mem).1
    have mine := placeOf_within h (le_refl r.base) (by omega)
    have other := placeOf_within mem base.le (b := r.base) (by omega)
    exact other.symm.trans mine

/-- No record begins within another. -/
theorem placeAt_within {b : Nat} (h : r ∈ recordMap) (low : r.base < b) (high : b < r.base + r.words) :
    placeAt b = none := by
  cases found : placeAt b with
  | none => rfl
  | some x =>
    obtain ⟨mem, base⟩ := placeAt_mem found
    have pos := (place_words mem).1
    have mine := placeOf_within h low.le high
    have other := placeOf_within mem base.le (by omega)
    cases mine.symm.trans other
    omega

theorem placeAt_of_unmapped {b : Nat} (h : placeOf b = none) : placeAt b = none := by
  cases found : placeAt b with
  | none => rfl
  | some x =>
    obtain ⟨mem, base⟩ := placeAt_mem found
    have pos := (place_words mem).1
    have other := placeOf_within mem base.le (b := b) (by omega)
    cases h.symm.trans other

end

/-! ### READ -/

/-- R164: the buffer after `j` moves of the pointer from `a`. -/
def State.bufferAt (s : State) (a : Nat) (g : Option Snapshot) (j : Nat) : Option Snapshot :=
  (List.range j).foldl (fun g i =>
    match placeAt (runAddress a (i + 1)) with
    | none => g
    | some r => some { base := r.base, words := s.recordWords r.record }) g

/-- R164: the word at an address, from the buffer while it holds its record. -/
def State.wordFrom (s : State) (b : Nat) (g : Option Snapshot) : Word :=
  match placeOf b, g with
  | some r, some n => if r.base = n.base then n.words.getD (b - r.base) 0 else s.liveWord b
  | _, _ => s.liveWord b

theorem State.liveWord_setPort (s : State) (p : Port) (q : PortState) (b : Nat) :
    (s.setPort p q).liveWord b = s.liveWord b := by
  unfold State.liveWord
  simp only [State.setPort_recordWords]

theorem State.bufferAt_succ (s : State) (a : Nat) (g : Option Snapshot) (j : Nat) :
    s.bufferAt a g (j + 1) = s.bufferAt ((a + 1) % 4096) ((s.snapshotAt ((a + 1) % 4096)).or g) j := by
  unfold State.bufferAt State.snapshotAt
  rw [List.range_succ_eq_map, List.foldl_cons, List.foldl_map]
  simp only [Nat.succ_eq_add_one, runAddress_succ, show runAddress ((a + 1) % 4096) 0 = (a + 1) % 4096 from rfl]
  cases placeAt ((a + 1) % 4096) <;> rfl

theorem State.readOut_eq (p : Port) (n : Nat) (s : State) :
    s.readOut p n =
      ((List.range n).map fun j => s.wordFrom (runAddress (s.port p).pointer j)
          (s.bufferAt (s.port p).pointer (s.port p).snapshot j),
        s.setPort p { s.port p with
          pointer := runAddress (s.port p).pointer n
          snapshot := s.bufferAt (s.port p).pointer (s.port p).snapshot n }) := by
  induction n generalizing s with
  | zero => cases p <;> rfl
  | succ n ih =>
    have first : s.pointerWord p = s.wordFrom (runAddress (s.port p).pointer 0)
        (s.bufferAt (s.port p).pointer (s.port p).snapshot 0) := rfl
    have word (b : Nat) (g : Option Snapshot) : (s.stepPointer p).wordFrom b g = s.wordFrom b g := by
      unfold State.wordFrom State.stepPointer
      simp only [State.liveWord_setPort]
    have buffer (a : Nat) (g : Option Snapshot) (j : Nat) : (s.stepPointer p).bufferAt a g j = s.bufferAt a g j := by
      unfold State.bufferAt State.stepPointer
      simp only [State.setPort_recordWords]
    have pointer : ((s.stepPointer p).port p).pointer = ((s.port p).pointer + 1) % 4096 := by
      simp only [State.stepPointer, State.setPort_port, recordSpace]
    have snapshot : ((s.stepPointer p).port p).snapshot =
        (s.snapshotAt (((s.port p).pointer + 1) % 4096)).or (s.port p).snapshot := by
      simp only [State.stepPointer, State.setPort_port, recordSpace]
    unfold State.readOut
    dsimp only
    rw [ih, first, List.range_succ_eq_map, List.map_cons, List.map_map]
    simp only [word, buffer, pointer, snapshot, Function.comp_def, Nat.succ_eq_add_one, runAddress_succ,
      State.bufferAt_succ]
    refine congrArg _ ?_
    simp only [State.stepPointer, State.setPort_setPort, State.setPort_port]

theorem exec_read_error {s : State} {p : Port} {count : Word} (h : count.toNat = 0 ∨ 256 < count.toNat) :
    exec (.read p count) s = .next (s.framingError p) := by
  change Host.Outcome.next (s.readTransaction p count) = _
  unfold State.readTransaction
  rw [if_pos (h.imp (fun zero => BitVec.eq_of_toNat_eq zero) id)]

/-- R163, R164: a READ of a count in its range. -/
theorem exec_read {s : State} {p : Port} {count : Word} (low : 1 ≤ count.toNat) (high : count.toNat ≤ 256) :
    exec (.read p count) s = .next (s.setPort p { s.port p with
      out := (List.range count.toNat).map fun j => s.wordFrom (runAddress (s.port p).pointer j)
          (s.bufferAt (s.port p).pointer (s.port p).snapshot j)
      pointer := runAddress (s.port p).pointer count.toNat
      snapshot := s.bufferAt (s.port p).pointer (s.port p).snapshot count.toNat }) := by
  change Host.Outcome.next (s.readTransaction p count) = _
  have nonzero : ¬(count = 0 ∨ 256 < count.toNat) := by
    rintro (rfl | big)
    · exact absurd low (by decide)
    · omega
  unfold State.readTransaction
  rw [if_neg nonzero, State.readWords, State.readOut_eq, State.shiftOut]
  simp only [State.setPort_setPort, State.setPort_port]

end Sys2Proof.Machine
end

section
/-! READ within and over records (R163, R164), and READ_STATUS (R171). -/

namespace Sys2Proof.Machine

theorem runAddress_small {a j : Nat} (h : a + j < 4096) : runAddress a j = a + j := by
  unfold runAddress
  split
  · omega
  · exact Nat.mod_eq_of_lt h

theorem runAddress_mod {a j : Nat} (h : a < 4096) : runAddress a j = (a + j) % 4096 := by
  unfold runAddress
  split
  · omega
  · rfl

section
variable {s : State} {r r' : Place}

/-- The buffer stands while the pointer comes to no record's first word. -/
theorem State.bufferAt_kept {a j : Nat} {g : Option Snapshot} (h : ∀ i < j, placeAt (runAddress a (i + 1)) = none) :
    s.bufferAt a g j = g := by
  unfold State.bufferAt
  refine foldl_kept _ fun x i hi => ?_
  rw [h i (List.mem_range.1 hi)]

/-- R164: a word from the buffer that holds its record. -/
theorem State.wordFrom_buffer (h : r ∈ recordMap) {k : Nat} (lt : k < r.words) (ws : List Word) :
    s.wordFrom (r.base + k) (some { base := r.base, words := ws }) = ws.getD k 0 := by
  unfold State.wordFrom
  rw [placeOf_base h lt]
  dsimp only
  rw [if_pos rfl, Nat.add_sub_cancel_left]

theorem State.wordFrom_unmapped {b : Nat} (h : placeOf b = none) (g : Option Snapshot) : s.wordFrom b g = 0#16 := by
  unfold State.wordFrom State.liveWord
  rw [h]
  rfl

theorem State.wordFrom_live (h : r ∈ recordMap) {k : Nat} (lt : k < r.words) :
    s.wordFrom (r.base + k) none = (s.recordWords r.record).getD k 0 := by
  unfold State.wordFrom State.liveWord
  rw [placeOf_base h lt]
  dsimp only
  rw [Nat.add_sub_cancel_left]

theorem range_map_getD {ws : List Word} {n : Nat} (h : ws.length = n) :
    ((List.range n).map fun j => ws.getD j 0) = ws := by
  refine List.ext_getElem (by simp [h]) fun j _ lt => ?_
  simp [lt]

/-- R163, R164: the words of the record at which the pointer stands, with its snapshot. -/
theorem State.read_record (h : r ∈ recordMap) {ws : List Word} (length : ws.length = r.words) :
    ((List.range r.words).map fun j => s.wordFrom (runAddress r.base j)
      (s.bufferAt r.base (some { base := r.base, words := ws }) j)) = ws := by
  obtain ⟨-, room⟩ := place_words h
  refine Eq.trans (List.map_congr_left fun j hj => ?_) (range_map_getD length)
  have lt := List.mem_range.1 hj
  have stands : s.bufferAt r.base (some { base := r.base, words := ws }) j = some { base := r.base, words := ws } := by
    refine State.bufferAt_kept fun i hi => ?_
    rw [runAddress_small (by omega)]
    exact placeAt_within h (by omega) (by omega)
  rw [stands, runAddress_small (by omega), State.wordFrom_buffer h lt]

/-- Two records that follow each other in the map do not meet, and no record lies between. -/
theorem records_apart (h : r ∈ recordMap) (h' : r' ∈ recordMap) (before : r.base < r'.base) :
    r.base + r.words ≤ r'.base := by
  by_contra meets
  have pos := (place_words h').1
  have mine := placeOf_within h before.le (not_le.1 meets)
  have other := placeOf_within h' le_rfl (b := r'.base) (by omega)
  cases mine.symm.trans other
  omega

/-- A READ may run from any record over the next one. -/
theorem recordMap_steps : (recordMap.all fun r => recordMap.all fun r' => decide (r'.base ≤ r.base) ||
    (recordMap.any fun x => decide (r.base < x.base) && decide (x.base < r'.base)) ||
    decide (r'.base - r.base + r'.words ≤ 256)) = true := by decide +kernel

theorem step_short (h : r ∈ recordMap) (h' : r' ∈ recordMap) (before : r.base < r'.base)
    (between : ∀ x ∈ recordMap, x.base ≤ r.base ∨ r'.base ≤ x.base) : r'.base - r.base + r'.words ≤ 256 := by
  have all := List.all_eq_true.1 (List.all_eq_true.1 recordMap_steps r h) r' h'
  simp only [Bool.or_eq_true, decide_eq_true_eq, List.any_eq_true, Bool.and_eq_true] at all
  rcases all with (late | ⟨x, mem, above, below⟩) | short
  · omega
  · have := between x mem
    omega
  · exact short

theorem unmapped_between (h : r ∈ recordMap) (between : ∀ x ∈ recordMap, x.base ≤ r.base ∨ r'.base ≤ x.base) {b : Nat}
    (low : r.base + r.words ≤ b) (high : b < r'.base) : placeOf b = none := by
  cases found : placeOf b with
  | none => rfl
  | some x =>
    obtain ⟨mem, below, above⟩ := placeOf_mem found
    have pos := (place_words h).1
    rcases between x mem with le | ge
    · have mine := placeOf_within h le_rfl (b := r.base) (by omega)
      have other := placeOf_within mem le (b := r.base) (by omega)
      cases mine.symm.trans other
      omega
    · omega

/-- R164: the buffer at the first word of the record that follows. -/
theorem State.bufferAt_next (h' : r' ∈ recordMap) (before : r.base < r'.base) (g : Option Snapshot) {k : Nat} (lt : k < r'.words) :
    s.bufferAt r.base g (r'.base - r.base + k) = some { base := r'.base, words := s.recordWords r'.record } := by
  obtain ⟨-, room⟩ := place_words h'
  induction k with
  | zero =>
    obtain ⟨n, hn⟩ : ∃ n, r'.base - r.base = n + 1 := ⟨r'.base - r.base - 1, by omega⟩
    rw [Nat.add_zero, hn]
    unfold State.bufferAt
    rw [List.range_succ, List.foldl_append, List.foldl_cons, List.foldl_nil, runAddress_small (by omega),
      show r.base + (n + 1) = r'.base by omega, placeAt_base h']
  | succ k ih =>
    have here := ih (by omega)
    rw [← Nat.add_assoc]
    unfold State.bufferAt at here ⊢
    rw [List.range_succ, List.foldl_append, List.foldl_cons, List.foldl_nil, runAddress_small (by omega),
      placeAt_within h' (by omega) (by omega)]
    exact here

/-- R164: a READ from one record over the unmapped words and the record that follows. -/
theorem State.read_over (h : r ∈ recordMap) (h' : r' ∈ recordMap) (before : r.base < r'.base)
    (between : ∀ x ∈ recordMap, x.base ≤ r.base ∨ r'.base ≤ x.base) {ws : List Word} (length : ws.length = r.words) :
    ((List.range (r'.base - r.base + r'.words)).map fun j => s.wordFrom (runAddress r.base j)
      (s.bufferAt r.base (some { base := r.base, words := ws }) j)) =
      ws ++ List.replicate (r'.base - (r.base + r.words)) 0#16 ++ s.recordWords r'.record := by
  obtain ⟨-, room⟩ := place_words h'
  have apart := records_apart h h' before
  have own := State.read_record (s := s) h length
  have total : r'.base - r.base + r'.words = r.words + (r'.base - (r.base + r.words)) + r'.words := by omega
  rw [total, List.range_add, List.range_add, List.map_append, List.map_append, own, List.map_map, List.map_map]
  refine congrArg₂ _ (congrArg _ ?_) ?_
  · refine List.eq_replicate_iff.2 ⟨by simp, fun x hx => ?_⟩
    obtain ⟨j, hj, rfl⟩ := List.mem_map.1 hx
    have lt := List.mem_range.1 hj
    refine State.wordFrom_unmapped ?_ _
    change placeOf (runAddress r.base (r.words + j)) = none
    rw [runAddress_small (by omega)]
    exact unmapped_between h between (by omega) (by omega)
  · refine Eq.trans (List.map_congr_left fun k hk => ?_) (range_map_getD (recordWords_words s h'))
    have lt := List.mem_range.1 hk
    have place : r.words + (r'.base - (r.base + r.words)) + k = r'.base - r.base + k := by omega
    rw [Function.comp, place, State.bufferAt_next h' before _ lt, runAddress_small (by omega),
      show r.base + (r'.base - r.base + k) = r'.base + k by omega, State.wordFrom_buffer h' lt]

end

/-- R171: the status words. -/
theorem exec_readStatus (s : State) (p : Port) :
    let q := s.port p
    exec (.readStatus p) s = .next (s.setPort p { q with out :=
      [q.pending.setWidth 16, q.enable.setWidth 16, 0#16,
        BitVec.ofNat 16 (match q.result with
          | none => 0
          | some c => 256 * (c.code.toNat % 256) + c.result.code),
        ((q.result.bind ResultCell.detail).getD 0#16),
        BitVec.ofNat 16 ((if q.result.isSome then 32768 else 0) + q.seq),
        BitVec.ofNat 16 (256 * q.refused + q.frameErrors)] }) := by
  intro q
  change Host.Outcome.next (s.setPort p { q with out := q.statusWords }) = _
  have shown : 32768 * bitOf q.result.isSome = if q.result.isSome then 32768 else 0 := by
    cases q.result <;> rfl
  unfold PortState.statusWords
  rw [shown]
  cases q.result <;> rfl

/-- Settles O50, by the words of a READ and the moves of the pointer. -/
theorem pointerReadAndStatusShiftOut : Obligations.PointerReadAndStatusShiftOut := by
  intro s p addr count q a
  refine ⟨?_, fun r mem => ⟨recordWords_words s mem, fun counts at' ws length holds => ?_⟩,
    fun r mem r' mem' before between counts at' ws length holds => ?_, fun one empty low => ?_,
    fun bad => exec_read_error bad, fun low high => ?_, ?_, exec_readStatus s p⟩
  · change Host.Outcome.next (s.loadPointer p addr.toNat) = _
    have taken : s.snapshotAt a = (placeAt a).map fun r => { base := a, words := s.recordWords r.record } := by
      unfold State.snapshotAt
      cases found : placeAt a with
      | none => rfl
      | some r =>
        obtain ⟨-, base⟩ := placeAt_mem found
        rw [Option.map_some, Option.map_some, base]
    rw [← taken]
    rfl
  · obtain ⟨pos, room⟩ := place_words mem
    have low : 1 ≤ count.toNat := by omega
    have high : count.toNat ≤ 256 := counts.le.trans (place_short mem)
    have out := exec_read (s := s) (p := p) low high
    rw [at', holds, counts, State.read_record mem length, runAddress_mod (by omega)] at out
    refine ⟨_, out, ?_, ?_, ?_⟩
    · simp only [State.setPort_port]
    · simp only [State.setPort_port]
    · simp only [State.setPort_port]
      rfl
  · obtain ⟨pos, room⟩ := place_words mem'
    have low : 1 ≤ count.toNat := by omega
    have high : count.toNat ≤ 256 := counts.le.trans (step_short mem mem' before between)
    have out := exec_read (s := s) (p := p) low high
    rw [at', holds, counts, State.read_over mem mem' before between length, runAddress_mod (by omega)] at out
    refine ⟨_, out, ?_, ?_⟩
    · simp only [State.setPort_port]
    · simp only [State.setPort_port]
      rw [show r.base + (r'.base - r.base + r'.words) = r'.base + r'.words by omega]
  · have out := exec_read (s := s) (p := p) (count := count) (by rw [one]; decide) (by rw [one]; decide)
    rw [show count.toNat = 1 by rw [one]; rfl, runAddress_mod low] at out
    refine ⟨_, out, ?_, fun r mem k lt here => ?_, fun unmapped => ?_⟩
    · rw [State.setPort_port]
    · have words := recordWords_words s mem
      have get : (s.recordWords r.record)[k]? = some ((s.recordWords r.record).getD k 0) := by
        rw [List.getD_eq_getElem?_getD, List.getElem?_eq_getElem (by omega), Option.getD_some]
      refine ⟨_, get, ?_⟩
      rw [State.setPort_port]
      dsimp only
      rw [show (s.port p).snapshot = none from empty, show (s.port p).pointer = r.base + k from here,
        ← State.wordFrom_live mem lt]
      rfl
    · have none_here : placeOf (s.port p).pointer = none := by
        cases found : placeOf (s.port p).pointer with
        | none => rfl
        | some r =>
          obtain ⟨mem, below, above⟩ := placeOf_mem found
          exact absurd ⟨below, above⟩ (unmapped r mem)
      rw [State.setPort_port]
      exact congrArg (fun x => [x]) (State.wordFrom_unmapped none_here _)
  · refine ⟨_, exec_read low high, ?_, ?_⟩
    · simp [State.setPort_port]
    · simp only [State.setPort_port]
      rfl
  · intro low high here buffer word
    have moves (i : Nat) : runAddress q.pointer i = (q.pointer + i) % 4096 := runAddress_mod here
    have buffers (j : Nat) : s.bufferAt q.pointer q.snapshot j = buffer j := by
      unfold State.bufferAt placeAt
      simp only [moves]
      rfl
    have words (j : Nat) : s.wordFrom (runAddress q.pointer j) (s.bufferAt q.pointer q.snapshot j) = word j := by
      rw [buffers, moves]
      unfold State.wordFrom State.liveWord
      simp only [word]
      have place : placeOf ((q.pointer + j) % 4096) = recordMap.find? fun r =>
          decide (r.base ≤ (q.pointer + j) % 4096 ∧ (q.pointer + j) % 4096 < r.base + r.words) := by
        unfold placeOf
        simp only [Bool.decide_and]
      rw [← place]
      cases placeOf ((q.pointer + j) % 4096) with
      | none => rfl
      | some r =>
        cases buffer j with
        | none => rfl
        | some g =>
          dsimp only
          by_cases same : r.base = g.base
          · rw [if_pos same, if_pos same.symm]
          · rw [if_neg same, if_neg (Ne.symm same)]
    have run : exec (.read p count) s = .next (s.setPort p { q with
        out := (List.range count.toNat).map fun j => s.wordFrom (runAddress q.pointer j)
          (s.bufferAt q.pointer q.snapshot j)
        pointer := runAddress q.pointer count.toNat
        snapshot := s.bufferAt q.pointer q.snapshot count.toNat }) := exec_read low high
    have mapped : ((List.range count.toNat).map fun j => s.wordFrom (runAddress q.pointer j)
        (s.bufferAt q.pointer q.snapshot j)) = (List.range count.toNat).map word :=
      List.map_congr_left fun j _ => words j
    rw [run, mapped, moves, buffers]

end Sys2Proof.Machine
end

section
/-! Transactions by their bytes, and requests by their codes (R162, R166, 11.2). -/

namespace Sys2Proof.Machine

/-! ### The words of a run of bytes -/

theorem wordsOf_pairs (pairs : List (Byte × Byte)) :
    wordsOf (pairs.flatMap fun y => [y.1, y.2]) = pairs.map fun y => y.1 ++ y.2 := by
  induction pairs with
  | nil => rfl
  | cons y ys ih => exact congrArg (byteWord y.1 y.2 :: ·) ih

/-- A last byte without its partner makes no word. -/
theorem wordsOf_pairs_odd (pairs : List (Byte × Byte)) (x : Byte) :
    wordsOf ((pairs.flatMap fun y => [y.1, y.2]) ++ [x]) = pairs.map fun y => y.1 ++ y.2 := by
  induction pairs with
  | nil => rfl
  | cons y ys ih => exact congrArg (byteWord y.1 y.2 :: ·) ih

theorem length_pairs (pairs : List (Byte × Byte)) :
    (pairs.flatMap fun y => [y.1, y.2]).length = 2 * pairs.length := by
  induction pairs with
  | nil => rfl
  | cons y ys ih =>
    rw [List.flatMap_cons, List.length_append, ih]
    simp only [List.length_cons, List.length_nil]
    omega

theorem wordsOf_length : ∀ bs : List Byte, (wordsOf bs).length = bs.length / 2
  | [] => rfl
  | [_] => by simp [wordsOf]
  | _ :: _ :: t => by
    simp only [wordsOf, List.length_cons, wordsOf_length t]
    omega

/-! ### The transactions -/

section
variable {s : State} {p : Port} {bs : List Byte}

/-- R162: a command byte that names no command. -/
theorem State.rawTransaction_unnamed {b : Byte} (h : b = 0#8 ∨ 8 ≤ b.toNat) :
    s.rawTransaction p (b :: bs) = s.framingError p := by
  unfold State.rawTransaction
  rcases h with rfl | h
  · rfl
  · obtain ⟨k, hk⟩ : ∃ k, b.toNat = k + 8 := ⟨b.toNat - 8, by omega⟩
    dsimp only
    rw [hk]
    rfl

/-- R162: a REQUEST cut short within its three words. -/
theorem State.rawTransaction_short_request (h : bs.length < 6) :
    s.rawTransaction p (4#8 :: bs) = s.framingError p := by
  have few : (wordsOf bs).length < 3 := by
    rw [wordsOf_length]
    omega
  unfold State.rawTransaction
  dsimp only
  match e : wordsOf bs, few with
  | [], _ => rfl
  | [_], _ => rfl
  | [_, _], _ => rfl
  | _ :: _ :: _ :: _, few =>
    simp only [List.length_cons] at few
    omega

variable {hi lo : Byte}

/-- R162: a READ by its count and the bytes shifted after it. -/
theorem State.rawRead_eq : s.rawRead p (hi :: lo :: bs) =
    if (hi ++ lo : Word) = 0 ∨ 256 < (hi ++ lo : Word).toNat then s.framingError p
    else if (hi ++ lo : Word).toNat ≤ bs.length / 2 then s.readWords p (hi ++ lo : Word).toNat
    else (s.readWords p (bs.length / 2)).framingError p := rfl

theorem State.rawRead_whole (h : 2 * (hi ++ lo : Word).toNat ≤ bs.length ∨ (hi ++ lo : Word).toNat = 0 ∨
    256 < (hi ++ lo : Word).toNat) : s.rawRead p (hi :: lo :: bs) = s.readTransaction p (hi ++ lo) := by
  rw [State.rawRead_eq]
  unfold State.readTransaction
  by_cases bad : (hi ++ lo : Word) = 0 ∨ 256 < (hi ++ lo : Word).toNat
  · rw [if_pos bad, if_pos bad]
  · have whole : (hi ++ lo : Word).toNat ≤ bs.length / 2 := by
      rcases h with fits | zero | big
      · omega
      · exact absurd (.inl (BitVec.eq_of_toNat_eq zero)) bad
      · exact absurd (.inr big) bad
    rw [if_neg bad, if_neg bad, if_pos whole]

theorem State.rawRead_short (low : 1 ≤ (hi ++ lo : Word).toNat) (high : (hi ++ lo : Word).toNat ≤ 256)
    (short : bs.length < 2 * (hi ++ lo : Word).toNat) :
    s.rawRead p (hi :: lo :: bs) = (s.readWords p (bs.length / 2)).framingError p := by
  have fine : ¬((hi ++ lo : Word) = 0 ∨ 256 < (hi ++ lo : Word).toNat) := by
    rintro (zero | big)
    · rw [zero] at low
      exact absurd low (by decide)
    · omega
  rw [State.rawRead_eq, if_neg fine, if_neg (by omega)]

variable {pairs : List (Byte × Byte)}

/-- R165: a WRITE of whole words. -/
theorem State.rawWrite_pairs (some : pairs ≠ []) :
    s.rawWrite p (pairs.flatMap fun y => [y.1, y.2]) = s.writeTransaction p (pairs.map fun y => y.1 ++ y.2) := by
  obtain ⟨y, ys, rfl⟩ := List.exists_cons_of_ne_nil some
  have even : ¬((y :: ys).flatMap fun y => [y.1, y.2]).length % 2 = 1 := by
    rw [length_pairs]
    omega
  unfold State.rawWrite
  rw [if_neg (by simp), if_neg even, wordsOf_pairs, if_neg (by simp)]
  rfl

/-- R165: a WRITE cut short within a word. -/
theorem State.rawWrite_odd (some : pairs ≠ []) (x : Byte) :
    s.rawWrite p ((pairs.flatMap fun y => [y.1, y.2]) ++ [x]) =
      (s.writeTransaction p (pairs.map fun y => y.1 ++ y.2)).framingError p := by
  obtain ⟨y, ys, rfl⟩ := List.exists_cons_of_ne_nil some
  have odd : (((y :: ys).flatMap fun y => [y.1, y.2]) ++ [x]).length % 2 = 1 := by
    rw [List.length_append, length_pairs, List.length_singleton]
    omega
  unfold State.rawWrite
  rw [if_neg (by simp), if_pos odd, wordsOf_pairs_odd, if_neg (by simp)]
  rfl

/-! ### The requests -/

theorem ReqKind.ofCode_none {code : Word} (h : code.toNat = 0 ∨ 20 ≤ code.toNat) : ReqKind.ofCode code = none := by
  unfold ReqKind.ofCode
  rcases h with h | h
  · rw [h]
    rfl
  · obtain ⟨k, hk⟩ : ∃ k, code.toNat = k + 20 := ⟨code.toNat - 20, by omega⟩
    rw [hk]
    rfl

end

/-- Settles O52: the bytes make words in pairs, and a request is served by the words its kind uses. -/
theorem transactionsAreTakenByTheirBytes : Obligations.TransactionsAreTakenByTheirBytes := by
  intro s p hi lo x c₁ c₀ a₁ a₀ b₁ b₀ code arg1 arg2 more pairs c q error bad
  have run : ∀ bytes, c bytes = .next (s.rawTransaction p bytes) := fun _ => rfl
  have served (k : ReqKind) (a b a' b' : Word) (same : ∀ t : State, t.answer k p a b = t.answer k p a' b') :
      (.next (s.serve k p a b) : Out) = .next (s.serve k p a' b') :=
    congrArg Host.Outcome.next (State.serve_words same)
  refine ⟨⟨rfl, rfl, rfl⟩, fun b unnamed bs => ?unnamed, ?short, fun bs few => ?request, rfl, ⟨?whole, ?none, ?part⟩,
    rfl, ⟨?write, ?empty⟩, rfl, rfl, rfl, ?badCode, ?plain, ?one, ?two⟩
  case unnamed =>
    rw [run, State.rawTransaction_unnamed unnamed]
    rfl
  case short =>
    simp only [List.mem_cons, List.not_mem_nil, or_false]
    rintro b (rfl | rfl | rfl | rfl | rfl) <;> exact ⟨rfl, rfl⟩
  case request =>
    rw [run, State.rawTransaction_short_request few]
    rfl
  case whole => exact fun h => congrArg Host.Outcome.next (State.rawRead_whole h)
  case none =>
    intro low high few
    refine (congrArg Host.Outcome.next (State.rawRead_short low high (by omega))).trans ?_
    rw [show more.length / 2 = 0 by omega]
    rfl
  case part =>
    intro t low high some short ran
    refine (congrArg Host.Outcome.next (State.rawRead_short low high short)).trans ?_
    have count : (BitVec.ofNat 16 (more.length / 2)).toNat = more.length / 2 := by
      rw [BitVec.toNat_ofNat]
      omega
    have fine : ¬(BitVec.ofNat 16 (more.length / 2) = 0 ∨ 256 < (BitVec.ofNat 16 (more.length / 2)).toNat) := by
      rw [count]
      rintro (zero | big)
      · rw [zero] at count
        exact absurd count.symm (by change ¬more.length / 2 = 0; omega)
      · omega
    have read : s.readWords p (more.length / 2) = t := by
      have ended : s.readTransaction p (BitVec.ofNat 16 (more.length / 2)) = t := Host.Outcome.next.inj ran
      rw [State.readTransaction, if_neg fine, count] at ended
      exact ended
    rw [read]
    rfl
  case write =>
    exact fun some => ⟨congrArg Host.Outcome.next (State.rawWrite_pairs some), _, rfl,
      congrArg Host.Outcome.next (State.rawWrite_odd some x)⟩
  case empty =>
    rintro rfl
    exact ⟨rfl, rfl⟩
  case badCode =>
    intro h
    change Host.Outcome.next (s.request p code arg1 arg2) = _
    rw [State.request, ReqKind.ofCode_none h]
    rfl
  case plain =>
    simp only [List.mem_cons, List.not_mem_nil, or_false]
    rintro y (rfl | rfl | rfl | rfl | rfl | rfl | rfl | rfl | rfl | rfl | rfl | rfl)
    all_goals exact served _ _ _ 0 0 fun _ => rfl
  case one =>
    simp only [List.mem_cons, List.not_mem_nil, or_false]
    rintro y (rfl | rfl | rfl | rfl)
    all_goals exact served _ _ _ arg1 0 fun _ => rfl
  case two =>
    simp only [List.mem_cons, List.not_mem_nil, or_false]
    rintro y (rfl | rfl | rfl) <;> rfl

end Sys2Proof.Machine
end

section
/-! The fields of the records: flags words, codes, and the roots of squared speeds (R55, R182). -/

namespace Sys2Proof.Machine

/-! ### Flags -/

theorem flagsWord_foldr (bs : List Bool) :
    flagsWord bs = BitVec.ofNat 16 (bs.foldr (fun b n => 2 * n + if b then 1 else 0) 0) := by
  have step : (fun (b : Bool) n => bitOf b + 2 * n) = fun b n => 2 * n + if b then 1 else 0 :=
    funext fun b => funext fun n => Nat.add_comm _ _
  rw [flagsWord, packBits, step]
  rfl

theorem packBits_testBit (bs : List Bool) (k : Nat) : (packBits bs).testBit k = bs.getD k false := by
  induction bs generalizing k with
  | nil => simp [packBits]
  | cons b bs ih =>
    have head : packBits (b :: bs) = Nat.bit b (packBits bs) := by
      cases b <;> simp only [packBits, List.foldr_cons, bitOf, Nat.bit, cond_true, cond_false] <;>
        simp only [Bool.false_eq_true, if_false, if_true] <;> omega
    rw [head]
    cases k with
    | zero => simp
    | succ k => simpa [Nat.testBit_bit_succ] using ih k

/-- Sixteen bits cut out of a map are the flags word of those bits. -/
theorem extractLsb'_flagsWord {n : Nat} (v : BitVec n) (start : Nat) :
    v.extractLsb' start 16 = flagsWord ((List.range 16).map fun k => v.getLsbD (start + k)) := by
  refine BitVec.eq_of_getLsbD_eq fun k lt => ?_
  rw [flagsWord, wordOf, BitVec.getLsbD_ofNat, packBits_testBit, BitVec.getLsbD_extractLsb']
  simp [List.getD_eq_getElem?_getD, lt]

/-! ### Codes: a field's value by its place in the owning table -/

theorem Cause.code_idxOf (x : Cause) : x.code = [Cause.noFix, .width, .sourcesLost, .markerConflict].idxOf x := by
  cases x <;> rfl

theorem Regime.code_idxOf (x : Regime) : x.code = [Regime.rack, .adhesion].idxOf x := by
  cases x <;> rfl

theorem Health.code_idxOf (x : Health) : x.code = [Health.ok, .suspect, .isolated].idxOf x := by
  cases x <;> rfl

theorem Dir.code_idxOf (x : Dir) : x.code = [Dir.up, .down].idxOf x := by
  cases x <;> rfl

theorem deskCode_idxOf (x : Desk) : deskCode x = [Desk.u, .l].idxOf x := by
  cases x <;> rfl

theorem activeCode_idxOf (x : Option Desk) : activeCode x = [none, some Desk.u, some .l].idxOf x := by
  rcases x with _ | _ | _ <;> rfl

theorem DirSwitch.code_idxOf (x : DirSwitch) : x.code = [DirSwitch.forward, .neutral, .reverse].idxOf x := by
  cases x <;> rfl

theorem Role.code_idxOf (x : Role) : x.code = [Role.active, .standby, .none].idxOf x := by
  cases x <;> rfl

theorem BankState.code_idxOf (x : BankState) :
    x.code = [BankState.empty, .opened, .closed, .checked, .failed].idxOf x := by
  cases x <;> rfl

theorem CheckResult.code_idxOf (x : CheckResult) :
    x.code = [CheckResult.passed, .countLength, .headerMismatch, .firstStart, .segmentOrder, .lineEnd, .shortSegment,
      .fieldRange, .flagBits, .rackEntry, .markerIdentity, .markerDuplicate, .markerOrder, .crc,
      .missingBlocks].idxOf x := by
  cases x <;> rfl

theorem holderCode_idxOf (x : Option Writer) : holderCode x = [none, some Writer.portC, some .radio].idxOf x := by
  rcases x with _ | _ | _ <;> rfl

theorem Writer.code_idxOf (x : Writer) : x.code = [Writer.portC, .radio].idxOf x := by
  cases x <;> rfl

theorem Applies.code_idxOf (x : Applies) : x.code = [Applies.both, .up, .down].idxOf x := by
  cases x <;> rfl

theorem SegKind.code_idxOf (x : SegKind) : x.code = [SegKind.adhesion, .rack, .rackEntry, .depot].idxOf x := by
  cases x <;> rfl

theorem Side.code_idxOf (x : Side) : x.code = [Side.ahead, .beyond].idxOf x := by
  cases x <;> rfl

theorem Reason.code_idxOf (x : Reason) :
    x.code = [Reason.handle, .handleEmergency, .cabStale, .serviceCurve, .emergencyCurve, .overrun, .doorsNotClosed,
      .doorInMotion, .callService, .linkStop, .callEmergency, .rollback, .positionLost, .loopOpen, .standing,
      .noDesk].idxOf x := by
  cases x <;> rfl

theorem RowId.code_idxOf (x : RowId) :
    x.code = [RowId.cab, .supervision, .doors, .radio, .odometry, .loop, .hold].idxOf x := by
  cases x <;> rfl

theorem Valve.code_idxOf (x : Valve) : x.code = [Valve.apply, .lap, .release].idxOf x := by
  cases x <;> rfl

theorem OpenValve.code_idxOf (x : OpenValve) : x.code = [OpenValve.apply, .release].idxOf x := by
  cases x <;> rfl

theorem PinionCmd.code_idxOf (x : PinionCmd) : x.code = [PinionCmd.applied, .released].idxOf x := by
  cases x <;> rfl

theorem PinionFault.code_idxOf (x : PinionFault) : x.code = [PinionFault.failApply, .failRelease].idxOf x := by
  cases x <;> rfl

theorem GateCond.code_idxOf (x : GateCond) : x.code = GateCond.all.idxOf x := by
  cases x <;> rfl

theorem Departure.code_idxOf (x : Departure) :
    x.code = [Departure.idle, .pulling, .stalled, .released].idxOf x := by
  cases x <;> rfl

theorem doorCode_idxOf (x : DoorId) : doorCode x = [DoorId.a1, .a2, .b1, .b2].idxOf x := by
  cases x <;> rfl

theorem CarSide.code_idxOf (x : CarSide) : x.code = [CarSide.a, .b].idxOf x := by
  cases x <;> rfl

theorem DoorState.phaseCode_eq (x : DoorState) : x.phaseCode = match x with
    | .reversing p => some ([Phase.stop, .drive].idxOf p)
    | _ => none := by
  rcases x with _ | _ | _ | _ | _ | _ | p | _ | _
  case reversing => cases p <;> rfl
  all_goals rfl

theorem DoorState.faultCode_eq (x : DoorState) : x.faultCode = match x with
    | .fault r => some ([DoorFault.openTimeout, .reversalLimit, .lockLost, .switchConflict].idxOf r)
    | _ => none := by
  rcases x with _ | _ | _ | _ | _ | _ | _ | r | _
  case fault => cases r <;> rfl
  all_goals rfl

theorem DoorTimer.code_idxOf (x : DoorTimer) :
    x.code = [DoorTimer.tOpen, .dwell, .tWarn, .tClose, .stopInterval, .tRev].idxOf x := by
  cases x <;> rfl

theorem MotorDir.code_idxOf (x : MotorDir) : x.code = [MotorDir.opens, .closes].idxOf x := by
  cases x <;> rfl

theorem GrantCond.code_idxOf (x : GrantCond) :
    x.code = [GrantCond.standstill, .holding, .position, .platform, .holdDoors].idxOf x := by
  cases x <;> rfl

theorem WithdrawCause.code_idxOf (x : WithdrawCause) :
    x.code = [WithdrawCause.cond .standstill, .cond .holding, .cond .position, .cond .platform, .cond .holdDoors,
      .close, .desk].idxOf x := by
  rcases x with c | _ | _
  case cond => cases c <;> rfl
  all_goals rfl

theorem Sync.code_idxOf (x : Sync) : x.code = [Sync.synced, .coasting, .unsynced].idxOf x := by
  cases x <;> rfl

theorem TxState.code_idxOf (x : TxState) : x.code = [TxState.idle, .lead, .sending].idxOf x := by
  cases x <;> rfl

theorem RxState.code_idxOf (x : RxState) : x.code = [RxState.hunt, .header, .payload, .check].idxOf x := by
  cases x <;> rfl

theorem Severity.code_idxOf (x : Severity) : x.code = [Severity.service, .emergency].idxOf x := by
  cases x <;> rfl

theorem ResultCode.code_idxOf (x : ResultCode) :
    x.code = [ResultCode.accepted, .busy, .notReady, .moving, .notActiveDesk, .conditions, .badArgument, .full,
      .bankBusy, .notChecked, .version, .frozen, .notPermitted].idxOf x := by
  cases x <;> rfl

/-! ### Fields found by a search -/

/-- The place of a value among the values of a table's rows is that of the first row that has it. -/
theorem idxOf_map_find? {α β : Type} [BEq α] [LawfulBEq α] [BEq β] [LawfulBEq β] (g : α → β) (x : β) (l : List α) :
    (l.map g).idxOf x = match l.find? fun i => g i == x with
      | some i => l.idxOf i
      | none => l.length := by
  induction l with
  | nil => rfl
  | cons a l ih =>
    rw [List.map_cons, List.idxOf_cons, List.find?_cons]
    by_cases h : g a == x
    · simp [h]
    · simp only [Bool.not_eq_true] at h
      simp only [h, cond_false, ih]
      cases e : l.find? fun i => g i == x with
      | none => rfl
      | some i =>
        have other : (a == i) = false := by
          refine beq_false_of_ne fun same => ?_
          have found := List.find?_some e
          rw [← same] at found
          exact absurd found (by rw [h]; decide)
        simp only [List.idxOf_cons, other, cond_false]

/-- R64: the governing row's code is its place among the rows' levels, LATCH behind the last. -/
theorem Brm.governing_idxOf (b : Brm) : governingCode b.governing =
    (([RowId.cab, .supervision, .doors, .radio, .odometry, .loop, .hold] : List RowId).map fun i =>
      (b.rows.get i).level).idxOf b.level := by
  rw [idxOf_map_find?]
  unfold Brm.governing RowId.all
  generalize List.find? (fun i => (b.rows.get i).level == b.level) _ = found
  cases found with
  | none => rfl
  | some i => exact i.code_idxOf

/-- The conditions of R77's table, in order. -/
def State.gateTable (s : State) : List Bool :=
  [s.dka.active.isSome, s.dka.selected.isSome,
    (s.dka.active.map fun d => (s.dka.cab d).fresh.isSome).getD false, !s.dka.lock, s.drc.summary,
    s.brm.latch.isNone, decide (s.ssu.status = .normal ∨ s.ssu.status = .warning),
    decide (s.brm.level = .none ∨ (s.brm.level = .hold ∧ (s.brm.departure = .pulling ∨ s.brm.departure = .stalled))),
    decide (s.ssu.mode = .shunt) || (decide (s.ssu.mode = .full) && s.tgh.authority.isSome),
    decide (s.brm.upper.fault ≠ some .failRelease ∧ s.brm.lower.fault ≠ some .failRelease)]

theorem State.gateTable_eq (s : State) : s.gateTable = GateCond.all.map s.gateHolds := by
  have fresh : (s.dka.activeCab.map CabRecord.isFresh).getD false =
      (s.dka.active.map fun d => (s.dka.cab d).fresh.isSome).getD false := by
    unfold Dka.activeCab
    cases s.dka.active <;> rfl
  simp only [State.gateTable, GateCond.all, List.map_cons, List.map_nil, State.gateHolds, fresh, bne,
    Bool.decide_or, Bool.decide_and, beq_eq_decide, decide_not]

theorem State.gateFailure_eq (s : State) : s.gateFailure = GateCond.all.find? fun c => s.gateHolds c == false := by
  unfold State.gateFailure
  exact congrArg (GateCond.all.find? ·) (funext fun c => by cases s.gateHolds c <;> rfl)

/-- R77: the first condition that fails is the first false entry of the table, and none without one. -/
theorem State.gateFailure_code (s : State) : optWord (s.gateFailure.map GateCond.code) =
    if s.gateTable.all id then 0 else wordOf (s.gateTable.idxOf false) := by
  rw [s.gateTable_eq, idxOf_map_find?, s.gateFailure_eq]
  cases e : GateCond.all.find? fun c => s.gateHolds c == false with
  | none =>
    have all : (GateCond.all.map s.gateHolds).all id = true := by
      simpa using List.find?_eq_none.1 e
    rw [if_pos all]
    rfl
  | some c =>
    have fails : ¬(GateCond.all.map s.gateHolds).all id = true := by
      have found := List.find?_some e
      simp only [List.all_map, List.all_eq_true, not_forall]
      exact ⟨c, List.mem_of_find?_eq_some e, by simpa using found⟩
    rw [if_neg fails]
    exact congrArg wordOf c.code_idxOf

theorem State.gateOpen_table (s : State) : s.gateOpen = s.gateTable.all id := by
  have all : s.gateFailure = none ↔ s.gateTable.all id = true := by
    rw [s.gateTable_eq, s.gateFailure_eq]
    simp
  rw [State.gateOpen, Bool.eq_iff_iff, ← all, Option.isNone_iff_eq_none]

/-! ### Roots -/

/-- Each bit of a root keeps the square below the radicand, and closes half of what is left above it. -/
theorem rootFrom_spec (n x r : Nat) (low : r ^ 2 ≤ x) (high : x < (r + 2 ^ n) ^ 2) :
    (rootFrom n x r) ^ 2 ≤ x ∧ x < (rootFrom n x r + 1) ^ 2 := by
  induction n generalizing r with
  | zero => exact ⟨low, high⟩
  | succ n ih =>
    unfold rootFrom
    split
    case isTrue taken =>
      refine ih _ taken ?_
      rw [Nat.pow_succ] at high
      rwa [show r + 2 ^ n + 2 ^ n = r + 2 ^ n * 2 by omega]
    case isFalse left => exact ih _ low (by omega)

/-- R55: the root rounded down is the number whose square it reaches. -/
theorem rootDown_eq {a x : Nat} (bound : a < 65536) (low : a ^ 2 ≤ x) (high : x < (a + 1) ^ 2) : rootDown x = a := by
  have wide : x < (0 + 2 ^ 16) ^ 2 := high.trans_le (Nat.pow_le_pow_left (by omega) 2)
  obtain ⟨down, up⟩ := rootFrom_spec 16 x 0 (Nat.zero_le _) wide
  have below : rootDown x < a + 1 := lt_of_pow_lt_pow_left' 2 (down.trans_lt high)
  have above : a < rootDown x + 1 := lt_of_pow_lt_pow_left' 2 (low.trans_lt up)
  omega

/-! ### The parameter area -/

/-- The words of the parameter area, each with its parameter and whether it is the high word of two. -/
def paramWords : List (Param × Bool) :=
  Param.all.flatMap fun p => if p = .pRack then [(p, true), (p, false)] else [(p, false)]

theorem ofWord_paramWords : (List.range 62).map Param.ofWord = paramWords.map some := by decide +kernel

theorem Pst.areaWords (t : Pst) : (List.range 62).map t.areaWord =
    Param.all.flatMap fun p => if p = .pRack then twoWords (t.params.get p.idx) else [wordOf (t.params.get p.idx)] := by
  let word : Option (Param × Bool) → Word := fun x => match x with
    | none => 0
    | some (p, true) => wordOf (t.params.get p.idx / 65536)
    | some (p, false) => wordOf (t.params.get p.idx)
  have at_ (i : Nat) : t.areaWord i = word (Param.ofWord i) := rfl
  calc (List.range 62).map t.areaWord
      = ((List.range 62).map Param.ofWord).map word := by
        rw [List.map_map]
        exact List.map_congr_left fun i _ => at_ i
    _ = paramWords.map fun x => word (some x) := by rw [ofWord_paramWords, List.map_map]; rfl
    _ = _ := by
        rw [paramWords, List.map_flatMap]
        refine congrArg (List.flatMap · Param.all) (funext fun p => ?_)
        split <;> rfl

end Sys2Proof.Machine
end

section
/-! The words of the records (11.3, 11.4), and where the records lie. -/

namespace Sys2Proof.Machine

section
variable (s : State)

theorem State.brakeFlags_table : s.brakeFlags =
    flagsWord [s.brm.latch.isSome, s.brm.sensorFault, s.brm.frictionFault, s.brm.upper.applied, s.brm.lower.applied,
      s.brm.holding, s.brm.effortValid, s.gateTable.all id, s.brm.senseOpen, s.brm.latch.isSome,
      s.brm.loopForced] := by
  rw [State.brakeFlags, s.gateOpen_table]
  rfl

theorem State.gateFailure_isSome : s.gateFailure.isSome = !s.gateTable.all id := by
  rw [← s.gateOpen_table, State.gateOpen, Option.not_isNone]

theorem ceilDiv_dm (n : Nat) : ceilDiv n 100000 = (n + 99999) / 100000 := by
  simp [ceilDiv]

theorem LatchCause.code_eq (x : LatchCause) : x.code = match x with
    | .row i => [RowId.cab, .supervision, .doors, .radio, .odometry, .loop, .hold].idxOf i
    | .pinionApply => 7
    | .reset => 8 := by
  cases x with
  | row i => exact i.code_idxOf
  | pinionApply => rfl
  | reset => rfl

theorem FreezeCheck.code_eq (x : FreezeCheck) : x.code = match x with
    | .passed => 0
    | .failed n second => n + if second then 256 else 0 := by
  cases x with
  | passed => rfl
  | failed n second => cases second <;> rfl

theorem Dka.supplied_eq (k : Dka) : k.supplied = match k.active with
    | none => 0
    | some d => if (k.cab d).fresh = none then 0 else (k.cab d).traction := by
  unfold Dka.supplied Dka.activeCab
  cases k.active with
  | none => rfl
  | some d =>
    change (if (k.cab d).fresh.isSome then (k.cab d).traction else 0) =
      if (k.cab d).fresh = none then 0 else (k.cab d).traction
    cases (k.cab d).fresh <;> simp

theorem Door.proven_eq (d : Door) :
    d.proven = decide (d.state = .locked ∨ (d.state = .isolated ∧ d.lk = true ∧ d.op = false)) := by
  rw [Bool.eq_iff_iff]
  simp [Door.proven, and_assoc]

theorem Door.sounds_eq (d : Door) : d.sounds = decide (d.state = .warning ∨ d.state = .closing) := by
  rw [Bool.eq_iff_iff]
  simp [Door.sounds]

theorem Timer.leftMs_eq (t : Timer) (now : Nat) : t.leftMs now = (t.map fun d => (d - now) / 1000).getD 0 := by
  cases t <;> rfl

/-- R164: the words of the parameter area in their four records. -/
theorem State.parameterRecords : ((List.range 4).flatMap fun k => s.recordWords (.parameters k)) =
    (List.range 62).map s.pst.areaWord := by
  rfl

/-- The curve record by the roots of its curves. -/
theorem Ssu.curveWords_roots {u : Ssu} {k : Curves} {a b c : Nat} (h : u.curves = some k)
    (perm : rootDown k.perm = a) (sb : rootDown k.sb = b) (eb : rootDown k.eb = c) :
    u.curveWords = [flagsWord [true, true, true, true, true, true, u.governing.isSome, u.governing.isSome,
        u.horizon.isSome]] ++ twoWords k.perm ++ twoWords k.sb ++ twoWords k.eb ++ [wordOf a, wordOf b, wordOf c] ++
      [signedWord ((u.governing.map Prod.fst).getD 0), optWord (u.governing.map Prod.snd), wordOf u.window.length,
        signedWord (u.horizon.getD 0)] := by
  simp only [Ssu.curveWords, h, Option.map_some, perm, sb, eb]
  rfl

end

/-- Settles O49: every record's words from its fields, and the places of the map. -/
theorem recordsHoldTheirFields : Obligations.RecordsHoldTheirFields := by
  intro s w two o signed bits bytes left dir health met percent level reason rowIds gate shut sounds fault words
  refine ⟨⟨?motion, ?source⟩, ?desk, fun d => ?cab, ⟨?supervision, ?noCurve, ?curve, ?summary, fun k => ?piece,
    fun k => ?restriction⟩, ⟨fun i => ?row, ?brake, ?brakeOutput⟩, ⟨fun i => ?door, fun i => ?side, ?interlock⟩,
    ⟨fun i => ?bank, ?claim, ?blockMap, ?activation, rfl, rfl⟩, ⟨?radio, ?link, ?authority, ?radioProfile,
    fun k => ?call, ?wholeLine, ?rxText, rfl, rfl⟩, ⟨?parameterStatus, ?parameters⟩, ?places, ?pieces, ?restrictions,
    ?calls, rfl⟩
  case motion =>
    change s.odu.motionWords = _
    simp only [Odu.motionWords, Odu.flags, Odu.pHi, Odu.rollbackDm, ceilDiv_dm, flagsWord_foldr, Motion.code_idxOf,
      Regime.code_idxOf, funext Cause.code_idxOf]
    cases s.odu.pos <;> rfl
  case source =>
    change s.odu.sourceWords = _
    simp only [Odu.sourceWords, Health.code_idxOf]
    rfl
  case desk =>
    change s.deskWords = _
    simp only [State.deskWords, Dka.flags, CabRecord.isFresh, flagsWord_foldr, activeCode_idxOf, dirCode_idxOf,
      funext DirSwitch.code_idxOf, funext Dir.code_idxOf, Timer.leftMs_eq, Dka.supplied_eq, Option.not_isSome]
    rfl
  case cab =>
    change s.cabWords (s.dka.cab d) = _
    simp only [State.cabWords, DirSwitch.code_idxOf, Timer.leftMs_eq, CabRecord.isFresh]
    cases s.dka.cab d with
    | _ t h x n fresh =>
    cases fresh <;> cases h <;> rfl
  case supervision =>
    change s.ssu.words = _
    simp only [Ssu.words, Ssu.flags, flagsWord_foldr, Mode.code_idxOf, Status.code_idxOf, dirCode_idxOf,
      funext Side.code_idxOf]
    rfl
  case noCurve =>
    intro absent
    change s.ssu.curveWords = _
    simp only [Ssu.curveWords, absent, flagsWord_foldr]
    rfl
  case curve =>
    intro k a b c present ltA ltB ltC lowA highA lowB highB lowC highC
    refine (Ssu.curveWords_roots present (rootDown_eq ltA lowA highA) (rootDown_eq ltB lowB highB)
      (rootDown_eq ltC lowC highC)).trans ?_
    rw [flagsWord_foldr] <;> rfl
  case summary =>
    change s.ssu.summaryWords = _
    simp only [Ssu.summaryWords, flagsWord_foldr]
    rfl
  case piece =>
    change pieceWords s.ssu.window[k]? = _
    cases s.ssu.window[k]? with
    | none => rfl
    | some x =>
      simp only [pieceWords, SegKind.code_idxOf]
      rfl
  case restriction =>
    change restrictionWords s.ssu.restrictions[k]? = _
    cases s.ssu.restrictions[k]? with
    | none => rfl
    | some r =>
      simp only [restrictionWords, Applies.code_idxOf]
      rfl
  case row =>
    change (s.brm.rows.get i).words = _
    simp only [Row.words, flagsWord_foldr, funext Reason.code_idxOf]
    cases (s.brm.rows.get i).level <;> rfl
  case brake =>
    change s.brakeWords = _
    simp only [State.brakeWords, s.brakeFlags_table, flagsWord_foldr, Brm.governing_idxOf, Valve.code_idxOf,
      funext OpenValve.code_idxOf, PinionCmd.code_idxOf, funext PinionFault.code_idxOf,
      funext LatchCause.code_eq]
    cases s.brm.level <;> rfl
  case brakeOutput =>
    change s.brakeOutputWords = _
    simp only [State.brakeOutputWords, s.gateFailure_isSome, s.gateFailure_code, flagsWord_foldr,
      Departure.code_idxOf, Timer.leftMs_eq]
    rfl
  case door =>
    change s.doorWords i = _
    simp only [State.doorWords, Door.inputs, flagsWord_foldr, doorCode_idxOf, DoorState.phaseCode_eq,
      DoorState.faultCode_eq, DoorTimer.code_idxOf, Timer.leftMs_eq, MotorDir.code_idxOf]
    cases i <;> rfl
  case side =>
    change (s.drc.side i).words i = _
    simp only [SideRelease.words, flagsWord_foldr, CarSide.code_idxOf, funext deskCode_idxOf,
      funext WithdrawCause.code_idxOf, funext GrantCond.code_idxOf]
    cases (s.drc.side i).granted <;> rfl
  case interlock =>
    change s.interlockWords = _
    simp only [State.interlockWords, Drc.flags, Drc.sounder, Drc.openDoors, Door.proven_eq, Door.sounds_eq,
      flagsWord_foldr, funext Reason.code_idxOf]
    rfl
  case bank =>
    change (s.lps.bank i).words = _
    simp only [Bank.words, flagsWord_foldr, Role.code_idxOf, BankState.code_idxOf, funext CheckResult.code_idxOf]
    rfl
  case claim =>
    change s.lps.claimWords = _
    simp only [Lps.claimWords, flagsWord_foldr, holderCode_idxOf, blocksExpected_eq]
    rfl
  case blockMap =>
    change s.lps.mapWords = _
    simp only [Lps.mapWords, extractLsb'_flagsWord, flagsWord_foldr]
    rfl
  case activation =>
    change s.lps.activationWords = _
    simp only [Lps.activationWords, flagsWord_foldr, Writer.code_idxOf]
    rfl
  case radio =>
    change s.radioWords = _
    simp only [State.radioWords, State.radioFlags, flagsWord_foldr, Sync.code_idxOf, TxState.code_idxOf,
      RxState.code_idxOf, bne, beq_eq_decide, ← decide_not]
    rfl
  case link =>
    change s.tgh.linkWords = _
    simp only [Tgh.linkWords, Tgh.linkFlags, flagsWord_foldr, Link.code_idxOf]
    rfl
  case authority =>
    change s.tgh.authorityWords = _
    simp only [Tgh.authorityWords, Tgh.authorityFlags, flagsWord_foldr, Dir.code_idxOf]
    rfl
  case radioProfile =>
    change s.tgh.radioProfileWords = _
    simp only [Tgh.radioProfileWords, flagsWord_foldr, ResultCode.code_idxOf]
    rfl
  case call =>
    change callWords s.tgh.calls[k]? = _
    cases s.tgh.calls[k]? with
    | none => rfl
    | some c =>
      simp only [callWords, Severity.code_idxOf]
      rfl
  case wholeLine =>
    change wholeLineWords s.tgh.wholeLine = _
    simp only [wholeLineWords, flagsWord_foldr, funext Severity.code_idxOf]
    rfl
  case rxText =>
    change s.rxTextWords = _
    simp only [State.rxTextWords, flagsWord_foldr]
    rfl
  case parameterStatus =>
    change s.pst.statusWords = _
    simp only [Pst.statusWords, flagsWord_foldr, extractLsb'_flagsWord, funext FreezeCheck.code_eq]
    rfl
  case parameters =>
    exact s.parameterRecords.trans s.pst.areaWords
  case places => decide +kernel
  case pieces => decide +kernel
  case restrictions => decide +kernel
  case calls => decide +kernel

end Sys2Proof.Machine
end

section
/-! The values of the resets (R22, R39, R62, R88, R110, R124, R141, R161, R172, R178 to R181). -/

namespace Sys2Proof.Machine

/-! ### Doors and bands at a reset -/

theorem Door.derived_eq (d : Door) : d.derived =
    if d.lk then if d.op then .fault .switchConflict else .locked else .fault .lockLost := by
  unfold Door.derived
  cases d.lk <;> cases d.op <;> rfl

/-- A power-on reset leaves no door ISOLATED. -/
theorem Door.powerOn_in_service (d : Door) : (d.powerOn.restarted 50 0).state ≠ .isolated := by
  change (if DoorState.locked = .isolated then DoorState.isolated else d.powerOn.derived) ≠ _
  rw [if_neg (by decide), Door.derived_eq]
  split_ifs <;> exact fun h => nomatch h

section
variable (k : Drc) (period now : Nat)

theorem Drc.restarted_door (i : DoorId) : (k.restarted period now).door i = (k.door i).restarted period now := by
  cases i <;> rfl

theorem Drc.restarted_release (i : CarSide) : (k.restarted period now).side i = { k.side i with granted := none } := by
  cases i <;> rfl

theorem Door.restarted_eq (d : Door) : d.restarted period now = { d with
    state := if d.state = .isolated then .isolated else
      if d.lk then if d.op then .fault .switchConflict else .locked else .fault .lockLost
    reversals := 0, timer := none
    motor := if d.motor.latched = 0 ∧ d.motor.driven = 0 then d.motor else
      { d.motor with latched := 0, driven := 0, drivenDir := d.motor.latchedDir, next := now + period } } := by
  rw [← d.derived_eq]
  rfl

/-- R102: after a reset the doors are proven closed by their states. -/
theorem Drc.restarted_summary : (k.restarted period now).summary = true ↔
    ∀ i, ((k.restarted period now).door i).shut :=
  (k.restarted period now).allProven_iff

theorem Drc.any_faulty : (allDoors.any fun i => (k.door i).faulty) = true ↔ ∃ i r, (k.door i).state = .fault r := by
  have faulty (d : Door) : d.faulty = true ↔ ∃ r, d.state = .fault r := by
    unfold Door.faulty
    cases d.state <;> simp
  simp only [List.any_eq_true, faulty]
  refine exists_congr fun i => and_iff_right ?_
  cases i <;> decide

end

/-! ### Notices raised together -/

theorem Notice.bit_getLsbD (j k : Notice) : j.bit.getLsbD k.place = decide (k = j) := by
  cases j <;> cases k <;> rfl

/-- A notice is in a mask that a notice is joined to, if it was or is the one joined. -/
theorem Notice.in_join (k j : Notice) (c : Bool) (v : NoticeSet) :
    k.bit &&& (v ||| if c then j.bit else 0#12) = k.bit ↔ k.bit &&& v = k.bit ∨ (k = j ∧ c = true) := by
  rw [Notice.in_iff, Notice.in_iff, BitVec.getLsbD_or]
  cases c <;> simp [Notice.bit_getLsbD]

theorem Notice.not_in_zero (k : Notice) : ¬k.bit &&& 0#12 = k.bit := by
  cases k <;> decide

section
variable (c : Bool) (k : Notice) (s : State) (q : Port)

theorem State.raiseIf_port : (State.raiseIf c k s).port q =
    { s.port q with pending := (s.port q).pending ||| if c then k.bit else 0#12 } := by
  cases c with
  | true => cases q <;> rfl
  | false => simp [State.raiseIf]

theorem State.raiseIf_closeCheck : (State.raiseIf c k s).pif.closeCheck = s.pif.closeCheck := by
  cases c <;> rfl

end

/-! ### CAR_RESTART -/

section
variable (s : State)

/-- The notices of a restart (log entry 16). -/
def State.restartNotices : NoticeSet :=
  ((((0#12 ||| if s.profileTells then Notice.bit .profile else 0#12) |||
        if s.ssu.restartTells then Notice.bit .supervision else 0#12) |||
      if !s.ssu.restrictions.isEmpty || s.ssu.cap.isSome then Notice.bit .restriction else 0#12) |||
    if true then Notice.bit .brake else 0#12) |||
  if Drc.restartTells s.drc (s.drc.restarted (s.par .tPwm) s.now) then Notice.bit .door else 0#12

theorem State.restart_raises : s.restart =
    State.raiseIf (Drc.restartTells s.drc s.restartBlocks.drc) .door
      (State.raiseIf true .brake
        (State.raiseIf (!s.ssu.restrictions.isEmpty || s.ssu.cap.isSome) .restriction
          (State.raiseIf s.ssu.restartTells .supervision
            (State.raiseIf s.profileTells .profile s.restartBlocks)))) := rfl

theorem State.restart_port (q : Port) : s.restart.port q =
    { s.restartBlocks.port q with pending := s.restartNotices } := by
  rw [s.restart_raises]
  simp only [State.raiseIf_port]
  cases q <;> rfl

theorem State.restart_closeCheck : s.restart.pif.closeCheck = 0 := by
  rw [s.restart_raises]
  simp only [State.raiseIf_closeCheck]
  rfl

theorem State.restart_odu : s.restart.odu = s.odu.restarted s.now := by
  simp [State.restart, State.restartBlocks]

theorem State.restart_ssu : s.restart.ssu = s.ssu.restarted s.now := by
  simp [State.restart, State.restartBlocks]

theorem State.restart_dka : s.restart.dka = s.dka.restarted := by
  simp [State.restart, State.restartBlocks]

theorem State.restart_vrl : s.restart.vrl = s.vrl.restarted s.now (s.par .tBit) := by
  simp [State.restart, State.restartBlocks]

theorem State.restart_tgh : s.restart.tgh = s.tgh.restarted (s.par .nLoss) := by
  simp [State.restart, State.restartBlocks]

theorem State.restart_kept : s.restart.pst = s.pst ∧ s.restart.now = s.now ∧ s.restart.pending = s.pending := by
  simp [State.restart, State.restartBlocks]

/-- Which notices a restart raises. -/
theorem State.restartNotices_told (k : Notice) : k.bit &&& s.restartNotices = k.bit ↔
    (k = .profile ∧ s.profileTells = true) ∨ (k = .supervision ∧ s.ssu.restartTells = true) ∨
    (k = .restriction ∧ (!s.ssu.restrictions.isEmpty || s.ssu.cap.isSome) = true) ∨ k = .brake ∨
    (k = .door ∧ Drc.restartTells s.drc (s.drc.restarted (s.par .tPwm) s.now) = true) := by
  unfold State.restartNotices
  rw [Notice.in_join, Notice.in_join, Notice.in_join, Notice.in_join, Notice.in_join]
  simp only [k.not_in_zero, false_or, or_assoc, and_true]

/-- R172, R180: the ports after an accepted restart hold its result and its notices alone. -/
theorem State.restarted_port (q : Port) : (s.restart.writeResult .c 19 .accepted none).port q =
    { pointer := 0, snapshot := none, request := none
      result := if q = .c then some { code := 19, result := .accepted, detail := none } else none
      seq := if q = .c then 1 else 0
      pending := s.restartNotices ||| if decide (q = .c) then Notice.bit .requestDone else 0#12
      enable := 0, refused := 0, frameErrors := 0, out := [] } := by
  have silent (q : Port) (other : q ≠ .c) :
      (s.restartNotices ||| if decide (q = .c) then Notice.bit .requestDone else 0#12) = s.restartNotices := by
    simp [other]
  cases q with
  | u => exact (s.restart_port .u).trans (by rw [silent .u nofun] <;> rfl)
  | l => exact (s.restart_port .l).trans (by rw [silent .l nofun] <;> rfl)
  | c =>
    change PortState.raise .requestDone { s.restart.port .c with
      request := none
      result := some { code := 19, result := .accepted, detail := none }
      seq := wrapSucc 256 (s.restart.port .c).seq } = _
    rw [s.restart_port] <;> rfl

theorem Ssu.restartTells_iff (u : Ssu) :
    u.restartTells = true ↔ u.status ≠ .normal ∨ u.overrun = true ∨ u.mode ≠ .none := by
  simp [Ssu.restartTells, or_assoc]

theorem Drc.restartTells_iff (before after : Drc) : Drc.restartTells before after = true ↔
    after.summary ≠ before.summary ∨ ∃ i r, (after.door i).state = .fault r := by
  rw [Drc.restartTells, Bool.or_eq_true, after.any_faulty, bne_iff_ne, ne_comm]

theorem State.profileTells_iff : s.profileTells = true ↔ s.tgh.outdated = true ∨
    ∃ i, (s.lps.bank i).state = .opened ∨ (s.lps.bank i).state = .closed := by
  have banks : (∃ i, (s.lps.bank i).state = .opened ∨ (s.lps.bank i).state = .closed) ↔
      (s.lps.x.state = .opened ∨ s.lps.x.state = .closed) ∨ s.lps.y.state = .opened ∨ s.lps.y.state = .closed := by
    constructor
    · rintro ⟨_ | _, h⟩
      exacts [.inl h, .inr h]
    · rintro (h | h)
      exacts [⟨.x, h⟩, ⟨.y, h⟩]
  rw [banks]
  simp [State.profileTells]

/-- R179: CAR_RESTART from port C is answered by the car's state. -/
theorem exec_carRestart : exec (.carRestart .c) s = .next
    (let a := s.requestRestart
     a.state.writeResult .c 19 a.result a.detail) :=
  congrArg Host.Outcome.next (State.answer_written (p := .c) (r := some { code := 19, arg1 := 0, arg2 := 0 }) (s := s)
    .carRestart 0 0)

theorem State.requestRestart_restarts (still : s.odu.motion = .standstill) (none : s.dka.active = none) :
    exec (.carRestart .c) s = .next (s.restart.writeResult .c 19 .accepted Option.none) := by
  rw [exec_carRestart, State.requestRestart, if_neg (by simp [State.still, still]), if_neg (by simp [none])]
  rfl

end

/-- R88: a reset's brakes are those of the doors and inputs as they stand. -/
theorem powerOnReset_standing : exec (.powerOnReset false) State.reset = .next State.reset := by
  rfl

/-- Settles O54, block by block. -/
theorem restartAndPowerOnTakeTheResetValues : Obligations.RestartAndPowerOnTakeTheResetValues := by
  unfold Obligations.RestartAndPowerOnTakeTheResetValues
  intro encoder closed rows braked
  refine ⟨fun s p => ⟨?other, ?moving, ?busy, ?restarts⟩, fun s strap => ?powerOn, powerOnReset_standing⟩
  case other =>
    intro other
    change Host.Outcome.next (s.serve .carRestart p 0 0) = _
    rw [State.serve_other_port rfl other]
    rfl
  case moving =>
    rintro rfl moving
    rw [exec_carRestart, State.requestRestart, if_pos (by simpa [State.still] using moving)]
    rfl
  case busy =>
    rintro rfl still active
    rw [exec_carRestart, State.requestRestart, if_neg (by simp [State.still, still]),
      if_pos (Option.isSome_iff_ne_none.2 active)]
    rfl
  case restarts =>
    rintro rfl still none
    obtain ⟨pst, now, pending⟩ := s.restart_kept
    refine ⟨_, s.requestRestart_restarts still none, ?_⟩
    have drc : s.restart.drc = s.drc.restarted (s.par .tPwm) s.now := s.restart_drc
    have ports := s.restarted_port
    have told := s.restartNotices_told
    have closeCheck := s.restart_closeCheck
    have brm := s.restart_brm
    have lps := s.restart_lps
    have odu := s.restart_odu
    have ssu := s.restart_ssu
    have dka := s.restart_dka
    have vrl := s.restart_vrl
    have tgh := s.restart_tgh
    generalize s.restart = r at *
    have bank (i : BankId) : r.lps.bank i = (s.lps.bank i).restarted := by
      rw [lps]
      cases i <;> rfl
    have door (i : DoorId) : r.drc.door i = (s.drc.door i).restarted (s.par .tPwm) s.now := by
      rw [drc, Drc.restarted_door]
    refine ⟨pst, now, pending, odu, fun i notOpen notClosed => ?_, fun i loading => ?_, ?_, ssu, ?_, fun i => ?_,
      fun i => ?_, ?_, dka, vrl, tgh, closeCheck, fun q => ⟨?_, ?_⟩⟩
    · change r.lps.bank i = _
      rw [bank, Bank.restarted, if_neg (not_or.2 ⟨notOpen, notClosed⟩)]
    · change r.lps.bank i = _
      rw [bank, Bank.restarted, if_pos loading]
      rfl
    · change r.lps = { Lps.reset with
        x := r.lps.x, y := r.lps.y, rejected := s.lps.rejected, passes := s.lps.passes, timer := s.now + 50000 }
      rw [lps]
      rfl
    · change r.brm = braked (rows r.drc.summary s.brm) s.brm s.now _ _ _
      rw [brm, drc]
      rfl
    · change r.drc.side i = _
      rw [drc, Drc.restarted_release]
    · change r.drc.door i = _
      rw [door, Door.restarted_eq]
    · change r.drc.summary = true ↔ ∀ i, (r.drc.door i).state = .locked ∨
        ((r.drc.door i).state = .isolated ∧ (s.drc.door i).lk = true ∧ (s.drc.door i).op = false)
      have shut := s.drc.restarted_summary (s.par .tPwm) s.now
      rw [← drc] at shut
      rw [shut]
      refine forall_congr' fun i => ?_
      unfold Door.shut
      rw [door]
      rfl
    · rw [ports]
    · intro has
      have has_iff (k : Notice) : has k ↔ k.bit &&& s.restartNotices = k.bit ∨ (k = .requestDone ∧ q = .c) := by
        change k.bit &&& ((r.writeResult .c 19 .accepted Option.none).port q).pending = k.bit ↔ _
        rw [ports, Notice.in_join, decide_eq_true_iff]
      simp only [told] at has_iff
      refine ⟨(has_iff _).2 (by simp), (has_iff _).trans ?_, (has_iff _).trans ?_, (has_iff _).trans ?_,
        (has_iff _).trans ?_, (has_iff _).trans (by simp), fun k among => ?_⟩
      · simp [← s.ssu.restartTells_iff]
      · simp [Option.isSome_iff_ne_none]
      · simp [← s.profileTells_iff]
      · change _ ↔ r.drc.summary ≠ s.drc.summary ∨ ∃ i x, (r.drc.door i).state = .fault x
        rw [← Drc.restartTells_iff, drc]
        simp
      · simp only [List.mem_cons, List.not_mem_nil, or_false] at among
        rw [has_iff]
        rcases among with rfl | rfl | rfl | rfl | rfl | rfl <;> simp
  case powerOn =>
    refine ⟨s.poweredOn strap, rfl, rfl, rfl, rfl, rfl, rfl, rfl, rfl, rfl, rfl, rfl, fun i => ?_, ?_, fun i => ?_,
      fun i => ?_, ?_⟩
    · cases i <;> rfl
    · rfl
    · cases i <;> rfl
    · change s.drc.powerOn.door i = _
      rw [Drc.powerOn, Drc.restarted_door, Door.restarted_eq]
      cases i <;> rfl
    · have shut := Drc.restarted_summary { Drc.reset with
        a1 := s.drc.a1.powerOn, a2 := s.drc.a2.powerOn, b1 := s.drc.b1.powerOn, b2 := s.drc.b2.powerOn } 50 0
      refine shut.trans (forall_congr' fun i => or_iff_left ?_)
      rintro ⟨isolated, -⟩
      rw [Drc.restarted_door] at isolated
      cases i <;> exact Door.powerOn_in_service _ isolated

end Sys2Proof.Machine
end

section
/-! SUPPORT. What two aligned states show alike (`Aligned.rowsTrue`, `Aligned.outputsTrue`), and what a reset leaves
of the rows and the outputs. -/

namespace Sys2Proof.Machine

/-! ### Aligned states -/

section
variable {s t : State}

theorem State.Aligned.shut (h : s.Aligned t) (i : DoorId) : (t.drc.door i).shut ↔ (s.drc.door i).shut := by
  obtain ⟨state, lk, op⟩ := h.door i
  unfold Door.shut
  rw [state, lk, op]

theorem State.Aligned.rowsTrue (h : s.Aligned t) (k : s.RowsTrue) : t.RowsTrue where
  noDesk := by rw [h.dka, h.rows]; exact k.noDesk
  cab := by rw [h.dka, h.rows]; exact k.cab
  supervision := by rw [h.ssu, h.rows]; exact k.supervision
  doorsShut := by simp only [h.shut, h.rows]; exact k.doorsShut
  doorsStill := by simp only [h.shut, h.rows, h.motion]; exact k.doorsStill
  doorsMoving := by simp only [h.shut, h.rows, h.motion]; exact k.doorsMoving
  loop := by rw [h.senseOpen, h.rows]; exact k.loop
  hold := by rw [h.dka, h.rows, h.motion, h.holdElapsed, h.departure]; exact k.hold

theorem State.Aligned.calls_iff (h : s.Aligned t) (par : ∀ p, t.par p = s.par p) (v : Severity) :
    t.Calls v ↔ s.Calls v := by
  simp only [State.Calls, State.CallMeets, h.wholeLine, h.calls, h.pos, Odu.pHi, Odu.pLo, h.lo, h.hi, par]

theorem State.Aligned.lineRowsTrue (h : s.Aligned t) (par : ∀ p, t.par p = s.par p) (k : s.LineRowsTrue) :
    t.LineRowsTrue where
  emergency := by rw [h.calls_iff par, h.rows]; exact k.emergency
  service := by rw [h.calls_iff par, h.calls_iff par, h.rows]; exact k.service
  link := by rw [h.calls_iff par, h.calls_iff par, h.rows, h.link]; exact k.link
  odometry := by rw [h.rows, h.motion, par, h.rollback, h.ssu, h.pos]; exact k.odometry

theorem State.Aligned.gate_iff (h : s.Aligned t) : t.Gate ↔ s.Gate := by
  rw [State.gate_iff, State.gate_iff, h.gateOpen]

theorem State.Aligned.gateButLevel_iff (h : s.Aligned t) : t.GateButLevel ↔ s.GateButLevel := by
  rw [State.gateButLevel_iff, State.gateButLevel_iff]
  simp only [State.gateButLevel, h.gateHolds]

theorem State.Aligned.outputsTrue (h : s.Aligned t) (k : s.OutputsTrue) : t.OutputsTrue where
  latched := by rw [h.latch, h.level]; exact k.latched
  highest := by rw [h.latch, h.level, h.rows]; exact k.highest
  pinion := by rw [h.pinion, h.level, h.motion, h.regime, h.frictionFault, h.dka]; exact k.pinion
  outputs := by rw [h.energised, h.pinion, h.loopForced]; exact k.outputs
  electric := by rw [h.electric, h.level]; exact k.electric
  doors := by simp only [h.summary, h.shut]; exact k.doors
  carried := by rw [h.gate_iff, h.dka, h.traction]; exact k.carried
  closed g := by
    obtain ⟨latched, driven⟩ := k.closed fun open' => g (h.gate_iff.2 open')
    exact ⟨h.traction.trans latched, h.driven latched driven⟩
  seen := by rw [h.holdSeen, h.regime, h.pinion, h.upper, h.lower, h.measured]; exact k.seen
  holding := by rw [h.regime, h.holding, h.pinion, h.upper, h.lower]; exact k.holding
  unmeasured := by rw [h.regime, h.measured, h.holding]; exact k.unmeasured
  departure := by rw [h.departure, h.gateButLevel_iff, h.level, h.dka]; exact k.departure
  released := by rw [h.departure, h.gate_iff, h.motion, h.dka]; exact k.released
  stall := by rw [h.stallTimer, h.departure]; exact k.stall

end

/-! ### A reset -/

/-- What a reset, from whatever state, leaves for the rows: a car at rest without a desk, a call or an overrun, its
brakes as R88 gives them. -/
structure State.Fresh (s t : State) : Prop where
  brm : t.brm = s.restartedBrm t.drc.summary
  motion : t.odu.motion = .standstill
  regime : t.odu.regime = .adhesion
  active : t.dka.active = none
  status : t.ssu.status = .normal
  overrun : t.ssu.overrun = false
  doors : t.drc.summary = true ↔ ∀ i, (t.drc.door i).shut
  calls : t.tgh.calls = []
  wholeLine : t.tgh.wholeLine = none
  link : t.tgh.link ≠ .stop

section
variable {s t : State}

theorem State.Fresh.rowsTrue (h : s.Fresh t) : t.RowsTrue where
  noDesk _ := by rw [h.brm]; rfl
  cab d active := by rw [h.active] at active; cases active
  supervision := by rw [h.brm, h.status, h.overrun]; rfl
  doorsShut shut := by
    rw [h.brm, h.doors.2 shut]
    rfl
  doorsStill := by
    rintro ⟨i, ajar⟩ -
    have summary : t.drc.summary = false := Bool.eq_false_iff.2 fun yes => ajar (h.doors.1 yes i)
    rw [h.brm, summary]
    rfl
  doorsMoving _ moving := absurd h.motion moving
  loop := by rw [h.brm]; rfl
  hold := by rw [h.brm, if_pos h.active]; rfl

theorem State.Fresh.not_calls (h : s.Fresh t) (v : Severity) : ¬t.Calls v := by
  rintro (whole | ⟨c, mem, -⟩)
  · rw [h.wholeLine] at whole; cases whole
  · rw [h.calls] at mem; cases mem

theorem State.Fresh.lineRowsTrue (h : s.Fresh t) : t.LineRowsTrue where
  emergency call := absurd call (h.not_calls _)
  service _ call := absurd call (h.not_calls _)
  link _ _ := by rw [h.brm, if_neg h.link]; rfl
  odometry := by rw [h.brm, if_pos h.motion]; rfl

theorem State.Fresh.not_gate (h : s.Fresh t) : ¬t.GateButLevel := fun gate => by
  obtain ⟨d, active, -⟩ := gate.fresh
  rw [h.active] at active
  cases active

theorem State.Fresh.outputsTrue (h : s.Fresh t) : t.OutputsTrue where
  latched _ := by rw [h.brm]; rfl
  highest clear := by rw [h.brm] at clear; cases clear
  pinion := by rw [h.brm]; exact ⟨fun _ => .inl rfl, fun _ => rfl⟩
  outputs := by rw [h.brm]; exact ⟨fun on => (nomatch on), fun ⟨off, _⟩ => (nomatch off)⟩
  electric := by rw [h.brm]; rfl
  doors := h.doors
  carried gate := absurd gate.others h.not_gate
  closed _ := by rw [h.brm]; exact ⟨rfl, rfl⟩
  seen := by rw [h.brm, h.regime]; rfl
  holding rack := by rw [h.regime] at rack; cases rack
  unmeasured _ _ := by rw [h.brm]; rfl
  departure going := by rw [h.brm] at going; rcases going with going | going <;> cases going
  released going := by rw [h.brm] at going; cases going
  stall timer := by rw [h.brm] at timer; exact absurd rfl timer

end

theorem State.restart_fresh (s : State) : s.Fresh s.restart where
  brm := by rw [s.restart_brm, s.restart_drc]
  motion := by rw [s.restart_odu]; rfl
  regime := by rw [s.restart_odu]; rfl
  active := by rw [s.restart_dka]; rfl
  status := by rw [s.restart_ssu]; rfl
  overrun := by rw [s.restart_ssu]; rfl
  doors := by rw [s.restart_drc]; exact s.drc.restarted_summary _ _
  calls := by rw [s.restart_tgh]; rfl
  wholeLine := by rw [s.restart_tgh]; rfl
  link := by rw [s.restart_tgh]; nofun

/-- The state whose brakes a power-on reset derives. -/
def State.powerBase (strap : Bool) (s : State) : State :=
  { State.reset with
    odu := { Odu.reset with upper := s.odu.upper.powerOn, lower := s.odu.lower.powerOn }
    brm := { Brm.reset with
      senseOpen := s.brm.senseOpen
      upper := { Band.reset with applied := s.brm.upper.applied }
      lower := { Band.reset with applied := s.brm.lower.applied } }
    drc := s.drc.powerOn
    pst := { Pst.reset with strapPin := strap, strapLatch := strap }
    pending := s.pending }

theorem State.poweredOn_fresh (strap : Bool) (s : State) : (s.powerBase strap).Fresh (s.poweredOn strap) where
  brm := rfl
  motion := rfl
  regime := rfl
  active := rfl
  status := rfl
  overrun := rfl
  doors := Drc.restarted_summary _ _ _
  calls := rfl
  wholeLine := rfl
  link := nofun

end Sys2Proof.Machine
end

section
/-! SUPPORT. A state in which no row but HOLD can stand (`State.Eased`): what a pass makes of it, and the departure
over the passes of an event (4.1, 4.5, 4.7). -/

namespace Sys2Proof.Machine

/-- The gate's conditions hold, the doors are shut, and the sources of the rows, beside the HOLD row's, give no
level. -/
structure State.Eased (s : State) : Prop where
  gate : s.GateButLevel
  shut : ∀ i, (s.drc.door i).shut
  cab : s.dka.cabRow = Row.clear
  supervision : s.supervisionRow = Row.clear
  radio : s.radioRow = Row.clear
  odometry : s.odometryRow = Row.clear
  loop : s.loopRow = Row.clear

/-! ### The sources of the rows over a pass -/

/-- What a pass of the readers makes of a state, by its rules and as it leaves the readers. -/
structure State.Passed (s t : State) : Prop where
  reads : s.Reads t
  settled : t.PassSettled
  hold : t.brm.rows.hold = t.holdRow
  ssu : t.ssu = s.takePending.ssu
  tgh : t.tgh = s.takePending.tgh
  pst : t.pst = s.pst

theorem State.readersPass_passed (s : State) : s.Passed s.readersPass :=
  ⟨s.readersPass_reads, s.readersPass_settled, s.readersPass_hold, s.readersPass_lps.2.1, s.readersPass_lps.2.2,
    s.readersPass_follows.pst⟩

section
variable (s : State)

theorem State.takePending_status :
    s.takePending.ssu.status = s.ssu.status ∧ s.takePending.ssu.overrun = s.ssu.overrun := by
  unfold State.takePending State.switchOver State.compareOutdated State.flush State.raiseIf
  (repeat' split) <;> exact ⟨rfl, rfl⟩

theorem State.takePending_line : s.takePending.tgh.calls = s.tgh.calls ∧
    s.takePending.tgh.wholeLine = s.tgh.wholeLine ∧ s.takePending.tgh.link = s.tgh.link := by
  unfold State.takePending State.switchOver State.compareOutdated State.flush State.raiseIf
  (repeat' split) <;> exact ⟨rfl, rfl, rfl⟩

variable {s} {t : State}

theorem State.Passed.cabRow (h : s.Passed t) : t.dka.cabRow = s.dka.cabRow := by
  rw [h.reads.dka]
  rfl

theorem State.Passed.supervisionRow (h : s.Passed t) : t.supervisionRow = s.supervisionRow := by
  obtain ⟨status, overrun⟩ := s.takePending_status
  unfold State.supervisionRow
  rw [h.ssu, status, overrun]

theorem State.Passed.radioRow (h : s.Passed t) : t.radioRow = s.radioRow := by
  obtain ⟨calls, whole, link⟩ := s.takePending_line
  have meets : t.callMeets = s.callMeets := State.callMeets_congr h.reads.odu h.pst
  unfold State.radioRow State.called
  rw [h.tgh, calls, whole, link, meets]

theorem State.Passed.odometryRow (h : s.Passed t) : t.odometryRow = s.odometryRow := by
  unfold State.odometryRow State.still
  rw [h.ssu, s.takePending_mode.1, State.par_congr h.pst, h.reads.odu]

theorem State.Passed.loopRow (h : s.Passed t) : t.loopRow = s.loopRow := by
  refine State.loopRow_congr ?_
  rw [h.reads.brakeFrame]

/-- R107: doors that are shut stay as they are, whatever release is withdrawn. -/
theorem State.Reads.shut (r : s.Reads t) (shut : ∀ i, (s.drc.door i).shut) (i : DoorId) :
    (t.drc.door i).shut := by
  by_cases free : (s.drc.side (doorSide i)).granted = none ∨
      State.firstFailing { s with lps := t.lps, ssu := t.ssu, tgh := t.tgh } (doorSide i) = none
  · rw [(r.releases.kept _ free).2 i rfl]
    exact shut i
  · rw [not_or] at free
    obtain ⟨c, failing⟩ := Option.ne_none_iff_exists'.1 free.2
    rw [(r.releases.withdrawn _ c free.1 failing).2 i rfl, s.relocks_shut (shut i)]
    exact shut i

end

/-! ### A pass -/

section
variable {s t : State}

/-- The HOLD row alone stands after a pass, and gives the level. -/
structure State.OnlyHold (s : State) : Prop where
  cab : s.brm.rows.cab = Row.clear
  supervision : s.brm.rows.supervision = Row.clear
  doors : s.brm.rows.doors = Row.clear
  radio : s.brm.rows.radio = Row.clear
  odometry : s.brm.rows.odometry = Row.clear
  loop : s.brm.rows.loop = Row.clear
  hold : s.brm.rows.hold = s.holdRow

theorem State.OnlyHold.get (h : s.OnlyHold) (i : RowId) (other : i ≠ .hold) : s.brm.rows.get i = Row.clear := by
  cases i
  exacts [h.cab, h.supervision, h.doors, h.radio, h.odometry, h.loop, absurd rfl other]

theorem State.Eased.rows (h : s.Eased) (p : s.Passed t) : t.OnlyHold := by
  have written := p.settled.rows
  have summary := p.reads.releases.summary.2 (p.reads.shut h.shut)
  refine ⟨?_, ?_, ?_, ?_, ?_, ?_, p.hold⟩
  · rw [written.cab, p.cabRow, h.cab]
  · rw [written.supervision, p.supervisionRow, h.supervision]
  · rw [written.doors, State.doorsRow, if_pos summary]
  · rw [written.radio, p.radioRow, h.radio]
  · rw [written.odometry, p.odometryRow, h.odometry]
  · rw [written.loop, p.loopRow, h.loop]

theorem State.holdRow_desk (s : State) (desk : s.dka.active ≠ none) : s.holdRow =
    if s.odu.motion = .standstill ∧ s.brm.holdElapsed = true ∧ s.brm.departure ≠ .released then
      { level := .hold, reason := some .standing }
    else { level := .none, reason := none } := by
  rw [State.holdRow, if_neg desk]
  simp only [s.still_iff]
  rfl

theorem State.GateButLevel.desk (g : s.GateButLevel) : s.dka.active ≠ none := by
  obtain ⟨d, active, -⟩ := g.fresh
  rw [active]
  nofun

theorem State.Eased.desk (h : s.Eased) : s.dka.active ≠ none := h.gate.desk

theorem State.Eased.latch (h : s.Eased) (p : s.Passed t) : t.brm.latch = s.brm.latch := by
  have desk : t.dka.active ≠ none := by
    rw [p.reads.active]
    exact h.desk
  have quiet : ∀ i, (t.brm.rows.get i).level ≠ .emergency := by
    intro i
    by_cases hold : i = .hold
    · subst hold
      change t.brm.rows.hold.level ≠ _
      rw [(h.rows p).hold, State.holdRow_desk _ desk]
      split_ifs <;> nofun
    · rw [(h.rows p).get i hold]
      nofun
  have never : (rowOrder.find? fun r => decide ((t.brm.rows.get r).level = .emergency ∧
      (s.brm.rows.get r).level ≠ .emergency)) = none :=
    List.find?_eq_none.2 fun i _ => by simp [quiet i]
  rw [p.reads.levels.latch, never, Option.map_none, Option.or_none]

theorem State.Eased.passed (h : s.Eased) (p : s.Passed t) : t.Eased := by
  have r := p.reads
  obtain ⟨mode, authority⟩ := s.takePending_mode
  obtain ⟨d, active, fresh⟩ := h.gate.fresh
  have shut := r.shut h.shut
  refine ⟨⟨⟨d, r.active.trans active, by rw [r.cab]; exact fresh⟩, by rw [r.selected]; exact h.gate.direction,
    by rw [r.dka]; exact h.gate.lock, r.releases.summary.2 shut, (h.latch p).trans h.gate.latch,
    by rw [p.ssu, s.takePending_status.1]; exact h.gate.status,
    by rw [p.ssu, p.tgh, mode, authority]; exact h.gate.mode, fun k => h.gate.faults.1 (r.fault .upper k),
    fun k => h.gate.faults.2 (r.fault .lower k)⟩, shut, ?_, ?_, ?_, ?_, ?_⟩
  · rw [p.cabRow, h.cab]
  · rw [p.supervisionRow, h.supervision]
  · rw [p.radioRow, h.radio]
  · rw [p.odometryRow, h.odometry]
  · rw [p.loopRow, h.loop]

/-- R64: the highest of the rows is the HOLD row. -/
theorem State.OnlyHold.highest (h : s.OnlyHold) {l : Level} (above : ∀ i, (s.brm.rows.get i).level.rank ≤ l.rank)
    (some_row : l = .none ∨ ∃ i, (s.brm.rows.get i).level = l) : l = s.holdRow.level := by
  have rank := above .hold
  change s.brm.rows.hold.level.rank ≤ _ at rank
  rw [h.hold] at rank
  have none_level : Level.rank .none = 0 := rfl
  have zero (l : Level) (z : l.rank ≤ 0) : l = .none := by
    cases l <;> simp [Level.rank] at z ⊢
  rcases some_row with none | ⟨i, equal⟩
  · rw [none] at rank ⊢
    exact (zero _ rank).symm
  · by_cases hold : i = .hold
    · subst hold
      change s.brm.rows.hold.level = _ at equal
      rw [← equal, h.hold]
    · rw [h.get i hold] at equal
      rw [← equal] at rank ⊢
      exact (zero _ rank).symm

theorem State.Eased.level (h : s.Eased) (p : s.Passed t) : t.brm.level = t.holdRow.level := by
  obtain ⟨above, some_row⟩ := p.reads.levels.highest ((h.latch p).trans h.gate.latch)
  exact (h.rows p).highest above some_row

/-- A re-evaluation of the departure is about no row's source but HOLD's. -/
theorem State.Eased.withDeparture (h : s.Eased) (d : Departure) (r : Nat) (x : Timer) :
    (s.withDeparture d r x).Eased :=
  ⟨⟨h.gate.fresh, h.gate.direction, h.gate.lock, h.gate.doors, h.gate.latch, h.gate.status, h.gate.mode,
    h.gate.faults⟩, h.shut, h.cab, h.supervision, h.radio, h.odometry, h.loop⟩

theorem State.Eased.refreshDeparture (h : s.Eased) : s.refreshDeparture.Eased := by
  obtain ⟨d, r, x, e⟩ := s.refreshDeparture_departs.eq
  rw [e]
  exact h.withDeparture d r x

/-! ### When a state is eased -/

/-- A row of the table that is not at HOLD's level stands above it or not at all. -/
theorem State.PassSettled.eased (h : s.PassSettled) (gate : s.GateButLevel)
    (low : s.brm.level = .none ∨ s.brm.level = .hold) : s.Eased := by
  have shut := (Drc.allProven_iff _).1 (h.summary.symm.trans gate.doors)
  have rank : ∀ i, (s.brm.rows.get i).level.rank ≤ 1 := by
    intro i
    have top : (s.brm.rows.get i).level.rank ≤ s.brm.effective.rank := by
      rw [Brm.effective, gate.latch]
      exact (Rows.highest_spec _).1 i
    rw [← h.level] at top
    rcases low with l | l <;> rw [l] at top <;> exact top.trans (by decide)
  have cab := rank .cab
  have supervision := rank .supervision
  have radio := rank .radio
  have odometry := rank .odometry
  have loop := rank .loop
  simp only [Rows.get, h.rows.cab, h.rows.supervision, h.rows.radio, h.rows.odometry, h.rows.loop] at *
  refine ⟨gate, shut, ?_, ?_, ?_, ?_, ?_⟩
  · revert cab
    unfold Dka.cabRow
    (repeat' split) <;> simp [Row.at, Row.clear, Level.rank] <;> omega
  · revert supervision
    unfold State.supervisionRow
    (repeat' split) <;> simp [Row.at, Row.clear, Level.rank]
  · revert radio
    unfold State.radioRow
    (repeat' split) <;> simp [Row.at, Row.clear, Level.rank]
  · revert odometry
    unfold State.odometryRow
    (repeat' split) <;> simp [Row.at, Row.clear, Level.rank]
  · revert loop
    unfold State.loopRow
    split <;> simp [Row.at, Row.clear, Level.rank]

end

end Sys2Proof.Machine
end

section
/-! The brake demand table and what the brake manager makes of it through every event (R63, R64, R72, R74, R75, R77 to
R79, R81 to R86). -/

namespace Sys2Proof.Machine

/-! ### The last passes of an event -/

theorem State.settle_last (n : Nat) (s : State) : s.settle (n + 1) = (s.settle n).settlePass := by
  induction n generalizing s with
  | zero => rfl
  | succ n ih => exact ih s.settlePass

section
variable {x y : State}

/-- A departure stands after an evaluation only under the conditions that R82 and R84 ask for. -/
theorem State.Departs.going (h : x.Departs y) (going : y.brm.departure ≠ .idle) :
    x.GateButLevel ∧ (x.brm.level = .none ∨ x.brm.level = .hold) ∧ 0 < x.demand := by
  have kept (k : ¬x.MustAbandon) :
      x.GateButLevel ∧ (x.brm.level = .none ∨ x.brm.level = .hold) ∧ 0 < x.demand := by
    unfold State.MustAbandon at k
    rw [not_or, not_or, not_not, not_and_or, not_not, not_not] at k
    exact ⟨k.2.1, k.2.2, Nat.pos_of_ne_zero k.1⟩
  have pulled (e : x.brm.departure = .pulling ∨ x.brm.departure = .stalled) :
      x.GateButLevel ∧ (x.brm.level = .none ∨ x.brm.level = .hold) ∧ 0 < x.demand := by
    by_cases k : x.MustAbandon
    · rw [h.abandons e k] at going
      exact absurd rfl going
    · exact kept k
  cases e : x.brm.departure with
  | idle =>
    by_cases k : x.MayDepart
    · exact ⟨k.2.2.2, .inr k.2.2.1, k.2.1⟩
    · rw [h.idle e k] at going
      exact absurd e going
  | pulling => exact pulled (.inl e)
  | stalled => exact pulled (.inr e)
  | released =>
    by_cases k : x.odu.motion = .standstill ∧ 0 < x.demand ∧ x.Gate
    · refine ⟨k.2.2.others, k.2.2.level.imp_right And.left, k.2.1⟩
    · rw [h.ended e k] at going
      exact absurd rfl going

/-- R83, R85: a departure in RELEASED stands at STANDSTILL, or comes from PULLING or STALLED by its effort. -/
theorem State.Departs.released (h : x.Departs y) (released : y.brm.departure = .released) :
    x.odu.motion = .standstill ∨
      ((x.brm.departure = .pulling ∨ x.brm.departure = .stalled) ∧ x.EffortReached) := by
  have pulled (e : x.brm.departure = .pulling ∨ x.brm.departure = .stalled) : x.EffortReached := by
    by_contra r
    by_cases k : x.MustAbandon
    · rw [h.abandons e k] at released
      cases released
    · rw [h.pulls e k r] at released
      rcases e with e | e <;> rw [e] at released <;> cases released
  cases e : x.brm.departure with
  | idle =>
    by_cases k : x.MayDepart
    · exact .inl k.1
    · rw [h.idle e k, e] at released
      cases released
  | pulling => exact .inr ⟨.inl rfl, pulled (.inl e)⟩
  | stalled => exact .inr ⟨.inr rfl, pulled (.inr e)⟩
  | released =>
    by_cases k : x.odu.motion = .standstill ∧ 0 < x.demand ∧ x.Gate
    · exact .inl k.1
    · rw [h.ended e k] at released
      cases released

/-- R83: in motion a departure that stays in PULLING or STALLED waits for its effort. -/
theorem State.Departs.waits (h : x.Departs y) (moving : x.odu.motion ≠ .standstill)
    (going : y.brm.departure = .pulling ∨ y.brm.departure = .stalled) : ¬y.EffortReached := by
  have pulled (e : x.brm.departure = .pulling ∨ x.brm.departure = .stalled) : ¬y.EffortReached := by
    by_cases k : x.MustAbandon
    · rw [h.abandons e k] at going
      rcases going with going | going <;> cases going
    · by_cases r : x.EffortReached
      · rw [h.releases e k r] at going
        rcases going with going | going <;> cases going
      · rw [h.pulls e k r]
        exact r
  cases e : x.brm.departure with
  | idle =>
    rw [h.idle e fun k => moving k.1, e] at going
    rcases going with going | going <;> cases going
  | pulling => exact pulled (.inl e)
  | stalled => exact pulled (.inr e)
  | released =>
    rw [h.ended e fun k => moving k.1] at going
    rcases going with going | going <;> cases going

/-- R82 to R85: the stall timer runs in PULLING alone. -/
theorem State.Departs.stall (h : x.Departs y) (k : x.brm.stallTimer ≠ none → x.brm.departure = .pulling) :
    y.brm.stallTimer ≠ none → y.brm.departure = .pulling := by
  have pulled (e : x.brm.departure = .pulling ∨ x.brm.departure = .stalled) :
      y.brm.stallTimer ≠ none → y.brm.departure = .pulling := by
    by_cases a : x.MustAbandon
    · rw [h.abandons e a]
      exact fun runs => absurd rfl runs
    · by_cases r : x.EffortReached
      · rw [h.releases e a r]
        exact fun runs => absurd rfl runs
      · rw [h.pulls e a r]
        exact k
  cases e : x.brm.departure with
  | idle =>
    by_cases m : x.MayDepart
    · rw [h.begins e m]
      exact fun _ => rfl
    · rw [h.idle e m]
      exact k
  | pulling => exact pulled (.inl e)
  | stalled => exact pulled (.inr e)
  | released =>
    by_cases l : x.odu.motion = .standstill ∧ 0 < x.demand ∧ x.Gate
    · rw [h.lasts e l]
      exact k
    · rw [h.ended e l]
      exact fun runs => absurd rfl runs

/-- What the readers make of a departure that stands: its gate, and its level NONE or HOLD. -/
theorem State.Eased.stands {z : State} (h : y.Eased) (p : y.Passed z) :
    z.GateButLevel ∧ (z.brm.level = .none ∨ z.brm.level = .hold) ∧
      (z.brm.departure = .released → z.brm.level = .none) := by
  have eased := h.passed p
  have level := h.level p
  rw [State.holdRow_desk z eased.desk] at level
  refine ⟨eased.gate, ?_, fun released => ?_⟩
  · rw [level]
    split_ifs
    exacts [.inr rfl, .inl rfl]
  · rw [level, if_neg fun k => k.2.2 released]

end

/-! ### The departure at the end of an event -/

/-- R82 to R85: a departure that stands at the end of an event has its gate, a level at most HOLD and a demand, and in
RELEASED the level NONE at STANDSTILL. -/
theorem State.read_departure (u : State) (going : u.read.brm.departure ≠ .idle) :
    u.read.GateButLevel ∧ (u.read.brm.level = .none ∨ u.read.brm.level = .hold) ∧ 0 < u.read.demand ∧
      (u.read.brm.departure = .released → u.read.brm.level = .none ∧ u.read.odu.motion = .standstill) := by
  have last : u.settle (5 + 1) = (u.settle 5).readersPass.refreshDeparture := State.settle_last 5 u
  have before : u.settle 5 = (u.settle 4).readersPass.refreshDeparture := State.settle_last 4 u
  unfold State.read at going ⊢
  rw [last] at going ⊢
  obtain ⟨x₅, d₅⟩ : ∃ x₅ : State, x₅.Departs (u.settle 5) := ⟨_, before ▸ State.refreshDeparture_departs _⟩
  generalize u.settle 5 = y₅ at *
  have p₆ := y₅.readersPass_passed
  have settled := y₅.readersPass_settled
  generalize y₅.readersPass = x₆ at *
  have d₆ := x₆.refreshDeparture_departs
  have departed := settled.departure
  generalize x₆.refreshDeparture = y₆ at *
  have p₇ := y₆.readersPass_passed
  generalize y₆.readersPass = z at *
  have departure := p₇.reads.departure.1
  rw [departure] at going ⊢
  obtain ⟨gate, low, demand⟩ := d₆.going going
  obtain ⟨d, r, t, rfl⟩ := d₆.eq
  have eased : (x₆.withDeparture d r t).Eased := (settled.eased gate low).withDeparture d r t
  obtain ⟨gate', low', none_level⟩ := eased.stands p₇
  refine ⟨gate', low', by rw [p₇.reads.demand]; exact demand, fun released => ⟨none_level (departure.trans released), ?_⟩⟩
  rw [p₇.reads.odu]
  change x₆.odu.motion = _
  rcases d₆.released released with still | ⟨pulled, reached⟩
  · exact still
  · by_contra moving
    rw [p₆.reads.odu] at moving
    rw [p₆.reads.departure.1] at pulled
    obtain ⟨d', r', t', rfl⟩ := d₅.eq
    exact d₅.waits moving pulled (p₆.reads.effortReached.1 reached)

end Sys2Proof.Machine
end

section
/-! The brake demand table and what the brake manager makes of it, kept by every step (O56). -/

namespace Sys2Proof.Machine

/-! ### What the brake manager's values keep between events -/

/-- The electric brake follows the level, HOLDING is the finding of what was seen last, and the stall timer runs in
PULLING alone. -/
structure State.Consistent (s : State) : Prop where
  electric : s.brm.ebrake.latched = s.brm.level.electric
  rack : s.brm.holdSeen.regime = .rack → (s.brm.holding = true ↔
    s.brm.holdSeen.command = .applied ∧ s.brm.holdSeen.upper = true ∧ s.brm.holdSeen.lower = true)
  unmeasured : s.brm.holdSeen.regime = .adhesion → s.brm.holdSeen.measured = none → s.brm.holding = false
  stall : s.brm.stallTimer ≠ none → s.brm.departure = .pulling

section
variable {s t : State}

theorem State.OutputsTrue.consistent (h : s.OutputsTrue) : s.Consistent where
  electric := by
    rw [h.electric]
    cases s.brm.level <;> rfl
  rack regime := by
    rw [h.seen] at regime ⊢
    exact h.holding regime
  unmeasured regime measured := by
    rw [h.seen] at regime measured
    exact h.unmeasured regime measured
  stall := h.stall

theorem State.Consistent.reads (h : s.Consistent) (r : s.Reads t) : t.Consistent where
  electric := by
    by_cases same : t.brm.level = s.brm.level
    · rw [(r.brakes.same same).2.1, same]
      exact h.electric
    · rw [(r.brakes.other same).2.1]
  rack regime := by
    by_cases same : t.brm.holdSeen = s.brm.holdSeen
    · rw [same] at regime ⊢
      rw [r.finds.held same]
      exact h.rack regime
    · rw [r.finds.holdSeen] at regime ⊢
      exact r.finds.rack same regime
  unmeasured regime measured := by
    by_cases same : t.brm.holdSeen = s.brm.holdSeen
    · rw [same] at regime measured
      rw [r.finds.held same]
      exact h.unmeasured regime measured
    · rw [r.finds.holdSeen] at regime measured
      by_contra holds
      obtain ⟨m, some_m, -⟩ := (r.finds.adhesion same regime).1 (by simpa using holds)
      exact nomatch measured.symm.trans some_m
  stall := by
    obtain ⟨departure, _, stall, _⟩ := r.departure
    rw [departure, stall]
    exact h.stall

theorem State.Consistent.departs (h : s.Consistent) (d : s.Departs t) : t.Consistent := by
  have stall := d.stall h.stall
  obtain ⟨_, _, _, rfl⟩ := d.eq
  exact ⟨h.electric, h.rack, h.unmeasured, stall⟩

theorem State.Consistent.settle (h : s.Consistent) (n : Nat) : (s.settle n).Consistent :=
  State.settle_keeps (P := State.Consistent)
    (fun x k => (k.reads x.readersPass_reads).departs (State.refreshDeparture_departs _)) h n

theorem State.Consistent.read (h : s.Consistent) : s.read.Consistent :=
  (h.settle _).reads (State.readersPass_reads _)

theorem State.Consistent.finish (h : s.Consistent) : s.finish.Consistent := by
  have k := h.read
  rw [State.finish_eq]
  generalize s.read = x at *
  obtain ⟨w, e⟩ := x.refreshTraction_drives.eq
  rw [e]
  exact ⟨k.electric, k.rack, k.unmeasured, k.stall⟩

theorem State.Consistent.withDka (h : s.Consistent) (k : Dka) : State.Consistent { s with dka := k } :=
  ⟨h.electric, h.rack, h.unmeasured, h.stall⟩

theorem State.Consistent.takeCab (h : s.Consistent) (d : Desk) (w : CabWords) : (s.takeCab d w).Consistent := by
  unfold State.takeCab State.takeSwitch State.switchStanding
  dsimp only
  split_ifs
  · exact h.withDka _
  · exact ((h.withDka _).finish).withDka _
  · exact h.withDka _
  · exact h.withDka _
  · exact h.withDka _

theorem State.addLeaving_departure (i : SourceId) (d l : Int) (s : State) :
    (s.addLeaving i d l).brm.departure = s.brm.departure := by
  unfold State.addLeaving
  split
  · rfl
  · dsimp only
    split <;> rfl

theorem State.encoderStep_departure (i : Bogie) (a b : Bool) (s : State) :
    (s.encoderStep i a b).brm.departure = s.brm.departure := by
  have counted (d : Dir) (x : State) : (x.count i d).brm.departure = x.brm.departure := by
    unfold State.count
    dsimp only
    split
    · exact State.addLeaving_departure _ _ _ _
    · rfl
  unfold State.encoderStep
  split
  · rfl
  · exact counted _ _
  · rfl

theorem State.takeTooth_departure (s : State) : s.takeTooth.brm.departure = s.brm.departure := by
  unfold State.takeTooth State.toothMotion
  split
  · exact (State.addLeaving_departure _ _ _ _).trans (by simp)
  · simp

theorem State.standExpiry_departure (s : State) : s.standExpiry.brm.departure = s.brm.departure := by
  unfold State.standExpiry State.enterStandstill State.startHold
  split_ifs <;> rfl

theorem State.pinionFails_departure (b : Bogie) (s : State) :
    (s.pinionFails b).brm.departure = s.brm.departure := by
  unfold State.pinionFails
  cases b <;> (dsimp only; split_ifs) <;> simp [Brm.setBand]

theorem State.gate_departure (s : State) :
    s.measure.retarget.clearFriction.testProving.brm.departure = s.brm.departure := by
  obtain ⟨f, e⟩ := s.measure.retarget.clearFriction_brm
  change s.measure.retarget.clearFriction.brm.departure = _
  rw [e]
  simp [State.measure]

/-- A command that moves the departure, which only makes it STALLED, has stopped its timer. -/
theorem State.Works.stalled (w : s.Works t) : (∃ d c, t = s.takeCab d c) ∨ t.brm.departure = s.brm.departure ∨
    t.brm.stallTimer = none := by
  cases w with
  | takesCab d c => exact .inl ⟨d, c, rfl⟩
  | stalls =>
    refine .inr (.inr ?_)
    unfold State.stall
    split <;> simp
  | counts e a b => exact .inr (.inl (s.encoderStep_departure e a b))
  | tooth => exact .inr (.inl s.takeTooth_departure)
  | stands => exact .inr (.inl (State.standExpiry_departure _))
  | gates n => exact .inr (.inl (State.gate_departure _))
  | applies b a => exact .inr (.inl (by cases b <;> simp [State.setApplied, Brm.setBand]))
  | fails b => exact .inr (.inl (State.pinionFails_departure b s))
  | resets clear => exact .inr (.inl rfl)
  | opensLoop => exact .inr (.inl (by simp [State.openLoop]))
  | effort n p => exact .inr (.inl rfl)
  | noEffort => exact .inr (.inl rfl)
  | unproved => exact .inr (.inl rfl)
  | closesLoop => exact .inr (.inl rfl)
  | holds => exact .inr (.inl rfl)
  | _ => exact .inr (.inl (congrArg Brm.departure (by simp)))

theorem State.Works.consistent (w : s.Works t) (h : s.Consistent) : t.Consistent := by
  rcases w.fed with fed | ⟨d, c, rfl⟩
  · rcases w.stalled with ⟨d, c, rfl⟩ | stalled
    · exact h.takeCab d c
    · refine ⟨by rw [fed.electric, fed.level]; exact h.electric, by rw [fed.holdSeen, fed.holding]; exact h.rack,
        by rw [fed.holdSeen, fed.holding]; exact h.unmeasured, fun runs => ?_⟩
      rcases stalled with departure | stopped
      · rcases fed.stallTimer with timer | stopped
        · rw [timer] at runs
          exact departure.trans (h.stall runs)
        · exact absurd stopped runs
      · exact absurd stopped runs
  · exact h.takeCab d c

/-! ### The end of an event -/

theorem State.demand_pos (h : 0 < s.demand) : ∃ d, s.dka.active = some d ∧ 0 < (s.dka.cab d).traction := by
  unfold State.demand at h
  cases e : s.dka.active with
  | none => rw [e] at h; exact absurd h (by simp)
  | some d =>
    rw [e] at h
    refine ⟨d, rfl, ?_⟩
    dsimp only at h
    split_ifs at h
    · exact absurd h (by simp)
    · exact h

theorem State.GateButLevel.withTraction (g : s.GateButLevel) (w : Pwm) : (s.withTraction w).GateButLevel :=
  ⟨g.fresh, g.direction, g.lock, g.doors, g.latch, g.status, g.mode, g.faults⟩

theorem State.finish_outputsTrue (h : s.Consistent) : s.finish.OutputsTrue := by
  have k := h.read
  have departure := s.read_departure
  rw [State.finish_eq]
  obtain ⟨x, r⟩ : ∃ x : State, x.Reads s.read := ⟨_, State.readersPass_reads _⟩
  generalize s.read = y at *
  have drives := y.refreshTraction_drives
  have gated := y.refreshTraction_gated
  generalize y.refreshTraction = t at *
  obtain ⟨w, rfl⟩ := drives.eq
  obtain ⟨open', closed'⟩ := gated
  have inputs : y.odu = x.odu ∧ y.dka.active = x.dka.active := ⟨r.odu, r.active⟩
  have frame := r.brakeFrame
  have friction : y.brm.frictionFault = x.brm.frictionFault := by rw [frame]
  have forced : y.brm.loopForced = x.brm.loopForced := by rw [frame]
  have measured : y.brm.measured = x.brm.measured := by rw [frame]
  have seen : y.brm.holdSeen = y.holdInputs := by
    rw [r.finds.holdSeen, State.holdInputs, inputs.1, measured]
  have demand (d : Desk) (active : y.dka.active = some d) (fresh : (y.dka.cab d).fresh ≠ none) :
      y.dka.supplied = (y.dka.cab d).traction := by
    rw [← y.demand_eq, State.demand, active]
    exact if_neg fresh
  exact {
    latched := r.levels.latched
    highest := r.levels.highest
    pinion := by
      have pinion := r.brakes.pinion
      rw [← inputs.1, ← inputs.2, ← friction] at pinion
      exact pinion
    outputs := by
      have outputs := r.brakes.outputs
      rw [← forced] at outputs
      exact outputs
    electric := k.electric
    doors := r.releases.summary
    carried := fun gate => by
      obtain ⟨d, active, fresh⟩ := gate.others.fresh
      exact ⟨d, active, (open' ((State.gate_iff _).1 gate)).trans (demand d active fresh)⟩
    closed := fun gate => closed' (by
      rw [← Bool.not_eq_true]
      exact fun yes => gate ((State.gate_iff _).2 yes))
    seen := seen
    holding := fun rack => by
      have found := k.rack
      rw [seen] at found
      exact found rack
    unmeasured := fun adhesion none => by
      have found := k.unmeasured
      rw [seen] at found
      exact found adhesion none
    departure := fun going => by
      obtain ⟨gate, level, supplied, -⟩ := departure (by rintro idle; rcases going with e | e <;> cases idle.symm.trans e)
      exact ⟨gate.withTraction w, level, State.demand_pos supplied⟩
    released := fun released => by
      obtain ⟨gate, -, supplied, rest⟩ := departure (fun idle => nomatch idle.symm.trans released)
      obtain ⟨none_level, still⟩ := rest released
      exact ⟨⟨gate.withTraction w, .inl none_level⟩, still, State.demand_pos supplied⟩
    stall := k.stall }

end

/-! ### Every event -/

theorem State.pending_aligned (s : State) (q : List Instr) : s.Aligned { s with pending := q } :=
  .of_blocks rfl rfl rfl rfl rfl rfl

section
variable {s t : State}

theorem State.Event.outputs (e : s.Event t) (rows : s.RowsTrue) (outputs : s.OutputsTrue) :
    t.RowsTrue ∧ t.OutputsTrue := by
  cases e with
  | aside a => exact ⟨a.aligned.rowsTrue rows, a.aligned.outputsTrue outputs⟩
  | @handed x u a w b =>
    have consistent := w.consistent (a.aligned.outputsTrue outputs).consistent
    exact ⟨b.aligned.rowsTrue u.finish_ends.rowsTrue, b.aligned.outputsTrue (State.finish_outputsTrue consistent)⟩
  | @restarts x a _ _ b =>
    exact ⟨b.aligned.rowsTrue x.restart_fresh.rowsTrue, b.aligned.outputsTrue x.restart_fresh.outputsTrue⟩

/-- R175: a frozen set of parameters stays as it is. -/
def State.Frozen (s t : State) : Prop := s.pst.frozen = true → t.pst.frozen = true ∧ t.pst.params = s.pst.params

theorem State.Frozen.of_pst (h : t.pst = s.pst) : s.Frozen t := fun frozen => ⟨by rw [h, frozen], by rw [h]⟩

theorem State.Frozen.trans {u : State} (h : s.Frozen t) (k : t.Frozen u) : s.Frozen u := fun frozen =>
  ⟨(k (h frozen).1).1, (k (h frozen).1).2.trans (h frozen).2⟩

theorem State.Frozen.par (h : s.Frozen t) (frozen : s.pst.frozen = true) (p : Param) : t.par p = s.par p :=
  congrArg (·.get p.idx) (h frozen).2

theorem State.Aside.frozen (h : s.Aside t) : s.Frozen t := by
  induction h with
  | refl => exact .of_pst rfl
  | trans _ _ a b => exact a.trans b
  | writesParams s ks free => exact fun frozen => absurd frozen (by rw [free]; decide)
  | freezes s =>
    intro frozen
    unfold State.requestFreeze
    rw [if_pos frozen]
    exact ⟨frozen, rfl⟩
  | _ => exact .of_pst (by simp)

theorem State.Works.frozen (w : s.Works t) : s.Frozen t := by
  refine .of_pst ?_
  cases w with
  | takesCab d c => exact (s.takeCab_core d c).2.2.1
  | _ => simp

theorem State.Event.lineRowsTrue (e : s.Event t) (frozen : s.pst.frozen = true) (h : s.LineRowsTrue) :
    t.LineRowsTrue := by
  cases e with
  | aside a => exact a.aligned.lineRowsTrue (a.frozen.par frozen) h
  | @handed x u a w b =>
    have kept : u.Frozen u.finish := .of_pst u.finish_follows.pst
    have still := (((a.frozen.trans w.frozen).trans kept) frozen).1
    exact b.aligned.lineRowsTrue (b.frozen.par still) u.finish_ends.lineRowsTrue
  | @restarts x a _ _ b =>
    have kept : x.Frozen x.restart := .of_pst x.restart_kept.1
    have still := ((a.frozen.trans kept) frozen).1
    exact b.aligned.lineRowsTrue (b.frozen.par still) x.restart_fresh.lineRowsTrue

end

/-- Settles O56: the close of every event makes the rows true, and what an event keeps of the brake manager's values
with its last two passes makes the outputs true. -/
theorem everyStepKeepsTheReadersTrue : Obligations.EveryStepKeepsTheReadersTrue := by
  refine ⟨fun u t ends => ⟨ends.rowsTrue, ends.lineRowsTrue⟩, fun s t frozen rows h => ?_, fun s t rows outputs h => ?_⟩
  · obtain ⟨q, u, q', leaves, rfl⟩ := step_event h
    refine (State.pending_aligned u q').lineRowsTrue (fun _ => rfl) ?_
    rcases leaves with e | ⟨strap, rfl⟩
    · exact e.lineRowsTrue frozen ((State.pending_aligned s q).lineRowsTrue (fun _ => rfl) rows)
    · exact (State.poweredOn_fresh strap _).lineRowsTrue
  · refine step_keeps (P := fun x => x.RowsTrue ∧ x.OutputsTrue) ?_ ?_ ?_ ⟨rows, outputs⟩ h
    · exact fun x q ⟨rows, outputs⟩ => ⟨(x.pending_aligned q).rowsTrue rows, (x.pending_aligned q).outputsTrue outputs⟩
    · exact fun _ _ ⟨rows, outputs⟩ e => e.outputs rows outputs
    · exact fun s strap _ => ⟨(s.poweredOn_fresh strap).rowsTrue, (s.poweredOn_fresh strap).outputsTrue⟩

end Sys2Proof.Machine
end

section
/-! SUPPORT. The departure of an eased state, from one pass to the end of its event (R82 to R85). -/

namespace Sys2Proof.Machine

theorem State.settle_add (a b : Nat) (s : State) : s.settle (a + b) = (s.settle a).settle b := by
  induction a generalizing s with
  | zero => rw [Nat.zero_add]; rfl
  | succ a ih => rw [Nat.succ_add, State.settle_succ, State.settle_succ, ih]

section
variable {u x t : State}

/-- An event whose passes come to a state that stays ends with its rows, its level and its departure. -/
theorem State.Stays.agrees_finish (h : x.Stays) {k : Nat} (few : k ≤ 6) (reach : u.settle k = x) :
    x.Agrees u.finish := by
  obtain ⟨n, total⟩ := Nat.exists_eq_add_of_le few
  obtain ⟨agrees, stays⟩ := State.Stays.settle (s := x) (x := x) ⟨⟨rfl, rfl, rfl, rfl, rfl, rfl⟩, h⟩ n
  have passed : u.settle (5 + 1) = x.settle n := by
    rw [show 5 + 1 = k + n by omega, State.settle_add, reach]
  have read := agrees.trans stays.steady.agrees
  rw [State.finish_eq, State.read, passed]
  generalize (x.settle n).readersPass = y at read
  exact ⟨by simpa using read.rows, by simpa using read.level, by simpa using read.latch,
    by simpa using read.departure, by simpa using read.required, by simpa using read.stallTimer⟩

/-! ### The readers of an eased state -/

theorem State.Eased.steady (h : u.Eased) : u.readersPass.Steady where
  rows := u.readersPass_settled.rows
  hold := u.readersPass_hold
  summary := u.readersPass_settled.summary
  level := u.readersPass_settled.level
  activation :=
    State.takePending_settled u.readersPass_follows.odu u.readersPass_follows.active u.readersPass_lps.1
  sides := .inr ((Drc.allProven_iff _).2 (u.readersPass_reads.shut h.shut))

/-- R81: HOLD's row in an eased state, by what decides it. -/
def State.holdsStill (s : State) : Prop :=
  s.odu.motion = .standstill ∧ s.brm.holdElapsed = true ∧ s.brm.departure ≠ .released

theorem State.Passed.holdsStill (p : u.Passed x) : x.holdsStill ↔ u.holdsStill := by
  have elapsed : x.brm.holdElapsed = u.brm.holdElapsed := by rw [p.reads.brakeFrame]
  unfold State.holdsStill
  rw [p.reads.odu, elapsed, p.reads.departure.1]

theorem State.Eased.level_hold (h : u.Eased) (p : u.Passed x) (holds : u.holdsStill) : x.brm.level = .hold := by
  rw [h.level p, State.holdRow_desk x (h.passed p).desk]
  exact congrArg Row.level (if_pos (p.holdsStill.2 holds))

theorem State.Eased.level_none (h : u.Eased) (p : u.Passed x) (free : ¬u.holdsStill) : x.brm.level = .none := by
  rw [h.level p, State.holdRow_desk x (h.passed p).desk]
  exact congrArg Row.level (if_neg fun k => free (p.holdsStill.1 k))

theorem State.Eased.low (h : u.Eased) (p : u.Passed x) : x.brm.level = .none ∨ x.brm.level = .hold := by
  by_cases holds : u.holdsStill
  · exact .inr (h.level_hold p holds)
  · exact .inl (h.level_none p holds)

/-- R84: in an eased state the demand alone abandons a departure. -/
theorem State.Eased.mustAbandon (h : u.Eased) (p : u.Passed x) : x.MustAbandon ↔ u.demand = 0 := by
  unfold State.MustAbandon
  rw [p.reads.demand]
  constructor
  · rintro (zero | closed | high)
    · exact zero
    · exact absurd (h.passed p).gate closed
    · exact absurd (h.low p) (not_or.2 high)
  · exact .inl

/-! ### The departure over the passes -/

/-- What comes to rest in `x`, with the departure, its required effort and its stall timer. -/
structure State.Rests (x : State) (d : Departure) (required : Nat) (stall : Timer) : Prop where
  stays : x.Stays
  departure : x.brm.departure = d
  required : x.brm.required = required
  stall : x.brm.stallTimer = stall

/-- R83: a departure that waits for its effort goes on. -/
theorem State.Eased.waits (h : u.Eased) (going : u.brm.departure = .pulling ∨ u.brm.departure = .stalled)
    (demand : 0 < u.demand) (waiting : ¬u.EffortReached) :
    (u.settle 1).Rests u.brm.departure u.brm.required u.brm.stallTimer := by
  have p := u.readersPass_passed
  have steady := h.steady
  change (u.readersPass.refreshDeparture).Rests _ _ _
  generalize u.readersPass = x at *
  obtain ⟨departure, required, stall, _⟩ := p.reads.departure
  have stays : x.Stays := ⟨steady, .inr (.inl ⟨by rw [departure]; exact going,
    fun k => absurd ((h.mustAbandon p).1 k) (by omega), fun k => waiting (p.reads.effortReached.1 k)⟩)⟩
  rw [stays.departs]
  exact ⟨stays, departure, required, stall⟩

/-- R85: a released hold lasts. -/
theorem State.Eased.lasts (h : u.Eased) (released : u.brm.departure = .released) (demand : 0 < u.demand)
    (still : u.odu.motion = .standstill) : (u.settle 1).Rests .released u.brm.required u.brm.stallTimer := by
  have p := u.readersPass_passed
  have steady := h.steady
  change (u.readersPass.refreshDeparture).Rests _ _ _
  generalize u.readersPass = x at *
  obtain ⟨departure, required, stall, _⟩ := p.reads.departure
  have free : ¬u.holdsStill := fun k => k.2.2 released
  have stays : x.Stays := ⟨steady, .inr (.inr ⟨departure.trans released, by rw [p.reads.odu]; exact still,
    by rw [p.reads.demand]; exact demand, (h.passed p).gate, .inl (h.level_none p free)⟩)⟩
  rw [stays.departs]
  exact ⟨stays, departure.trans released, required, stall⟩

/-- R83: the effort releases the hold, and the released hold lasts. -/
theorem State.Eased.releases (h : u.Eased) (going : u.brm.departure = .pulling ∨ u.brm.departure = .stalled)
    (demand : 0 < u.demand) (still : u.odu.motion = .standstill) (reached : u.EffortReached) :
    (u.settle 2).Rests .released u.brm.required none := by
  have p := u.readersPass_passed
  change ((u.readersPass.refreshDeparture).settle 1).Rests _ _ _
  generalize u.readersPass = x at *
  obtain ⟨departure, required, stall, _⟩ := p.reads.departure
  rw [x.refreshDeparture_departs.releases (by rw [departure]; exact going)
    (fun k => absurd ((h.mustAbandon p).1 k) (by omega)) (p.reads.effortReached.2 reached), ← required]
  exact ((h.passed p).withDeparture .released x.brm.required none).lasts rfl
    (by change 0 < x.demand; rw [p.reads.demand]; exact demand) (by change x.odu.motion = _; rw [p.reads.odu]; exact still)

/-- R84, R85: without a demand a departure ends. -/
theorem State.Eased.ends (h : u.Eased) (going : u.brm.departure ≠ .idle) (demand : u.demand = 0) :
    (u.settle 2).Rests .idle u.brm.required none := by
  have p := u.readersPass_passed
  change ((u.readersPass.refreshDeparture).readersPass.refreshDeparture).Rests _ _ _
  generalize u.readersPass = x at *
  obtain ⟨departure, required, stall, _⟩ := p.reads.departure
  have asked : x.demand = 0 := by rw [p.reads.demand, demand]
  have ended : x.refreshDeparture = x.withDeparture .idle x.brm.required none := by
    have d := x.refreshDeparture_departs
    have abandon : x.MustAbandon := (h.mustAbandon p).2 demand
    cases e : x.brm.departure with
    | idle => exact absurd (departure.symm.trans e) going
    | pulling => exact d.abandons (.inl e) abandon
    | stalled => exact d.abandons (.inr e) abandon
    | released => exact d.ended e fun k => absurd k.2.1 (by omega)
  rw [ended, ← required]
  have eased := (h.passed p).withDeparture .idle x.brm.required none
  have idle : (x.withDeparture .idle x.brm.required none).brm.departure = .idle ∧
      (x.withDeparture .idle x.brm.required none).demand = 0 := ⟨rfl, asked⟩
  have kept : (x.withDeparture .idle x.brm.required none).brm.required = x.brm.required ∧
      (x.withDeparture .idle x.brm.required none).brm.stallTimer = none := ⟨rfl, rfl⟩
  generalize x.withDeparture .idle x.brm.required none = y at *
  have p' := y.readersPass_passed
  have steady := eased.steady
  generalize y.readersPass = z at *
  obtain ⟨departure', required', stall', _⟩ := p'.reads.departure
  have stays : z.Stays := ⟨steady, .inl ⟨departure'.trans idle.1, by rw [p'.reads.demand, idle.2]⟩⟩
  rw [stays.departs]
  exact ⟨stays, departure'.trans idle.1, required'.trans kept.1, stall'.trans kept.2⟩

/-- R82: a demand at STANDSTILL under HOLD begins a departure. -/
theorem State.Eased.begins (h : u.Eased) (activation : u.lps.pendingAct = none) (idle : u.brm.departure = .idle)
    (demand : 0 < u.demand) (still : u.odu.motion = .standstill) (elapsed : u.brm.holdElapsed = true) :
    ∃ y : State, u.settle 1 = y ∧ y.Eased ∧ y.demand = u.demand ∧ y.odu = u.odu ∧ y.brm.departure = .pulling ∧
      y.brm.required = u.neededEffort ∧ y.brm.stallTimer = some (u.now + 5000000) ∧
      (∀ r : Nat, y.brm.required = r →
        (y.EffortReached ↔ u.brm.effortValid = true ∧ (r : Int) ≤ u.brm.effort)) := by
  have p := u.readersPass_passed
  have follows := u.readersPass_follows
  have lps := u.readersPass_lps.1
  rw [State.takePending_none activation] at lps
  refine ⟨u.readersPass.refreshDeparture, rfl, ?_⟩
  generalize u.readersPass = x at *
  obtain ⟨departure, _, _, effort, valid, _⟩ := p.reads.departure
  have needed : x.neededEffort = u.neededEffort := by
    rw [State.neededEffort_eq, State.neededEffort_eq]
    exact State.requiredEffort_congr p.reads.selected lps p.reads.odu p.pst
  have holds : u.holdsStill := ⟨still, elapsed, by rw [idle]; nofun⟩
  rw [x.refreshDeparture_departs.begins (departure.trans idle) ⟨by rw [p.reads.odu]; exact still,
    by rw [p.reads.demand]; exact demand, h.level_hold p holds, (h.passed p).gate⟩, needed, follows.now]
  refine ⟨(h.passed p).withDeparture _ _ _, p.reads.demand, p.reads.odu, rfl, rfl, rfl, fun r same => ?_⟩
  change (x.brm.effortValid = true ∧ ((u.neededEffort : Nat) : Int) ≤ x.brm.effort) ↔ _
  rw [effort, valid, show u.neededEffort = r from same]

/-! ### The end of the event -/

theorem State.Eased.settle (h : u.Eased) (n : Nat) : (u.settle n).Eased :=
  State.settle_keeps (P := State.Eased)
    (fun x k => (k.passed x.readersPass_passed).refreshDeparture) h n

theorem State.Eased.withTraction (h : u.Eased) (w : Pwm) : (u.withTraction w).Eased :=
  ⟨h.gate.withTraction w, h.shut, h.cab, h.supervision, h.radio, h.odometry, h.loop⟩

theorem State.Eased.finish (h : u.Eased) : u.finish.Eased := by
  have read := (h.settle (5 + 1)).passed (State.readersPass_passed _)
  rw [State.finish_eq, State.read]
  generalize (u.settle (5 + 1)).readersPass = y at *
  obtain ⟨w, e⟩ := y.refreshTraction_drives.eq
  rw [e]
  exact read.withTraction w

/-- R75: the electric brake's duty is the level's. -/
theorem State.finish_electric (h : u.brm.ebrake.latched = u.brm.level.electric) :
    u.finish.brm.ebrake.latched = u.finish.brm.level.electric := by
  refine u.finish_followedBy.keeps (P := fun x => x.brm.ebrake.latched = x.brm.level.electric)
    (fun x y read same => ?_) (fun _ _ _ _ p => p) (fun _ _ p => p) h
  by_cases level : y.brm.level = x.brm.level
  · rw [(read.brakes.same level).2.1, level, same]
  · rw [(read.brakes.other level).2.1]

/-- What the event of an eased state ends in, by the departure that it ends with. -/
structure State.Driven (u t : State) : Prop where
  hold : t.brm.rows.hold = if u.odu.motion = .standstill ∧ u.brm.holdElapsed = true ∧ t.brm.departure ≠ .released then
    { level := .hold, reason := some .standing } else { level := .none, reason := none }
  level : t.brm.level = t.brm.rows.hold.level
  electric : u.brm.ebrake.latched = u.brm.level.electric → t.brm.ebrake.latched = 0
  carried : t.brm.level = .none ∨ (t.brm.level = .hold ∧ (t.brm.departure = .pulling ∨ t.brm.departure = .stalled)) →
    t.brm.traction.latched = u.demand
  stopped : t.brm.level = .hold → t.brm.departure = .idle →
    t.brm.traction.latched = 0 ∧ t.brm.traction.driven = 0

theorem State.Eased.driven (h : u.Eased) : u.Driven u.finish := by
  have eased := h.finish
  have settled := u.finish_settled
  have follows := u.finish_follows
  have electric := u.finish_electric
  have dka := u.finish_ends.1.dka
  have level : u.finish.brm.level = u.finish.holdRow.level := by
    have last := (h.settle (5 + 1)).level (State.readersPass_passed _)
    rw [State.finish_eq, State.read]
    generalize (u.settle (5 + 1)).readersPass = y at *
    obtain ⟨w, e⟩ := y.refreshTraction_drives.eq
    rw [e]
    exact last
  obtain ⟨_, _, _, _, _, _, elapsed, _⟩ := u.finish_ends.inputs
  generalize u.finish = t at *
  have hold : t.brm.rows.hold = if u.odu.motion = .standstill ∧ u.brm.holdElapsed = true ∧
      t.brm.departure ≠ .released then { level := .hold, reason := some .standing }
      else { level := .none, reason := none } := by
    rw [settled.hold, State.holdRow_desk t eased.desk, follows.odu, elapsed]
  have low : t.brm.level = .none ∨ t.brm.level = .hold := by
    rw [level, ← settled.hold, hold]
    split_ifs
    exacts [.inr rfl, .inl rfl]
  have demand : t.dka.supplied = u.demand := by
    rw [← t.demand_eq, State.demand, State.demand, dka]
    rfl
  refine ⟨hold, by rw [level, settled.hold], fun same => ?_, fun open' => ?_, fun held idle => ?_⟩
  · rw [electric same]
    rcases low with e | e <;> rw [e] <;> rfl
  · rw [← demand]
    exact settled.traction.1 ((State.gate_iff t).1 ⟨eased.gate, open'⟩)
  · refine settled.traction.2 (Bool.eq_false_iff.2 fun yes => ?_)
    have gate := ((State.gate_iff t).2 yes).level
    rw [held, idle] at gate
    rcases gate with e | ⟨-, e | e⟩ <;> cases e

end

end Sys2Proof.Machine
end

section
/-! A departure in an eased state, event by event (R82 to R85). -/

namespace Sys2Proof.Machine

section
variable {s u : State}

/-! ### How the event of an eased state ends -/

theorem State.Rests.finish {k required : Nat} {d : Departure} {stall : Timer}
    (r : (u.settle k).Rests d required stall) (few : k ≤ 6) : u.finish.brm.departure = d ∧
      u.finish.brm.required = required ∧ u.finish.brm.stallTimer = stall := by
  have agrees := r.stays.agrees_finish few rfl
  exact ⟨agrees.departure.trans r.departure, agrees.required.trans r.required, agrees.stallTimer.trans r.stall⟩

/-- R83, R85: the hold is released, and the demand carried. -/
def State.Freed (t : State) (duty : Nat) : Prop :=
  t.brm.departure = .released ∧ t.brm.stallTimer = none ∧ t.brm.level = .none ∧ t.brm.rows.hold = Row.clear ∧
    t.brm.traction.latched = duty ∧ t.brm.ebrake.latched = 0

/-- R82: the HOLD row stands, and the demand is carried against it. -/
def State.Pulls (t : State) (stall : Timer) (duty : Nat) : Prop :=
  t.brm.departure = .pulling ∧ t.brm.stallTimer = stall ∧ t.brm.level = .hold ∧
    t.brm.rows.hold = Row.at .hold .standing ∧ t.brm.traction.latched = duty ∧ t.brm.ebrake.latched = 0

/-- R84, R85: no departure, and no traction. -/
def State.Dropped (t : State) : Prop :=
  t.brm.departure = .idle ∧ t.brm.stallTimer = none ∧ t.brm.traction.latched = 0 ∧ t.brm.traction.driven = 0

theorem State.Eased.freed (h : u.Eased) (electric : u.brm.ebrake.latched = u.brm.level.electric)
    {k required : Nat} (r : (u.settle k).Rests .released required none) (few : k ≤ 6) :
    u.finish.brm.required = required ∧ u.finish.Freed u.demand := by
  have d := h.driven
  obtain ⟨departure, required, stall⟩ := r.finish few
  generalize u.finish = t at *
  have hold := d.hold
  rw [if_neg fun k => k.2.2 departure] at hold
  have level := d.level.trans (congrArg Row.level hold)
  exact ⟨required, departure, stall, level, hold, d.carried (.inl level), d.electric electric⟩

theorem State.Eased.held (h : u.Eased) (still : u.odu.motion = .standstill) (elapsed : u.brm.holdElapsed = true)
    {k required : Nat} {dep : Departure} {stall : Timer} (r : (u.settle k).Rests dep required stall)
    (few : k ≤ 6) (going : dep = .pulling ∨ dep = .stalled) : u.finish.brm.required = required ∧
      u.finish.brm.departure = dep ∧ u.finish.brm.stallTimer = stall ∧ u.finish.brm.level = .hold ∧
      u.finish.brm.rows.hold = Row.at .hold .standing ∧ u.finish.brm.traction.latched = u.demand := by
  have d := h.driven
  obtain ⟨departure, required, stall⟩ := r.finish few
  generalize u.finish = t at *
  have hold := d.hold
  rw [if_pos ⟨still, elapsed, by rw [departure]; rcases going with e | e <;> rw [e] <;> nofun⟩] at hold
  have level := d.level.trans (congrArg Row.level hold)
  exact ⟨required, departure, stall, level, hold, d.carried (.inr ⟨level, by rwa [departure]⟩)⟩

/-- R84, R85: a demand of 0 ends a departure, and the car is held. -/
theorem State.Eased.dropped (h : u.Eased) (still : u.odu.motion = .standstill) (elapsed : u.brm.holdElapsed = true)
    (going : u.brm.departure ≠ .idle) (demand : u.demand = 0) : u.finish.Dropped ∧
      u.finish.brm.level = .hold ∧ u.finish.brm.rows.hold = Row.at .hold .standing := by
  have d := h.driven
  obtain ⟨departure, required, stall⟩ := (h.ends going demand).finish (by omega)
  generalize u.finish = t at *
  have hold := d.hold
  rw [if_pos ⟨still, elapsed, by rw [departure]; nofun⟩] at hold
  have level := d.level.trans (congrArg Row.level hold)
  obtain ⟨latched, driven⟩ := d.stopped level departure
  exact ⟨⟨departure, stall, latched, driven⟩, level, hold⟩

/-- R82, R83: a departure begins under the demand, and waits for its effort or has it. -/
theorem State.Eased.departs (h : u.Eased) (electric : u.brm.ebrake.latched = u.brm.level.electric)
    (activation : u.lps.pendingAct = none) (idle : u.brm.departure = .idle) (demand : 0 < u.demand)
    (still : u.odu.motion = .standstill) (elapsed : u.brm.holdElapsed = true) :
    u.finish.brm.required = u.neededEffort ∧
      (¬(u.brm.effortValid = true ∧ (u.neededEffort : Int) ≤ u.brm.effort) →
        u.finish.Pulls (some (u.now + 5000000)) u.demand) ∧
      (u.brm.effortValid = true ∧ (u.neededEffort : Int) ≤ u.brm.effort → u.finish.Freed u.demand) := by
  obtain ⟨y, first, eased, same, odu, pulling, needed, timer, reach⟩ :=
    h.begins activation idle demand still elapsed
  have reach := reach _ needed
  have later (k : Nat) : u.settle (1 + k) = y.settle k := by rw [State.settle_add, first]
  have asked : 0 < y.demand := same ▸ demand
  by_cases reached : u.brm.effortValid = true ∧ (u.neededEffort : Int) ≤ u.brm.effort
  · have r := eased.releases (.inl pulling) asked (odu ▸ still) (reach.2 reached)
    rw [← later, needed] at r
    obtain ⟨required, freed⟩ := h.freed electric r (by omega)
    exact ⟨required, fun no => absurd reached no, fun _ => freed⟩
  · have r := eased.waits (.inl pulling) asked fun yes => reached (reach.1 yes)
    rw [← later, needed, pulling, timer] at r
    obtain ⟨required, departure, stall, level, hold, traction⟩ := h.held still elapsed r (by omega) (.inl rfl)
    exact ⟨required, fun _ => ⟨departure, stall, level, hold, traction, h.driven.electric electric⟩,
      fun yes => absurd yes reached⟩

/-! ### Which states are eased -/

theorem State.demand_desk {d : Desk} (active : s.dka.active = some d) (fresh : (s.dka.cab d).fresh ≠ none) :
    s.demand = (s.dka.cab d).traction := by
  rw [State.demand, active]
  exact if_neg fresh

/-- A settled state in which nothing but HOLD stands is eased. -/
theorem State.Settled.eased (h : s.Settled) (gate : s.GateButLevel) (cab : s.brm.rows.cab = Row.clear)
    (supervision : s.brm.rows.supervision = Row.clear) (radio : s.brm.rows.radio = Row.clear)
    (odometry : s.brm.rows.odometry = Row.clear) (loop : s.brm.rows.loop = Row.clear) : s.Eased where
  gate := gate
  shut := (Drc.allProven_iff _).1 (h.summary.symm.trans gate.doors)
  cab := h.cab.symm.trans cab
  supervision := h.supervision.symm.trans supervision
  radio := h.radio.symm.trans radio
  odometry := h.odometry.symm.trans odometry
  loop := h.loop.symm.trans loop

/-- R75: at the levels that HOLD alone can give the electric brake's duty is 0%. -/
theorem State.Eased.electric_level (h : s.Eased) (t : s.Settled) : s.brm.level.electric = 0 := by
  have only : s.OnlyHold :=
    ⟨t.cab.trans h.cab, t.supervision.trans h.supervision, t.doors.trans (if_pos h.gate.doors),
      t.radio.trans h.radio, t.odometry.trans h.odometry, t.loop.trans h.loop, t.hold⟩
  have top : s.brm.level = s.brm.rows.highest := by
    rw [t.level, Brm.effective, h.gate.latch]
    rfl
  obtain ⟨above, some_row⟩ := s.brm.rows.highest_spec
  rw [top, only.highest above some_row, State.holdRow_desk s h.desk]
  split_ifs <;> rfl

/-- What an eased state may take and stay eased: anything that the gate and the rows' sources do not read. -/
theorem State.Eased.congr (h : s.Eased) (ssu : u.ssu = s.ssu) (tgh : u.tgh = s.tgh)
    (drc : u.drc.butMotors = s.drc.butMotors)
    (brm : (u.brm.latch, u.brm.senseOpen, u.brm.upper.fault, u.brm.lower.fault) =
      (s.brm.latch, s.brm.senseOpen, s.brm.upper.fault, s.brm.lower.fault))
    {d : Desk} (active : u.dka.active = some d) (fresh : (u.dka.cab d).fresh ≠ none)
    (handle : (u.dka.cab d).handle = .percent 0) (selected : u.dka.selected = s.dka.selected)
    (lock : u.dka.lock = s.dka.lock) (calls : ∀ c, u.callMeets c = s.callMeets c)
    (odometry : u.odometryRow = Row.clear) : u.Eased := by
  simp only [Prod.mk.injEq] at brm
  obtain ⟨latch, sense, upper, lower⟩ := brm
  have door (i : DoorId) : (u.drc.door i).state = (s.drc.door i).state ∧ (u.drc.door i).lk = (s.drc.door i).lk ∧
      (u.drc.door i).op = (s.drc.door i).op := by
    have same : (u.drc.door i).butMotor = (s.drc.door i).butMotor := by
      have whole : u.drc.butMotors.door i = s.drc.butMotors.door i := by rw [drc]
      cases i <;> exact whole
    simp only [Door.butMotor, Door.mk.injEq] at same
    obtain ⟨state, -, -, lk, op, -⟩ := same
    exact ⟨state, lk, op⟩
  have shut (i : DoorId) : (u.drc.door i).shut := by
    obtain ⟨state, lk, op⟩ := door i
    unfold Door.shut
    rw [state, lk, op]
    exact h.shut i
  have summary : u.drc.summary = s.drc.summary :=
    (congrArg Drc.summary drc : u.drc.butMotors.summary = s.drc.butMotors.summary)
  obtain ⟨gate, -, -, supervision, radio, -, loop⟩ := h
  refine ⟨⟨⟨d, active, fresh⟩, selected ▸ gate.direction, lock ▸ gate.lock, summary.trans gate.doors,
    latch.trans gate.latch, by rw [ssu]; exact gate.status, by rw [ssu, tgh]; exact gate.mode,
    by rw [upper, lower]; exact gate.faults⟩, shut, ?_, ?_, ?_, odometry, ?_⟩
  · rw [Dka.cabRow_desk active, handle]
    simp only [if_neg fresh]
    rfl
  · rw [State.supervisionRow_congr ssu]
    exact supervision
  · unfold State.radioRow State.called
    simp only [tgh, calls]
    exact radio
  · rw [State.loopRow_congr sense]
    exact loop

/-- The same, with the odometry and the parameters as they were. -/
theorem State.Eased.congr_still (h : s.Eased) (ssu : u.ssu = s.ssu) (tgh : u.tgh = s.tgh)
    (drc : u.drc.butMotors = s.drc.butMotors)
    (brm : (u.brm.latch, u.brm.senseOpen, u.brm.upper.fault, u.brm.lower.fault) =
      (s.brm.latch, s.brm.senseOpen, s.brm.upper.fault, s.brm.lower.fault))
    {d : Desk} (active : u.dka.active = some d) (fresh : (u.dka.cab d).fresh ≠ none)
    (handle : (u.dka.cab d).handle = .percent 0) (selected : u.dka.selected = s.dka.selected)
    (lock : u.dka.lock = s.dka.lock) (odu : u.odu = s.odu) (pst : u.pst = s.pst) : u.Eased := by
  have meets : u.callMeets = s.callMeets := State.callMeets_congr odu pst
  refine h.congr ssu tgh drc brm active fresh handle selected lock (congrFun meets) ?_
  unfold State.odometryRow State.still
  rw [ssu, State.par_congr pst, odu]
  exact h.odometry

theorem State.neededEffort_congr (selected : u.dka.selected = s.dka.selected) (lps : u.lps = s.lps)
    (odu : u.odu = s.odu) (pst : u.pst = s.pst) : u.neededEffort = s.neededEffort := by
  rw [State.neededEffort_eq, State.neededEffort_eq]
  exact State.requiredEffort_congr selected lps odu pst

end

end Sys2Proof.Machine
end

section
/-! The events by which a departure begins, is carried on and ends (R76, R81 to R85). -/

namespace Sys2Proof.Machine

/-- The code of a direction switch in a cab control record (11.4). -/
def DirSwitch.word : DirSwitch → Word
  | .forward => 0
  | .neutral => 1
  | .reverse => 2

section
variable {s : State} {p : Port} {desk : Desk}

/-- A WRITE of a whole cab control record is kept word by word. -/
theorem State.wordFor_record (mine : portDesk p = some desk) (pointer : (s.port p).pointer = cabBase desk)
    (x y z : Word) : s.wordFor p [x, y, z] (cabBase desk + 0) = some x ∧
      s.wordFor p [x, y, z] (cabBase desk + 1) = some y ∧ s.wordFor p [x, y, z] (cabBase desk + 2) = some z := by
  have admitted (i : Nat) (l : i < 3) : s.admitted p (cabBase desk + i) = true := by
    obtain ⟨upper, lower⟩ : cabBase .u = 0x020 ∧ cabBase .l = 0x028 := ⟨rfl, rfl⟩
    cases p <;> cases mine <;> exact decide_eq_true (by omega)
  have fits : cabBase desk + 3 ≤ 4096 := by cases desk <;> simp [cabBase]
  simp only [State.wordFor_lastFor, pointer, lastFor_run (ws := [x, y, z]) fits, admitted, Nat.lt_add_one,
    Nat.zero_lt_succ, Nat.one_lt_ofNat, if_true]
  simp

/-- The active desk's port writes a demand, with the handle and the switch as they stand. -/
theorem exec_demandWrite (mine : portDesk p = some desk) (pointer : (s.port p).pointer = cabBase desk)
    (active : s.dka.active = some desk) (handle : (s.dka.cab desk).handle = .percent 0)
    (switch : s.dka.switch = some (s.dka.cab desk).switch) (n : Word) :
    ∃ f c, exec (.cabControlWrite p [n, 0, (s.dka.cab desk).switch.word]) s =
        .next (State.finish { s with pif := f, dka := s.dka.setCab desk c }) ∧
      c.traction = min 100 n.toNat ∧ c.fresh ≠ none ∧ c.handle = .percent 0 := by
  obtain ⟨first, second, third⟩ := State.wordFor_record mine pointer n 0 (s.dka.cab desk).switch.word
  have run := exec_cabControlWrite (s := s) mine (ws := [n, 0, (s.dka.cab desk).switch.word]) nofun
  simp only [first, second, third, State.writtenCab_eq, active, if_true] at run
  have frame : s.wrote p [n, 0, (s.dka.cab desk).switch.word] =
      { s with pif := (s.wrote p [n, 0, (s.dka.cab desk).switch.word]).pif } := by
    cases p <;> rfl
  rw [frame] at run
  generalize (s.wrote p [n, 0, (s.dka.cab desk).switch.word]).pif = f at run
  have code : (if (s.dka.cab desk).switch.word = 0#16 then DirSwitch.forward
      else if (s.dka.cab desk).switch.word = 2#16 then .reverse else .neutral) = (s.dka.cab desk).switch := by
    cases (s.dka.cab desk).switch <;> rfl
  have percent : (if (0 : Word) = 255#16 then Handle.emergency else .percent (min 100 (0 : Word).toNat)) =
      .percent 0 := rfl
  rw [code, percent] at run
  have kept (c : CabRecord) : (s.dka.setCab desk c).switch = s.dka.switch := by cases desk <;> rfl
  refine ⟨f,
    { traction := min 100 n.toNat, handle := .percent 0, switch := (s.dka.cab desk).switch
      writes := ((s.dka.cab desk).writes + 1) % 65536, fresh := some (s.now + s.par .tFresh * 1000) },
    (run (.inl nofun)).trans ?_, rfl, ?_, rfl⟩
  · rw [State.takeSwitch, kept, if_pos switch]
  · exact nofun

/-- A record written for the active desk with its handle at 0 leaves the state eased, under its demand. -/
theorem State.Eased.written (h : s.Eased) (active : s.dka.active = some desk) (f : Pif) {c : CabRecord}
    (fresh : c.fresh ≠ none) (handle : c.handle = .percent 0) :
    State.Eased { s with pif := f, dka := s.dka.setCab desk c } ∧
      State.demand { s with pif := f, dka := s.dka.setCab desk c } = c.traction ∧
      State.neededEffort { s with pif := f, dka := s.dka.setCab desk c } = s.neededEffort := by
  have own : (s.dka.setCab desk c).cab desk = c := Dka.cab_setCab _ _ _
  have active' : (s.dka.setCab desk c).active = some desk := (Dka.setCab_active _ _ _).trans active
  have same : (s.dka.setCab desk c).selected = s.dka.selected ∧ (s.dka.setCab desk c).lock = s.dka.lock := by
    cases desk <;> exact ⟨rfl, rfl⟩
  refine ⟨h.congr_still rfl rfl rfl rfl active' (by rw [own]; exact fresh) (by rw [own]; exact handle) same.1
    same.2 rfl rfl, ?_, State.neededEffort_congr same.1 rfl rfl rfl⟩
  rw [State.demand_desk active' (by rw [own]; exact fresh), own]

/-! ### A record that becomes stale -/

/-- R82, R84: the stall timer runs in PULLING alone. -/
def State.StallPulls (s : State) : Prop := s.brm.stallTimer ≠ none → s.brm.departure = .pulling

theorem State.Reads.stallPulls {x y : State} (r : x.Reads y) (k : x.StallPulls) : y.StallPulls := by
  obtain ⟨departure, _, stall, _⟩ := r.departure
  unfold State.StallPulls
  rw [departure, stall]
  exact k

theorem State.Departs.stallPulls {x y : State} (d : x.Departs y) (k : x.StallPulls) : y.StallPulls :=
  d.stall k

theorem State.StallPulls.finish {u : State} (k : u.StallPulls) : u.finish.StallPulls := by
  have passed := State.settle_keeps (P := State.StallPulls)
    (fun x k => x.readersPass.refreshDeparture_departs.stallPulls (x.readersPass_reads.stallPulls k)) k (5 + 1)
  have last := (State.readersPass_reads _).stallPulls passed
  rw [State.finish_eq, State.read]
  generalize (u.settle (5 + 1)).readersPass = y at *
  obtain ⟨w, e⟩ := y.refreshTraction_drives.eq
  rw [e]
  exact last

/-- R84, R114: under HOLD alone, a record of the active desk that becomes stale ends the departure and demands
FULL_SERVICE. -/
theorem State.finish_stale {u : State} (supervision : u.supervisionRow = Row.clear)
    (radio : u.radioRow = Row.clear) (latch : u.brm.latch = none) (sense : u.brm.senseOpen = false)
    (activation : u.lps.pendingAct = none) (active : u.dka.active = some desk)
    (stale : (u.dka.cab desk).fresh = none) (handle : (u.dka.cab desk).handle = .percent 0)
    (still : u.odu.motion = .standstill) (stall : u.StallPulls) :
    u.finish.Dropped ∧ u.finish.brm.level = .fullService := by
  have settled := u.finish_settled
  have stall' := stall.finish
  have ends := u.finish_ends
  generalize u.finish = t at *
  obtain ⟨demand, cab⟩ := ends.stale active stale
  rw [handle, if_neg nofun] at cab
  have odu := ends.1.odu
  obtain ⟨_, _, _, _, sense', _⟩ := ends.inputs
  have idle : t.brm.departure = .idle := by
    refine ends.1.brakes.asked ?_
    have none : u.dka.supplied = 0 := by
      rw [← State.demand_eq, State.demand, active]
      exact if_pos stale
    simp [State.departureAsked, none]
  have stopped : t.brm.stallTimer = none := by
    by_contra runs
    rw [stall' runs] at idle
    cases idle
  have supervision' : t.brm.rows.supervision = Row.clear := by
    rw [settled.supervision, ← supervision]
    unfold State.supervisionRow
    rw [ends.1.ssu, State.takePending_none activation]
  have radio' : t.brm.rows.radio = Row.clear := by
    have meets : t.callMeets = u.callMeets := State.callMeets_congr odu ends.1.pst
    rw [settled.radio, ← radio]
    unfold State.radioRow State.called
    rw [ends.1.tgh, State.takePending_none activation, meets]
  have quiet (i : RowId) (other : i ≠ .cab) : (t.brm.rows.get i).level = .none ∨ (t.brm.rows.get i).level = .hold := by
    have stands : t.still = true := t.still_iff.2 (odu ▸ still)
    have desk : t.dka.active ≠ none := by rw [ends.active, active]; nofun
    cases i with
    | cab => exact absurd rfl other
    | supervision => exact .inl (congrArg Row.level supervision')
    | doors =>
      change t.brm.rows.doors.level = _ ∨ t.brm.rows.doors.level = _
      rw [settled.doors, State.doorsRow, if_pos stands]
      split_ifs
      exacts [.inl rfl, .inr rfl]
    | radio => exact .inl (congrArg Row.level radio')
    | odometry =>
      change t.brm.rows.odometry.level = _ ∨ _
      rw [settled.odometry, State.odometryRow, if_pos stands]
      exact .inl rfl
    | loop =>
      change t.brm.rows.loop.level = _ ∨ _
      rw [settled.loop, State.loopRow, sense', sense]
      exact .inl rfl
    | hold =>
      change t.brm.rows.hold.level = _ ∨ t.brm.rows.hold.level = _
      rw [settled.hold, State.holdRow_desk t desk]
      split_ifs
      exacts [.inr rfl, .inl rfl]
  have cab_level : (t.brm.rows.get .cab).level = .fullService := congrArg Row.level cab
  have unlatched : t.brm.latch = none := by
    rcases ends.1.latch with kept | ⟨-, r, -, emergency⟩
    · exact kept.trans latch
    · by_cases own : r = .cab
      · rw [own, cab_level] at emergency
        cases emergency
      · rcases quiet r own with e | e <;> rw [e] at emergency <;> cases emergency
  have level : t.brm.level = .fullService := by
    obtain ⟨above, some_row⟩ := t.brm.rows.highest_spec
    rw [settled.level, Brm.effective, unlatched]
    change t.brm.rows.highest = _
    have top := above .cab
    rw [cab_level] at top
    rcases some_row with none | ⟨i, equal⟩
    · rw [none] at top
      exact absurd top (by decide)
    · by_cases own : i = .cab
      · rw [← equal, own, cab_level]
      · rcases quiet i own with e | e <;> rw [← equal, e] at top <;> exact absurd top (by decide)
  have shutoff : t.gateOpen = false := by
    refine Bool.eq_false_iff.2 fun yes => ?_
    have gate := ((State.gate_iff t).2 yes).level
    rw [level] at gate
    rcases gate with e | ⟨e, -⟩ <;> cases e
  obtain ⟨latched, driven⟩ := settled.traction.2 shutoff
  exact ⟨⟨idle, stopped, latched, driven⟩, level⟩

end

end Sys2Proof.Machine
end

section
/-! The departure's statement (R82 to R85). -/

namespace Sys2Proof.Machine

section
variable {s : State} {desk : Desk}

/-- R84, R114: the freshness timer of the active desk's record expires under a departure at STANDSTILL. -/
theorem exec_freshnessExpiry_departure (h : s.Eased) (activation : s.lps.pendingAct = none)
    (active : s.dka.active = some desk) (fresh : (s.dka.cab desk).fresh ≠ none)
    (handle : (s.dka.cab desk).handle = .percent 0) (still : s.odu.motion = .standstill) (stall : s.StallPulls) :
    ∃ t : State, exec (.freshnessExpiry desk) s = .next t ∧ t.Dropped ∧ t.brm.level = .fullService := by
  obtain ⟨d, running⟩ := Option.ne_none_iff_exists'.1 fresh
  refine ⟨_, exec_freshnessExpiry running, ?_⟩
  have ssu := State.advanceTo_ssu s d
  have odu := State.advanceTo_odu s d
  have dka := State.advanceTo_dka s d
  have lps := State.advanceTo_lps s d
  have tgh := State.advanceTo_tgh s d
  have pst := State.advanceTo_pst s d
  have latch : (s.advanceTo d).brm.latch = s.brm.latch := by simp
  have sense : (s.advanceTo d).brm.senseOpen = s.brm.senseOpen := by simp
  have departure : (s.advanceTo d).brm.departure = s.brm.departure := by simp
  have timer : (s.advanceTo d).brm.stallTimer = s.brm.stallTimer := by simp
  generalize s.advanceTo d = x at *
  have closed : s.brm.senseOpen = false := by
    have loop := h.loop
    unfold State.loopRow at loop
    split_ifs at loop with open'
    · cases loop
    · exact Bool.eq_false_iff.2 open'
  have pulls : x.StallPulls := by
    unfold State.StallPulls
    rw [timer, departure]
    exact stall
  rw [State.goStale_eq, if_pos (by rw [dka]; exact active)]
  exact State.finish_stale ((State.supervisionRow_congr (s := s) ssu).trans h.supervision)
    ((State.radioRow_congr (s := s) tgh odu pst).trans h.radio) (latch.trans h.gate.latch) (sense.trans closed)
    ((congrArg Lps.pendingAct lps).trans activation) ((Dka.setCab_active _ _ _).trans ((congrArg _ dka).trans active))
    (congrArg CabRecord.fresh (Dka.cab_setCab _ _ _))
    ((congrArg CabRecord.handle (Dka.cab_setCab _ _ _)).trans (by rw [dka]; exact handle))
    ((congrArg Odu.motion odu).trans still) pulls

/-! ### The end of T_hold -/

/-- R81, R82: T_hold ends under a demand that is being carried. -/
theorem exec_holdDelayExpiry_departure (h : s.Eased) (electric : s.brm.ebrake.latched = s.brm.level.electric)
    (activation : s.lps.pendingAct = none) (idle : s.brm.departure = .idle) (active : s.dka.active = some desk)
    (fresh : (s.dka.cab desk).fresh ≠ none) (handle : (s.dka.cab desk).handle = .percent 0) (demand : 0 < s.demand)
    (still : s.odu.motion = .standstill) {e : Nat} (timer : s.brm.holdTimer = some e) :
    ∃ t : State, exec .holdDelayExpiry s = .next t ∧ t.brm.required = s.neededEffort ∧
      (¬(s.brm.effortValid = true ∧ (s.neededEffort : Int) ≤ s.brm.effort) →
        t.Pulls (some ((s.advanceTo e).now + 5000000)) s.demand) ∧
      (s.brm.effortValid = true ∧ (s.neededEffort : Int) ≤ s.brm.effort → t.Freed s.demand) := by
  refine ⟨_, exec_holdDelayExpiry timer, ?_⟩
  have frame : (s.advanceTo e).ssu = s.ssu ∧ (s.advanceTo e).tgh = s.tgh ∧ (s.advanceTo e).odu = s.odu ∧
      (s.advanceTo e).dka = s.dka ∧ (s.advanceTo e).lps = s.lps ∧ (s.advanceTo e).pst = s.pst := by simp
  have drc := (s.advanceTo_rest e).2.1
  have brm : (s.advanceTo e).brm.latch = s.brm.latch ∧ (s.advanceTo e).brm.senseOpen = s.brm.senseOpen ∧
      (s.advanceTo e).brm.upper = s.brm.upper ∧ (s.advanceTo e).brm.lower = s.brm.lower ∧
      (s.advanceTo e).brm.departure = s.brm.departure ∧ (s.advanceTo e).brm.level = s.brm.level ∧
      (s.advanceTo e).brm.effortValid = s.brm.effortValid ∧ (s.advanceTo e).brm.effort = s.brm.effort := by simp
  have duty : (s.advanceTo e).brm.ebrake.latched = s.brm.ebrake.latched := by
    unfold State.advanceTo
    split
    · rfl
    · exact Pwm.roll_latched _ _
  generalize s.advanceTo e = x at *
  obtain ⟨ssu, tgh, odu, dka, lps, pst⟩ := frame
  obtain ⟨latch, sense, upper, lower, departure, level, valid, effort⟩ := brm
  have eased : State.Eased { x with brm := { x.brm with holdTimer := none, holdElapsed := true } } :=
    h.congr_still ssu tgh drc (by rw [latch, sense, upper, lower]) (d := desk)
      (by rw [dka]; exact active) (by rw [dka]; exact fresh) (by rw [dka]; exact handle) (by rw [dka])
      (by rw [dka]) odu pst
  generalize ended : ({ x with brm := { x.brm with holdTimer := none, holdElapsed := true } } : State) = u at *
  have demand' : u.demand = s.demand := by rw [← ended]; unfold State.demand; rw [dka]
  have needed : u.neededEffort = s.neededEffort := by
    rw [← ended]
    exact State.neededEffort_congr (congrArg Dka.selected dka) lps odu pst
  have electric' : u.brm.ebrake.latched = u.brm.level.electric := by
    rw [← ended]
    exact duty.trans (electric.trans (congrArg _ level.symm))
  have activation' : u.lps.pendingAct = none := by rw [← ended, ← activation, ← lps]
  have idle' : u.brm.departure = .idle := by rw [← ended]; exact departure.trans idle
  have still' : u.odu.motion = .standstill := by rw [← ended]; exact (congrArg Odu.motion odu).trans still
  have elapsed : u.brm.holdElapsed = true := by rw [← ended]
  have feedback : u.brm.effortValid = s.brm.effortValid ∧ u.brm.effort = s.brm.effort ∧ u.now = x.now := by
    rw [← ended]
    exact ⟨valid, effort, rfl⟩
  have departs := eased.departs electric' activation' idle' (demand' ▸ demand) still' elapsed
  rw [demand', needed, feedback.1, feedback.2.1, feedback.2.2] at departs
  exact departs

/-! ### The effort feedback -/

/-- R76, R83: a period of the effort feedback under a departure that waits for its effort. -/
theorem exec_effortFeedbackPeriod_departure (h : s.Eased) (electric : s.brm.ebrake.latched = s.brm.level.electric)
    (going : s.brm.departure = .pulling ∨ s.brm.departure = .stalled) (demand : 0 < s.demand)
    (still : s.odu.motion = .standstill) (elapsed : s.brm.holdElapsed = true) {period high : Nat} {effort : Int}
    (measured : max (-100) (min 100 (((high : Int) * 1000 / period - 500).tdiv 5)) = effort) :
    let reached := (900 ≤ period ∧ period ≤ 1100) ∧ (s.brm.required : Int) ≤ effort
    ∃ t : State, exec (.effortFeedbackPeriod period high) s = .next t ∧ t.brm.required = s.brm.required ∧
      (reached → t.Freed s.demand) ∧
      (¬reached → t.brm.departure = s.brm.departure ∧ t.brm.stallTimer = s.brm.stallTimer ∧ t.brm.level = .hold ∧
        t.brm.rows.hold = Row.at .hold .standing ∧ t.brm.traction.latched = s.demand) := by
  intro reached
  have taken := s.takeEffort_effortOf period high
  rw [measured] at taken
  refine ⟨(s.takeEffort (effortOf period high)).finish, rfl, ?_⟩
  generalize s.takeEffort (effortOf period high) = u at *
  obtain ⟨d, active, fresh⟩ := h.gate.fresh
  have eased : u.Eased := by
    rw [taken]
    exact ⟨⟨⟨d, active, fresh⟩, h.gate.direction, h.gate.lock, h.gate.doors, h.gate.latch, h.gate.status,
      h.gate.mode, h.gate.faults⟩, h.shut, h.cab, h.supervision, h.radio, h.odometry, h.loop⟩
  have kept : u.brm.departure = s.brm.departure ∧ u.brm.required = s.brm.required ∧
      u.brm.stallTimer = s.brm.stallTimer ∧ u.brm.holdElapsed = s.brm.holdElapsed ∧ u.odu = s.odu ∧
      u.demand = s.demand := by
    rw [taken]
    exact ⟨rfl, rfl, rfl, rfl, rfl, rfl⟩
  have duty : u.brm.ebrake.latched = u.brm.level.electric := by
    rw [taken]
    exact electric
  have iff : u.EffortReached ↔ reached := by
    rw [taken]
    unfold State.EffortReached
    by_cases valid : 900 ≤ period ∧ period ≤ 1100 <;> simp [valid, reached]
  clear taken
  obtain ⟨departure, required, timer, hold, odu, carried⟩ := kept
  rw [← departure] at going
  rw [← carried] at demand ⊢
  rw [← hold] at elapsed
  rw [← odu] at still
  rw [← departure, ← required, ← timer]
  by_cases yes : reached
  · obtain ⟨required, freed⟩ := eased.freed duty (eased.releases going demand still (iff.2 yes)) (by omega)
    exact ⟨required, fun _ => freed, fun no => absurd yes no⟩
  · obtain ⟨required, held⟩ := eased.held still elapsed (eased.waits going demand fun k => yes (iff.1 k))
      (by omega) going
    exact ⟨required, fun k => absurd k yes, fun _ => held⟩

/-! ### The car leaves STANDSTILL -/

/-- R16, R85: what the counts of an encoder that starts the car leave of an eased state. -/
theorem State.Eased.leaves (h : s.Eased) (active : s.dka.active = some desk)
    (fresh : (s.dka.cab desk).fresh ≠ none) (handle : (s.dka.cab desk).handle = .percent 0)
    (placed : s.ssu.mode = .shunt ∨ s.odu.pos = .valid ∨ s.odu.pos = .restored) (i : Bogie) (d : Dir) (a b : Bool)
    (m : Motion) : ((s.counted i d a b).leaveStandstill m).Eased := by
  have located : s.ssu.mode = .shunt ∨ s.odu.located = true := placed.imp_right (State.located_iff s.odu).2
  refine h.congr (d := desk) rfl rfl rfl rfl active fresh handle rfl rfl (fun c => by cases i <;> rfl) ?_
  have slow : ¬s.par .rMax < min 255 (ceilDiv 0 100000) := by simp [ceilDiv]
  have shunt : ¬(s.ssu.mode = .full ∧ (!s.odu.located) = true) := by
    rcases located with e | e <;> rw [e] <;> simp
  have row : ((s.counted i d a b).leaveStandstill m).odometryRow =
      if m = .standstill then Row.clear
      else if s.par .rMax < min 255 (ceilDiv 0 100000) then Row.at .emergency .rollback
      else if s.ssu.mode = .full ∧ (!s.odu.located) = true then Row.at .emergency .positionLost
      else Row.clear := by
    unfold State.odometryRow
    simp only [State.still_iff]
    cases i <;> rfl
  rw [row, if_neg slow, if_neg shunt, ite_self]

/-- R16: the count that brings the leaving sum to 8 starts the car. -/
theorem exec_encoderEdge_starts {i : Bogie} {d : Dir} {a b : Bool}
    (count : phaseStep (s.odu.encoder i).phaseA (s.odu.encoder i).phaseB a b = .count d)
    (still : s.odu.motion = .standstill) (usable : (s.odu.encoder i).src.health ≠ .isolated)
    (leaving : (s.odu.encoder i).src.leaving = 7 * d.sign) : ∃ m : Motion, m ≠ .standstill ∧
      exec (.encoderEdge i a b) s = .next (State.finish ((s.counted i d a b).leaveStandstill m)) := by
  have run := exec_encoderEdge (s := s) (i := i) (a := a) (b := b) (by rw [count]; nofun)
  rw [State.encoderStep_count count] at run
  simp only [usable, still, leaving, ne_eq, not_false_eq_true, decide_true, Bool.not_true, Bool.false_eq_true,
    not_true_eq_false, or_self, if_false, and_self, if_true] at run
  cases d
  · exact ⟨.movingUp, nofun, run⟩
  · exact ⟨.movingDown, nofun, run⟩

/-- R85: a released hold ends as the car leaves STANDSTILL, under its demand. -/
theorem State.Eased.moves (h : s.Eased) (active : s.dka.active = some desk)
    (fresh : (s.dka.cab desk).fresh ≠ none) (handle : (s.dka.cab desk).handle = .percent 0)
    (placed : s.ssu.mode = .shunt ∨ s.odu.pos = .valid ∨ s.odu.pos = .restored)
    (released : s.brm.departure = .released) (i : Bogie) (d : Dir) (a b : Bool) {m : Motion}
    (moving : m ≠ .standstill) {t : State} (run : State.finish ((s.counted i d a b).leaveStandstill m) = t) :
    t.odu.motion ≠ .standstill ∧ t.brm.departure = .idle ∧ t.brm.rows.hold = Row.clear ∧ t.brm.level = .none ∧
      t.brm.traction.latched = (s.dka.cab desk).traction := by
  have eased := h.leaves active fresh handle placed i d a b m
  have kept : ((s.counted i d a b).leaveStandstill m).odu.motion = m ∧
      ((s.counted i d a b).leaveStandstill m).brm.departure = .released ∧
      ((s.counted i d a b).leaveStandstill m).demand = (s.dka.cab desk).traction :=
    ⟨rfl, released, State.demand_desk active fresh⟩
  generalize (s.counted i d a b).leaveStandstill m = u at *
  obtain ⟨motion, departure, demand⟩ := kept
  have driven := eased.driven
  have handed := u.finish_ends.1
  rw [run] at driven handed
  have away : u.odu.motion ≠ .standstill := motion ▸ moving
  have hold := driven.hold
  rw [if_neg fun k => away k.1] at hold
  have level := driven.level.trans (congrArg Row.level hold)
  exact ⟨by rw [handed.odu]; exact away,
    handed.brakes.left (Bool.eq_false_iff.2 fun yes => away (u.still_iff.1 yes)) (.inr departure), hold, level,
    (driven.carried (.inl level)).trans demand⟩

end

/-- Settles O29, by the event that asks for the step of the departure. -/
theorem departureFollowsTheDemandAndTheEffort : Obligations.DepartureFollowsTheDemandAndTheEffort := by
  intro s p desk d n clear standing cab others switch writes gradient steepest required reached demand pulls freed
    idle pulling settled gate ⟨cabRow, supervision, _, radio, odometry, loop⟩ activation mine active selected handle
    switched stall electric pointer
  have h : s.Eased := settled.eased gate cabRow supervision radio odometry loop
  have electric : s.brm.ebrake.latched = s.brm.level.electric := electric.trans (h.electric_level settled).symm
  have fresh : cab.fresh ≠ none := by
    obtain ⟨x, own, fresh⟩ := gate.fresh
    cases active.symm.trans own
    exact fresh
  have carried : s.demand = cab.traction := State.demand_desk active fresh
  have needed : s.neededEffort = required := by
    simp only [State.neededEffort, selected, required, steepest, gradient]
    cases s.lps.profile <;> rfl
  obtain ⟨f, c, run, traction, fresh', handle'⟩ := exec_demandWrite mine
    (pointer.trans (by cases desk <;> rfl)) active handle switched n
  have run : writes = _ := run
  obtain ⟨eased, asked, effort⟩ := h.written active f fresh' handle'
  have positive : n ≠ 0#16 → 0 < min 100 n.toNat := by
    intro some_n
    have : n.toNat ≠ 0 := fun zero => some_n (BitVec.eq_of_toNat_eq zero)
    omega
  refine ⟨fun still idle elapsed hold some_n => ?_, fun e still idle timer hold demanded => ?_,
    fun period high going still elapsed hold demanded => ?_, fun going still elapsed hold => ⟨fun zero => ?_, ?_⟩,
    fun released still elapsed hold demanded => ⟨fun zero => ?_, fun some_n => ?_⟩,
    fun i released still hold demanded usable placed => ⟨fun seven => ?_, fun seven => ?_⟩⟩
  · obtain ⟨required', waits, has⟩ := eased.departs electric activation idle
      (by rw [asked, traction]; exact positive some_n) still elapsed
    rw [effort, needed, asked, traction] at *
    exact ⟨_, run, required', waits, has⟩
  · have ended := exec_holdDelayExpiry_departure h electric activation idle active fresh handle
      (by rw [carried]; exact demanded) still timer
    rwa [carried, needed] at ended
  · obtain ⟨t, out, required', has, waits⟩ := exec_effortFeedbackPeriod_departure h electric going
      (by rw [carried]; exact demanded) still elapsed (period := period) (high := high) rfl
    rw [carried] at has waits
    exact ⟨t, out, required', fun low up r => has ⟨⟨low, up⟩, r⟩, fun no => waits fun yes =>
      no ⟨yes.1.1, yes.1.2, yes.2⟩⟩
  · obtain ⟨idle, level, hold⟩ := eased.dropped still elapsed (fun e => by
      rcases going with k | k <;> cases k.symm.trans e)
      (by rw [asked, traction, zero]; rfl)
    exact ⟨_, run, idle, level, hold⟩
  · have runs : s.StallPulls := fun timer => by
      have pulls := Option.isSome_iff_ne_none.2 timer
      rw [stall] at pulls
      exact of_decide_eq_true pulls
    exact exec_freshnessExpiry_departure h activation active fresh handle still runs
  · obtain ⟨idle, level, hold⟩ := eased.dropped still elapsed (fun e => by cases released.symm.trans e)
      (by rw [asked, traction, zero]; rfl)
    exact ⟨_, run, idle, level, hold⟩
  · have stopped : s.brm.stallTimer = none := by
      rw [released] at stall
      exact Option.not_isSome_iff_eq_none.1 (by rw [stall]; nofun)
    have lasting := eased.lasts released (by rw [asked, traction]; exact positive some_n) still
    obtain ⟨-, freed⟩ := eased.freed electric (stopped ▸ lasting) (by omega)
    rw [asked, traction] at freed
    exact ⟨_, run, freed⟩
  · obtain ⟨m, moving, run⟩ := exec_encoderEdge_starts (phaseStep_count (.inl ⟨rfl, rfl, rfl⟩)) still usable seven
    exact ⟨_, run, h.moves active fresh handle placed released i .up _ _ moving rfl⟩
  · obtain ⟨m, moving, run⟩ := exec_encoderEdge_starts (phaseStep_count (.inr ⟨rfl, rfl, rfl⟩)) still usable seven
    exact ⟨_, run, h.moves active fresh handle placed released i .down _ _ moving rfl⟩

end Sys2Proof.Machine
end

section
/-! The bounds, block by block: what `State.Bounded` says of each block, and the parameters and the ports through
every event (9, 10.1). -/

namespace Sys2Proof.Machine

/-! ### The blocks -/

/-- 10.1: every parameter lies in its range. -/
def Pst.Bounded (t : Pst) : Prop := ∀ p : Param, p.least ≤ t.params.get p.idx ∧ t.params.get p.idx ≤ p.greatest

/-- R162, R167, R172: the pointer and the counts of a port. -/
def PortState.Bounded (q : PortState) : Prop :=
  q.pointer < 4096 ∧ q.seq < 256 ∧ q.refused ≤ 255 ∧ q.frameErrors ≤ 255

structure Pif.Bounded (f : Pif) : Prop where
  u : f.u.Bounded
  l : f.l.Bounded
  c : f.c.Bounded

/-- 1.4: the histories of a source, and the runs of a SUSPECT one. -/
def Source.Bounded (v : Source) : Prop := v.window.length ≤ 20 ∧ v.last4.length ≤ 4 ∧
  (v.health = .suspect → v.inTol < 20 ∧ v.suspectRun < 60)

structure Odu.Bounded (o : Odu) : Prop where
  motion : o.speed ≤ 1500 ∧ o.lo ≤ o.hi ∧ o.hi ≤ 12000000000 ∧ o.reader.bits.length < 16 ∧
    ∀ m, o.lastMarker = some m → m ≤ 4095
  counts : o.upper.illegalCount ≤ 255 ∧ o.lower.illegalCount ≤ 255 ∧ o.unknownMarkers ≤ 65535 ∧
    o.invalidReads ≤ 65535
  sources : o.upper.src.Bounded ∧ o.lower.src.Bounded ∧ o.tooth.src.Bounded
  histories : o.upper.illegalHist.length ≤ 20 ∧ o.lower.illegalHist.length ≤ 20 ∧
    o.tooth.undir4.length ≤ 4 ∧ o.mid4.length ≤ 4

/-- 2.2: the length, the version and the header of a bank, and the gradients of a CHECKED one. -/
structure Bank.Bounded (b : Bank) : Prop where
  length : ∀ n, b.length = some n → 21 ≤ n ∧ n ≤ 1069
  version : ∀ v, b.version = some v → v < 65536
  header : ∀ h, b.header = some h →
    h.lineId < 65536 ∧ h.lineEnd ≤ 120000 ∧ 1 ≤ h.nSegments ∧ h.nSegments ≤ 96 ∧ h.nMarkers ≤ 48
  gradients : b.state = .checked → ∀ g ∈ (decodeProfile b.image).segments, -250 ≤ g.gradient ∧ g.gradient ≤ 250

structure Lps.Bounded (l : Lps) : Prop where
  claim : ∀ k, l.claim = some k → 21 ≤ k.length ∧ k.length ≤ 1069 ∧ k.version < 65536
  banks : ∀ i, (l.bank i).Bounded
  counts : l.rejected ≤ 255 ∧ l.passes < 65536 ∧ l.scrubPos ≤ 1068

structure Ssu.Bounded (u : Ssu) : Prop where
  record : u.window.length ≤ 16 ∧ u.flushCount < 65536 ∧ u.malformed ≤ 255 ∧
    (∀ c, u.cap = some c → c ≤ 1500) ∧ ∀ m, u.mrsp = some m → m ≤ 1500
  list : u.restrictions.length ≤ 12 ∧ u.restrictions.Pairwise Restriction.Precedes ∧
    u.restrictions.Pairwise (fun a b => a.ident ≠ b.ident) ∧
    ∀ r ∈ u.restrictions, 1 ≤ r.ident ∧ r.ident ≤ 255 ∧ r.first < r.last ∧ r.last ≤ 120000 ∧ r.speed ≤ 1500

structure Brm.Bounded (b : Brm) : Prop where
  levels : ∀ p, b.level = .service p ∨ (∃ i, (b.rows.get i).level = .service p) → 1 ≤ p ∧ p ≤ 99
  values : (∀ m, b.measured = some m → m ≤ 1000) ∧ b.target ≤ 1000 ∧ b.required ≤ 100 ∧ -100 ≤ b.effort ∧
    b.effort ≤ 100 ∧ b.ebrake.latched ≤ 100 ∧ b.ebrake.driven ≤ 100 ∧ b.traction.latched ≤ 100 ∧
    b.traction.driven ≤ 100

/-- 5.2: the reversals and the motor of a door. -/
def Door.Bounded (d : Door) : Prop := d.reversals ≤ 3 ∧ d.motor.latched ≤ 100 ∧ d.motor.driven ≤ 100

def Drc.Bounded (k : Drc) : Prop := ∀ i, (k.door i).Bounded

/-- R112: a cab control record. -/
def CabRecord.Bounded (c : CabRecord) : Prop :=
  c.traction ≤ 100 ∧ c.writes < 65536 ∧ ∀ p, c.handle = .percent p → p ≤ 100

def Dka.Bounded (k : Dka) : Prop := ∀ d, (k.cab d).Bounded

structure Vrl.Bounded (v : Vrl) : Prop where
  slots : v.bit < 192 ∧ v.slot < 16 ∧ v.cycle < 4
  counts : v.missed ≤ 255 ∧ v.resync ≤ 255 ∧ v.aborts ≤ 65535 ∧ v.lengthErrors ≤ 65535 ∧ v.crcErrors ≤ 65535 ∧
    v.received < 65536 ∧ v.transmitted < 65536
  receiver : v.rx.run ≤ 255 ∧ v.rx.flagLen ≤ 16 ∧ v.rx.Assembling

structure Tgh.Bounded (g : Tgh) : Prop where
  authority : ∀ a, g.authority = some a → a.issue < 256 ∧ a.limit ≤ 120000 ∧ a.stretchId.length = 6
  counts : g.ignored ≤ 255 ∧ g.silent ≤ 255 ∧ g.foreign ≤ 65535 ∧ g.formatErrors ≤ 65535 ∧
    g.refusedProfile ≤ 255 ∧ g.rxOverflow ≤ 255
  calls : g.calls.length ≤ 4 ∧ g.calls.Pairwise (fun a b => a.ident ≠ b.ident) ∧
    ∀ c ∈ g.calls, 1 ≤ c.ident ∧ c.ident ≤ 255 ∧ c.first ≤ c.last ∧ c.last ≤ 120000
  texts : g.rxTexts.length ≤ 8 ∧ (∀ x ∈ g.rxTexts, x.payload.length ≤ 12) ∧ g.txTexts.length ≤ 4 ∧
    ∀ x ∈ g.txTexts, x.length ≤ 12

/-- `State.Bounded`, each block by itself. -/
structure State.Blocks (s : State) : Prop where
  pst : s.pst.Bounded
  pif : s.pif.Bounded
  odu : s.odu.Bounded
  lps : s.lps.Bounded
  ssu : s.ssu.Bounded
  brm : s.brm.Bounded
  drc : s.drc.Bounded
  dka : s.dka.Bounded
  vrl : s.vrl.Bounded
  tgh : s.tgh.Bounded

theorem State.bounded_iff (s : State) : s.Bounded ↔ s.Blocks := by
  constructor
  · intro h
    exact ⟨h.params, ⟨h.ports .u, h.ports .l, h.ports .c⟩,
      ⟨h.motion, h.motionCounts, ⟨h.sources .upper, h.sources .lower, h.sources .tooth⟩, h.histories⟩,
      ⟨h.claim, fun i => ⟨(h.banks i).1, (h.banks i).2.1, (h.banks i).2.2.1, (h.banks i).2.2.2⟩, h.profileCounts⟩,
      ⟨h.supervision, h.restrictions⟩, ⟨h.levels, h.brakes⟩, h.doors, h.desks,
      ⟨h.slots, h.radioCounts, h.receiver⟩, ⟨h.authority, h.telegramCounts, h.calls, h.texts⟩⟩
  · rintro ⟨pst, pif, odu, lps, ssu, brm, drc, dka, vrl, tgh⟩
    obtain ⟨upper, lower, tooth⟩ := odu.sources
    exact
      { params := pst, motion := odu.motion, motionCounts := odu.counts
        sources := fun i => by cases i; exacts [upper, lower, tooth]
        histories := odu.histories, claim := lps.claim
        banks := fun i => ⟨(lps.banks i).length, (lps.banks i).version, (lps.banks i).header,
          (lps.banks i).gradients⟩
        profileCounts := lps.counts, supervision := ssu.record, restrictions := ssu.list
        levels := brm.levels, brakes := brm.values, doors := drc, desks := dka, slots := vrl.slots
        radioCounts := vrl.counts, receiver := vrl.receiver, authority := tgh.authority
        telegramCounts := tgh.counts, calls := tgh.calls, texts := tgh.texts
        ports := fun p => by cases p; exacts [pif.u, pif.l, pif.c] }

/-! ### Counters -/

theorem satSucc_le {n m : Nat} (h : m ≤ n) : satSucc n m ≤ n := by
  unfold satSucc
  split <;> omega

theorem wrapSucc_lt {n : Nat} (pos : 0 < n) (m : Nat) : wrapSucc n m < n := Nat.mod_lt _ pos

/-! ### The parameters -/

theorem Param.least_le_greatest (p : Param) : p.least ≤ p.greatest := by cases p <;> decide

theorem Param.clamp_in_range (p : Param) (v : Nat) : p.least ≤ p.clamp v ∧ p.clamp v ≤ p.greatest := by
  have range := p.least_le_greatest
  unfold Param.clamp
  split_ifs <;> omega

theorem Pst.Bounded.setParam {t : Pst} (h : t.Bounded) (p : Param) (v : Nat) : (t.setParam p v).Bounded := by
  intro q
  rw [Pst.setParam_get]
  split_ifs with own
  · exact own ▸ p.clamp_in_range v
  · exact h q

theorem Pst.Bounded.handParams {t : Pst} (h : t.Bounded) (ks : List Kept) (l : List Param) :
    (l.foldl (Pst.handParam ks) t).Bounded := by
  induction l generalizing t with
  | nil => exact h
  | cons p l ih =>
    refine ih ?_
    rw [Pst.handParam_given]
    split
    · exact h
    · exact h.setParam p _

theorem State.Aside.pst_bounded {s t : State} (h : s.Aside t) (b : s.pst.Bounded) : t.pst.Bounded := by
  induction h with
  | refl => exact b
  | trans _ _ first second => exact second (first b)
  | writesParams s ks => exact b.handParams ks _
  | freezes s =>
    unfold State.requestFreeze
    (repeat' split) <;> exact b
  | _ => simpa using b

/-! ### The ports -/

theorem Pif.Bounded.setPort {s : State} (h : s.pif.Bounded) {q : PortState} (b : q.Bounded) (p : Port) :
    (s.setPort p q).pif.Bounded := by
  obtain ⟨u, l, c⟩ := h
  cases p
  exacts [⟨b, l, c⟩, ⟨u, b, c⟩, ⟨u, l, b⟩]

theorem Pif.Bounded.port {s : State} (h : s.pif.Bounded) (p : Port) : (s.port p).Bounded := by
  cases p
  exacts [h.u, h.l, h.c]

end Sys2Proof.Machine
end

section
/-! The bounds of the Line Profile Store through every event (2.2 to 2.6). -/

namespace Sys2Proof.Machine

/-! ### What a passed check says -/

theorem decodeSegments_mem {n : Nat} {l : List RawSegment} {g : Segment} (h : g ∈ decodeSegments n l) :
    ∃ r ∈ l, g.gradient = r.gradient := by
  fun_induction decodeSegments n l with
  | case1 => cases h
  | case2 r =>
    rw [List.mem_singleton] at h
    exact ⟨r, List.mem_singleton_self r, h ▸ rfl⟩
  | case3 r r' t ih =>
    rcases List.mem_cons.1 h with own | later
    · exact ⟨r, List.mem_cons_self, own ▸ rfl⟩
    · obtain ⟨x, mem, same⟩ := ih later
      exact ⟨x, List.mem_cons_of_mem _ mem, same⟩

theorem of_ite_ne {α : Type} {c : Prop} [Decidable c] {x y r : α} (h : (if c then x else y) = r) (ne : x ≠ r) :
    ¬c ∧ y = r := by
  by_cases k : c
  · exact absurd ((if_pos k).symm.trans h) ne
  · exact ⟨k, (if_neg k).symm.trans h⟩

/-- R26: what a passed check says of the header and of the gradients. -/
theorem structuralCheck_passed {m : Memory} {n v : Nat} {close : Option (BitVec 32)} {crc : BitVec 32}
    (h : structuralCheck m n v close crc = .passed) :
    1 ≤ (rawHeader m).nSegments ∧ (rawHeader m).nSegments ≤ 96 ∧ (rawHeader m).nMarkers ≤ 48 ∧
      (rawHeader m).lineEnd ≤ 120000 ∧
      ∀ g ∈ (decodeProfile m).segments, -250 ≤ g.gradient ∧ g.gradient ≤ 250 := by
  unfold structuralCheck at h
  obtain ⟨counts, h⟩ := of_ite_ne h nofun
  obtain ⟨-, h⟩ := of_ite_ne h nofun
  obtain ⟨-, h⟩ := of_ite_ne h nofun
  obtain ⟨-, h⟩ := of_ite_ne h nofun
  obtain ⟨lineEnd, h⟩ := of_ite_ne h nofun
  obtain ⟨-, h⟩ := of_ite_ne h nofun
  obtain ⟨range, -⟩ := of_ite_ne h nofun
  clear h
  rw [not_or, not_or, not_or] at counts
  obtain ⟨least, greatest, markers, -⟩ := counts
  rw [not_or] at lineEnd
  refine ⟨Nat.not_lt.1 least, Nat.not_lt.1 greatest, Nat.not_lt.1 markers, Nat.not_lt.1 lineEnd.1, fun g mem => ?_⟩
  obtain ⟨r, raw, same⟩ := decodeSegments_mem mem
  rw [Bool.or_eq_true, not_or] at range
  have inside : ¬(_ : Bool) = true := fun bad => range.1 (List.any_eq_true.2 ⟨r, raw, bad⟩)
  simp only [Bool.or_eq_true, decide_eq_true_eq, not_or, not_lt] at inside
  rw [same]
  exact inside.1.1

theorem Memory.field_two_lt (m : Memory) (a : Nat) : m.field a 2 < 65536 := by
  have bound := beNat_lt (m.bytes a 2)
  rwa [show (m.bytes a 2).length = 2 by simp [Memory.bytes], show (256 : Nat) ^ 2 = 65536 from rfl] at bound

/-! ### The banks -/

theorem Bank.Bounded.congr {b c : Bank} (h : b.Bounded) (length : c.length = b.length)
    (version : c.version = b.version) (header : ∀ x, c.header = some x → b.header = some x)
    (state : c.state = .checked → b.state = .checked ∧ c.image = b.image) : c.Bounded where
  length := length ▸ h.length
  version := version ▸ h.version
  header x k := h.header x (header x k)
  gradients k := by
    obtain ⟨checked, image⟩ := state k
    rw [image]
    exact h.gradients checked

theorem Bank.blank_bounded (r : Role) : (Bank.blank r).Bounded :=
  ⟨nofun, nofun, nofun, nofun⟩

/-- One bank replaced, with the claim of an open or the one held. -/
theorem Lps.Bounded.setBank {l m : Lps} (h : l.Bounded) {i : BankId} {b : Bank}
    (x : m.x = (l.setBank i b).x) (y : m.y = (l.setBank i b).y)
    (claim : ∀ k, m.claim = some k →
      (l.setBank i b).claim = some k ∨ (21 ≤ k.length ∧ k.length ≤ 1069 ∧ k.version < 65536))
    (rejected : m.rejected = (l.setBank i b).rejected) (passes : m.passes = (l.setBank i b).passes)
    (scrub : m.scrubPos = (l.setBank i b).scrubPos ∨ m.scrubPos = 0)
    (bank : b.Bounded) : m.Bounded where
  claim k e := (claim k e).elim (fun k => h.claim _ (Lps.setBank_claim l i b ▸ k)) id
  banks j := by
    have same : m.bank j = (l.setBank i b).bank j := by cases j; exacts [x, y]
    rw [same, Lps.bank_setBank]
    split_ifs
    exacts [bank, h.banks j]
  counts := by
    obtain ⟨few, wrapped, place⟩ := h.counts
    have kept : (l.setBank i b).rejected = l.rejected ∧ (l.setBank i b).passes = l.passes ∧
        (l.setBank i b).scrubPos = l.scrubPos := by cases i <;> exact ⟨rfl, rfl, rfl⟩
    rw [rejected, passes, kept.1, kept.2.1]
    refine ⟨few, wrapped, ?_⟩
    rcases scrub with e | e <;> rw [e]
    · rw [kept.2.2]; exact place
    · exact Nat.zero_le _

/-- R27: a check that ends makes of a bank one within its bounds. -/
theorem Lps.Bounded.endCheck {l : Lps} (h : l.Bounded) (c : Claim) (k : BitVec 32) : (l.endCheck c k).Bounded := by
  have bank := h.banks l.standbyId
  unfold Lps.endCheck
  dsimp only
  split_ifs with passed
  · obtain ⟨least, greatest, markers, lineEnd, gradients⟩ := structuralCheck_passed passed
    refine h.setBank rfl rfl nofun rfl rfl (.inl rfl) ⟨bank.length, bank.version, fun x e => ?_, fun _ => gradients⟩
    obtain rfl := Option.some.inj e
    exact ⟨Memory.field_two_lt _ _, lineEnd, least, greatest, markers⟩
  · exact h.setBank rfl rfl nofun rfl rfl (.inl rfl) (bank.congr rfl rfl (fun _ e => e) fun e => (nomatch e))

/-- R35: a switch-over is about the roles. -/
theorem Lps.Bounded.switchOver {l : Lps} (h : l.Bounded) : l.switchOver.Bounded := by
  have first : (l.setBank l.standbyId { l.bank l.standbyId with role := .active }).Bounded :=
    h.setBank rfl rfl (fun _ e => .inl e) rfl rfl (.inl rfl)
      ((h.banks _).congr rfl rfl (fun _ e => e) fun e => ⟨e, rfl⟩)
  exact first.setBank rfl rfl (fun _ e => .inl e) rfl rfl (.inr rfl)
    ((h.banks l.standbyId.other).congr rfl rfl (fun _ e => e) fun e => ⟨e, rfl⟩)

/-- R28: an open declares a length and a version. -/
theorem Lps.Bounded.opened {l : Lps} (h : l.Bounded) (w : Writer) {v n : Nat} (least : 21 ≤ n) (greatest : n ≤ 1069)
    (word : v < 65536) : (l.opened w v n).Bounded := by
  refine h.setBank rfl rfl (fun k e => .inr ?_) rfl rfl (.inl rfl) ⟨fun k e => ?_, fun k e => ?_, nofun, ?_⟩
  · obtain rfl := Option.some.inj e
    exact ⟨least, greatest, word⟩
  · obtain rfl := Option.some.inj e
    exact ⟨least, greatest⟩
  · obtain rfl := Option.some.inj e
    exact word
  · exact fun e => (nomatch e)

/-- R23 to R38: every move of the LPS keeps its bounds. -/
theorem Lps.Moves.bounded {l m : Lps} (h : l.Moves m) (s : State) :
    State.BanksSound { s with lps := l } → l.Bounded → m.Bounded := by
  induction h with
  | refl => exact fun _ b => b
  | trans first _ a b => exact fun sound k => b (first.banksSound s sound) (a sound k)
  | window | awaits | checks => exact fun _ b => ⟨b.claim, b.banks, b.counts⟩
  | opened l w v n least greatest word => exact fun _ b => b.opened w least greatest word
  | reject => exact fun _ b => ⟨b.claim, b.banks, satSucc_le b.counts.1, b.counts.2⟩
  | store l c o bs claimed =>
    intro sound b
    have loading : l.standby.state ≠ .checked := by
      have state := sound.claim (by rw [claimed]; rfl)
      change l.standby.state ∈ _ at state
      intro checked
      rw [checked] at state
      simp at state
    unfold Lps.store
    exact b.setBank rfl rfl (fun k e => .inl e) rfl rfl (.inl rfl)
      ((b.banks l.standbyId).congr rfl rfl (fun _ e => e) fun e => absurd e loading)
  | closed l c k claimed =>
    intro _ b
    have bank := b.banks l.standbyId
    unfold Lps.closed
    dsimp only
    split_ifs
    · exact b.setBank rfl rfl (fun _ e => .inl e) rfl rfl (.inl rfl)
        (bank.congr rfl rfl (fun _ e => e) fun e => (nomatch e))
    · exact b.setBank rfl rfl nofun rfl rfl (.inl rfl) (bank.congr rfl rfl (fun _ e => e) fun e => (nomatch e))
  | emptied l => exact fun _ b => b.setBank rfl rfl nofun rfl rfl (.inl rfl) (Bank.blank_bounded _)
  | switches l checked => exact fun _ b => b.switchOver
  | checked l c k claimed state => exact fun _ b => b.endCheck c k
  | scrubs l i n k more =>
    intro _ b
    refine ⟨b.claim, b.banks, b.counts.1, b.counts.2.1, ?_⟩
    change n ≤ 1068
    cases length : (l.bank i).length with
    | none => rw [length] at more; exact absurd more (Nat.not_lt_zero _)
    | some len =>
      rw [length] at more
      have greatest := ((b.banks i).length len length).2
      change n < len at more
      omega
  | passes l k => exact fun _ b => ⟨b.claim, b.banks, b.counts.1, wrapSucc_lt (by omega) _, Nat.zero_le _⟩
  | fails l i active =>
    exact fun _ b => b.setBank rfl rfl (fun _ e => .inl e) rfl rfl (.inr rfl)
      ((b.banks i).congr rfl rfl nofun fun e => (nomatch e))

theorem Lps.restarted_bounded {l : Lps} (h : l.Bounded) (now : Nat) : (l.restarted now).Bounded where
  claim := nofun
  banks i := by
    rw [Lps.restarted_bank, Bank.restarted]
    split_ifs
    exacts [Bank.blank_bounded _, h.banks i]
  counts := ⟨h.counts.1, h.counts.2.1, Nat.zero_le _⟩

end Sys2Proof.Machine
end

section
/-! The bounds of the Odometry Unit through every event (chapter 1). -/

namespace Sys2Proof.Machine

/-! ### The parts of the ODU -/

section
variable {o : Odu}

theorem Source.Bounded.congr {v w : Source} (h : v.Bounded) (window : w.window = v.window) (last4 : w.last4 = v.last4)
    (health : w.health = v.health) (runs : w.inTol = v.inTol ∧ w.suspectRun = v.suspectRun) : w.Bounded := by
  unfold Source.Bounded
  rw [window, last4, health, runs.1, runs.2]
  exact h

theorem Odu.Bounded.src (h : o.Bounded) (i : SourceId) : (o.src i).Bounded := by
  obtain ⟨upper, lower, tooth⟩ := h.sources
  cases i
  exacts [upper, lower, tooth]

theorem Odu.Bounded.setSrc (h : o.Bounded) (i : SourceId) {v : Source} (b : v.Bounded) : (o.setSrc i v).Bounded := by
  obtain ⟨motion, counts, ⟨upper, lower, tooth⟩, histories⟩ := h
  cases i
  exacts [⟨motion, counts, ⟨b, lower, tooth⟩, histories⟩, ⟨motion, counts, ⟨upper, b, tooth⟩, histories⟩,
    ⟨motion, counts, ⟨upper, lower, b⟩, histories⟩]

theorem Odu.Bounded.eachSrc (h : o.Bounded) {f : Source → Source} (keeps : ∀ v : Source, v.Bounded → (f v).Bounded) :
    (o.eachSrc f).Bounded := by
  obtain ⟨upper, lower, tooth⟩ := h.sources
  exact ⟨h.motion, h.counts, ⟨keeps _ upper, keeps _ lower, keeps _ tooth⟩, h.histories⟩

/-- An encoder within its bounds. -/
structure Encoder.Bounded (e : Encoder) : Prop where
  src : e.src.Bounded
  count : e.illegalCount ≤ 255
  history : e.illegalHist.length ≤ 20

theorem Odu.Bounded.encoder (h : o.Bounded) (i : Bogie) : (o.encoder i).Bounded := by
  obtain ⟨upper, lower, -⟩ := h.sources
  cases i
  exacts [⟨upper, h.counts.1, h.histories.1⟩, ⟨lower, h.counts.2.1, h.histories.2.1⟩]

theorem Odu.Bounded.setEncoder (h : o.Bounded) (i : Bogie) {e : Encoder} (b : e.Bounded) :
    (o.setEncoder i e).Bounded := by
  obtain ⟨motion, ⟨upperCount, lowerCount, marks⟩, ⟨upper, lower, tooth⟩, upperHist, lowerHist, rest⟩ := h
  cases i
  exacts [⟨motion, ⟨b.count, lowerCount, marks⟩, ⟨b.src, lower, tooth⟩, b.history, lowerHist, rest⟩,
    ⟨motion, ⟨upperCount, b.count, marks⟩, ⟨upper, b.src, tooth⟩, upperHist, b.history, rest⟩]

/-- The reader with fewer than 16 bits held. -/
theorem Odu.Bounded.reads (h : o.Bounded) {r : Reader} (few : r.bits.length < 16) :
    Odu.Bounded { o with reader := r } := by
  obtain ⟨⟨speed, order, top, -, marker⟩, counts, sources, histories⟩ := h
  exact ⟨⟨speed, order, top, few, marker⟩, counts, sources, histories⟩

theorem Odu.Bounded.interval (h : o.Bounded) {a b : Nat} (order : a ≤ b) (top : b ≤ 12000000000) (p : Position) :
    Odu.Bounded { o with lo := a, hi := b, pos := p } := by
  obtain ⟨⟨speed, -, -, bits, marker⟩, counts, sources, histories⟩ := h
  exact ⟨⟨speed, order, top, bits, marker⟩, counts, sources, histories⟩

end

theorem pushHist_length {α : Type} (n : Nat) (x : α) (l : List α) : (pushHist n x l).length ≤ n := by
  unfold pushHist
  rw [List.length_take]
  exact Nat.min_le_left _ _

section
variable {s : State}

/-! ### Counts, teeth and the motion state -/

theorem State.leaveStandstill_bounded (h : s.odu.Bounded) (m : Motion) : (s.leaveStandstill m).odu.Bounded :=
  ⟨h.motion, h.counts, h.sources, h.histories⟩

theorem State.addLeaving_bounded (h : s.odu.Bounded) (i : SourceId) (d l : Int) :
    (s.addLeaving i d l).odu.Bounded := by
  have grown := h.setSrc i (v := { s.odu.src i with leaving := (s.odu.src i).leaving + d }) (h.src i)
  unfold State.addLeaving
  split_ifs
  · exact h
  · dsimp only
    split
    · exact grown
    · exact State.leaveStandstill_bounded (s := { s with odu := _ }) grown _

theorem State.restartStand_bounded (h : s.odu.Bounded) : s.restartStand.odu.Bounded :=
  ⟨h.motion, h.counts, h.sources, h.histories⟩

theorem State.setPhases_bounded (h : s.odu.Bounded) (i : Bogie) (a b : Bool) : (s.setPhases i a b).odu.Bounded :=
  h.setEncoder i ⟨(h.encoder i).src, (h.encoder i).count, (h.encoder i).history⟩

theorem State.count_bounded (h : s.odu.Bounded) (i : Bogie) (d : Dir) : (s.count i d).odu.Bounded := by
  have e := h.encoder i
  have counted := h.setEncoder i (e := { s.odu.encoder i with
    src := (s.odu.encoder i).src.travel (d.sign * s.kOf i), latest := some d }) ⟨e.src, e.count, e.history⟩
  unfold State.count
  dsimp only
  generalize s.odu.setEncoder i _ = o at *
  have noted : Odu.Bounded { o with lastCounted := some i } :=
    ⟨counted.motion, counted.counts, counted.sources, counted.histories⟩
  split_ifs
  · exact State.addLeaving_bounded (State.restartStand_bounded (s := { s with odu := _ }) noted) _ _ _
  · exact noted

theorem State.illegal_bounded (h : s.odu.Bounded) (i : Bogie) : (s.illegal i).odu.Bounded :=
  h.setEncoder i ⟨(h.encoder i).src, satSucc_le (h.encoder i).count, (h.encoder i).history⟩

theorem State.encoderStep_bounded (h : s.odu.Bounded) (i : Bogie) (a b : Bool) :
    (s.encoderStep i a b).odu.Bounded := by
  unfold State.encoderStep
  split
  · exact h
  · exact State.count_bounded (State.setPhases_bounded h i a b) i _
  · exact State.illegal_bounded (State.setPhases_bounded h i a b) i

theorem State.toothTravel_bounded (h : s.odu.Bounded) : s.toothTravel.odu.Bounded := by
  unfold State.toothTravel
  dsimp only
  split <;> exact ⟨h.motion, h.counts, h.sources, h.histories⟩

theorem State.takeTooth_bounded (h : s.odu.Bounded) : s.takeTooth.odu.Bounded := by
  have timed : Odu.Bounded { s.odu with regimeTimer := some (s.now + Config.regimeTime) } :=
    ⟨h.motion, h.counts, h.sources, h.histories⟩
  have travelled := State.toothTravel_bounded (s := { s with odu := _ }) timed
  unfold State.takeTooth State.toothMotion
  split_ifs
  · exact State.addLeaving_bounded (State.restartStand_bounded travelled) _ _ _
  · exact travelled

theorem State.standExpiry_bounded (h : s.odu.Bounded) : s.standExpiry.odu.Bounded := by
  have cleared : s.odu.clearLeaving.Bounded := ⟨h.motion, h.counts, h.sources, h.histories⟩
  unfold State.standExpiry State.enterStandstill State.startHold
  (repeat' split) <;> exact ⟨cleared.motion, cleared.counts, cleared.sources, cleared.histories⟩

/-! ### The interval -/

theorem clampUm_mono {a b : Int} (h : a ≤ b) : clampUm a ≤ clampUm b := by
  unfold clampUm
  omega

theorem State.setBounds_bounded (h : s.odu.Bounded) {a b : Int} (order : a ≤ b) :
    (s.setBounds a b).odu.Bounded := by
  have top : clampUm b ≤ 12000000000 := Nat.min_le_right _ _
  rcases s.setBounds_odu a b with e | e <;> rw [e]
  exacts [h.interval (clampUm_mono order) top _, h.interval (clampUm_mono order) top _]

theorem boundMoves_ordered {l : List (Int × Int)} (h : ∀ m ∈ l, m.1 ≤ m.2) :
    (boundMoves l).1 ≤ (boundMoves l).2 := by
  have fold (l : List (Int × Int)) (h : ∀ m ∈ l, m.1 ≤ m.2) (m : Int × Int) (k : m.1 ≤ m.2) :
      (l.foldl (fun a b => (min a.1 b.1, max a.2 b.2)) m).1 ≤
        (l.foldl (fun a b => (min a.1 b.1, max a.2 b.2)) m).2 := by
    induction l generalizing m with
    | nil => exact k
    | cons x l ih =>
      exact ih (fun y mem => h y (List.mem_cons_of_mem _ mem)) _
        ((min_le_left _ _).trans (k.trans (le_max_left _ _)))
  cases l with
  | nil => exact le_refl _
  | cons m l => exact fold l (fun y mem => h y (List.mem_cons_of_mem _ mem)) m (h m List.mem_cons_self)

theorem Odu.Bounded.clearInterval {o : Odu} (h : o.Bounded) : o.clearInterval.Bounded :=
  ⟨h.motion, h.counts, h.sources, h.histories⟩

theorem State.updateInterval_bounded (h : s.odu.Bounded) (u : Used) : (s.updateInterval u).odu.Bounded := by
  have order := boundMoves_ordered (l := u.list.map s.moves) fun m mem => by
    obtain ⟨i, -, rfl⟩ := List.mem_map.1 mem
    change _ - _ ≤ _ + _
    omega
  have interval : (s.odu.lo : Int) ≤ s.odu.hi := Int.ofNat_le.2 h.motion.2.1
  have cleared := h.clearInterval
  unfold State.updateInterval
  refine State.setBounds_bounded ?_ (by omega)
  exact ⟨cleared.motion, cleared.counts, cleared.sources, cleared.histories⟩

theorem State.setPosition_bounded (h : s.odu.Bounded) (p : Position) : (s.setPosition p).odu.Bounded := by
  rw [State.setPosition_odu]
  exact ⟨h.motion, h.counts, h.sources, h.histories⟩

theorem State.restored_bounded (h : s.odu.Bounded) (n u : Nat) : (s.restored n u).odu.Bounded := by
  refine State.setBounds_bounded (State.setPosition_bounded ?_ _) (by omega)
  exact h.clearInterval

/-! ### A sample -/

theorem State.setRegime_bounded (h : s.odu.Bounded) : s.setRegime.odu.Bounded := by
  unfold State.setRegime
  dsimp only
  split_ifs
  · exact h
  · exact Odu.Bounded.eachSrc (o := { s.odu with regime := s.chooseRegime })
      (f := fun v => { v with window := [] }) ⟨h.motion, h.counts, h.sources, h.histories⟩
      fun v b => ⟨Nat.zero_le _, b.2⟩

theorem State.samplePosition_bounded (h : s.odu.Bounded) : s.samplePosition.odu.Bounded := by
  have set := State.setRegime_bounded h
  unfold State.samplePosition
  refine State.updateInterval_bounded ?_ _
  exact ⟨set.motion, set.counts, set.sources, set.histories⟩

theorem Odu.Bounded.pushSamples {o : Odu} (h : o.Bounded) : o.pushSamples.Bounded := by
  have pushed := h.eachSrc (f := fun v =>
    { v with window := pushHist 20 v.sampleSum v.window, last4 := pushHist 4 v.sampleSum v.last4 })
    fun v b => ⟨pushHist_length _ _ _, pushHist_length _ _ _, b.2.2⟩
  exact ⟨pushed.motion, pushed.counts, pushed.sources, pushHist_length _ _ _, pushHist_length _ _ _,
    pushHist_length _ _ _, pushed.histories.2.2.2⟩

theorem Source.Bounded.judge {v : Source} (h : v.Bounded) (m : Int) (n : Nat) : (v.judge m n).Bounded := by
  obtain ⟨window, last4, runs⟩ := h
  unfold Source.judge
  dsimp only
  split
  · split_ifs
    · exact ⟨window, last4, runs⟩
    · exact ⟨window, last4, fun _ => ⟨Nat.zero_lt_succ _, Nat.succ_lt_succ (Nat.zero_lt_succ _)⟩⟩
  · generalize (if decide ((v.distance - m).natAbs ≤ n) = true then v.inTol + 1 else 0) = run
    split_ifs with cleared tried
    · exact ⟨window, last4, fun e => (nomatch e)⟩
    · exact ⟨window, last4, fun e => (nomatch e)⟩
    · exact ⟨window, last4, fun _ => ⟨not_le.1 cleared, not_le.1 tried⟩⟩
  · exact ⟨window, last4, runs⟩

theorem State.setHealth_bounded {o : Odu} (h : o.Bounded) (s : State) : (s.setHealth o).odu.Bounded := by
  have kept : (s.setHealth o).odu = s.odu.clearSlipIfIsolated o := by
    unfold State.setHealth State.raiseIf
    split <;> rfl
  rw [kept]
  unfold Odu.clearSlipIfIsolated
  split_ifs
  · exact ⟨h.motion, h.counts, h.sources, h.histories⟩
  · exact h

theorem Encoder.Bounded.illegalCheck {e : Encoder} (h : e.Bounded) : e.illegalCheck.Bounded := by
  unfold Encoder.illegalCheck
  split_ifs
  · exact ⟨⟨h.src.1, h.src.2.1, fun e => (nomatch e)⟩, h.count, h.history⟩
  · exact h

theorem State.illegalCheck_bounded (h : s.odu.Bounded) : s.illegalCheck.odu.Bounded := by
  have both := (h.setEncoder .upper (h.encoder .upper).illegalCheck).setEncoder .lower
    (h.encoder .lower).illegalCheck
  exact State.setHealth_bounded both s

theorem State.sampleHealth_bounded (h : s.odu.Bounded) : s.sampleHealth.odu.Bounded := by
  have median {x : State} (h : x.odu.Bounded) : x.medianCheck.odu.Bounded := by
    unfold State.medianCheck
    split_ifs
    · exact State.setHealth_bounded (h.eachSrc fun v b => b.judge _ _) x
    · exact h
  have pair {x : State} (h : x.odu.Bounded) : x.pairCheck.odu.Bounded := by
    unfold State.pairCheck
    dsimp only
    split_ifs
    · exact ⟨h.motion, h.counts, h.sources, h.histories⟩
    · exact h
  have source {x : State} (h : x.odu.Bounded) : x.sourceTest.odu.Bounded := by
    unfold State.sourceTest
    split_ifs
    · exact State.setPosition_bounded h _
    · exact h
  exact source (State.illegalCheck_bounded (pair (median (x := { s with odu := _ }) h.pushSamples)))

theorem Odu.Bounded.setSpeed {o : Odu} (h : o.Bounded) : o.setSpeed.Bounded := by
  obtain ⟨⟨-, rest⟩, counts, sources, histories⟩ := h
  unfold Odu.setSpeed
  split_ifs with lost fast
  exacts [⟨⟨le_refl _, rest⟩, counts, sources, histories⟩, ⟨⟨le_refl _, rest⟩, counts, sources, histories⟩,
    ⟨⟨not_lt.1 fast, rest⟩, counts, sources, histories⟩]

theorem Odu.Bounded.setMotion {o : Odu} (h : o.Bounded) : o.setMotion.Bounded :=
  ⟨h.motion, h.counts, h.sources, h.histories.1, h.histories.2.1, h.histories.2.2.1, pushHist_length _ _ _⟩

theorem State.sampleMotion_bounded (h : s.odu.Bounded) : s.sampleMotion.odu.Bounded := by
  have set := h.setSpeed.setMotion
  unfold State.sampleMotion State.addRollback
  (repeat' split) <;> exact ⟨set.motion, set.counts, set.sources, set.histories⟩

theorem State.sample_bounded (h : s.odu.Bounded) : s.sample.odu.Bounded :=
  State.sampleMotion_bounded (State.sampleHealth_bounded (State.samplePosition_bounded h))

/-! ### The marker reader -/

theorem State.invalidRead_bounded (h : s.odu.Bounded) (r : ReaderState) : (s.invalidRead r).odu.Bounded := by
  obtain ⟨⟨speed, order, top, -, marker⟩, ⟨upper, lower, unknown, invalid⟩, sources, histories⟩ := h
  exact ⟨⟨speed, order, top, Nat.zero_lt_succ _, marker⟩, ⟨upper, lower, unknown, satSucc_le invalid⟩, sources,
    histories⟩

theorem State.acceptMarker_bounded (h : s.odu.Bounded) {n : Nat} (named : n ≤ 4095) {iv : Int × Int}
    (order : iv.1 ≤ iv.2) : (s.acceptMarker n iv).odu.Bounded := by
  obtain ⟨⟨speed, interval, top, bits, -⟩, counts, sources, histories⟩ := h
  refine State.setBounds_bounded (State.setPosition_bounded ?_ _) order
  exact ⟨⟨speed, interval, top, bits, fun m e => Option.some.inj e ▸ named⟩, counts, sources, histories⟩

theorem State.useMarker_bounded (h : s.odu.Bounded) {k : Marker} (named : k.ident ≤ 4095) :
    (s.useMarker k).odu.Bounded := by
  have order : (s.markerInterval k).1 ≤ (s.markerInterval k).2 := by
    change (_ - _) * 100000 ≤ (_ + _) * 100000
    omega
  have interval : (s.odu.lo : Int) ≤ s.odu.hi := Int.ofNat_le.2 h.motion.2.1
  unfold State.useMarker
  dsimp only
  split_ifs with valid meets near
  · exact State.acceptMarker_bounded h named (max_le (le_min interval meets.2) (le_min meets.1 order))
  · exact State.acceptMarker_bounded h named order
  · exact State.setPosition_bounded h _
  · exact State.acceptMarker_bounded h named order

theorem State.lookupMarker_bounded (h : s.odu.Bounded) {n : Nat} (named : n ≤ 4095) :
    (s.lookupMarker n).odu.Bounded := by
  have updated := State.updateInterval_bounded h s.odu.choose
  unfold State.lookupMarker
  dsimp only
  generalize s.updateInterval s.odu.choose = u at *
  split
  · exact updated
  · split
    · obtain ⟨motion, ⟨upper, lower, unknown, invalid⟩, sources, histories⟩ := updated
      exact ⟨motion, ⟨upper, lower, satSucc_le unknown, invalid⟩, sources, histories⟩
    · next k found =>
      have own : k.ident = n := by simpa using List.find?_some found
      exact State.useMarker_bounded updated (own ▸ named)

/-- A read completes, whatever bits the reader held. -/
theorem State.completeRead_bounded {n : Nat} (named : n ≤ 4095) (c : Nat)
    (h : Odu.Bounded { s.odu with reader := { s.odu.reader with bits := [] } }) :
    (s.completeRead n c).odu.Bounded := by
  unfold State.completeRead
  split_ifs
  · refine State.lookupMarker_bounded ?_ named
    exact ⟨h.motion, h.counts, h.sources, h.histories⟩
  · obtain ⟨motion, ⟨upper, lower, unknown, invalid⟩, sources, histories⟩ := h
    exact ⟨motion, ⟨upper, lower, unknown, satSucc_le invalid⟩, sources, histories⟩

theorem State.restartCollection_bounded (h : s.odu.Bounded) (n : Nat) : (s.restartCollection n).odu.Bounded :=
  h.reads h.motion.2.2.2.1

theorem Reader.noteEdge_bits (level : Bool) (n : Nat) (r : Reader) : (r.noteEdge level n).bits = r.bits := by
  cases level <;> rfl

theorem State.markerRead_bounded (h : s.odu.Bounded) (n : BitVec 12) (c : BitVec 4) :
    (s.markerRead n c).odu.Bounded := by
  have noted := h.reads (r := s.odu.reader.noteEdge false s.now)
    (by rw [Reader.noteEdge_bits]; exact h.motion.2.2.2.1)
  exact State.restartCollection_bounded
    (State.completeRead_bounded (s := { s with odu := _ }) (Nat.le_of_lt_succ n.isLt) _
      (noted.reads (Nat.zero_lt_succ _))) _

theorem bitsNat_lt (bs : List Bool) : bitsNat bs < 2 ^ bs.length := by
  induction bs using List.reverseRecOn with
  | nil => decide
  | append_singleton bs b ih =>
    have bit : bitOf b ≤ 1 := by cases b <;> decide
    simp only [bitsNat, List.foldl_append, List.foldl_cons, List.foldl_nil, List.length_append,
      List.length_singleton, pow_succ] at ih ⊢
    omega

theorem State.appendBit_bounded (h : s.odu.Bounded) {r : Reader} (n : Nat) : (s.appendBit r n).odu.Bounded := by
  unfold State.appendBit
  split
  · exact State.invalidRead_bounded h _
  · next b width =>
    dsimp only
    split_ifs with few
    · exact h.reads few
    · refine State.completeRead_bounded ?_ _ (h.reads (Nat.zero_lt_succ _))
      have low := bitsNat_lt ((r.bits ++ [b]).take 12)
      have short : ((r.bits ++ [b]).take 12).length ≤ 12 := List.length_take_le _ _
      have power := Nat.pow_le_pow_right (n := 2) (by decide) short
      omega

theorem State.startBurst_bounded (h : s.odu.Bounded) : s.startBurst.odu.Bounded := h.reads (Nat.zero_lt_succ _)

theorem State.readerEdge_bounded (h : s.odu.Bounded) (r : Reader) (level : Bool) (n : Nat) :
    (s.readerEdge r level n).odu.Bounded := by
  unfold State.readerEdge
  cases r.state with
  | idle => dsimp only; split_ifs; exacts [State.startBurst_bounded h, h]
  | collecting =>
    dsimp only
    split_ifs
    · exact State.invalidRead_bounded h _
    · exact State.startBurst_bounded (s := { s with odu := { s.odu with overrun := true } })
        ⟨h.motion, h.counts, h.sources, h.histories⟩
    · exact h
    · exact State.appendBit_bounded h n
  | discarding => dsimp only; split_ifs; exacts [State.startBurst_bounded h, h]

theorem State.capture_bounded (h : s.odu.Bounded) (level : Bool) (n : Nat) : (s.capture level n).odu.Bounded := by
  have noted := h.reads (r := s.odu.reader.noteEdge level n) (by rw [Reader.noteEdge_bits]; exact h.motion.2.2.2.1)
  exact State.restartCollection_bounded (State.readerEdge_bounded (s := { s with odu := _ }) noted _ _ _) _

theorem State.endCollection_bounded (h : s.odu.Bounded) : s.endCollection.odu.Bounded := by
  unfold State.endCollection
  dsimp only
  split_ifs
  · exact (State.invalidRead_bounded h .idle).reads (Nat.zero_lt_succ _)
  · exact h.reads (Nat.zero_lt_succ _)

end

end Sys2Proof.Machine
end

section
/-! The bounds of the Speed Supervision Unit (chapter 3). -/

namespace Sys2Proof.Machine

/-! ### The restriction list -/

/-- 3.2: an entry within its bounds. -/
def Restriction.Bounded (r : Restriction) : Prop :=
  1 ≤ r.ident ∧ r.ident ≤ 255 ∧ r.first < r.last ∧ r.last ≤ 120000 ∧ r.speed ≤ 1500

/-- 3.2: the list, in its order, with identities that differ. -/
structure RestrictionsBounded (l : List Restriction) : Prop where
  few : l.length ≤ 12
  order : l.Pairwise Restriction.Precedes
  apart : l.Pairwise fun a b => a.ident ≠ b.ident
  entries : ∀ r ∈ l, r.Bounded

theorem RestrictionsBounded.nil : RestrictionsBounded [] := ⟨Nat.zero_le _, .nil, .nil, fun _ m => (nomatch m)⟩

theorem RestrictionsBounded.without {l : List Restriction} (h : RestrictionsBounded l) (n : Nat) :
    RestrictionsBounded (withoutIdent n l) :=
  ⟨(List.length_filter_le _ _).trans h.few, h.order.filter _, h.apart.filter _,
    fun r m => h.entries r (List.mem_filter.1 m).1⟩

/-- R44: a list that holds the identity, or has room for one more, takes an entry in its place. -/
theorem RestrictionsBounded.insert {l : List Restriction} (h : RestrictionsBounded l) {r : Restriction}
    (b : r.Bounded) (room : (∃ q ∈ l, q.ident = r.ident) ∨ l.length < 12) :
    RestrictionsBounded (insertRestriction r (withoutIdent r.ident l)) := by
  have kept := h.without r.ident
  have fresh : ∀ q ∈ withoutIdent r.ident l, q.ident ≠ r.ident := fun q m => withoutIdent_fresh m
  have perm := insertRestriction_perm r (withoutIdent r.ident l)
  have few : (withoutIdent r.ident l).length < 12 := by
    rcases room with ⟨q, mem, same⟩ | room
    · refine lt_of_lt_of_le ?_ h.few
      exact List.length_filter_lt_length_iff_exists.2 ⟨q, mem, by simp [same]⟩
    · exact lt_of_le_of_lt (List.length_filter_le _ _) room
  refine ⟨?_, ?_, ?_, fun q m => ?_⟩
  · rw [perm.length_eq, List.length_cons]
    exact few
  · exact insertRestriction_sorted r fresh kept.order
  · refine (perm.pairwise_iff fun ne e => ne e.symm).2 
      (List.pairwise_cons.2 ⟨fun q m e => fresh q m e.symm, kept.apart⟩)
  · rcases List.mem_cons.1 (perm.mem_iff.1 m) with own | old
    · exact own ▸ b
    · exact kept.entries q old

theorem Ssu.Bounded.listed {u : Ssu} (h : u.Bounded) : RestrictionsBounded u.restrictions :=
  ⟨h.list.1, h.list.2.1, h.list.2.2.1, h.list.2.2.2⟩

theorem Ssu.Bounded.relist {u : Ssu} (h : u.Bounded) {l : List Restriction} {c : Option Nat}
    (list : RestrictionsBounded l) (cap : ∀ v, c = some v → v ≤ 1500) :
    Ssu.Bounded { u with restrictions := l, cap := c } := by
  obtain ⟨⟨window, flushes, malformed, -, mrsp⟩, -⟩ := h
  exact ⟨⟨window, flushes, malformed, cap, mrsp⟩, list.few, list.order, list.apart, list.entries⟩

section
variable {s : State}

theorem State.flush_bounded (h : s.ssu.Bounded) : s.flush.ssu.Bounded := by
  obtain ⟨⟨-, -, rest⟩, list⟩ := h
  exact ⟨⟨Nat.zero_le _, wrapSucc_lt (by decide) _, rest⟩, list⟩

theorem State.changeRestrictions_bounded (h : s.ssu.Bounded) {l : List Restriction} {c : Option Nat}
    (list : RestrictionsBounded l) (cap : ∀ v, c = some v → v ≤ 1500) :
    (s.changeRestrictions l c).ssu.Bounded := by
  unfold State.changeRestrictions
  exact State.flush_bounded (s := { s with ssu := { s.ssu with restrictions := l, cap := c } }) (h.relist list cap)

theorem malformedSet_false {ident first last speed : Nat} {a : Applies}
    (h : ¬malformedSet ident first last speed (some a) = true) :
    ident ≠ 0 ∧ first < last ∧ last ≤ 120000 ∧ speed ≤ 1500 := by
  simp only [malformedSet, Bool.or_eq_true, not_or, beq_iff_eq, Bool.not_eq_true', decide_eq_false_iff_not,
    not_not, decide_eq_true_eq] at h
  obtain ⟨⟨⟨⟨ident, stretch⟩, last⟩, speed⟩, -⟩ := h
  exact ⟨ident, stretch, not_lt.1 last, not_lt.1 speed⟩

theorem State.malformed_bounded (h : s.ssu.Bounded) :
    Ssu.Bounded { s.ssu with malformed := satSucc 255 s.ssu.malformed } := by
  obtain ⟨⟨window, flushes, malformed, rest⟩, list⟩ := h
  exact ⟨⟨window, flushes, satSucc_le malformed, rest⟩, list⟩

theorem capAfter_le {c : Option Nat} {n v : Nat} (speed : n ≤ 1500) (e : capAfter c n = some v) : v ≤ 1500 := by
  cases c with
  | none => exact Option.some.inj e ▸ speed
  | some x => exact Option.some.inj e ▸ (min_le_right x n).trans speed

/-- R44, R45. -/
theorem State.restrictionSet_bounded (h : s.ssu.Bounded) {ident : Nat} (byte : ident ≤ 255) (first last speed : Nat)
    (a : Option Applies) : (s.restrictionSet ident first last speed a).ssu.Bounded := by
  unfold State.restrictionSet
  cases a with
  | none => exact State.malformed_bounded h
  | some a =>
    dsimp only
    split_ifs with bad same room full
    · exact State.malformed_bounded h
    · exact h
    · obtain ⟨named, stretch, inside, slow⟩ := malformedSet_false bad
      refine State.changeRestrictions_bounded h (h.listed.insert
        (r := { ident := ident, first := first, last := last, speed := speed, applies := a })
        ⟨Nat.pos_of_ne_zero named, byte, stretch, inside, slow⟩ ?_) h.record.2.2.2.1
      rw [Bool.or_eq_true, List.any_eq_true, decide_eq_true_eq] at room
      exact room.imp_left fun ⟨q, mem, own⟩ => ⟨q, mem, beq_iff_eq.1 own⟩
    · exact h
    · obtain ⟨-, -, -, slow⟩ := malformedSet_false bad
      exact State.changeRestrictions_bounded h h.listed fun v e => capAfter_le slow e

theorem State.restrictionClear_bounded (h : s.ssu.Bounded) (n : Nat) : (s.restrictionClear n).ssu.Bounded := by
  unfold State.restrictionClear
  dsimp only
  split_ifs
  · exact h
  · exact State.changeRestrictions_bounded h .nil nofun
  · exact State.changeRestrictions_bounded h (h.listed.without _) h.record.2.2.2.1
  · exact h

/-! ### The cycle -/

theorem State.mrspOnLine_le (s : State) (p : Profile) (d : Option Dir) : s.mrspOnLine p d ≤ 1500 := by
  have fold (l : List Nat) (n : Nat) : l.foldl min n ≤ n := by
    induction l generalizing n with
    | nil => exact le_refl _
    | cons x l ih => exact (ih _).trans (min_le_left _ _)
  exact fold _ _

/-- A computation within its bounds. -/
structure Computed.Bounded (c : Computed) : Prop where
  mrsp : c.mrsp ≤ 1500
  pieces : c.built.pieces.length ≤ 16

theorem State.computeFrom_bounded (s : State) (q : Option Prereqs) (p : Option Profile) {m : Nat} (h : m ≤ 1500) :
    (s.computeFrom q p m).Bounded := by
  unfold State.computeFrom
  dsimp only
  split
  · exact ⟨h, s.build_length _ _ _⟩
  · exact ⟨h, Nat.zero_le _⟩

theorem State.compute_bounded (h : s.pst.Bounded) : s.compute.Bounded := by
  have slow : s.par .vShunt ≤ 1500 := (h .vShunt).2.trans (by decide)
  have missing : (s.computeMissing s.prereqsNow).Bounded := ⟨Nat.zero_le _, Nat.zero_le _⟩
  unfold State.compute
  (repeat' split)
  exacts [s.computeFrom_bounded _ _ (s.mrspOnLine_le _ _), missing, missing,
    s.computeFrom_bounded _ _ (s.mrspOnLine_le _ _), s.computeFrom_bounded _ _ slow, s.computeFrom_bounded _ _ slow]

theorem State.cycle_bounded (h : s.ssu.Bounded) (params : s.pst.Bounded) : s.cycle.ssu.Bounded := by
  have turned : s.setTravelDir.ssu.Bounded := by
    unfold State.setTravelDir
    split_ifs
    · exact h
    · exact State.flush_bounded (s := { s with ssu := { s.ssu with dir := s.travelDir, authSide := none } })
        ⟨h.record, h.list⟩
  have computed := State.compute_bounded (s := s.setTravelDir) (by simpa using params)
  unfold State.cycle
  split_ifs with none
  · unfold State.cycleNone
    rw [State.raiseIf_ssu]
    obtain ⟨⟨-, flushes, malformed, cap, -⟩, list⟩ := h
    exact ⟨⟨Nat.zero_le _, flushes, malformed, cap, nofun⟩, list⟩
  · dsimp only
    generalize s.setTravelDir = x at *
    generalize x.compute = c at *
    have taken : (x.takeComputed c).ssu.Bounded := by
      obtain ⟨⟨-, flushes, malformed, cap, -⟩, list⟩ := turned
      unfold State.takeComputed
      rw [State.raiseIf_ssu]
      exact ⟨⟨computed.pieces, flushes, malformed, cap, fun m e => Option.some.inj e ▸ computed.mrsp⟩, list⟩
    have noticed : (x.takeComputed c).steepNotice.ssu.Bounded := by
      unfold State.steepNotice
      split_ifs
      · exact ⟨taken.record, taken.list⟩
      · exact taken
    unfold State.overrunTest
    dsimp only
    split_ifs <;> exact ⟨noticed.record, noticed.list⟩

theorem State.setMode_bounded (h : s.ssu.Bounded) (m : Mode) : (s.setMode m).ssu.Bounded := by
  unfold State.setMode
  exact State.flush_bounded (s := { s with ssu := { s.ssu with
    mode := m, prereqs := none, warning := s.ssu.warning && decide (m ≠ .none) } }) ⟨h.record, h.list⟩

end

end Sys2Proof.Machine
end

section
/-! The bounds of the radio line and of the Telegram Handler, with the supervision that the telegrams change (chapters
7 and 8). -/

namespace Sys2Proof.Machine

/-- The parameters, and the blocks that a telegram reaches beside the banks. -/
structure State.LineBounded (s : State) : Prop where
  pst : s.pst.Bounded
  ssu : s.ssu.Bounded
  vrl : s.vrl.Bounded
  tgh : s.tgh.Bounded

section
variable {s : State}

theorem State.LineBounded.congr {t : State} (h : s.LineBounded) (pst : t.pst = s.pst) (ssu : t.ssu = s.ssu)
    (vrl : t.vrl = s.vrl) (tgh : t.tgh = s.tgh) : t.LineBounded :=
  ⟨pst ▸ h.pst, ssu ▸ h.ssu, vrl ▸ h.vrl, tgh ▸ h.tgh⟩

theorem State.LineBounded.raise (h : s.LineBounded) (k : Notice) : (s.raise k).LineBounded := h.congr rfl rfl rfl rfl

theorem State.LineBounded.raiseIf (h : s.LineBounded) (c : Bool) (k : Notice) : (s.raiseIf c k).LineBounded :=
  h.congr (by simp) (by simp) (by simp) (by simp)

theorem State.LineBounded.flush (h : s.LineBounded) : s.flush.LineBounded :=
  ⟨h.pst, State.flush_bounded h.ssu, h.vrl, h.tgh⟩

theorem State.LineBounded.withTgh (h : s.LineBounded) {g : Tgh} (b : g.Bounded) :
    State.LineBounded { s with tgh := g } := ⟨h.pst, h.ssu, h.vrl, b⟩

theorem State.LineBounded.withVrl (h : s.LineBounded) {v : Vrl} (b : v.Bounded) :
    State.LineBounded { s with vrl := v } := ⟨h.pst, h.ssu, b, h.tgh⟩

/-! ### The banks' changes -/

theorem State.LineBounded.compareOutdated (h : s.LineBounded) : s.compareOutdated.LineBounded := by
  unfold State.compareOutdated
  split
  · exact h
  · refine State.LineBounded.raiseIf (h.withTgh ?_) _ _
    exact ⟨h.tgh.authority, h.tgh.counts, h.tgh.calls, h.tgh.texts⟩

theorem State.LineBounded.switchOver (h : s.LineBounded) : s.switchOver.LineBounded := by
  have moved : State.LineBounded { s with lps := s.lps.switchOver } := ⟨h.pst, h.ssu, h.vrl, h.tgh⟩
  exact moved.flush.compareOutdated.raise _

theorem State.LineBounded.takePending (h : s.LineBounded) : s.takePending.LineBounded := by
  unfold State.takePending
  split_ifs
  exacts [h.switchOver, h]

theorem State.LineBounded.scrubStep (h : s.LineBounded) : s.scrubStep.LineBounded := by
  unfold State.scrubStep
  split
  · exact h
  · next i active =>
    dsimp only
    split_ifs
    · exact ⟨h.pst, h.ssu, h.vrl, h.tgh⟩
    · exact ⟨h.pst, h.ssu, h.vrl, h.tgh⟩
    · have moved : State.LineBounded { s with lps := s.lps.failActive i } := ⟨h.pst, h.ssu, h.vrl, h.tgh⟩
      exact moved.flush.compareOutdated.raise _

/-! ### The link -/

theorem State.LineBounded.setLink (h : s.LineBounded) (l : Link) : (s.setLink l).LineBounded := by
  have told := (h.withTgh (g := { s.tgh with link := l })
    ⟨h.tgh.authority, h.tgh.counts, h.tgh.calls, h.tgh.texts⟩).raise .link
  unfold State.setLink
  dsimp only
  split_ifs
  · exact h
  · exact told.congr (by simp) (by simp) (by simp) (by simp)
  · exact told

theorem State.LineBounded.evaluateLink (h : s.LineBounded) : s.evaluateLink.LineBounded := by
  unfold State.evaluateLink
  refine State.LineBounded.setLink (h.withTgh ?_) _
  exact ⟨h.tgh.authority, h.tgh.counts, h.tgh.calls, h.tgh.texts⟩

theorem State.LineBounded.hearValley (h : s.LineBounded) : s.hearValley.LineBounded := by
  obtain ⟨ignored, -, rest⟩ := h.tgh.counts
  unfold State.hearValley
  refine State.LineBounded.evaluateLink (h.withTgh ?_)
  exact ⟨h.tgh.authority, ⟨ignored, Nat.zero_le _, rest⟩, h.tgh.calls, h.tgh.texts⟩

theorem State.LineBounded.silentCycle (h : s.LineBounded) : s.silentCycle.LineBounded := by
  obtain ⟨ignored, silent, rest⟩ := h.tgh.counts
  unfold State.silentCycle
  refine State.LineBounded.evaluateLink (h.withTgh ?_)
  exact ⟨h.tgh.authority, ⟨ignored, satSucc_le silent, rest⟩, h.tgh.calls, h.tgh.texts⟩

/-! ### What each telegram does -/

theorem State.LineBounded.formatError (h : s.LineBounded) : s.formatError.LineBounded := by
  obtain ⟨ignored, silent, foreign, errors, rest⟩ := h.tgh.counts
  exact h.withTgh ⟨h.tgh.authority, ⟨ignored, silent, foreign, satSucc_le errors, rest⟩, h.tgh.calls, h.tgh.texts⟩

theorem State.LineBounded.foreignTelegram (h : s.LineBounded) : s.foreignTelegram.LineBounded := by
  obtain ⟨ignored, silent, foreign, rest⟩ := h.tgh.counts
  exact h.withTgh ⟨h.tgh.authority, ⟨ignored, silent, satSucc_le foreign, rest⟩, h.tgh.calls, h.tgh.texts⟩

theorem State.LineBounded.ignoreAuthority (h : s.LineBounded) : s.ignoreAuthority.LineBounded := by
  obtain ⟨ignored, rest⟩ := h.tgh.counts
  exact h.withTgh ⟨h.tgh.authority, ⟨satSucc_le ignored, rest⟩, h.tgh.calls, h.tgh.texts⟩

theorem State.LineBounded.takeBeacon (h : s.LineBounded) (bs : List Byte) : (s.takeBeacon bs).LineBounded := by
  unfold State.takeBeacon
  refine State.LineBounded.compareOutdated (h.withTgh ?_)
  exact ⟨h.tgh.authority, h.tgh.counts, h.tgh.calls, h.tgh.texts⟩

theorem State.LineBounded.changeAuthority (h : s.LineBounded) {a : Option Authority}
    (b : ∀ x, a = some x → x.issue < 256 ∧ x.limit ≤ 120000 ∧ x.stretchId.length = 6) :
    (s.changeAuthority a).LineBounded := by
  have changed : State.LineBounded { s with
      tgh := { s.tgh with authority := a }, ssu := { s.ssu with authSide := none } } :=
    ⟨h.pst, ⟨h.ssu.record, h.ssu.list⟩, h.vrl, ⟨b, h.tgh.counts, h.tgh.calls, h.tgh.texts⟩⟩
  exact changed.flush.raise _

theorem State.LineBounded.takeAuthority (h : s.LineBounded) {bs : List Byte} (eleven : bs.length = 11) :
    (s.takeAuthority bs).LineBounded := by
  have stretch : ((bs.drop 5).take 6).length = 6 := by
    rw [List.length_take, List.length_drop, eleven] <;> rfl
  have issue := payloadField_lt bs 0 1
  unfold State.takeAuthority
  dsimp only
  split
  · exact h.formatError
  · split_ifs with far
    · exact h.formatError
    · have accepted (a : Authority) (b : a.issue < 256 ∧ a.limit ≤ 120000 ∧ a.stretchId.length = 6) :
          (s.acceptAuthority a).LineBounded := by
        refine State.LineBounded.changeAuthority (h.withTgh ?_) fun x e => Option.some.inj e ▸ b
        exact ⟨h.tgh.authority, h.tgh.counts, h.tgh.calls, h.tgh.texts⟩
      have accepted (d : Dir) (k : Bool) := accepted
        { issue := payloadField bs 0 1, dir := d, limit := payloadField bs 2 3, stretchId := (bs.drop 5).take 6,
          holdDoors := k } ⟨issue, not_lt.1 far, stretch⟩
      split
      · exact accepted _ _
      · split_ifs
        · exact accepted _ _
        · exact h.ignoreAuthority

theorem State.LineBounded.takeRevoke (h : s.LineBounded) (bs : List Byte) : (s.takeRevoke bs).LineBounded := by
  unfold State.takeRevoke
  split
  · exact h.ignoreAuthority
  · split_ifs
    · exact h.changeAuthority nofun
    · exact h.ignoreAuthority

theorem State.LineBounded.takeRestrictSet (h : s.LineBounded) (bs : List Byte) :
    (s.takeRestrictSet bs).LineBounded := by
  refine ⟨by simpa using h.pst, ?_, by simpa using h.vrl, by simpa using h.tgh⟩
  exact State.restrictionSet_bounded h.ssu (Nat.le_of_lt_succ (payloadField_lt bs 0 1)) _ _ _ _

theorem State.LineBounded.takeRestrictClear (h : s.LineBounded) (bs : List Byte) :
    (s.takeRestrictClear bs).LineBounded := by
  refine ⟨by simpa using h.pst, ?_, by simpa using h.vrl, by simpa using h.tgh⟩
  exact State.restrictionClear_bounded h.ssu _

/-! ### The calls -/

/-- 8.4: the calls, with identities that differ. -/
structure CallsBounded (l : List Call) : Prop where
  few : l.length ≤ 4
  apart : l.Pairwise fun a b => a.ident ≠ b.ident
  entries : ∀ c ∈ l, 1 ≤ c.ident ∧ c.ident ≤ 255 ∧ c.first ≤ c.last ∧ c.last ≤ 120000

theorem Tgh.Bounded.called {g : Tgh} (h : g.Bounded) : CallsBounded g.calls := ⟨h.calls.1, h.calls.2.1, h.calls.2.2⟩

theorem State.LineBounded.setCalls (h : s.LineBounded) {l : List Call} (b : CallsBounded l) (w : Option Severity) :
    (s.setCalls l w).LineBounded := by
  unfold State.setCalls
  split_ifs
  · exact h
  · refine State.LineBounded.raise (h.withTgh ?_) _
    exact ⟨h.tgh.authority, h.tgh.counts, ⟨b.few, b.apart, b.entries⟩, h.tgh.texts⟩

theorem CallsBounded.replace {l : List Call} (h : CallsBounded l) {c : Call}
    (b : 1 ≤ c.ident ∧ c.ident ≤ 255 ∧ c.first ≤ c.last ∧ c.last ≤ 120000) : CallsBounded (replaceCall c l) := by
  have named (x : Call) : (if x.ident = c.ident then c else x).ident = x.ident := by
    split_ifs with same
    exacts [same.symm, rfl]
  refine ⟨by rw [replaceCall, List.length_map]; exact h.few, ?_, fun x m => ?_⟩
  · rw [replaceCall, List.pairwise_map]
    simpa only [named] using h.apart
  · obtain ⟨y, mem, rfl⟩ := List.mem_map.1 m
    split_ifs
    exacts [b, h.entries y mem]

theorem CallsBounded.append {l : List Call} (h : CallsBounded l) {c : Call}
    (b : 1 ≤ c.ident ∧ c.ident ≤ 255 ∧ c.first ≤ c.last ∧ c.last ≤ 120000) (room : l.length < 4)
    (fresh : ∀ x ∈ l, x.ident ≠ c.ident) : CallsBounded (l ++ [c]) := by
  refine ⟨by rw [List.length_append, List.length_singleton]; exact room, ?_, fun x m => ?_⟩
  · exact List.pairwise_append.2 ⟨h.apart, List.pairwise_singleton _ _,
      fun x m y own => List.mem_singleton.1 own ▸ fresh x m⟩
  · rcases List.mem_append.1 m with old | own
    · exact h.entries x old
    · exact List.mem_singleton.1 own ▸ b

theorem State.LineBounded.takeEmergencyCall (h : s.LineBounded) (bs : List Byte) :
    (s.takeEmergencyCall bs).LineBounded := by
  have byte := payloadField_lt bs 0 1
  unfold State.takeEmergencyCall
  dsimp only
  split
  · exact h.formatError
  · next v severity =>
    split_ifs with bad
    · exact h.formatError
    · rw [not_or, not_or] at bad
      obtain ⟨named, inside, order⟩ := bad
      have b : 1 ≤ payloadField bs 0 1 ∧ payloadField bs 0 1 ≤ 255 ∧ payloadField bs 1 3 ≤ payloadField bs 4 3 ∧
          payloadField bs 4 3 ≤ 120000 :=
        ⟨Nat.pos_of_ne_zero named, Nat.le_of_lt_succ byte, not_lt.1 order, not_lt.1 inside⟩
      unfold State.takeCall
      split_ifs with held room
      · exact h.setCalls (h.tgh.called.replace b) _
      · refine h.setCalls (h.tgh.called.append b room fun x m e => held ?_) _
        exact List.any_eq_true.2 ⟨x, m, beq_iff_eq.2 e⟩
      · exact h.setCalls h.tgh.called _

theorem State.LineBounded.takeCallCancel (h : s.LineBounded) (bs : List Byte) :
    (s.takeCallCancel bs).LineBounded := by
  have calls := h.tgh.called
  unfold State.takeCallCancel
  dsimp only
  split_ifs
  · exact h.setCalls ⟨Nat.zero_le _, .nil, fun _ m => (nomatch m)⟩ _
  · exact h.setCalls ⟨(List.length_filter_le _ _).trans calls.few, calls.apart.filter _,
      fun c m => calls.entries c (List.mem_filter.1 m).1⟩ _

/-! ### The profile telegrams -/

theorem State.LineBounded.recordProfile (k : TelegramKind) (o : Option Nat) {a : Answer}
    (h : a.state.LineBounded) : (State.recordProfile k o a).LineBounded := by
  obtain ⟨ignored, silent, foreign, errors, refused, rest⟩ := h.tgh.counts
  refine h.withTgh ⟨h.tgh.authority, ⟨ignored, silent, foreign, errors, ?_, rest⟩, h.tgh.calls, h.tgh.texts⟩
  change (if _ then _ else _) ≤ 255
  split_ifs
  exacts [refused, satSucc_le refused]

theorem State.LineBounded.activateProfile (h : s.LineBounded) (w : Writer) (v : Nat) :
    (s.activateProfile w v).state.LineBounded := by
  unfold State.activateProfile
  split_ifs
  exacts [h, h, h.switchOver, h.congr rfl rfl rfl rfl]

/-! ### The texts -/

theorem State.LineBounded.notifyTexts (h : s.LineBounded) : s.notifyTexts.LineBounded := by
  obtain ⟨few, short, rest⟩ := h.tgh.texts
  refine State.LineBounded.congr (s := { s with tgh := { s.tgh with
    rxTexts := s.tgh.rxTexts.map fun x => { x with notified := true } } }) (h.withTgh ⟨h.tgh.authority, h.tgh.counts,
      h.tgh.calls, by rw [List.length_map]; exact few, fun x m => ?_, rest⟩) rfl rfl rfl rfl
  obtain ⟨y, mem, rfl⟩ := List.mem_map.1 m
  exact short y mem

theorem State.LineBounded.takeText (h : s.LineBounded) {e : Envelope} (short : e.payload.length ≤ 12) :
    (s.takeText e).LineBounded := by
  obtain ⟨few, each, rest⟩ := h.tgh.texts
  have queued (room : s.tgh.rxTexts.length < 8) (x : TextEntry) (fits : x.payload.length ≤ 12) :
      State.LineBounded { s with tgh := { s.tgh with rxTexts := s.tgh.rxTexts ++ [x] } } := by
    refine h.withTgh ⟨h.tgh.authority, h.tgh.counts, h.tgh.calls, ?_, fun y m => ?_, rest⟩
    · rw [List.length_append, List.length_singleton]
      exact room
    · rcases List.mem_append.1 m with old | own
      · exact each y old
      · exact List.mem_singleton.1 own ▸ fits
  unfold State.takeText
  dsimp only
  split_ifs with room waits
  · exact (queued room _ short).notifyTexts
  · exact queued room _ short
  · obtain ⟨ignored, silent, foreign, errors, refused, lost⟩ := h.tgh.counts
    exact h.withTgh ⟨h.tgh.authority, ⟨ignored, silent, foreign, errors, refused, satSucc_le lost⟩, h.tgh.calls,
      h.tgh.texts⟩

/-! ### A delivered telegram -/

/-- R142: an admitted telegram has the length of its kind. -/
theorem State.fate_length {m : Telegram} {k : TelegramKind} (admitted : s.fate m = .admitted k) :
    k.takesLength m.env.payload.length = true := by
  unfold State.fate at admitted
  split_ifs at admitted
  split at admitted
  · cases admitted
  · split_ifs at admitted with _ fits
    obtain rfl := Fate.admitted.inj admitted
    unfold State.fits at fits
    exact (Bool.and_eq_true _ _ ▸ fits).2

theorem State.LineBounded.actOn (h : s.LineBounded) {k : TelegramKind} {e : Envelope}
    (length : k.takesLength e.payload.length = true) : (s.actOn k e).LineBounded := by
  cases k with
  | beacon => exact h.takeBeacon _
  | authority => exact h.takeAuthority (beq_iff_eq.1 length)
  | revoke => exact h.takeRevoke _
  | restrictSet => exact h.takeRestrictSet _
  | restrictClear => exact h.takeRestrictClear _
  | emergencyCall => exact h.takeEmergencyCall _
  | callCancel => exact h.takeCallCancel _
  | profileOpen => exact State.LineBounded.recordProfile _ _ (h.congr (by simp) (by simp) (by simp) (by simp))
  | profileBlock => exact State.LineBounded.recordProfile _ _ (h.congr (by simp) (by simp) (by simp) (by simp))
  | profileClose => exact State.LineBounded.recordProfile _ _ (h.congr (by simp) (by simp) (by simp) (by simp))
  | profileActivate => exact State.LineBounded.recordProfile _ _ (h.activateProfile _ _)
  | text => exact h.takeText (of_decide_eq_true length)
  | positionReport => exact h

theorem State.LineBounded.takeTelegram (h : s.LineBounded) (m : Telegram) : (s.takeTelegram m).LineBounded := by
  unfold State.takeTelegram
  split
  · exact h
  · exact h.foreignTelegram
  · exact h.formatError
  · next k admitted =>
    have length := State.fate_length admitted
    split_ifs
    · exact h.hearValley.actOn length
    · exact h.actOn length

end

end Sys2Proof.Machine
end

section
/-! The bounds of the Valley Radio Line through its events (chapter 7). -/

namespace Sys2Proof.Machine

/-! ### The slot counters -/

/-- R125: the counters of the line. -/
def Vrl.Slotted (v : Vrl) : Prop := v.bit < 192 ∧ v.slot < 16 ∧ v.cycle < 4

theorem Vrl.Slotted.advance {v : Vrl} (h : v.Slotted) : v.advance.Slotted := by
  obtain ⟨bit, slot, cycle⟩ := h
  unfold Vrl.advance
  split_ifs with more last
  · exact ⟨Nat.add_lt_of_lt_sub more, slot, cycle⟩
  · exact ⟨Nat.zero_lt_succ _, Nat.add_lt_of_lt_sub last, cycle⟩
  · exact ⟨Nat.zero_lt_succ _, Nat.zero_lt_succ _, Nat.mod_lt _ (by decide)⟩

theorem Vrl.Bounded.slotted {v : Vrl} (h : v.Bounded) : v.Slotted := h.slots

theorem Vrl.Bounded.advance {v : Vrl} (h : v.Bounded) : v.advance.Bounded := by
  have slots := h.slotted.advance
  unfold Vrl.advance at *
  split_ifs at * <;> exact ⟨slots, h.counts, h.receiver⟩

theorem Vrl.Bounded.advanceBy {v : Vrl} (h : v.Bounded) (n : Nat) : (Vrl.advanceBy n v).Bounded := by
  induction n generalizing v with
  | zero => exact h
  | succ n ih => exact ih h.advance

/-! ### The receiver -/

/-- 7.3, 7.4: a receiver within its bounds. -/
def Receiver.Bounded (r : Receiver) : Prop := r.run ≤ 255 ∧ r.flagLen ≤ 16 ∧ r.Assembling

theorem Vrl.Bounded.rx {v : Vrl} (h : v.Bounded) : v.rx.Bounded := h.receiver

theorem Vrl.Bounded.withRx {v : Vrl} (h : v.Bounded) {r : Receiver} (b : r.Bounded) :
    Vrl.Bounded { v with rx := r } := ⟨h.slots, h.counts, b⟩

theorem Receiver.assembling_hunt {r : Receiver} (h : r.state = .hunt) : r.Assembling :=
  ⟨fun e => (nomatch h.symm.trans e), fun e => (nomatch h.symm.trans e), fun e => (nomatch h.symm.trans e)⟩

theorem Receiver.Bounded.hunt {r : Receiver} (h : r.Bounded) : r.hunt.Bounded :=
  ⟨h.1, Nat.zero_le _, Receiver.assembling_hunt rfl⟩

theorem Receiver.Bounded.gate (r : Receiver) : r.gate.Bounded :=
  ⟨Nat.zero_le _, Nat.zero_le _, Receiver.assembling_hunt rfl⟩

/-- What is counted and timed beside the assembly of a frame. -/
theorem Receiver.Bounded.congr {q r : Receiver} (h : q.Bounded) (run : r.run ≤ 255) (flag : r.flagLen = q.flagLen)
    (state : r.state = q.state) (bits : r.bitCount = q.bitCount) (header : r.header = q.header)
    (payload : r.payload = q.payload) : r.Bounded := by
  obtain ⟨-, len, head, body, check⟩ := h
  refine ⟨run, flag ▸ len, ?_, ?_, ?_⟩
  · rw [state, bits, payload]; exact head
  · rw [state, bits, header, payload]; exact body
  · rw [state, bits, header, payload]; exact check

theorem Receiver.Bounded.huntBit {r : Receiver} (h : r.Bounded) (hunting : r.state = .hunt) (b : Bool) :
    (r.huntBit b).Bounded := by
  obtain ⟨run, -, -⟩ := h
  unfold Receiver.huntBit
  dsimp only
  split_ifs
  · exact ⟨run, Nat.zero_le _, fun _ => ⟨Nat.zero_lt_succ _, rfl⟩, fun e => (nomatch e), fun e => (nomatch e)⟩
  · exact ⟨run, min_le_left _ _, Receiver.assembling_hunt hunting⟩

theorem Receiver.Bounded.payloadBit {r : Receiver} (h : r.Bounded) (taking : r.state = .payload) (b : Bool) :
    (r.payloadBit b).Bounded := by
  obtain ⟨run, flag, assembling⟩ := h
  obtain ⟨short, more, taken⟩ := assembling.payload taking
  have length (x : Byte) : (if (r.bitCount + 1) % 8 = 0 then r.payload ++ [x] else r.payload).length =
      (r.bitCount + 1) / 8 := by
    split_ifs with whole
    · rw [List.length_append, List.length_singleton, taken]
      omega
    · rw [taken]
      omega
  have length := length ((r.acc <<< 1) ||| (BitVec.ofBool b).setWidth 8)
  unfold Receiver.payloadBit
  rw [headerLength_eq]
  dsimp only
  by_cases last : r.bitCount + 1 < 8 * (r.header.toNat % 256)
  · split_ifs at length ⊢
    all_goals
      exact ⟨run, flag, fun e => (nomatch taking.symm.trans e), fun _ => ⟨short, last, length⟩,
        fun e => (nomatch taking.symm.trans e)⟩
  · have whole : (r.bitCount + 1) % 8 = 0 := by omega
    have complete : (r.bitCount + 1) / 8 = r.header.toNat % 256 := by omega
    rw [if_pos whole, complete] at length
    rw [if_pos whole, if_neg last]
    exact ⟨run, flag, fun e => (nomatch e), fun e => (nomatch e), fun _ => ⟨length, length.trans_le short,
      Nat.zero_lt_succ _⟩⟩

section
variable {s : State}

theorem State.LineBounded.withRx (h : s.LineBounded) {r : Receiver} (b : r.Bounded) :
    State.LineBounded { s with vrl := { s.vrl with rx := r } } := h.withVrl (h.vrl.withRx b)

theorem State.LineBounded.noiseBit (h : s.LineBounded) : s.noiseBit.LineBounded := by
  obtain ⟨missed, resync, aborts, rest⟩ := h.vrl.counts
  refine h.withVrl ⟨h.vrl.slots, ⟨missed, resync, ?_, rest⟩, Nat.zero_le _, Nat.zero_le _,
    Receiver.assembling_hunt rfl⟩
  change (if _ then _ else _) ≤ 65535
  split_ifs
  exacts [satSucc_le aborts, aborts]

theorem State.LineBounded.headerBit (h : s.LineBounded) (heading : s.vrl.rx.state = .header) (b : Bool) :
    (s.headerBit b).LineBounded := by
  obtain ⟨run, flag, assembling⟩ := h.vrl.rx
  obtain ⟨-, empty⟩ := assembling.header heading
  unfold State.headerBit
  dsimp only
  generalize s.vrl.rx.header <<< 1 ||| (BitVec.ofBool b).setWidth 24 = x
  split_ifs with more far none
  · exact h.withRx ⟨run, flag, fun _ => ⟨more, empty⟩, fun e => (nomatch heading.symm.trans e),
      fun e => (nomatch heading.symm.trans e)⟩
  · obtain ⟨missed, resync, aborts, lengths, rest⟩ := h.vrl.counts
    exact h.withVrl ⟨h.vrl.slots, ⟨missed, resync, aborts, satSucc_le lengths, rest⟩, run, Nat.zero_le _,
      Receiver.assembling_hunt rfl⟩
  · rw [headerLength_eq] at none
    refine h.withRx ⟨run, flag, fun e => (nomatch e), fun e => (nomatch e), fun _ => ⟨?_, ?_, Nat.zero_lt_succ _⟩⟩
    · exact (congrArg List.length empty).trans none.symm
    · exact (congrArg List.length empty).trans_le (Nat.zero_le _)
  · rw [headerLength_eq] at far none
    exact h.withRx ⟨run, flag, fun e => (nomatch e), fun _ => ⟨not_lt.1 far, by
      change 0 < 8 * (x.toNat % 256); omega, (congrArg List.length empty).trans (Nat.zero_div 8).symm⟩,
      fun e => (nomatch e)⟩

/-! ### Slots -/

theorem State.LineBounded.setSync (h : s.LineBounded) (y : Sync) : (s.setSync y).LineBounded := by
  unfold State.setSync
  split_ifs
  · exact h
  · refine State.LineBounded.raise (h.withVrl ?_) _
    exact ⟨h.vrl.slots, h.vrl.counts, h.vrl.receiver⟩

theorem State.LineBounded.missedTest (h : s.LineBounded) : s.missedTest.LineBounded := by
  obtain ⟨missed, rest⟩ := h.vrl.counts
  unfold State.missedTest
  split_ifs
  · exact h
  · refine State.LineBounded.setSync (h.withVrl ?_) _
    exact ⟨h.vrl.slots, ⟨satSucc_le missed, rest⟩, h.vrl.receiver⟩

theorem State.LineBounded.slotZero (h : s.LineBounded) : s.slotZero.LineBounded := by
  unfold State.slotZero
  refine State.LineBounded.silentCycle (h.withVrl ?_)
  exact ⟨h.vrl.slots, h.vrl.counts, h.vrl.receiver⟩

theorem State.slotTelegram_kept (s : State) : s.slotTelegram.2.2.length ≤ s.tgh.txTexts.length ∧
    ∀ x ∈ s.slotTelegram.2.2, x ∈ s.tgh.txTexts := by
  rw [State.slotTelegram_texts]
  split_ifs
  · exact ⟨by rw [List.length_tail]; exact Nat.sub_le _ _, fun x => List.mem_of_mem_tail⟩
  · exact ⟨le_refl _, fun x m => m⟩

theorem State.LineBounded.ownSlot (h : s.LineBounded) : s.ownSlot.LineBounded := by
  obtain ⟨rxFew, rxShort, few, short⟩ := h.tgh.texts
  obtain ⟨missed, resync, aborts, rest⟩ := h.vrl.counts
  unfold State.ownSlot
  split_ifs
  · refine ⟨h.pst, h.ssu, ⟨h.vrl.slots, ⟨missed, resync, ?_, rest⟩, Receiver.Bounded.gate _⟩,
      ⟨h.tgh.authority, h.tgh.counts, h.tgh.calls, rxFew, rxShort, s.slotTelegram_kept.1.trans few,
        fun x m => short x (s.slotTelegram_kept.2 x m)⟩⟩
    change (if _ then _ else _) ≤ 65535
    split_ifs
    exacts [satSucc_le aborts, aborts]
  · exact h

theorem State.LineBounded.slotEvents (h : s.LineBounded) : s.slotEvents.LineBounded := by
  have placed : State.LineBounded
      (if s.vrl.slot = 0 then s.slotZero else if s.vrl.slot = 1 then s.missedTest else s) := by
    split_ifs
    exacts [h.slotZero, h.missedTest, h]
  unfold State.slotEvents
  dsimp only
  generalize (if s.vrl.slot = 0 then s.slotZero else if s.vrl.slot = 1 then s.missedTest else s) = x at *
  split
  · exact h
  · split
    · exact placed.ownSlot
    · exact placed

theorem State.LineBounded.endTransmission (h : s.LineBounded) : s.endTransmission.LineBounded := by
  obtain ⟨missed, resync, aborts, lengths, crcs, received, -⟩ := h.vrl.counts
  exact h.withVrl ⟨h.vrl.slots, ⟨missed, resync, aborts, lengths, crcs, received, wrapSucc_lt (by decide) _⟩,
    h.vrl.rx.congr h.vrl.rx.1 rfl rfl rfl rfl rfl⟩

theorem State.LineBounded.arrive (h : s.LineBounded) : s.arrive.LineBounded := by
  have shifted : s.shiftTx.LineBounded := by
    unfold State.shiftTx
    dsimp only
    split
    · exact h
    · split
      · exact h.endTransmission
      · exact h.withVrl ⟨h.vrl.slots, h.vrl.counts, h.vrl.receiver⟩
  exact shifted.slotEvents

/-! ### Telegrams and bits -/

theorem State.LineBounded.takeSync (h : s.LineBounded) : s.takeSync.LineBounded := by
  obtain ⟨missed, resync, rest⟩ := h.vrl.counts
  unfold State.takeSync
  dsimp only
  refine State.LineBounded.setSync (h.withVrl ?_) _
  refine ⟨⟨show 112 < 192 by decide, Nat.zero_lt_succ _, ?_⟩, ⟨Nat.zero_le _, ?_, rest⟩, h.vrl.receiver⟩
  · change (if _ then _ else _) < 4
    split_ifs
    exacts [Nat.mod_lt _ (by decide), h.vrl.slots.2.2]
  · change (if _ then _ else _) ≤ 255
    split_ifs
    exacts [satSucc_le resync, resync]

theorem State.LineBounded.deliver (h : s.LineBounded) (m : Telegram) : (s.deliver m).LineBounded := by
  obtain ⟨missed, resync, aborts, lengths, crcs, received, transmitted⟩ := h.vrl.counts
  have counted : State.LineBounded { s with vrl := { s.vrl with
      received := wrapSucc 65536 s.vrl.received, rx := s.vrl.rx.hunt } } :=
    h.withVrl ⟨h.vrl.slots, ⟨missed, resync, aborts, lengths, crcs, wrapSucc_lt (by decide) _, transmitted⟩,
      h.vrl.rx.hunt⟩
  unfold State.deliver
  dsimp only
  refine State.LineBounded.takeTelegram ?_ m
  split_ifs
  exacts [counted.takeSync, counted]

theorem State.LineBounded.checkBit (h : s.LineBounded) (checking : s.vrl.rx.state = .check) (b : Bool) :
    (s.checkBit b).LineBounded := by
  obtain ⟨run, flag, assembling⟩ := h.vrl.rx
  obtain ⟨whole, short, -⟩ := assembling.check checking
  unfold State.checkBit
  dsimp only
  split_ifs with more good
  · exact h.withRx ⟨run, flag, fun e => (nomatch checking.symm.trans e), fun e => (nomatch checking.symm.trans e),
      fun _ => ⟨whole, short, more⟩⟩
  · refine State.LineBounded.deliver (h.withRx ?_) _
    exact ⟨run, Nat.zero_le _, Receiver.assembling_hunt rfl⟩
  · obtain ⟨missed, resync, aborts, lengths, crcs, rest⟩ := h.vrl.counts
    exact h.withVrl ⟨h.vrl.slots, ⟨missed, resync, aborts, lengths, satSucc_le crcs, rest⟩, run, Nat.zero_le _,
      Receiver.assembling_hunt rfl⟩

theorem State.LineBounded.takeBit (h : s.LineBounded) (b : Option Bool) : (s.takeBit b).LineBounded := by
  cases b with
  | none => exact h.noiseBit
  | some b =>
    have counted : State.LineBounded { s with vrl := { s.vrl with rx := s.vrl.rx.countRun } } :=
      h.withRx (h.vrl.rx.congr (satSucc_le h.vrl.rx.1) rfl rfl rfl rfl rfl)
    unfold State.takeBit
    dsimp only
    split
    · next hunting => exact counted.withRx (counted.vrl.rx.huntBit hunting b)
    · next heading => exact counted.headerBit heading b
    · next taking => exact counted.withRx (counted.vrl.rx.payloadBit taking b)
    · next checking => exact counted.checkBit checking b

theorem State.LineBounded.decideBit (h : s.LineBounded) (n : Nat) : (s.decideBit n).LineBounded := by
  unfold State.decideBit
  refine State.LineBounded.takeBit (h.withRx ?_) _
  exact h.vrl.rx.congr h.vrl.rx.1 rfl rfl rfl rfl rfl

theorem State.LineBounded.rephase (h : s.LineBounded) (n : Nat) (b : Bool) : (s.rephase n b).LineBounded := by
  have settled : (s.settleBit n).LineBounded := by
    unfold State.settleBit
    split_ifs
    · exact h.decideBit _
    · exact h.withRx (h.vrl.rx.congr h.vrl.rx.1 rfl rfl rfl rfl rfl)
  exact settled.withRx (settled.vrl.rx.congr settled.vrl.rx.1 rfl rfl rfl rfl rfl)

theorem State.LineBounded.halfPeriod (h : s.LineBounded) (n : Nat) (t : Tone) : (s.halfPeriod n t).LineBounded := by
  have counts {x : State} (k : x.LineBounded) (t : Tone) :
      State.LineBounded { x with vrl := { x.vrl with rx := x.vrl.rx.countTone t } } :=
    k.withRx (by cases t <;> exact k.vrl.rx.congr k.vrl.rx.1 rfl rfl rfl rfl rfl)
  unfold State.halfPeriod
  dsimp only
  refine counts ?_ t
  split
  · split_ifs
    exacts [h, h.rephase n _]
  · split_ifs
    exacts [h, h.rephase n _]
  · exact h

theorem State.LineBounded.comparator (h : s.LineBounded) (n : Nat) : (s.comparator n).LineBounded := by
  have noted : State.LineBounded { s with vrl := { s.vrl with rx := { s.vrl.rx with lastEdge := some n } } } :=
    h.withRx (h.vrl.rx.congr h.vrl.rx.1 rfl rfl rfl rfl rfl)
  unfold State.comparator
  dsimp only
  split_ifs
  · exact h
  · split
    · exact noted
    · exact noted.halfPeriod _ _

theorem State.LineBounded.dropFrame (h : s.LineBounded) (c : DropCause) : (s.dropFrame c).LineBounded := by
  obtain ⟨missed, resync, aborts, lengths, crcs, rest⟩ := h.vrl.counts
  cases c with
  | lengthError =>
    exact h.withVrl ⟨h.vrl.slots, ⟨missed, resync, aborts, satSucc_le lengths, crcs, rest⟩, h.vrl.rx.hunt⟩
  | crcError =>
    exact h.withVrl ⟨h.vrl.slots, ⟨missed, resync, aborts, lengths, satSucc_le crcs, rest⟩, h.vrl.rx.hunt⟩
  | noise =>
    exact h.withVrl ⟨h.vrl.slots, ⟨missed, resync, satSucc_le aborts, lengths, crcs, rest⟩, Nat.zero_le _,
      Nat.zero_le _, Receiver.assembling_hunt rfl⟩

end

end Sys2Proof.Machine
end

section
/-! The bounds of the ports: commands only raise notices, and the transactions keep the pointer and the counts
(chapter 9). -/

namespace Sys2Proof.Machine

/-- R162, R167, R172: what `State.Bounded` bounds of a port. -/
def PortState.counts (q : PortState) : Nat × Nat × Nat × Nat := (q.pointer, q.seq, q.refused, q.frameErrors)

def Pif.counts (f : Pif) : (Nat × Nat × Nat × Nat) × (Nat × Nat × Nat × Nat) × (Nat × Nat × Nat × Nat) :=
  (f.u.counts, f.l.counts, f.c.counts)

theorem Pif.Bounded.of_counts {f g : Pif} (h : f.Bounded) (same : g.counts = f.counts) : g.Bounded := by
  simp only [Pif.counts, PortState.counts, Prod.mk.injEq] at same
  obtain ⟨⟨u₁, u₂, u₃, u₄⟩, ⟨l₁, l₂, l₃, l₄⟩, c₁, c₂, c₃, c₄⟩ := same
  refine ⟨?_, ?_, ?_⟩
  · rw [PortState.Bounded, u₁, u₂, u₃, u₄]; exact h.u
  · rw [PortState.Bounded, l₁, l₂, l₃, l₄]; exact h.l
  · rw [PortState.Bounded, c₁, c₂, c₃, c₄]; exact h.c

theorem PortState.Told.counts {q r : PortState} (h : q.Told r) : r.counts = q.counts :=
  show r.rest.counts = q.rest.counts from congrArg _ h.1

theorem Pif.Told.counts {f g : Pif} (h : f.Told g) : g.counts = f.counts := by
  obtain ⟨u, l, c, -⟩ := h
  rw [Pif.counts, u.counts, l.counts, c.counts, Pif.counts]

@[simp] theorem State.raise_counts (k : Notice) (s : State) : (s.raise k).pif.counts = s.pif.counts := rfl

@[simp] theorem State.raiseIf_counts (c : Bool) (k : Notice) (s : State) :
    (s.raiseIf c k).pif.counts = s.pif.counts := by
  unfold State.raiseIf
  split_ifs <;> rfl

@[simp] theorem State.raiseOn_counts (p : Port) (k : Notice) (s : State) :
    (s.raiseOn p k).pif.counts = s.pif.counts := by
  cases p <;> rfl

@[simp] theorem State.setPosition_counts (p : Position) (s : State) :
    (State.setPosition p s).pif.counts = s.pif.counts := by
  unfold State.setPosition; dsimp only; (repeat' split) <;> simp

@[simp] theorem State.setBounds_counts (lo hi : Int) (s : State) :
    (State.setBounds lo hi s).pif.counts = s.pif.counts := by
  unfold State.setBounds; dsimp only; (repeat' split) <;> simp

@[simp] theorem State.updateInterval_counts (u : Used) (s : State) :
    (State.updateInterval u s).pif.counts = s.pif.counts := by
  unfold State.updateInterval; dsimp only; simp

@[simp] theorem State.setHealth_counts (o : Odu) (s : State) :
    (State.setHealth o s).pif.counts = s.pif.counts := by
  unfold State.setHealth; simp

@[simp] theorem State.medianCheck_counts (s : State) :
    (State.medianCheck s).pif.counts = s.pif.counts := by
  unfold State.medianCheck; dsimp only; (repeat' split) <;> simp

@[simp] theorem State.illegalCheck_counts (s : State) :
    (State.illegalCheck s).pif.counts = s.pif.counts := by
  unfold State.illegalCheck; dsimp only; simp

@[simp] theorem State.sourceTest_counts (s : State) :
    (State.sourceTest s).pif.counts = s.pif.counts := by
  unfold State.sourceTest; (repeat' split) <;> simp

@[simp] theorem State.samplePosition_counts (s : State) :
    (State.samplePosition s).pif.counts = s.pif.counts := by
  unfold State.samplePosition; dsimp only; simp

@[simp] theorem State.sampleHealth_counts (s : State) :
    (State.sampleHealth s).pif.counts = s.pif.counts := by
  unfold State.sampleHealth; simp

@[simp] theorem State.sample_counts (s : State) :
    (State.sample s).pif.counts = s.pif.counts := by
  unfold State.sample; simp

@[simp] theorem State.acceptMarker_counts (ident : Nat) (iv : Int × Int) (s : State) :
    (State.acceptMarker ident iv s).pif.counts = s.pif.counts := by
  unfold State.acceptMarker; dsimp only; simp

@[simp] theorem State.useMarker_counts (k : Marker) (s : State) :
    (State.useMarker k s).pif.counts = s.pif.counts := by
  unfold State.useMarker; dsimp only; (repeat' split) <;> simp

@[simp] theorem State.lookupMarker_counts (ident : Nat) (s : State) :
    (State.lookupMarker ident s).pif.counts = s.pif.counts := by
  unfold State.lookupMarker; dsimp only; (repeat' split) <;> simp

@[simp] theorem State.completeRead_counts (ident check : Nat) (s : State) :
    (State.completeRead ident check s).pif.counts = s.pif.counts := by
  unfold State.completeRead; dsimp only; (repeat' split) <;> simp

@[simp] theorem State.appendBit_counts (r : Reader) (time : Nat) (s : State) :
    (State.appendBit r time s).pif.counts = s.pif.counts := by
  unfold State.appendBit; dsimp only; (repeat' split) <;> simp

@[simp] theorem State.readerEdge_counts (r : Reader) (level : Bool) (time : Nat) (s : State) :
    (State.readerEdge r level time s).pif.counts = s.pif.counts := by
  unfold State.readerEdge; dsimp only; (repeat' split) <;> simp

@[simp] theorem State.capture_counts (level : Bool) (time : Nat) (s : State) :
    (State.capture level time s).pif.counts = s.pif.counts := by
  unfold State.capture; dsimp only; simp

@[simp] theorem State.markerRead_counts (ident : BitVec 12) (check : BitVec 4) (s : State) :
    (State.markerRead ident check s).pif.counts = s.pif.counts := by
  unfold State.markerRead; dsimp only; simp

@[simp] theorem State.restored_counts (pos unc : Nat) (s : State) :
    (State.restored pos unc s).pif.counts = s.pif.counts := by
  unfold State.restored; simp

@[simp] theorem State.abortRadioLoad_counts (s : State) :
    (State.abortRadioLoad s).pif.counts = s.pif.counts := by
  unfold State.abortRadioLoad; (repeat' split) <;> simp

@[simp] theorem State.checkStep_counts (s : State) :
    (State.checkStep s).pif.counts = s.pif.counts := by
  unfold State.checkStep; dsimp only; (repeat' split) <;> simp

@[simp] theorem State.compareOutdated_counts (s : State) :
    (State.compareOutdated s).pif.counts = s.pif.counts := by
  unfold State.compareOutdated; dsimp only; (repeat' split) <;> simp

@[simp] theorem State.switchOver_counts (s : State) :
    (State.switchOver s).pif.counts = s.pif.counts := by
  unfold State.switchOver; simp

@[simp] theorem State.scrubStep_counts (s : State) :
    (State.scrubStep s).pif.counts = s.pif.counts := by
  unfold State.scrubStep; dsimp only; (repeat' split) <;> simp

@[simp] theorem State.setMode_counts (m : Mode) (s : State) :
    (State.setMode m s).pif.counts = s.pif.counts := by
  unfold State.setMode; dsimp only; simp

@[simp] theorem State.changeRestrictions_counts (l : List Restriction) (cap : Option Nat) (s : State) :
    (State.changeRestrictions l cap s).pif.counts = s.pif.counts := by
  unfold State.changeRestrictions; dsimp only; simp

@[simp] theorem State.restrictionSet_counts (ident first last speed : Nat) (applies : Option Applies) (s : State) :
    (State.restrictionSet ident first last speed applies s).pif.counts = s.pif.counts := by
  unfold State.restrictionSet; dsimp only; (repeat' split) <;> simp

@[simp] theorem State.restrictionClear_counts (ident : Nat) (s : State) :
    (State.restrictionClear ident s).pif.counts = s.pif.counts := by
  unfold State.restrictionClear; dsimp only; (repeat' split) <;> simp

@[simp] theorem State.takeComputed_counts (c : Computed) (s : State) :
    (State.takeComputed c s).pif.counts = s.pif.counts := by
  unfold State.takeComputed; dsimp only; simp

@[simp] theorem State.steepNotice_counts (s : State) :
    (State.steepNotice s).pif.counts = s.pif.counts := by
  unfold State.steepNotice; dsimp only; (repeat' split) <;> simp

@[simp] theorem State.overrunTest_counts (s : State) :
    (State.overrunTest s).pif.counts = s.pif.counts := by
  unfold State.overrunTest; dsimp only; (repeat' split) <;> simp

@[simp] theorem State.cycleNone_counts (s : State) :
    (State.cycleNone s).pif.counts = s.pif.counts := by
  unfold State.cycleNone; dsimp only; simp

@[simp] theorem State.cycle_counts (s : State) :
    (State.cycle s).pif.counts = s.pif.counts := by
  unfold State.cycle; dsimp only; (repeat' split) <;> simp

@[simp] theorem State.measure_counts (s : State) :
    (State.measure s).pif.counts = s.pif.counts := by
  unfold State.measure; dsimp only; simp

@[simp] theorem State.clearFriction_counts (s : State) :
    (State.clearFriction s).pif.counts = s.pif.counts := by
  unfold State.clearFriction; dsimp only; (repeat' split) <;> simp

@[simp] theorem State.retarget_counts (s : State) :
    (State.retarget s).pif.counts = s.pif.counts := by
  unfold State.retarget; dsimp only; simp

@[simp] theorem State.testProving_counts (s : State) :
    (State.testProving s).pif.counts = s.pif.counts := by
  simp

@[simp] theorem State.setLatch_counts (why : LatchCause) (s : State) :
    (s.setLatch why).pif.counts = s.pif.counts := by
  unfold State.setLatch
  split_ifs <;> rfl

@[simp] theorem State.pinionFails_counts (b : Bogie) (s : State) :
    (State.pinionFails b s).pif.counts = s.pif.counts := by
  unfold State.pinionFails; dsimp only; (repeat' split) <;> simp

@[simp] theorem State.reprove_counts (i : Bogie) (s : State) :
    (State.reprove i s).pif.counts = s.pif.counts := by
  unfold State.reprove; dsimp only; (repeat' split) <;> simp

@[simp] theorem State.openLoop_counts (s : State) :
    (State.openLoop s).pif.counts = s.pif.counts := by
  unfold State.openLoop; dsimp only; simp

@[simp] theorem State.stall_counts (s : State) :
    (State.stall s).pif.counts = s.pif.counts := by
  unfold State.stall; dsimp only; (repeat' split) <;> simp

@[simp] theorem State.doorFault_counts (i : DoorId) (why : DoorFault) (s : State) :
    (State.doorFault i why s).pif.counts = s.pif.counts := by
  unfold State.doorFault; simp

@[simp] theorem State.countedReversal_counts (i : DoorId) (s : State) :
    (State.countedReversal i s).pif.counts = s.pif.counts := by
  unfold State.countedReversal; dsimp only; (repeat' split) <;> simp

@[simp] theorem State.startClosing_counts (i : DoorId) (s : State) :
    (State.startClosing i s).pif.counts = s.pif.counts := by
  unfold State.startClosing; dsimp only; (repeat' split) <;> simp

@[simp] theorem State.grant_counts (i : CarSide) (desk : Desk) (s : State) :
    (State.grant i desk s).pif.counts = s.pif.counts := by
  unfold State.grant; dsimp only; simp

@[simp] theorem State.withdraw_counts (i : CarSide) (why : WithdrawCause) (s : State) :
    (State.withdraw i why s).pif.counts = s.pif.counts := by
  unfold State.withdraw; dsimp only; simp

@[simp] theorem State.withdrawIfGranted_counts (i : CarSide) (why : WithdrawCause) (s : State) :
    (State.withdrawIfGranted i why s).pif.counts = s.pif.counts := by
  unfold State.withdrawIfGranted; (repeat' split) <;> simp

@[simp] theorem State.lkSet_counts (i : DoorId) (s : State) :
    (State.lkSet i s).pif.counts = s.pif.counts := by
  unfold State.lkSet; dsimp only; (repeat' split) <;> simp

@[simp] theorem State.lkCleared_counts (i : DoorId) (s : State) :
    (State.lkCleared i s).pif.counts = s.pif.counts := by
  unfold State.lkCleared; dsimp only; (repeat' split) <;> simp

@[simp] theorem State.opSet_counts (i : DoorId) (s : State) :
    (State.opSet i s).pif.counts = s.pif.counts := by
  unfold State.opSet; dsimp only; (repeat' split) <;> simp

@[simp] theorem State.edLevel_counts (i : DoorId) (active : Bool) (s : State) :
    (State.edLevel i active s).pif.counts = s.pif.counts := by
  unfold State.edLevel; dsimp only; (repeat' split) <;> simp

@[simp] theorem State.toService_counts (i : DoorId) (s : State) :
    (State.toService i s).pif.counts = s.pif.counts := by
  unfold State.toService; dsimp only; (repeat' split) <;> simp

@[simp] theorem State.goStale_counts (d : Desk) (s : State) :
    (State.goStale d s).pif.counts = s.pif.counts := by
  unfold State.goStale; dsimp only; simp

@[simp] theorem State.activateDesk_counts (d : Desk) (s : State) :
    (State.activateDesk d s).pif.counts = s.pif.counts := by
  unfold State.activateDesk; dsimp only; simp

@[simp] theorem State.deactivateDesk_counts (s : State) :
    (State.deactivateDesk s).pif.counts = s.pif.counts := by
  unfold State.deactivateDesk; dsimp only; simp

@[simp] theorem State.orphaned_counts (s : State) :
    (State.orphaned s).pif.counts = s.pif.counts := by
  unfold State.orphaned; simp

@[simp] theorem State.setLink_counts (l : Link) (s : State) :
    (State.setLink l s).pif.counts = s.pif.counts := by
  unfold State.setLink; dsimp only; (repeat' split) <;> simp

@[simp] theorem State.evaluateLink_counts (s : State) :
    (State.evaluateLink s).pif.counts = s.pif.counts := by
  unfold State.evaluateLink; dsimp only; simp

@[simp] theorem State.hearValley_counts (s : State) :
    (State.hearValley s).pif.counts = s.pif.counts := by
  unfold State.hearValley; dsimp only; simp

@[simp] theorem State.silentCycle_counts (s : State) :
    (State.silentCycle s).pif.counts = s.pif.counts := by
  unfold State.silentCycle; dsimp only; simp

@[simp] theorem State.takeBeacon_counts (bs : List Byte) (s : State) :
    (State.takeBeacon bs s).pif.counts = s.pif.counts := by
  unfold State.takeBeacon; dsimp only; simp

@[simp] theorem State.changeAuthority_counts (a : Option Authority) (s : State) :
    (State.changeAuthority a s).pif.counts = s.pif.counts := by
  unfold State.changeAuthority; dsimp only; simp

@[simp] theorem State.acceptAuthority_counts (a : Authority) (s : State) :
    (State.acceptAuthority a s).pif.counts = s.pif.counts := by
  unfold State.acceptAuthority; dsimp only; simp

@[simp] theorem State.takeAuthority_counts (bs : List Byte) (s : State) :
    (State.takeAuthority bs s).pif.counts = s.pif.counts := by
  unfold State.takeAuthority; dsimp only; (repeat' split) <;> simp

@[simp] theorem State.takeRevoke_counts (bs : List Byte) (s : State) :
    (State.takeRevoke bs s).pif.counts = s.pif.counts := by
  unfold State.takeRevoke; (repeat' split) <;> simp

@[simp] theorem State.takeRestrictSet_counts (bs : List Byte) (s : State) :
    (State.takeRestrictSet bs s).pif.counts = s.pif.counts := by
  unfold State.takeRestrictSet; simp

@[simp] theorem State.takeRestrictClear_counts (bs : List Byte) (s : State) :
    (State.takeRestrictClear bs s).pif.counts = s.pif.counts := by
  unfold State.takeRestrictClear; simp

@[simp] theorem State.setCalls_counts (l : List Call) (w : Option Severity) (s : State) :
    (State.setCalls l w s).pif.counts = s.pif.counts := by
  unfold State.setCalls; dsimp only; (repeat' split) <;> simp

@[simp] theorem State.takeCall_counts (c : Call) (s : State) :
    (State.takeCall c s).pif.counts = s.pif.counts := by
  unfold State.takeCall; (repeat' split) <;> simp

@[simp] theorem State.takeEmergencyCall_counts (bs : List Byte) (s : State) :
    (State.takeEmergencyCall bs s).pif.counts = s.pif.counts := by
  unfold State.takeEmergencyCall; dsimp only; (repeat' split) <;> simp

@[simp] theorem State.takeCallCancel_counts (bs : List Byte) (s : State) :
    (State.takeCallCancel bs s).pif.counts = s.pif.counts := by
  unfold State.takeCallCancel; dsimp only; (repeat' split) <;> simp

@[simp] theorem State.notifyTexts_counts (s : State) :
    (State.notifyTexts s).pif.counts = s.pif.counts := by
  unfold State.notifyTexts; dsimp only; simp

@[simp] theorem State.takeText_counts (e : Envelope) (s : State) :
    (State.takeText e s).pif.counts = s.pif.counts := by
  unfold State.takeText; dsimp only; (repeat' split) <;> simp

@[simp] theorem State.testWaiting_counts (s : State) :
    (State.testWaiting s).pif.counts = s.pif.counts := by
  unfold State.testWaiting; (repeat' split) <;> simp

section
variable (s : State)

@[simp] theorem State.openProfile_counts (w : Writer) (v n : Nat) :
    (s.openProfile w v n).state.pif.counts = s.pif.counts := by
  unfold State.openProfile
  split_ifs <;> rfl

@[simp] theorem State.radioBlock_counts (n : Nat) (bs : List Byte) :
    (s.radioBlock n bs).state.pif.counts = s.pif.counts := by
  unfold State.radioBlock
  (repeat' split) <;> rfl

@[simp] theorem State.closeProfile_counts (w : Writer) (v : Nat) (c : BitVec 32) :
    (s.closeProfile w v c).state.pif.counts = s.pif.counts := by
  unfold State.closeProfile
  split
  · rfl
  · split_ifs
    exacts [rfl, rfl, rfl, State.raiseIf_counts _ _ _]

@[simp] theorem State.abortProfile_counts : s.abortProfile.state.pif.counts = s.pif.counts := by
  unfold State.abortProfile
  split_ifs
  exacts [rfl, State.raiseIf_counts _ _ _]

@[simp] theorem State.activateProfile_counts (w : Writer) (v : Nat) :
    (s.activateProfile w v).state.pif.counts = s.pif.counts := by
  unfold State.activateProfile
  split_ifs
  exacts [rfl, rfl, s.switchOver_counts, rfl]

@[simp] theorem State.recordProfile_counts (k : TelegramKind) (offset : Option Nat) (a : Answer) :
    (State.recordProfile k offset a).pif.counts = a.state.pif.counts := rfl

end

@[simp] theorem State.actOn_counts (k : TelegramKind) (e : Envelope) (s : State) :
    (State.actOn k e s).pif.counts = s.pif.counts := by
  cases k with
  | profileOpen => exact s.openProfile_counts _ _ _
  | profileBlock => exact s.radioBlock_counts _ _
  | profileClose => exact s.closeProfile_counts _ _ _
  | profileActivate => exact s.activateProfile_counts _ _
  | _ => simp [State.actOn]

@[simp] theorem State.takeTelegram_counts (t : Telegram) (s : State) :
    (State.takeTelegram t s).pif.counts = s.pif.counts := by
  unfold State.takeTelegram; (repeat' split) <;> simp

@[simp] theorem State.setSync_counts (y : Sync) (s : State) :
    (State.setSync y s).pif.counts = s.pif.counts := by
  unfold State.setSync; dsimp only; (repeat' split) <;> simp

@[simp] theorem State.missedTest_counts (s : State) :
    (State.missedTest s).pif.counts = s.pif.counts := by
  unfold State.missedTest; dsimp only; (repeat' split) <;> simp

@[simp] theorem State.slotZero_counts (s : State) :
    (State.slotZero s).pif.counts = s.pif.counts := by
  unfold State.slotZero; dsimp only; simp

@[simp] theorem State.slotEvents_counts (s : State) :
    (State.slotEvents s).pif.counts = s.pif.counts := by
  unfold State.slotEvents; dsimp only; (repeat' split) <;> simp

@[simp] theorem State.arrive_counts (s : State) :
    (State.arrive s).pif.counts = s.pif.counts := by
  unfold State.arrive; simp

@[simp] theorem State.takeSync_counts (s : State) :
    (State.takeSync s).pif.counts = s.pif.counts := by
  unfold State.takeSync; dsimp only; (repeat' split) <;> simp

@[simp] theorem State.deliver_counts (t : Telegram) (s : State) :
    (State.deliver t s).pif.counts = s.pif.counts := by
  unfold State.deliver; dsimp only; (repeat' split) <;> simp

@[simp] theorem State.checkBit_counts (b : Bool) (s : State) :
    (State.checkBit b s).pif.counts = s.pif.counts := by
  unfold State.checkBit; dsimp only; (repeat' split) <;> simp

@[simp] theorem State.takeBit_counts (b : Option Bool) (s : State) :
    (State.takeBit b s).pif.counts = s.pif.counts := by
  unfold State.takeBit; dsimp only; (repeat' split) <;> simp

@[simp] theorem State.decideBit_counts (time : Nat) (s : State) :
    (State.decideBit time s).pif.counts = s.pif.counts := by
  unfold State.decideBit; dsimp only; simp

@[simp] theorem State.settleBit_counts (start : Nat) (s : State) :
    (State.settleBit start s).pif.counts = s.pif.counts := by
  unfold State.settleBit; dsimp only; (repeat' split) <;> simp

@[simp] theorem State.rephase_counts (start : Nat) (tone : Bool) (s : State) :
    (State.rephase start tone s).pif.counts = s.pif.counts := by
  unfold State.rephase; dsimp only; simp

@[simp] theorem State.halfPeriod_counts (start : Nat) (tone : Tone) (s : State) :
    (State.halfPeriod start tone s).pif.counts = s.pif.counts := by
  unfold State.halfPeriod; dsimp only; (repeat' split) <;> simp

@[simp] theorem State.comparator_counts (time : Nat) (s : State) :
    (State.comparator time s).pif.counts = s.pif.counts := by
  unfold State.comparator; dsimp only; (repeat' split) <;> simp
/-! ### The ports through every event -/

theorem State.finish_counts (s : State) : s.finish.pif.counts = s.pif.counts := s.finish_handedOn.pif.counts

theorem State.switchStanding_counts (w : DirSwitch) (s : State) :
    (s.switchStanding w).pif.counts = s.pif.counts := by
  unfold State.switchStanding
  dsimp only
  split_ifs
  · rw [State.finish_counts]
  · rfl

theorem State.takeSwitch_counts (d : Desk) (w : DirSwitch) (s : State) :
    (s.takeSwitch d w).pif.counts = s.pif.counts := by
  unfold State.takeSwitch
  split_ifs
  exacts [rfl, s.switchStanding_counts w, rfl]

theorem State.takeCab_counts (d : Desk) (w : CabWords) (s : State) :
    (s.takeCab d w).pif.counts = s.pif.counts := by
  unfold State.takeCab
  dsimp only
  split_ifs
  · exact State.takeSwitch_counts _ _ _
  · rfl

/-- No command that is handed on does more to a port than raise notices. -/
theorem State.Works.pif_counts {s t : State} (h : s.Works t) : t.pif.counts = s.pif.counts := by
  cases h with
  | takesCab d w => exact s.takeCab_counts d w
  | _ => simp

theorem State.Aside.pif_bounded {s t : State} (h : s.Aside t) (b : s.pif.Bounded) : t.pif.Bounded := by
  induction h with
  | refl => exact b
  | trans _ _ first second => exact second (first b)
  | loads s p a =>
    obtain ⟨-, rest⟩ := b.port p
    refine Pif.Bounded.setPort b ?_ p
    exact ⟨Nat.mod_lt _ (Nat.zero_lt_succ _), rest⟩
  | steps s p =>
    obtain ⟨-, rest⟩ := b.port p
    refine Pif.Bounded.setPort b ?_ p
    exact ⟨Nat.mod_lt _ (Nat.zero_lt_succ _), rest⟩
  | shifts s p =>
    refine Pif.Bounded.setPort b ?_ p
    exact b.port p
  | clears s p =>
    refine Pif.Bounded.setPort b ?_ p
    exact b.port p
  | enables s p =>
    refine Pif.Bounded.setPort b ?_ p
    exact b.port p
  | places s p =>
    refine Pif.Bounded.setPort b ?_ p
    exact b.port p
  | misframes s p =>
    obtain ⟨pointer, seq, refused, errors⟩ := b.port p
    refine Pif.Bounded.setPort b ?_ p
    exact ⟨pointer, seq, refused, satSucc_le errors⟩
  | drops s p =>
    obtain ⟨pointer, seq, refused, errors⟩ := b.port p
    refine Pif.Bounded.setPort b ?_ p
    exact ⟨pointer, seq, satSucc_le refused, errors⟩
  | results s p =>
    obtain ⟨pointer, seq, refused, errors⟩ := b.port p
    refine Pif.Bounded.setPort b ?_ p
    exact ⟨pointer, wrapSucc_lt (Nat.zero_lt_succ _) _, refused, errors⟩
  | checks s ks => exact ⟨b.u, b.l, b.c⟩
  | opens s =>
    refine b.of_counts ?_
    unfold State.takeWaiting
    (repeat' split) <;> simp
  | notifies s => exact b.of_counts s.notifyTexts_counts
  | pops s =>
    refine b.of_counts ?_
    unfold State.popHead
    split
    exacts [rfl, State.testWaiting_counts _]
  | opensProfile s v n => exact b.of_counts (s.openProfile_counts _ _ _)
  | closesProfile s v c => exact b.of_counts (s.closeProfile_counts _ _ _)
  | abortsProfile s => exact b.of_counts s.abortProfile_counts
  | queues s =>
    unfold State.queueText
    split_ifs <;> exact b
  | freezes s =>
    unfold State.requestFreeze
    (repeat' split) <;> exact b
  | endsCollection s =>
    unfold State.endCollection
    dsimp only
    split_ifs <;> exact b
  | dropsFrame s cause => cases cause <;> exact b
  | _ => simpa using b

end Sys2Proof.Machine
end

section
/-! The bounds of the cab control records (6.2), and what a write of a record makes of a state. -/

namespace Sys2Proof.Machine

theorem Dka.Bounded.of_cabs {k k' : Dka} (h : k.Bounded) (same : ∀ d, k'.cab d = k.cab d) : k'.Bounded :=
  fun d => (same d).symm ▸ h d

theorem Dka.Bounded.setCab {k : Dka} {c : CabRecord} (h : k.Bounded) (b : c.Bounded) (d : Desk) :
    (k.setCab d c).Bounded := by
  intro e
  have before := h e
  cases d <;> cases e <;> first | exact b | exact before

/-- R115: the demand supplied is in percent. -/
theorem Dka.Bounded.supplied_le {k : Dka} (h : k.Bounded) : k.supplied ≤ 100 := by
  unfold Dka.supplied Dka.activeCab
  cases k.active with
  | none => exact Nat.zero_le _
  | some d =>
    dsimp only [Option.map]
    split_ifs
    exacts [(h d).1, Nat.zero_le _]

theorem Handle.ofWord_le {w : Word} {p : Nat} (h : Handle.ofWord w = .percent p) : p ≤ 100 := by
  unfold Handle.ofWord at h
  split_ifs at h
  exact Handle.percent.inj h ▸ min_le_left _ _

theorem CabRecord.Bounded.written {c : CabRecord} (h : c.Bounded) (s : State) (w : CabWords) :
    (s.writtenCab w c).Bounded := by
  obtain ⟨traction, -, handle⟩ := h
  refine ⟨?_, wrapSucc_lt (Nat.zero_lt_succ _) _, ?_⟩
  · unfold State.writtenCab
    cases w.demand with
    | none => exact traction
    | some x => exact min_le_left _ _
  · unfold State.writtenCab
    cases w.handle with
    | none => exact handle
    | some x => exact fun p e => Handle.ofWord_le e

/-! ### A write of the active desk's record -/

theorem Dka.switchMoving_cab (k : Dka) (d e : Desk) (w : DirSwitch) : (k.switchMoving d w).cab e = k.cab e := by
  unfold Dka.switchMoving
  split
  · rfl
  · split <;> rfl

/-- R122: a reversal ends an event within the write, the records as written. -/
theorem State.switchStanding_spec (w : DirSwitch) (s : State) :
    ∃ k : Dka, (∀ e, k.cab e = s.dka.cab e) ∧ (s.switchStanding w = { s with dka := k } ∨
      ∃ k' : Dka, (∀ e, k'.cab e = s.dka.cab e) ∧
        s.switchStanding w = { State.finish { s with dka := k } with dka := k' }) := by
  unfold State.switchStanding
  dsimp only
  split_ifs
  · have handed := (State.finish_handedOn { s with dka := { s.dka with switch := some w, selected := none } }).dka
    refine ⟨_, fun e => ?_, .inr ⟨_, fun e => ?_, rfl⟩⟩
    · rfl
    · generalize State.finish _ = ended at handed ⊢
      rw [Dka.derive, handed]
      cases e <;> rfl
  · exact ⟨({ s.dka with switch := some w } : Dka).derive, fun e => by cases e <;> rfl, .inl rfl⟩

theorem State.takeCab_spec (d : Desk) (w : CabWords) (s : State) :
    ∃ k : Dka, (∀ e, k.cab e = (s.dka.setCab d (s.writtenCab w (s.dka.cab d))).cab e) ∧
      (s.takeCab d w = { s with dka := k } ∨
      ∃ k' : Dka, (∀ e, k'.cab e = k.cab e) ∧
        s.takeCab d w = { State.finish { s with dka := k } with dka := k' }) := by
  unfold State.takeCab State.takeSwitch
  dsimp only
  split_ifs
  · exact ⟨_, fun e => rfl, .inl rfl⟩
  · obtain ⟨k, same, e | ⟨k', same', e⟩⟩ := State.switchStanding_spec (s.writtenCab w (s.dka.cab d)).switch
      { s with dka := s.dka.setCab d (s.writtenCab w (s.dka.cab d)) }
    · exact ⟨k, same, .inl e⟩
    · exact ⟨k, same, .inr ⟨k', fun x => (same' x).trans (same x).symm, e⟩⟩
  · exact ⟨_, fun e => Dka.switchMoving_cab _ _ _ _, .inl rfl⟩
  · exact ⟨_, fun e => rfl, .inl rfl⟩

/-- What holds of a block whatever the desk record, and outlasts the end of an event, outlasts a write. -/
theorem State.takeCab_keeps {P : State → Prop} (dka : ∀ s k, P s → P { s with dka := k })
    (finish : ∀ s : State, P s → P s.finish) {s : State} (h : P s) (d : Desk) (w : CabWords) :
    P (s.takeCab d w) := by
  obtain ⟨k, -, e | ⟨k', -, e⟩⟩ := s.takeCab_spec d w
  · exact e ▸ dka s k h
  · exact e ▸ dka _ k' (finish _ (dka s k h))

/-! ### The records through every event -/

theorem Dka.Bounded.takeCab {s : State} (h : s.dka.Bounded) (d : Desk) (w : CabWords) :
    (s.takeCab d w).dka.Bounded := by
  have written := h.setCab ((h d).written s w) d
  obtain ⟨k, same, e | ⟨k', same', e⟩⟩ := s.takeCab_spec d w
  · exact e ▸ written.of_cabs same
  · exact e ▸ (written.of_cabs same).of_cabs same'

theorem Dka.Bounded.finish {s : State} (h : s.dka.Bounded) : s.finish.dka.Bounded := by
  rw [s.finish_handedOn.dka]
  exact fun d => by cases d; exacts [h .u, h .l]

theorem Dka.Bounded.goStale {s : State} (h : s.dka.Bounded) (d : Desk) : (s.goStale d).dka.Bounded := by
  have stale := h.setCab (c := { s.dka.cab d with fresh := none }) (h d) d
  simpa [State.goStale] using stale

theorem State.addLeaving_cab (i : SourceId) (d l : Int) (s : State) (e : Desk) :
    (s.addLeaving i d l).dka.cab e = s.dka.cab e := by
  unfold State.addLeaving
  split
  · rfl
  · dsimp only
    split <;> cases e <;> rfl

theorem State.encoderStep_cab (i : Bogie) (a b : Bool) (s : State) (e : Desk) :
    (s.encoderStep i a b).dka.cab e = s.dka.cab e := by
  unfold State.encoderStep State.count
  split
  · rfl
  · dsimp only
    split
    · rw [State.addLeaving_cab]; rfl
    · rfl
  · rfl

theorem State.takeTooth_cab (s : State) (e : Desk) : s.takeTooth.dka.cab e = s.dka.cab e := by
  unfold State.takeTooth State.toothMotion
  split
  · rw [State.addLeaving_cab]; simp
  · simp

theorem State.standExpiry_cab (s : State) (e : Desk) : s.standExpiry.dka.cab e = s.dka.cab e := by
  unfold State.standExpiry State.enterStandstill
  split
  · rfl
  · cases e <;> simp [Dka.derive, Dka.cab]

theorem State.Works.dka_bounded {s t : State} (w : s.Works t) (h : s.dka.Bounded) : t.dka.Bounded := by
  cases w with
  | counts i a b => exact h.of_cabs (s.encoderStep_cab i a b)
  | tooth => exact h.of_cabs s.takeTooth_cab
  | stands => exact h.of_cabs (State.standExpiry_cab { s with odu := { s.odu with standTimer := none } })
  | takesCab d w => exact h.takeCab d w
  | stales d => exact h.goStale d
  | orphans => exact h.of_cabs fun e => by cases e <;> simp [State.orphaned, State.deactivateDesk, Dka.cab]
  | deactivates => exact h.of_cabs fun e => by cases e <;> simp [State.deactivateDesk, Dka.cab]
  | activates d => exact h.of_cabs fun e => by cases e <;> simp [State.activateDesk, Dka.cab]
  | _ => simpa using h

theorem State.Aside.dka_bounded {s t : State} (h : s.Aside t) (b : s.dka.Bounded) : t.dka.Bounded := by
  induction h with
  | refl => exact b
  | trans _ _ first second => exact second (first b)
  | _ => simpa using b

end Sys2Proof.Machine
end

section
/-! The bounds of the doors: the reversals and the motors' duties (5.1, 5.3). -/

namespace Sys2Proof.Machine

/-- R91: the duties of a door motor. -/
def Motor.Bounded (m : Motor) : Prop := m.latched ≤ 100 ∧ m.driven ≤ 100

theorem Motor.Bounded.roll {m : Motor} (h : m.Bounded) (period now : Nat) : (m.roll period now).Bounded := by
  unfold Motor.roll
  split_ifs
  exacts [h, ⟨h.1, h.1⟩]

theorem Motor.Bounded.off {m : Motor} (h : m.Bounded) (period now : Nat) : (m.off period now).Bounded := by
  unfold Motor.off
  split_ifs
  exacts [h, ⟨Nat.zero_le _, Nat.zero_le _⟩]

theorem Pst.Bounded.opening_duty {s : State} (p : s.pst.Bounded) : s.par .dOpen ≤ 100 := (p .dOpen).2

theorem Pst.Bounded.closing_duty {s : State} (p : s.pst.Bounded) : s.par .dClose ≤ 100 := (p .dClose).2

/-! ### One door -/

section
variable {s : State} {d : Door}

theorem Door.Bounded.atRest (h : d.Bounded) (st : DoorState) : (s.doorAtRest st d).Bounded :=
  ⟨h.1, Motor.Bounded.off h.2 _ _⟩

theorem Door.Bounded.opening (h : d.Bounded) (p : s.pst.Bounded) : (s.doorOpening d).Bounded :=
  ⟨h.1, p.opening_duty, h.2.2⟩

theorem Door.Bounded.driving (h : d.Bounded) (p : s.pst.Bounded) : (s.doorDriving d).Bounded :=
  ⟨h.1, p.opening_duty, h.2.2⟩

theorem Door.Bounded.warning (h : d.Bounded) : (s.doorWarning d).Bounded := h.atRest .warning

theorem Door.Bounded.opened (h : d.Bounded) (i : DoorId) : (s.doorOpen i d).Bounded := h.atRest .opened

theorem Door.Bounded.reversing (h : d.Bounded) : (s.doorReversing d).Bounded := h.atRest (.reversing .stop)

theorem Door.Bounded.locks (h : d.Bounded) (i : DoorId) : (s.doorLocks i d).Bounded :=
  ⟨Nat.zero_le _, Motor.Bounded.off h.2 _ _⟩

theorem Door.Bounded.withdrawn (h : d.Bounded) : (s.doorWithdrawn d).Bounded := by
  unfold State.doorWithdrawn
  cases d.state with
  | released => exact h.atRest .locked
  | opening => exact h.warning
  | opened => exact h.warning
  | reversing => exact h.warning
  | _ => exact h

theorem Door.Bounded.granted (h : d.Bounded) (p : s.pst.Bounded) : (s.doorGranted d).Bounded := by
  unfold State.doorGranted
  split_ifs
  exacts [h.opening p, h.atRest .released, h]

theorem Door.Bounded.restarted (h : d.Bounded) (period now : Nat) : (d.restarted period now).Bounded :=
  ⟨Nat.zero_le _, Motor.Bounded.off h.2 _ _⟩

/-! ### The doors -/

theorem Drc.Bounded.door (h : s.drc.Bounded) (i : DoorId) : (s.door i).Bounded := h i

theorem Drc.Bounded.setDoor (h : s.drc.Bounded) (b : d.Bounded) (i : DoorId) : (s.setDoor i d).drc.Bounded := by
  intro j
  have before := h j
  cases i <;> cases j <;> first | exact b | exact before

theorem Drc.Bounded.moveSide (h : s.drc.Bounded) {f : Door → Door} (moved : ∀ d : Door, d.Bounded → (f d).Bounded)
    (i : CarSide) : (s.moveSide i f).drc.Bounded := by
  intro j
  have before := h j
  cases i <;> cases j <;> first | exact moved _ before | exact before

theorem Drc.Bounded.doorFault (h : s.drc.Bounded) (i : DoorId) (why : DoorFault) :
    (s.doorFault i why).drc.Bounded := h.setDoor ((h.door i).atRest _) i

theorem Drc.Bounded.countedReversal (h : s.drc.Bounded) (i : DoorId) : (s.countedReversal i).drc.Bounded := by
  unfold State.countedReversal
  split_ifs with few
  · exact h.setDoor (d := { s.doorReversing (s.door i) with reversals := (s.door i).reversals + 1 })
      ⟨few, (h.door i).reversing.2⟩ i
  · exact h.doorFault i _

theorem Drc.Bounded.startClosing (h : s.drc.Bounded) (p : s.pst.Bounded) (i : DoorId) :
    (s.startClosing i).drc.Bounded := by
  have closing : Door.Bounded { s.door i with
      state := .closing, timer := s.doorTimer .tClose (s.par .tClose)
      motor := (s.door i).motor.drive (s.par .dClose) .closes } :=
    ⟨(h.door i).1, p.closing_duty, (h.door i).2.2⟩
  unfold State.startClosing
  dsimp only
  split_ifs
  · exact Drc.Bounded.countedReversal (h.setDoor closing i) i
  · exact h.doorFault i _
  · exact h.setDoor (closing.locks i) i
  · exact h.setDoor closing i

theorem Drc.Bounded.lkSet (h : s.drc.Bounded) (i : DoorId) : (s.lkSet i).drc.Bounded := by
  have read : Door.Bounded { s.door i with lk := true } := h.door i
  unfold State.lkSet
  dsimp only
  split
  · exact Drc.Bounded.doorFault (h.setDoor read i) i _
  · split
    · exact Drc.Bounded.setDoor (h.setDoor read i) (read.locks i) i
    · exact Drc.Bounded.setDoor (h.setDoor read i) (read.locks i) i
    · exact h.setDoor read i

theorem Drc.Bounded.lkCleared (h : s.drc.Bounded) (i : DoorId) : (s.lkCleared i).drc.Bounded := by
  have read : Door.Bounded { s.door i with lk := false } := h.door i
  unfold State.lkCleared
  dsimp only
  split
  · exact Drc.Bounded.doorFault (h.setDoor read i) i _
  · exact Drc.Bounded.doorFault (h.setDoor read i) i _
  · exact h.setDoor read i

theorem Drc.Bounded.opSet (h : s.drc.Bounded) (i : DoorId) : (s.opSet i).drc.Bounded := by
  have read : Door.Bounded { s.door i with op := true } := h.door i
  unfold State.opSet
  dsimp only
  split
  · exact Drc.Bounded.doorFault (h.setDoor read i) i _
  · split
    · exact Drc.Bounded.setDoor (h.setDoor read i) (read.opened i) i
    · exact Drc.Bounded.setDoor (h.setDoor read i) read.warning i
    · exact h.setDoor read i

theorem Drc.Bounded.edLevel (h : s.drc.Bounded) (i : DoorId) (a : Bool) : (s.edLevel i a).drc.Bounded := by
  have read : Door.Bounded { s.door i with ed := a } := h.door i
  unfold State.edLevel
  dsimp only
  split
  · exact Drc.Bounded.countedReversal (h.setDoor read i) i
  · exact h.setDoor read i

theorem Drc.Bounded.pressed (h : s.drc.Bounded) (p : s.pst.Bounded) (i : DoorId) : (s.pressed i).drc.Bounded := by
  have door := h.door i
  unfold State.pressed
  dsimp only
  split
  · exact h.setDoor (door.opening p) i
  · split_ifs
    exacts [h.setDoor (d := { s.door i with timer := s.doorTimer .dwell (s.par .tDwell) }) door i, h]
  · split_ifs
    exacts [h.setDoor (door.opened i) i, h]
  · split_ifs
    exacts [h.setDoor door.reversing i, h]
  · exact h

theorem Drc.Bounded.pbLevel (h : s.drc.Bounded) (p : s.pst.Bounded) (i : DoorId) (a : Bool) :
    (s.pbLevel i a).drc.Bounded := by
  have read : Door.Bounded { s.door i with pb := a } := h.door i
  unfold State.pbLevel
  dsimp only
  split
  · exact Drc.Bounded.pressed (h.setDoor read i) p i
  · exact h.setDoor read i

theorem Drc.Bounded.isolate (h : s.drc.Bounded) (i : DoorId) : (s.isolate i).drc.Bounded :=
  h.setDoor (d := { s.doorAtRest .isolated (s.door i) with reversals := 0 })
    ⟨Nat.zero_le _, ((h.door i).atRest .isolated).2⟩ i

theorem Drc.Bounded.toService (h : s.drc.Bounded) (i : DoorId) : (s.toService i).drc.Bounded := by
  unfold State.toService
  dsimp only
  split
  · exact h.setDoor ((h.door i).atRest _) i
  · exact h.doorFault i _

/-! ### The sides -/

theorem Drc.Bounded.setSide {k : Drc} (h : k.Bounded) (i : CarSide) (r : SideRelease) : (k.setSide i r).Bounded := by
  intro j
  have before := h j
  cases i <;> exact before

theorem Drc.Bounded.withdrawIfGranted (h : s.drc.Bounded) (i : CarSide) (why : WithdrawCause) :
    (s.withdrawIfGranted i why).drc.Bounded := by
  unfold State.withdrawIfGranted
  split_ifs
  · exact Drc.Bounded.moveSide (s := { s with drc := s.drc.setSide i _ }) (h.setSide i _)
      (fun d b => Door.Bounded.withdrawn b) i
  · exact h

theorem Drc.Bounded.grant (h : s.drc.Bounded) (p : s.pst.Bounded) (i : CarSide) (d : Desk) :
    (s.grant i d).drc.Bounded :=
  Drc.Bounded.moveSide (s := { s with drc := s.drc.setSide i _ }) (h.setSide i _)
    (fun _ b => Door.Bounded.granted b p) i

theorem Drc.Bounded.deactivateDesk (h : s.drc.Bounded) : s.deactivateDesk.drc.Bounded := by
  have both := Drc.Bounded.withdrawIfGranted (h.withdrawIfGranted .a .desk) .b .desk
  unfold State.deactivateDesk State.setMode
  rw [State.withdrawIfGranted_withDka s, State.withdrawIfGranted_withDka]
  simpa using both

theorem Drc.Bounded.finish (h : s.drc.Bounded) : s.finish.drc.Bounded := by
  have handed := s.finish_handedOn
  intro i
  rcases handed.sides (doorSide i) with ⟨-, doors⟩ | ⟨-, -, -, -, doors⟩
  · exact (doors i rfl).symm ▸ h i
  · rw [doors i rfl, State.relocks_eq]
    exact (h i).withdrawn

theorem Drc.Bounded.advanceTo (h : s.drc.Bounded) (t : Nat) : (s.advanceTo t).drc.Bounded := by
  unfold State.advanceTo
  split_ifs
  · exact h
  · intro i
    have before := h i
    cases i <;> exact ⟨before.1, Motor.Bounded.roll before.2 _ _⟩

theorem Drc.Bounded.restarted {k : Drc} (h : k.Bounded) (period now : Nat) : (k.restarted period now).Bounded := by
  intro i
  have before := h i
  cases i <;> exact before.restarted period now

theorem Drc.Bounded.powerOn (k : Drc) : k.powerOn.Bounded :=
  Drc.Bounded.restarted (fun i => by cases i <;> exact ⟨Nat.zero_le 3, Nat.zero_le 100, Nat.zero_le 100⟩) _ _

end

/-! ### The doors through every event -/

theorem State.Aside.drc_bounded {s t : State} (h : s.Aside t) (b : s.drc.Bounded) : t.drc.Bounded := by
  induction h with
  | refl => exact b
  | trans _ _ first second => exact second (first b)
  | advances s d => exact b.advanceTo d
  | refuses s i c => exact b.setSide i _
  | _ => simpa using b

theorem State.Works.drc_bounded {s t : State} (w : s.Works t) (h : s.drc.Bounded) (p : s.pst.Bounded) :
    t.drc.Bounded := by
  cases w with
  | lkSet i => exact h.lkSet i
  | lkCleared i => exact h.lkCleared i
  | opSet i => exact h.opSet i
  | opCleared i => exact h.setDoor (d := { s.door i with op := false }) (h.door i) i
  | edLevel i a => exact h.edLevel i a
  | pbLevel i a => exact h.pbLevel p i a
  | openLate i => exact h.doorFault i _
  | warns i => exact h.setDoor (h.door i).warning i
  | closes i => exact h.startClosing p i
  | reverses i => exact h.countedReversal i
  | drives i => exact h.setDoor ((h.door i).driving p) i
  | grants i d => exact h.grant p i d
  | withdraws i => exact h.withdrawIfGranted i _
  | isolates i => exact h.isolate i
  | serves i => exact h.toService i
  | takesCab d w => exact State.takeCab_keeps (P := fun x => x.drc.Bounded) (fun _ _ b => b) (fun _ b => b.finish) h d w
  | orphans => exact h.deactivateDesk
  | deactivates => exact h.deactivateDesk
  | _ => simpa using h

end Sys2Proof.Machine
end

section
/-! The bounds of the brakes (chapter 4): what the end of an event makes of them, and every command. -/

namespace Sys2Proof.Machine

/-- The banks and the parameters, on which the required effort and the pressures rest. -/
structure State.Grounded (s : State) : Prop where
  banks : s.BanksSound
  lps : s.lps.Bounded
  pst : s.pst.Bounded

/-- The measured values, the pressures and the percentages of the brake manager. -/
def Brm.Valued (b : Brm) : Prop :=
  (∀ m, b.measured = some m → m ≤ 1000) ∧ b.target ≤ 1000 ∧ b.required ≤ 100 ∧ -100 ≤ b.effort ∧
    b.effort ≤ 100 ∧ b.ebrake.latched ≤ 100 ∧ b.ebrake.driven ≤ 100 ∧ b.traction.latched ≤ 100 ∧
    b.traction.driven ≤ 100

section
variable {s t : State}

theorem State.Grounded.moves (h : s.Grounded) (m : s.lps.Moves t.lps) (pst : t.pst = s.pst) : t.Grounded :=
  ⟨h.banks.moves m, m.bounded s h.banks h.lps, pst ▸ h.pst⟩

/-! ### The required effort (R83) -/

theorem State.BanksSound.active_checked (h : s.BanksSound) {i : BankId} (active : s.lps.activeId = some i) :
    (s.lps.bank i).state = .checked := by
  have role := Lps.activeId_role active
  obtain ⟨own, other⟩ := h.roles
  have elsewhere : i ≠ s.lps.standbyId := by
    intro e
    rw [e, own] at role
    cases role
  rw [BankId.eq_other elsewhere] at role ⊢
  rcases other with none | ⟨-, checked⟩
  · rw [none] at role
    cases role
  · exact checked

theorem State.Grounded.gradients (h : s.Grounded) {p : Profile} (active : s.lps.profile = some p) :
    ∀ g ∈ p.segments, -250 ≤ g.gradient ∧ g.gradient ≤ 250 := by
  unfold Lps.profile Lps.active at active
  cases e : s.lps.activeId with
  | none => rw [e] at active; cases active
  | some i =>
    rw [e] at active
    cases active
    exact (h.lps.banks i).gradients (h.banks.active_checked e)

theorem foldl_max_le {l : List Nat} {n m : Nat} (start : n ≤ m) (all : ∀ x ∈ l, x ≤ m) : l.foldl Nat.max n ≤ m := by
  induction l generalizing n with
  | nil => exact start
  | cons x l ih =>
    exact ih (max_le start (all x List.mem_cons_self)) fun y k => all y (List.mem_cons_of_mem _ k)

theorem State.Grounded.requiredEffort_le (h : s.Grounded) : s.requiredEffort ≤ 100 := by
  have factor : s.par .hFactor ≤ 100 := (h.pst .hFactor).2
  unfold State.requiredEffort
  split
  · next d p _ active =>
    dsimp only
    split_ifs
    · have steep : (((p.segmentsMeeting s.odu.pLo s.odu.pHi).map fun g => (g.gradientIn d).toNat).foldl
          Nat.max 0) ≤ 250 := by
        refine foldl_max_le (Nat.zero_le _) fun x k => ?_
        obtain ⟨g, meets, rfl⟩ := List.mem_map.1 k
        obtain ⟨low, high⟩ := h.gradients active g (List.mem_filter.1 meets).1
        cases d <;> simp only [Segment.gradientIn] <;> omega
      have product := Nat.mul_le_mul steep factor
      unfold ceilDiv
      omega
    · exact Nat.zero_le _
  · exact Nat.zero_le _

/-! ### The passes at the end of an event -/

/-- What the passes keep of the departure's required effort and of the traction output `w`. -/
structure State.Hauls (w : Pwm) (s : State) : Prop where
  grounded : s.Grounded
  required : s.brm.required ≤ 100
  traction : s.brm.traction = w

theorem State.Hauls.readersPass {w : Pwm} (h : s.Hauls w) : s.readersPass.Hauls w := by
  have required : s.readersPass.brm.required = s.brm.required := by simp [State.readersPass, State.writeRows]
  have traction : s.readersPass.brm.traction = s.brm.traction := by simp [State.readersPass, State.writeRows]
  refine ⟨h.grounded.moves ?_ s.readersPass_pst, required.trans_le h.required, traction.trans h.traction⟩
  rw [s.readersPass_lps.1]
  exact s.takePending_moves

theorem State.Hauls.refreshDeparture {w : Pwm} (h : s.Hauls w) : s.refreshDeparture.Hauls w := by
  refine ⟨h.grounded.moves (.of_eq (by simp)) (by simp), ?_, by simpa using h.traction⟩
  unfold State.refreshDeparture
  split
  · split_ifs
    exacts [h.grounded.requiredEffort_le, h.required]
  · split_ifs <;> exact h.required
  · split_ifs <;> exact h.required
  · split_ifs <;> exact h.required

theorem State.Hauls.settle {w : Pwm} (h : s.Hauls w) (n : Nat) : (s.settle n).Hauls w := by
  induction n generalizing s with
  | zero => exact h
  | succ n ih => exact ih h.readersPass.refreshDeparture

/-! ### The level and what follows it -/

theorem Rows.service_of_highest {r : Rows} {p : Nat} (h : r.highest = .service p) :
    ∃ i, (r.get i).level = .service p := by
  rcases r.highest_spec.2 with none | ⟨i, own⟩
  · rw [none] at h; cases h
  · exact ⟨i, own.trans h⟩

theorem Dka.service_of_cabRow {k : Dka} {p : Nat} (h : k.cabRow.level = .service p) : 1 ≤ p ∧ p ≤ 99 := by
  unfold Dka.cabRow at h
  (repeat' split at h) <;> cases h
  constructor <;> omega

/-- R63: the CAB row alone ever stands at a service level. -/
theorem State.Settled.service_range (h : s.Settled) {i : RowId} {p : Nat}
    (level : (s.brm.rows.get i).level = .service p) : 1 ≤ p ∧ p ≤ 99 := by
  cases i with
  | cab =>
    change s.brm.rows.cab.level = _ at level
    rw [h.cab] at level
    exact Dka.service_of_cabRow level
  | supervision =>
    change s.brm.rows.supervision.level = _ at level
    rw [h.supervision, State.supervisionRow] at level
    (repeat' split at level) <;> cases level
  | doors =>
    change s.brm.rows.doors.level = _ at level
    rw [h.doors, State.doorsRow] at level
    (repeat' split at level) <;> cases level
  | radio =>
    change s.brm.rows.radio.level = _ at level
    rw [h.radio, State.radioRow] at level
    (repeat' split at level) <;> cases level
  | odometry =>
    change s.brm.rows.odometry.level = _ at level
    rw [h.odometry, State.odometryRow] at level
    (repeat' split at level) <;> cases level
  | loop =>
    change s.brm.rows.loop.level = _ at level
    rw [h.loop, State.loopRow] at level
    (repeat' split at level) <;> cases level
  | hold =>
    change s.brm.rows.hold.level = _ at level
    rw [h.hold, State.holdRow] at level
    (repeat' split at level) <;> cases level

theorem State.Settled.levels (h : s.Settled) {p : Nat}
    (level : s.brm.level = .service p ∨ ∃ i, (s.brm.rows.get i).level = .service p) : 1 ≤ p ∧ p ≤ 99 := by
  rcases level with own | ⟨i, row⟩
  · rw [h.level, Brm.effective] at own
    split_ifs at own
    obtain ⟨i, row⟩ := Rows.service_of_highest own
    exact h.service_range row
  · exact h.service_range row

theorem ebrakeDuty_le {l : Level} (service : ∀ p, l = .service p → p ≤ 99) : ebrakeDuty l ≤ 100 := by
  cases l with
  | service p => exact (service p rfl).trans (by decide)
  | _ => decide

theorem Pst.Bounded.targetFor_le (p : s.pst.Bounded) {l : Level} (service : ∀ p, l = .service p → p ≤ 99) :
    s.targetFor l ≤ 1000 := by
  have hold : s.par .pHold ≤ 1000 := (p .pHold).2.trans (by decide)
  have full : s.par .pFs ≤ 1000 := (p .pFs).2.trans (by decide)
  have emergency : s.par .pEm ≤ 1000 := (p .pEm).2.trans (by decide)
  cases l with
  | none => exact Nat.zero_le _
  | hold => exact hold
  | service q =>
    have product := Nat.mul_le_mul (service q rfl) full
    simp only [State.targetFor]
    omega
  | fullService => exact (Nat.sub_le _ _).trans full
  | emergency => exact emergency

/-! ### The end of an event -/

theorem Dka.Bounded.of_rest {k k' : Dka} (h : k.Bounded) (same : k'.rest = k.rest) : k'.Bounded :=
  h.of_cabs fun e => by
    cases e
    exacts [show k'.rest.cabU = k.rest.cabU from congrArg _ same, show k'.rest.cabL = k.rest.cabL from congrArg _ same]

theorem Brm.Valued.finish (v : s.brm.Valued) (g : s.Grounded) (d : s.dka.Bounded) : s.finish.brm.Bounded := by
  obtain ⟨measured, target, required, low, high, ebrake, driven, traction, hauling⟩ := v
  have handed := s.finish_handedOn
  have settled := s.finish_settled
  have follows := handed.brakes
  have levels := fun p => settled.levels (p := p)
  have service : ∀ p, s.finish.brm.level = .service p → p ≤ 99 := fun p e => (levels p (.inl e)).2
  have pst : s.finish.pst.Bounded := by rw [handed.pst]; exact g.pst
  have pressure : s.finish.targetFor s.finish.brm.level ≤ 1000 :=
    Pst.Bounded.targetFor_le (s := s.finish) pst service
  have duty : ebrakeDuty s.finish.brm.level ≤ 100 := ebrakeDuty_le service
  have electric := follows.electric
  generalize ebrakeDuty s.finish.brm.level = n at duty electric
  have inputs := handed.brm
  simp only [Brm.inputs, Prod.mk.injEq] at inputs
  obtain ⟨measures, -, -, -, efforts, -⟩ := inputs
  have hauls : (s.read).Hauls s.brm.traction := (State.Hauls.settle ⟨g, required, rfl⟩ 6).readersPass
  have demand : s.read.dka.supplied ≤ 100 :=
    (d.of_rest ((s.settle_follows 6).trans (State.readersPass_follows _)).dka).supplied_le
  have drives : s.finish.brm.traction.latched ≤ 100 ∧ s.finish.brm.traction.driven ≤ 100 := by
    rw [State.finish_eq]
    have same := hauls.traction
    generalize s.read = x at same demand
    unfold State.refreshTraction
    split_ifs
    · exact ⟨demand, same ▸ hauling⟩
    · rw [same]; exact ⟨traction, hauling⟩
    · exact ⟨Nat.zero_le _, Nat.zero_le _⟩
  have needs : s.finish.brm.required ≤ 100 := by
    rw [State.finish_eq, State.refreshTraction_brm_required]
    exact hauls.required
  refine ⟨levels, fun m e => measured m (measures ▸ e), ?_, needs, efforts.symm ▸ low, efforts.symm ▸ high, ?_, ?_,
    drives⟩
  · rcases follows.target with ⟨-, same⟩ | fresh
    · exact same.trans_le target
    · rw [fresh]; exact pressure
  · rcases electric with ⟨-, same⟩ | fresh
    · rw [same]; exact ebrake
    · exact (congrArg Pwm.latched fresh).trans_le duty
  · rcases electric with ⟨-, same⟩ | fresh
    · rw [same]; exact driven
    · exact (congrArg Pwm.driven fresh).trans_le driven

end

end Sys2Proof.Machine
end

section
/-! The bounds of the brakes (chapter 4) through every event. -/

namespace Sys2Proof.Machine

/-- What `Brm.Valued` bounds of the brake manager. -/
def Brm.values (b : Brm) : Option Nat × Nat × Nat × Int × Pwm × Pwm :=
  (b.measured, b.target, b.required, b.effort, b.ebrake, b.traction)

theorem Brm.Valued.of_values {b c : Brm} (h : b.Valued) (same : c.values = b.values) : c.Valued := by
  simp only [Brm.values, Prod.mk.injEq] at same
  obtain ⟨measured, target, required, effort, ebrake, traction⟩ := same
  rw [Brm.Valued, measured, target, required, effort, ebrake, traction]
  exact h

theorem Brm.Bounded.valued {b : Brm} (h : b.Bounded) : b.Valued := h.values

/-! ### What leaves the values as they are -/

section
variable (s : State)

@[simp] theorem State.raise_values (k : Notice) : (s.raise k).brm.values = s.brm.values := rfl

@[simp] theorem State.setLatch_values (why : LatchCause) : (s.setLatch why).brm.values = s.brm.values := by
  simp [Brm.values]

@[simp] theorem Brm.setBand_values (b : Brm) (i : Bogie) (v : Band) : (b.setBand i v).values = b.values := by
  cases i <;> rfl

@[simp] theorem State.reprove_values (i : Bogie) : (s.reprove i).brm.values = s.brm.values := by
  simp [Brm.values]

@[simp] theorem State.toLap_values : s.toLap.brm.values = s.brm.values := by simp [Brm.values]

@[simp] theorem State.setApplied_values (i : Bogie) (a : Bool) : (s.setApplied i a).brm.values = s.brm.values :=
  Brm.setBand_values _ i _

@[simp] theorem State.pinionFails_values (i : Bogie) : (s.pinionFails i).brm.values = s.brm.values := by
  unfold State.pinionFails
  dsimp only
  split_ifs <;> simp

@[simp] theorem State.openLoop_values : s.openLoop.brm.values = s.brm.values :=
  State.toLap_values { s with brm := { s.brm with senseOpen := true, loopForced := true } }

@[simp] theorem State.stall_values : s.stall.brm.values = s.brm.values := by
  unfold State.stall
  split_ifs <;> rfl

@[simp] theorem State.addLeaving_values (i : SourceId) (d l : Int) :
    (s.addLeaving i d l).brm.values = s.brm.values := by
  unfold State.addLeaving
  split
  · rfl
  · dsimp only
    split <;> rfl

@[simp] theorem State.encoderStep_values (i : Bogie) (a b : Bool) :
    (s.encoderStep i a b).brm.values = s.brm.values := by
  unfold State.encoderStep State.count
  split
  · rfl
  · dsimp only
    split
    · rw [State.addLeaving_values]; rfl
    · rfl
  · rfl

@[simp] theorem State.takeTooth_values : s.takeTooth.brm.values = s.brm.values := by
  unfold State.takeTooth State.toothMotion
  split
  · rw [State.addLeaving_values]; simp
  · simp

@[simp] theorem State.standExpiry_values : s.standExpiry.brm.values = s.brm.values := by
  unfold State.standExpiry State.enterStandstill State.startHold
  (repeat' split) <;> rfl

@[simp] theorem State.clearFriction_values : s.clearFriction.brm.values = s.brm.values := by
  unfold State.clearFriction
  split <;> rfl

@[simp] theorem State.testProving_values : s.testProving.brm.values = s.brm.values := rfl

end

/-! ### The measurements -/

theorem pressureOf_le {n m : Nat} (h : pressureOf n = some m) : m ≤ 1000 := by
  unfold pressureOf at h
  split_ifs at h
  exact Option.some.inj h ▸ min_le_left _ _

theorem Brm.Valued.measure {s : State} (h : s.brm.Valued) : s.measure.brm.Valued := by
  obtain ⟨-, rest⟩ := h
  rw [State.measure_brm]
  exact ⟨fun m e => pressureOf_le e, rest⟩

theorem Brm.Valued.retarget {s : State} (h : s.brm.Valued) (p : s.pst.Bounded)
    (service : ∀ q, s.brm.level = .service q → q ≤ 99) : s.retarget.brm.Valued := by
  obtain ⟨measured, -, rest⟩ := h
  have retargeted : Brm.Valued { s.brm with target := s.targetFor s.brm.level } :=
    ⟨measured, p.targetFor_le service, rest⟩
  exact retargeted.of_values (by simp [Brm.values, State.retarget])

theorem effortOf_range (n h : Nat) : -100 ≤ (effortOf n h).getD 0 ∧ (effortOf n h).getD 0 ≤ 100 := by
  unfold effortOf
  split_ifs
  · simp only [Option.getD_some]
    omega
  · simp

/-- R75, R78: an output brought to a time drives what it had latched. -/
theorem Pwm.roll_le {w : Pwm} (latched : w.latched ≤ 100) (driven : w.driven ≤ 100) (now : Nat) :
    (w.roll now).latched ≤ 100 ∧ (w.roll now).driven ≤ 100 := by
  unfold Pwm.roll
  split_ifs
  exacts [⟨latched, driven⟩, ⟨latched, latched⟩]

theorem Brm.Bounded.advanceTo {s : State} (h : s.brm.Bounded) (t : Nat) : (s.advanceTo t).brm.Bounded := by
  unfold State.advanceTo
  split_ifs
  · exact h
  · obtain ⟨levels, measured, target, required, low, high, ebrake, driven, traction, hauling⟩ := h
    exact ⟨levels, measured, target, required, low, high, (Pwm.roll_le ebrake driven t).1,
      (Pwm.roll_le ebrake driven t).2, Pwm.roll_le traction hauling t⟩

/-! ### The brakes through every event -/

theorem State.Works.brm_valued {s t : State} (w : s.Works t) (g : s.Grounded) (d : s.dka.Bounded)
    (h : s.brm.Bounded) : t.brm.Valued := by
  have valued := h.valued
  cases w with
  | gates n =>
    have timed : Brm.Valued { s.brm with gateTimer := n } := valued
    have measured := Brm.Valued.measure (s := { s with brm := { s.brm with gateTimer := n } }) timed
    have level : (State.measure { s with brm := { s.brm with gateTimer := n } }).brm.level = s.brm.level := by
      rw [State.measure_brm]
    have pst : (State.measure { s with brm := { s.brm with gateTimer := n } }).pst = s.pst := by simp
    refine (measured.retarget (by rw [pst]; exact g.pst) fun q e => (h.levels q (.inl (level ▸ e))).2).of_values ?_
    rw [State.testProving_values, State.clearFriction_values]
  | effort n k =>
    obtain ⟨measured, target, required, -, -, rest⟩ := valued
    exact ⟨measured, target, required, (effortOf_range n k).1, (effortOf_range n k).2, rest⟩
  | noEffort =>
    obtain ⟨measured, target, required, -, -, rest⟩ := valued
    exact ⟨measured, target, required, show (-100 : Int) ≤ 0 by decide, show (0 : Int) ≤ 100 by decide, rest⟩
  | takesCab k words =>
    obtain ⟨x, same, e | ⟨y, -, e⟩⟩ := s.takeCab_spec k words
    · exact e ▸ valued
    · have records := (d.setCab ((d k).written s words) k).of_cabs same
      have ended := Brm.Valued.finish (s := { s with dka := x }) valued (g.moves (.refl _) rfl) records
      rw [e]
      generalize State.finish { s with dka := x } = f at ended ⊢
      exact ended.valued
  | resets => exact valued.of_values rfl
  | unproved => exact valued.of_values rfl
  | closesLoop => exact valued.of_values rfl
  | holds => exact valued.of_values rfl
  | stalls => exact valued.of_values (State.stall_values _)
  | _ => exact valued.of_values (by simp)

theorem State.Aside.brm_bounded {s t : State} (h : s.Aside t) (b : s.brm.Bounded) : t.brm.Bounded := by
  induction h with
  | refl => exact b
  | trans _ _ first second => exact second (first b)
  | advances s n => exact b.advanceTo n
  | opens s =>
    unfold State.takeWaiting
    (repeat' split) <;> exact ⟨b.levels, b.values⟩
  | pulses s => exact ⟨b.levels, b.values⟩
  | _ => simpa using b

end Sys2Proof.Machine
end

section
/-! The bounds of the odometry, of the supervision and of the radio line through every event. -/

namespace Sys2Proof.Machine

/-! ### The odometry -/

theorem State.Works.odu_bounded {s t : State} (w : s.Works t) (h : s.odu.Bounded) : t.odu.Bounded := by
  cases w with
  | counts i a b => exact State.encoderStep_bounded h i a b
  | tooth => exact State.takeTooth_bounded h
  | reads n c => exact State.markerRead_bounded h n c
  | captures level n => exact State.capture_bounded h level n
  | samples n =>
    exact State.sample_bounded (s := { s with odu := { s.odu with sampleTimer := n } })
      ⟨h.motion, h.counts, h.sources, h.histories⟩
  | stands =>
    exact State.standExpiry_bounded (s := { s with odu := { s.odu with standTimer := none } })
      ⟨h.motion, h.counts, h.sources, h.histories⟩
  | restores a b => exact State.restored_bounded h _ _
  | takesCab d w => rw [(s.takeCab_core d w).1]; exact h
  | _ => simpa using h

theorem State.Aside.odu_bounded {s t : State} (h : s.Aside t) (b : s.odu.Bounded) : t.odu.Bounded := by
  induction h with
  | refl => exact b
  | trans _ _ first second => exact second (first b)
  | stopsRegime s => exact ⟨b.motion, b.counts, b.sources, b.histories⟩
  | endsCollection s => exact State.endCollection_bounded b
  | _ => simpa using b

/-! ### The radio line and what it reaches -/

section
variable {s t : State}

theorem State.LineBounded.setMode (h : s.LineBounded) (m : Mode) : (s.setMode m).LineBounded :=
  ⟨h.pst, State.setMode_bounded h.ssu m, h.vrl, h.tgh⟩

theorem State.LineBounded.deactivateDesk (h : s.LineBounded) : s.deactivateDesk.LineBounded :=
  State.LineBounded.setMode (h.congr (by simp) (by simp) (by simp) (by simp)) _

theorem State.LineBounded.finish (h : s.LineBounded) : s.finish.LineBounded := by
  have handed := s.finish_handedOn
  have taken := h.takePending
  refine ⟨?_, ?_, ?_, ?_⟩
  · rw [handed.pst]; exact h.pst
  · rw [handed.ssu]; exact taken.ssu
  · rw [handed.vrl]; exact h.vrl
  · rw [handed.tgh]; exact taken.tgh

theorem State.LineBounded.takeCab (h : s.LineBounded) (d : Desk) (w : CabWords) : (s.takeCab d w).LineBounded :=
  State.takeCab_keeps (P := State.LineBounded) (fun _ _ b => ⟨b.pst, b.ssu, b.vrl, b.tgh⟩) (fun _ b => b.finish) h d w

theorem State.Works.line_bounded (w : s.Works t) (h : s.LineBounded) : t.LineBounded := by
  cases w with
  | scrubs n =>
    exact State.LineBounded.scrubStep (h.congr (by simp) (by simp) (by simp) (by simp))
  | switches => exact h.switchOver
  | cycles n =>
    have timed : Ssu.Bounded { s.ssu with timer := n } := ⟨h.ssu.record, h.ssu.list⟩
    have cycled := State.cycle_bounded (s := { s with ssu := { s.ssu with timer := n } }) timed h.pst
    exact ⟨by simpa using h.pst, cycled, by simpa using h.vrl, by simpa using h.tgh⟩
  | modes m => exact h.setMode m
  | acknowledges =>
    exact State.LineBounded.raiseIf (s := { s with ssu := { s.ssu with warning := false, overrun := false } })
      ⟨h.pst, ⟨h.ssu.record, h.ssu.list⟩, h.vrl, h.tgh⟩ _ _
  | takesCab d w => exact h.takeCab d w
  | orphans => exact h.deactivateDesk.raise _
  | deactivates => exact h.deactivateDesk
  | activates d =>
    exact State.LineBounded.setMode (State.LineBounded.raiseIf (s := { s with dka := { s.dka with
      active := some d, switch := some .neutral, selected := none, running := none, lock := false } })
      ⟨h.pst, h.ssu, h.vrl, h.tgh⟩ _ _) _
  | arrives n slot cycle place order =>
    have address : s.par .carAddress < 16 := lt_of_le_of_lt (h.pst .carAddress).2 (show 12 < 16 by decide)
    have wraps := h.vrl.slots.2.2
    refine State.LineBounded.arrive (h.withVrl ⟨⟨Nat.zero_lt_succ _, ?_, ?_⟩, h.vrl.counts, h.vrl.receiver⟩)
    · rcases place with few | own
      · exact few.trans_lt (by decide)
      · exact own.trans_lt address
    · rcases order with same | next
      · exact same.trans_lt wraps
      · exact next.trans_lt (Nat.mod_lt _ (by decide))
  | transmits n =>
    have timed : Vrl.Bounded { s.vrl with txTimer := n } := ⟨h.vrl.slots, h.vrl.counts, h.vrl.receiver⟩
    exact State.LineBounded.arrive (h.withVrl timed.advance)
  | ends n k =>
    have timed : Vrl.Bounded { s.vrl with txTimer := n } := ⟨h.vrl.slots, h.vrl.counts, h.vrl.receiver⟩
    exact (State.LineBounded.endTransmission (h.withVrl (timed.advanceBy k))).slotEvents
  | delivers m => exact h.deliver m
  | hears n => exact h.comparator n
  | decides d n =>
    have clocked := h.withRx (r := { s.vrl.rx with clock := some n })
      (h.vrl.rx.congr h.vrl.rx.1 rfl rfl rfl rfl rfl)
    exact clocked.decideBit d
  | _ => exact h.congr (by simp) (by simp) (by simp) (by simp)

theorem State.LineBounded.queueText (h : s.LineBounded) : s.queueText.state.LineBounded := by
  obtain ⟨rxFew, rxShort, few, short⟩ := h.tgh.texts
  unfold State.queueText
  split_ifs with long room
  · exact h
  · refine h.withTgh ⟨h.tgh.authority, h.tgh.counts, h.tgh.calls, rxFew, rxShort, ?_, ?_⟩
    · rw [List.length_append]
      exact room
    · intro x mem
      rcases List.mem_append.1 mem with old | new
      · exact short x old
      · rw [List.mem_singleton.1 new]
        exact (List.length_take_le _ _).trans (not_lt.1 long)
  · exact h

theorem State.LineBounded.testWaiting (h : s.LineBounded) : s.testWaiting.LineBounded := by
  unfold State.testWaiting
  split
  · exact h
  · split_ifs
    exacts [h.notifyTexts, h]

theorem State.LineBounded.popHead (h : s.LineBounded) : s.popHead.state.LineBounded := by
  obtain ⟨few, short, rest⟩ := h.tgh.texts
  unfold State.popHead
  split
  · exact h
  · next text waiting texts =>
    rw [texts] at few short
    refine State.LineBounded.testWaiting (h.withTgh ⟨h.tgh.authority, h.tgh.counts, h.tgh.calls, ?_, ?_, rest⟩)
    · exact (Nat.le_succ _).trans few
    · exact fun x mem => short x (List.mem_cons_of_mem _ mem)

theorem State.Aside.line_bounded (h : s.Aside t) (b : s.LineBounded) : t.LineBounded := by
  have pst := h.pst_bounded b.pst
  induction h with
  | refl => exact b
  | trans _ _ first second =>
    next one _ =>
    have kept := one.pst_bounded b.pst
    exact second (first b kept) pst
  | advances s n =>
    refine ⟨pst, by simpa using b.ssu, ?_, by simpa using b.tgh⟩
    unfold State.advanceTo
    split_ifs
    exacts [b.vrl, ⟨b.vrl.slots, b.vrl.counts, b.vrl.receiver⟩]
  | notifies s => exact b.notifyTexts
  | dropsFrame s cause => exact b.dropFrame cause
  | writesText s ks => exact b.withTgh ⟨b.tgh.authority, b.tgh.counts, b.tgh.calls, b.tgh.texts⟩
  | queues s => exact b.queueText
  | pops s => exact b.popHead
  | _ => exact ⟨pst, by simpa using b.ssu, by simpa using b.vrl, by simpa using b.tgh⟩

end

end Sys2Proof.Machine
end

section
/-! Every step keeps the bounds of every block: a command with the end of its event, what a port takes of it, and
both resets. -/

namespace Sys2Proof.Machine

section
variable {s t : State}

/-! ### Events -/

theorem State.Blocks.grounded (h : s.Blocks) (sound : s.BanksSound) : s.Grounded := ⟨sound, h.lps, h.pst⟩

theorem State.Blocks.line (h : s.Blocks) : s.LineBounded := ⟨h.pst, h.ssu, h.vrl, h.tgh⟩

theorem State.Aside.blocks (a : s.Aside t) (sound : s.BanksSound) (h : s.Blocks) : t.Blocks := by
  have line := a.line_bounded h.line
  exact ⟨line.pst, a.pif_bounded h.pif, a.odu_bounded h.odu, a.moves.bounded s sound h.lps, line.ssu,
    a.brm_bounded h.brm, a.drc_bounded h.drc, a.dka_bounded h.dka, line.vrl, line.tgh⟩

/-- A command that is handed on with the end of its event: the end of the event is what bounds the levels. -/
theorem State.Works.blocks_finish (w : s.Works t) (sound : s.BanksSound) (h : s.Blocks) : t.finish.Blocks := by
  have line := w.line_bounded h.line
  have banks := w.moves.bounded s sound h.lps
  have sound' := sound.moves w.moves
  have records := w.dka_bounded h.dka
  have valued := w.brm_valued (h.grounded sound) h.dka h.brm
  have ended := line.finish
  have handed := t.finish_handedOn
  refine ⟨ended.pst, ?_, ?_, (State.finish_moves t).bounded t sound' banks, ended.ssu,
    valued.finish ⟨sound', banks, line.pst⟩ records, (w.drc_bounded h.drc h.pst).finish, records.finish, ended.vrl,
    ended.tgh⟩
  · exact (h.pif.of_counts w.pif_counts).of_counts t.finish_counts
  · rw [handed.odu]
    exact w.odu_bounded h.odu

end

/-! ### The resets -/

theorem reset_blocks : State.reset.Blocks := (State.bounded_iff _).1 reset_bounded

theorem Rows.restarted_level (proven sense : Bool) (i : RowId) (p : Nat) :
    ((Rows.restarted proven sense).get i).level ≠ .service p := by
  intro e
  cases i <;> cases proven <;> cases sense <;> cases e

theorem Pst.Bounded.restartedBrm {s : State} (h : s.pst.Bounded) (proven : Bool) :
    (s.restartedBrm proven).Bounded := by
  have target : s.par .pEm ≤ 1000 := (h .pEm).2.trans (by decide)
  obtain ⟨measured, -, rest⟩ := reset_blocks.brm.values
  refine ⟨fun p e => ?_, measured, target, rest⟩
  rcases e with level | ⟨i, row⟩
  · cases level
  · exact absurd row (Rows.restarted_level _ _ i p)

theorem Odu.Bounded.restarted {o : Odu} (h : o.Bounded) (now : Nat) : (o.restarted now).Bounded := by
  obtain ⟨⟨-, order, top, -, marker⟩, counts, -, -⟩ := h
  obtain ⟨⟨speed, -, -, bits, -⟩, -, sources, histories⟩ := reset_blocks.odu
  exact ⟨⟨speed, order, top, bits, marker⟩, counts, sources, histories⟩

theorem Ssu.Bounded.restarted {u : Ssu} (h : u.Bounded) (now : Nat) : (u.restarted now).Bounded := by
  obtain ⟨⟨window, -, -, rest⟩, list⟩ := reset_blocks.ssu
  exact ⟨⟨window, wrapSucc_lt (by decide) _, h.record.2.2.1, rest⟩, list⟩

theorem Dka.Bounded.restarted {k : Dka} (h : k.Bounded) : k.restarted.Bounded := by
  intro d
  cases d
  exacts [h .u, h .l]

theorem Vrl.Bounded.restarted {v : Vrl} (h : v.Bounded) (now n : Nat) : (v.restarted now n).Bounded := by
  obtain ⟨-, counts⟩ := h.counts
  obtain ⟨slots, ⟨missed, -⟩, -⟩ := reset_blocks.vrl
  exact ⟨slots, ⟨missed, counts⟩, Nat.zero_le _, Nat.zero_le _, Receiver.assembling_hunt rfl⟩

theorem Tgh.Bounded.restarted {g : Tgh} (h : g.Bounded) {n : Nat} (loss : n ≤ 255) : (g.restarted n).Bounded := by
  obtain ⟨ignored, -, rest⟩ := h.counts
  obtain ⟨authority, -, calls, texts⟩ := reset_blocks.tgh
  exact ⟨authority, ⟨ignored, loss, rest⟩, calls, texts⟩

theorem State.Blocks.restart {s : State} (h : s.Blocks) : s.restart.Blocks := by
  have loss : s.par .nLoss ≤ 255 := (h.pst .nLoss).2.trans (by decide)
  have port : ∀ p, (s.restart.port p).Bounded := by
    intro p
    rw [s.restart_port p]
    exact Pif.Bounded.port (s := s.restartBlocks) reset_blocks.pif p
  refine ⟨?_, ⟨port .u, port .l, port .c⟩, ?_, ?_, ?_, ?_, ?_, ?_, ?_, ?_⟩
  · rw [s.restart_kept.1]; exact h.pst
  · rw [s.restart_odu]; exact h.odu.restarted _
  · rw [s.restart_lps]; exact Lps.restarted_bounded h.lps _
  · rw [s.restart_ssu]; exact h.ssu.restarted _
  · rw [s.restart_brm]; exact h.pst.restartedBrm _
  · rw [s.restart_drc]; exact h.drc.restarted _ _
  · rw [s.restart_dka]; exact h.dka.restarted
  · rw [s.restart_vrl]; exact h.vrl.restarted _ _
  · rw [s.restart_tgh]; exact h.tgh.restarted loss

theorem State.poweredOn_blocks (s : State) (strap : Bool) : (s.poweredOn strap).Blocks := by
  obtain ⟨pst, pif, odu, lps, ssu, brm, -, dka, vrl, tgh⟩ := reset_blocks
  refine ⟨pst, pif, ⟨odu.motion, odu.counts, odu.sources, odu.histories⟩, lps, ssu, ?_, Drc.Bounded.powerOn _, dka,
    vrl, tgh⟩
  refine Pst.Bounded.restartedBrm ?_ _
  exact pst

/-! ### Steps -/

theorem State.Event.blocks {s t : State} (e : s.Event t) (sound : s.BanksSound) (h : s.Blocks) : t.Blocks := by
  cases e with
  | aside a => exact a.blocks sound h
  | handed a w b =>
    have first := sound.moves a.moves
    have ended := w.blocks_finish first (a.blocks sound h)
    exact b.blocks ((first.moves w.moves).moves (State.finish_moves _)) ended
  | restarts a still free b =>
    have first := sound.moves a.moves
    exact b.blocks (first.restarted (State.restart_lps _)) (a.blocks sound h).restart

/-- Sound banks with every block within its bounds. -/
def State.SoundlyBounded (s : State) : Prop := s.BanksSound ∧ s.Blocks

/-- Settles O59, block by block: what a command does and the end of its event stay within the bounds, and both resets
do. -/
theorem everyStepKeepsTheBounds : Obligations.EveryStepKeepsTheBounds := by
  intro s t sound bounded e
  have kept : t.SoundlyBounded := by
    refine step_keeps (P := State.SoundlyBounded) ?_ ?_ ?_ ⟨sound, s.bounded_iff.1 bounded⟩ e
    · rintro s q ⟨sound, h⟩
      exact ⟨⟨sound.standby, sound.claim, sound.banks⟩, h.pst, h.pif, h.odu, h.lps, h.ssu, h.brm, h.drc, h.dka,
        h.vrl, h.tgh⟩
    · rintro s t ⟨sound, h⟩ e
      exact ⟨sound.event e, e.blocks sound h⟩
    · rintro s strap -
      exact ⟨State.banksSound_of_reset rfl, s.poweredOn_blocks strap⟩
  exact t.bounded_iff.2 kept.2

end Sys2Proof.Machine
end
